-- ==== Sys2Proof/Word.lean ====
section
/-! DEFINITION. The plain value types of the model: bytes, server addresses, glyph codes, colours and rectangles
(R1: byte order, addresses, colours, coordinates). -/

namespace Sys2Proof

/-- One byte. -/
abbrev Byte := BitVec 8

/-- A 64-bit byte address of server memory (R1). -/
abbrev Addr := BitVec 64

/-- A glyph code: any 16-bit value (R29, chapter 6). -/
abbrev Code := BitVec 16

/-- The cell notes of R218, one bit each; bits 11 to 15 of the report field are always 0. -/
abbrev Notes := BitVec 11

/-- A colour: red, green, blue, each 0 to 255 (R1). -/
structure Colour where
  r : Byte
  g : Byte
  b : Byte
deriving DecidableEq, Repr

/-- A rectangle by its top-left corner, width and height (R1, R52). The corner is a whole number wide enough for every
sum a layout can give. -/
structure Rect where
  x : Int
  y : Int
  w : Nat
  h : Nat
deriving DecidableEq, Repr

end Sys2Proof
end

