-- ==== Sys2Proof/Syntax.lean ====
section
/-! DEFINITION. The commands of the 4820: one constructor per row of spec/opcode_table.json, with the operands that the
event carries from outside the part (a written value, the bytes a read returned, a press message). -/

namespace Sys2Proof

/-- The two sheet slots, A and B; also the names of the two scratch pools (R100, R171). -/
inductive SheetSlot where
  | a
  | b
deriving DecidableEq, Repr

/-- The two ways of a tile-store set (R92). -/
inductive Way where
  | w0
  | w1
deriving DecidableEq, Repr

/-- The two band buffers (R133). -/
inductive BufferId where
  | x
  | y
deriving DecidableEq, Repr

/-- The result codes of the press's RESULT message (R147). -/
inductive PressCode where
  | printed
  | jammed
  | mediaOut
  | rejected
deriving DecidableEq, Repr

/-- What a server-memory read brought back: its bytes, or a bus error. -/
inductive ReadResult where
  | busError
  | data (bytes : List Byte)
deriving DecidableEq, Repr

/-- Whose unit of server-memory work a completion belongs to: the one its user is waiting for, or one whose result is
discarded because its user was reset, abandoned, faulted or cut while it was in progress (R25, R67, R107, R116, R189). -/
inductive UnitOf where
  | current
  | discarded
deriving DecidableEq, Repr

/-- Where in card memory the Local Memory Check found an error (R196). -/
inductive CheckLoc where
  | storeTile (set : Fin 128) (way : Way)
  | scratchTile (pool : SheetSlot) (index : Fin 64)
  | band (buffer : BufferId)
  | glyph (set : Fin 3) (code : Code)
deriving DecidableEq, Repr

/-- The block whose read of card memory found an error (R196, R199). The Caption Unit reads glyphs while it fits
captions (R123) and while it paints them (R129). -/
inductive Reader where
  | composer
  | captionFitting
  | captionPainting
  | pressLink
  | proofWriter
deriving DecidableEq, Repr

/-- The commands and events that reach the part, one constructor per row of spec/opcode_table.json, in its order.
`UnitOf` says of a completion whether its unit's result is still wanted; `ok` is false for a write that ended in a bus
error. -/
inductive Instr where
  | powerOn
  | scrubEnd
  | functionReset
  | reset
  | runStart
  | runDrain
  | abandon
  | depthWrite (value : BitVec 4)
  | pressModeWrite (value : BitVec 2)
  | sweepPresetWrite (value : BitVec 16)
  | chainHeadWrite (value : Addr)
  | wake (value : BitVec 64)
  | eventsWrite (value : BitVec 9)
  | enablesWrite (value : BitVec 9)
  | holdRequest (code : BitVec 3) (pressFirst : Bool)
  | holdRelease (code : BitVec 3) (pressFirst : Bool)
  | checkLogClear
  | poisonSelect (value : BitVec 2)
  | registerWrite (offset size : Nat) (value : BitVec 64)
  | sweepExpiry
  | recordReadStart
  | recordReadDone (u : UnitOf) (r : ReadResult)
  | trailerReadStart
  | trailerReadDone (u : UnitOf) (r : ReadResult)
  | takeStart
  | takenWriteDone (u : UnitOf) (ok : Bool)
  | profileBlockReadStart
  | profileBlockReadDone (u : UnitOf) (r : ReadResult)
  | glyphUnitStart
  | glyphUnitDone (u : UnitOf) (r : ReadResult)
  | ticketReadStart
  | ticketReadDone (u : UnitOf) (r : ReadResult)
  | layoutReadStart
  | layoutReadDone (u : UnitOf) (r : ReadResult)
  | rosterReadStart
  | rosterReadDone (u : UnitOf) (r : ReadResult)
  | subjectReadStart
  | subjectReadDone (u : UnitOf) (r : ReadResult)
  | bannerTextReadStart
  | bannerTextReadDone (u : UnitOf) (r : ReadResult)
  | buildStart
  | buildComplete
  | buildFailure
  | sheetEnterComposing
  | bandPaintDone
  | correctableError (loc : CheckLoc) (by_ : Reader)
  /-- `rowsPainted` counts the rows of the damaged glyph that the painting in progress painted before the failing read;
  it is used for a glyph found damaged in painting alone (R131). -/
  | uncorrectableError (loc : CheckLoc) (by_ : Reader) (rowsPainted : Nat)
  | readyRise
  | readyFall
  | waitTimerExpiry
  | accept (sheetId : BitVec 32)
  | acceptTimerExpiry
  | bandTimerExpiry
  | graceTimerExpiry
  | bandSendDone
  | result (sheetId : BitVec 32) (code : PressCode)
  | resultTimerExpiry
  | bandWriteStart
  /-- `rows` is the number of rows of the band whose writes were issued and have completed. -/
  | bandWriteDone (u : UnitOf) (rows : Nat)
  /-- `rows` says of each row of the band whose write was issued, from the first one on, whether its write completed or ended
  in a bus error (false). -/
  | bandWriteFail (u : UnitOf) (rows : List Bool)
  | reportWriteStart (slot : SheetSlot)
  | reportWriteDone (u : UnitOf) (slot : SheetSlot) (ok : Bool)
  | retireStart
  | resultsWriteDone (u : UnitOf) (ok : Bool)
  | doneWriteDone (u : UnitOf) (ok : Bool)
  | spentWriteStart
  | spentWriteDone (u : UnitOf) (ok : Bool)
  | windowTimerExpiry
  /-- `last` says that no other read of the build is in flight; it is used for a read that ended in a bus error, for the
  reads that follow one, and for a discarded build. -/
  | sourceReadDone (u : UnitOf) (r : ReadResult) (last : Bool)
deriving DecidableEq, Repr

end Sys2Proof
end

