-- ==== Sys2Proof/Decode.lean ====
section
/-! DEFINITION. The command that a word of the opcode table's bits spells. No row of spec/opcode_table.json gives bits, so
no word spells a command (the reader's counts in spec/98_reader.md: 0 rows with fields). -/

namespace Sys2Proof

/-- The command of a word of `nbits` bits: none, since no row of the table gives bits. -/
def decodeTableWord (_nbits _w : Nat) : Option Instr := none

end Sys2Proof
end

