-- ==== Sys2Proof/Config.lean ====
section
/-! DEFINITION. The constants of the part that the spec fixes (IDENT, capacities, power-on press configuration) and the
two values it leaves open. -/

namespace Sys2Proof

/-- The server address a unit uses where base plus offset passes the top of the 64-bit address space. No rule says what
address that is for a layout, roster, text, glyph block or report list (R45 and R28 check only proofs and rasters), so it
has no body: assumption 3. -/
opaque Config.addressPastTop : Addr → Nat → Addr

/-- How many reads of a unit of work find a standing correctable error again, for each time it is asked. Neither the granule
in error nor the number of reads of a granule in a work is given, so it has no body: assumption 51. -/
opaque Config.foundAgain : Nat → Nat

/-- IDENT vendor code (R205). -/
def Config.vendorCode : Nat := 0x4C4D

/-- IDENT part number (R205). -/
def Config.partNumber : Nat := 4820

/-- IDENT revision (R205). -/
def Config.revision : Nat := 1

/-- Store slots (R205). -/
def Config.storeSlots : Nat := 256

/-- Scratch slots per sheet (R205). -/
def Config.scratchSlots : Nat := 64

/-- Greatest prefetch depth (R6, R205). -/
def Config.maxDepth : Nat := 8

/-- The retire queue's capacity (R181). -/
def Config.retireCapacity : Nat := 16

/-- The greatest subject number (R27, R42). -/
def Config.maxSubject : Nat := 16777215

end Sys2Proof
end

