-- ==== Sys2Proof/Machine/State.lean ====
section
/-! DEFINITION. The state of the 4820 as plain data, block by block (R1's chapters; the block table of spec/00_scope.md),
the reasons a step can stop, and the state right after power-on. -/

namespace Sys2Proof.Machine

/-! ## Enumerations -/

/-- The engine state, held by Sheet Control (R203, R206). -/
inductive EngineState where
  | stopped
  | scrubbing
  | running
  | draining
  | faulted
deriving DecidableEq, Repr

/-- The Order Walker's states (section 1.2). -/
inductive WalkerState where
  | stopped
  | seeking
  | taking
  | blocked
  | idle
  | faulted
deriving DecidableEq, Repr

/-- The causes of a chain fault (R23). -/
inductive FaultCause where
  | none
  | readError
  | writeError
  | badLink
deriving DecidableEq, Repr

/-- The hold states of the Memory Port (section 10.2). -/
inductive HoldState where
  | free
  | draining
  | held
deriving DecidableEq, Repr

/-- HOLD's last result (R190). -/
inductive HoldResult where
  | none
  | accepted
  | rejected
  | withdrawn
deriving DecidableEq, Repr

/-- The press mode in CONTROL, and the mode latched for an attempt (R164, R149). -/
inductive PressMode where
  | live
  | loop
  | off
deriving DecidableEq, Repr

/-- The store mode (R43). -/
inductive StoreMode where
  | normal
  | frozen
  | bypass
deriving DecidableEq, Repr

/-- The poison selector of CHECK_LOG (R201). -/
inductive Poison where
  | none
  | tile
  | band
  | glyph
deriving DecidableEq, Repr

/-- The kinds of order record (R212); `unknown` is every other kind value (R12). -/
inductive OrderKind where
  | sheet
  | profile
  | glyphs
  | purge
  | flush
  | storeMode
  | press
  | mark
  | skip
  | unknown
deriving DecidableEq, Repr

/-- The outcomes of R217. -/
inductive OrderOutcome where
  | ok
  | noted
  | partialRoster
  | spoiled
  | pressSilent
  | refused
  | memoryFault
  | abandoned
  | badKind
deriving DecidableEq, Repr

/-- The detail codes of R217, and the mark set of a NOTED PROFILE or PRESS order. -/
inductive Detail where
  | none
  | geometry
  | roster
  | nesting
  | unbalanced
  | kind
  | grid
  | tooLarge
  | unset
  | pressOff
  | pressRejected
  | number
  | cellWidth
  | cellHeight
  | edgePolicy
  | glyphSet
  | lines
  | nameOrder
  | subject
  | mode
  | count
  | lineHeight
  | glyph
  | duplicate
  | underrun
  | damage
  | jammed
  | mediaOut
  | accept
  | result
  | planningRead
  | proofWrite
  | reportWrite
  | blockRead
  | afterClose
  | marks (set : BitVec 5)
deriving DecidableEq, Repr

/-! ## Records read from server memory -/

/-- A copy of an order record in the order window or the retire queue (R6, R181): its address, slot, kind, notify flag
and argument bytes (record bytes 4 to 31). -/
structure OrderRecord where
  addr : Addr
  slot : Nat
  kind : OrderKind
  notify : Bool
  args : List Byte
deriving DecidableEq, Repr

/-- Destination of a sheet (section 3.1). -/
inductive Dest where
  | press
  | proof
deriving DecidableEq, Repr

/-- The planner's copy of a sheet ticket that passed its checks (R44, R213). `autoLimit` is the sheet limit under AUTO
and absent under STOP. -/
structure Ticket where
  sheetId : BitVec 32
  dest : Dest
  autoLimit : Option Nat
  retryBudget : Nat
  width : Nat
  height : Nat
  background : Colour
  proofAddr : Addr
  proofPitch : Nat
  entryCount : Nat
  layoutAddr : Addr
  rosterAddr : Addr
  rosterCount : Nat
  rosterStart : Nat
  reportAddr : Addr
deriving DecidableEq, Repr

/-- Last-row and banner alignment (section 3.2). -/
inductive Align where
  | left
  | centre
  | right
deriving DecidableEq, Repr

/-- A layout entry as read (R213). Profile, glyph set, role and alignment keep the byte values of the record, which the
validation pass and the placement pass judge. -/
inductive LayoutEntry where
  | panel (x y : Int) (w h : Nat)
  | endPanel
  | grid (profile rows cols : Nat) (x y : Int) (colGutter rowGutter align : Nat)
  | inset (profile : Nat) (x y : Int) (subject : Addr) (role : Nat)
  | banner (x y : Int) (boxWidth set : Nat) (colour : Colour) (align : Nat) (text : Addr) (count : Nat)
  | rule (x y : Int) (w h : Nat) (colour : Colour)
  | unknown
deriving DecidableEq, Repr

/-- The role of a cell as acted on (R34). -/
inductive Role where
  | student
  | staff
  | spacer
deriving DecidableEq, Repr

/-- A roster entry as read: the subject record address and the role byte (R213). -/
structure RosterEntry where
  subject : Addr
  role : Nat
deriving DecidableEq, Repr

/-- The face-mark variant in effect with its marks (section 2.2). -/
inductive Marks where
  | full (crown chin eye centre : Nat)
  | eyes (eye left right : Nat)
  | none
deriving DecidableEq, Repr

/-- The pixel form of a source raster (R28). -/
inductive PixelForm where
  | rgb8
  | gray8
deriving DecidableEq, Repr

/-- The source description kept with a PORTRAIT cell and with a build (R26, R70). -/
structure Source where
  addr : Addr
  width : Nat
  height : Nat
  pitch : Nat
  form : PixelForm
  marks : Marks
deriving DecidableEq, Repr

/-! ## Profile Table -/

/-- The edge policy of a profile (section 2.4). -/
inductive EdgePolicy where
  | shift
  | pad
deriving DecidableEq, Repr

/-- The name order of a profile (section 2.4). -/
inductive NameOrder where
  | givenFirst
  | familyFirst
deriving DecidableEq, Repr

/-- A LOADED fit profile (section 2.4). -/
structure Profile where
  cellWidth : Nat
  cellHeight : Nat
  headTarget : Nat
  eyeLine : Nat
  centreColumn : Nat
  edge : EdgePolicy
  maxScale : Nat
  pad : Colour
  glyphSet : Fin 3
  lines : Nat
  nameOrder : NameOrder
  captionGap : Nat
  captionColour : Colour
  placeholder : Colour
deriving DecidableEq, Repr

/-! ## Tile Store -/

/-- A tile key (R92). -/
structure TileKey where
  subject : Nat
  profile : Fin 16
  serial : Byte
deriving DecidableEq, Repr

/-- Where a cell's tile lives (section 5.1). -/
inductive TileRef where
  | store (set : Fin 128) (way : Way)
  | scratch (pool : SheetSlot) (index : Fin 64)
deriving DecidableEq, Repr

/-- The fit record of R71; `notes` holds SCALE_CLAMPED, SHIFTED and PADDED at their places in R218. -/
structure FitRecord where
  s : Nat
  k : Nat
  x0 : Int
  y0 : Int
  shiftX : Int
  shiftY : Int
  notes : Notes
deriving DecidableEq, Repr

/-- A holder set: which of the two sheet slots have claimed a store slot (R93). -/
structure Holders where
  a : Bool
  b : Bool
deriving DecidableEq, Repr

/-- The states of a store slot (section 5.1). -/
inductive StoreState where
  | empty
  | filling
  | ready
  | condemned
deriving DecidableEq, Repr

/-- A store slot (section 5.1). `tile` lists the bytes that the build has written into the slot, from its first byte on, in
whole granules (R88, R196). `poisoned` says that the granule of tile bytes 0 to 7 was written with poisoned check bits
(R201). -/
structure StoreSlot where
  state : StoreState
  key : Option TileKey
  holders : Holders
  tile : List Byte
  fit : Option FitRecord
  poisoned : Bool
deriving DecidableEq, Repr

/-- A set of the tile store: its two ways and its LRU mark (section 5.1, R94). -/
structure TileSet where
  way0 : StoreSlot
  way1 : StoreSlot
  lru : Way
deriving DecidableEq, Repr

/-- The states of a scratch slot (section 5.3). -/
inductive ScratchState where
  | empty
  | filling
  | ready
  | rebuild
deriving DecidableEq, Repr

/-- A scratch slot (section 5.3), with its tile's bytes in whole granules as in a store slot (R88, R196). -/
structure ScratchSlot where
  state : ScratchState
  key : Option TileKey
  tile : List Byte
  fit : Option FitRecord
  poisoned : Bool
deriving DecidableEq, Repr

/-- A scratch pool and its directory, in the order the slots were given out (section 5.3). -/
structure ScratchPool where
  slots : Vector ScratchSlot 64
  directory : List (TileKey × Fin 64)
deriving DecidableEq, Repr

/-- The Tile Store: 128 sets of two ways, the store mode and the two scratch pools. -/
structure TileStore where
  sets : Vector TileSet 128
  mode : StoreMode
  poolA : ScratchPool
  poolB : ScratchPool
deriving DecidableEq, Repr

/-! ## Tile Builder -/

/-- An entry of the build queue (R102). -/
structure BuildEntry where
  ref : TileRef
  key : TileKey
  source : Source
deriving DecidableEq, Repr

/-- The fit computed at the start of a build: its record and the working values of stages 4 and 5 (R75 to R78). -/
structure Fit where
  record : FitRecord
  step : Nat
  offset : Int
  reducedW : Nat
  reducedH : Nat
deriving DecidableEq, Repr

/-- A run of server-memory bytes that a build reads: its address and its length (R87). -/
structure SourceRange where
  addr : Addr
  bytes : Nat
deriving DecidableEq, Repr

/-- The current build (R103). `ranges` are the parts of the source rows that it reads, from the top row needed (R87); `got`
holds the source bytes read so far, in the order of `ranges`; `portDone` says that its unit has ended at the Memory Port;
`failing` that a source read ended in a bus error; `wrote` that the first granule of the tile has been written; `poisoned`
that this write was poisoned (R201). -/
structure Build where
  entry : BuildEntry
  fit : Fit
  ranges : List SourceRange
  got : List Byte
  portDone : Bool
  failing : Bool
  wrote : Bool
  poisoned : Bool
deriving DecidableEq, Repr

/-- The Tile Builder: IDLE when `current` is absent (section 5.5). -/
structure Builder where
  queue : List BuildEntry
  current : Option Build
deriving DecidableEq, Repr

/-! ## Caption Unit -/

/-- A glyph of a set's map, with its damage mark (section 6.1). `poisoned` says that a granule of its record was written
with poisoned check bits and has not been read yet (R201). -/
structure Glyph where
  code : Code
  advance : Nat
  width : Nat
  alpha : List Byte
  damaged : Bool
  poisoned : Bool
deriving DecidableEq, Repr

/-- The content of a LOADED glyph set (section 6.1). `area` lists the card memory of its map from the first byte on: the
load area that held the block, in whole granules (R118, R120, R196). -/
structure GlyphSet where
  lineHeight : Nat
  space : Code
  ellipsis : Code
  substitute : Code
  map : List Glyph
  area : List Byte
deriving DecidableEq, Repr

/-- A glyph of a fitted line, by its code in the set's map, with its advance (section 6.4). -/
structure DrawnGlyph where
  code : Code
  advance : Nat
deriving DecidableEq, Repr

/-- A fitted line: the glyphs to draw, the line's width and its offset from the left edge (section 6.4). -/
structure FitLine where
  glyphs : List DrawnGlyph
  width : Nat
  offset : Nat
deriving DecidableEq, Repr

/-! ## Placement lists and sheets -/

/-- The kinds of cell (R27, R34). -/
inductive CellKind where
  | portrait
  | placeholder
  | empty
deriving DecidableEq, Repr

/-- A cell placement (R62). `source` is the source description of R26; `caption` is the caption fit of the attempt. -/
structure Cell where
  kind : CellKind
  rect : Rect
  clip : Rect
  profile : Fin 16
  rosterIndex : Option Nat
  subject : Nat
  serial : Byte
  role : Role
  given : List Code
  family : List Code
  source : Option Source
  ref : Option TileRef
  fit : Option FitRecord
  notes : Notes
  caption : List FitLine
deriving DecidableEq, Repr

/-- The frame placement of a RULE (R54). -/
structure RuleFrame where
  rect : Rect
  colour : Colour
  clip : Rect
deriving DecidableEq, Repr

/-- The frame placement of a BANNER (R54), with the address and count its text is read by, its text, its notes, and the
fit of the attempt (R128). -/
structure BannerFrame where
  x : Int
  y : Int
  boxWidth : Nat
  set : Fin 3
  colour : Colour
  align : Align
  clip : Rect
  textAddr : Addr
  textCount : Nat
  text : List Code
  notes : Notes
  line : Option FitLine
deriving DecidableEq, Repr

/-- The frame placement of a GRID (R61): origin, clip, profile, geometry, pitches, and the range of cells it produced. -/
structure GridFrame where
  x : Int
  y : Int
  clip : Rect
  profile : Fin 16
  rows : Nat
  cols : Nat
  colGutter : Nat
  rowGutter : Nat
  centred : Bool
  colPitch : Nat
  rowPitch : Nat
  firstCell : Nat
  cellCount : Nat
deriving DecidableEq, Repr

/-- The frame placement of an INSET (R61) and the index of its one cell. -/
structure InsetFrame where
  x : Int
  y : Int
  clip : Rect
  profile : Fin 16
  subject : Addr
  role : Nat
  cell : Nat
deriving DecidableEq, Repr

/-- A frame placement (R61). -/
inductive Frame where
  | rule (f : RuleFrame)
  | banner (f : BannerFrame)
  | grid (f : GridFrame)
  | inset (f : InsetFrame)
deriving DecidableEq, Repr

/-- The states of an occupied sheet slot (section 9.1); FREE is an absent sheet. -/
inductive SheetState where
  | planning
  | filling
  | ready
  | composing
  | closing
  | finished
deriving DecidableEq, Repr

/-- The cell report of a FINISHED sheet (R175, R176). -/
inductive ReportState where
  | none
  | due
  | inFlight
deriving DecidableEq, Repr

/-- A sheet in a slot (section 9.1). `first` is its rank; `start` the roster index its planning started from; `reached`
the index its placement pass reached (R59, R69); `made` says that it FINISHED printed or proofed. -/
structure Sheet where
  state : SheetState
  first : Bool
  ticketAddr : Addr
  ticket : Option Ticket
  index : Nat
  attempt : Nat
  pendingBuilds : Nat
  carry : Bool
  start : Nat
  reached : Nat
  frames : List Frame
  cells : List Cell
  ending : Option (OrderOutcome × Detail)
  made : Bool
  report : ReportState
deriving DecidableEq, Repr

/-! ## Sheet Control -/

/-- The ten counts of an order's results, in the order of R217. -/
structure Counts where
  placeholders : Nat
  clamped : Nat
  shifted : Nat
  padded : Nat
  marksIgnored : Nat
  unmarked : Nat
  clippedCaptions : Nat
  substituted : Nat
  offSheet : Nat
  lateBands : Nat
deriving DecidableEq, Repr

/-- The results of an order (R180, R217). -/
structure Results where
  outcome : OrderOutcome
  detail : Detail
  sheetsMade : Nat
  attemptsUsed : Nat
  nextRoster : Nat
  slotsEmptied : Nat
  counts : Counts
deriving DecidableEq, Repr

/-- An entry of the retire queue (R181): the record, whether it is FINISHED or still ACTIVE, its results, and the sheet
slot that serves it while it has one. -/
structure QueueEntry where
  record : OrderRecord
  finished : Bool
  results : Results
  slot : Option SheetSlot
deriving DecidableEq, Repr

/-- How far the retirement of the head entry is (R182). -/
inductive RetirePhase where
  | none
  | results
  | done
deriving DecidableEq, Repr

/-- The glyph block load of a running GLYPHS order (R118): the bytes received so far, whose whole granules have been written
into the load area (R196), and whether the first granule of the first glyph record was written poisoned (`poisonTried` once
that write has been made). -/
structure GlyphLoad where
  set : Fin 3
  count : Nat
  block : Addr
  bytes : List Byte
  inFlight : Bool
  abandoned : Bool
  poisonTried : Bool
  poisoned : Bool
deriving DecidableEq, Repr

/-- The barrier order that is running (R184). `abandoned` says that an abandon or a fault reached it while its read was
in flight (R41, R121). -/
inductive Barrier where
  | none
  | profile (number : Fin 16) (block : Addr) (inFlight abandoned : Bool)
  | glyphs (load : GlyphLoad)
deriving DecidableEq, Repr

/-- Sheet Control: the engine state, the recorded fault, the sheet slots, the retire queue and the running barrier. -/
structure Control where
  engine : EngineState
  cause : FaultCause
  faultAddr : Addr
  slotA : Option Sheet
  slotB : Option Sheet
  queue : List QueueEntry
  retire : RetirePhase
  barrier : Barrier
deriving DecidableEq, Repr

/-! ## Order Walker -/

/-- A position in a folio: one of the 63 slots, or the trailer (R5). -/
inductive ChainPos where
  | slot (n : Fin 63)
  | trailer
deriving DecidableEq, Repr

/-- The chain cursor when it is not cleared (R5). -/
structure Cursor where
  folio : Addr
  pos : ChainPos
deriving DecidableEq, Repr

/-- The walker's unit in progress other than a SPENT write (R21). `discard` says that its result is to be discarded
(R20, R24). A take carries its record and the sheet slot reserved for it (R11). -/
inductive WalkerUnit where
  | none
  | recordRead (count : Nat) (discard : Bool)
  | trailerRead (discard : Bool)
  | taken (record : OrderRecord) (slot : Option SheetSlot) (discard : Bool)
deriving DecidableEq, Repr

/-- The Order Walker: state, cursor, order window, pending-wake flag, sweep timer, its unit in progress, the
pending-spent folio, and the SPENT writes that wait to start or are in flight (R9, R10). `readLimit` belongs to a record read
in flight: the most records that it places, the depth at its start lowered by each lower depth written since (R6). -/
structure Walker where
  state : WalkerState
  cursor : Option Cursor
  window : List OrderRecord
  pendingWake : Bool
  sweepTimer : Nat
  sweepRunning : Bool
  unit : WalkerUnit
  pendingSpent : Option Addr
  spentDue : List Addr
  spentInFlight : Option Addr
  readLimit : Nat
deriving DecidableEq, Repr

/-! ## Layout Planner -/

/-- A panel open in the placement pass: its origin and clip (R51). -/
structure PanelFrame where
  x : Int
  y : Int
  clip : Rect
deriving DecidableEq, Repr

/-- The placement cursor: grid, row and column of the next grid cell (R55). -/
structure PlaceCursor where
  grid : Nat
  row : Nat
  col : Nat
deriving DecidableEq, Repr

/-- A step of the placement pass. `entry` places a layout entry's frame; the others act on frame placement `i`. A grid is
unfolded into one `cell` step per place, row by row (R55). -/
inductive PlaceStep where
  | panel (x y : Int) (w h : Nat)
  | endPanel
  | entry (e : LayoutEntry)
  | text (i : Nat)
  | gridStart (i : Nat)
  | cell (i row col : Nat)
  | inset (i : Nat)
deriving DecidableEq, Repr

/-- What a cell needs to be completed once its subject record has been read (R26). -/
structure CellSeed where
  rect : Rect
  clip : Rect
  profile : Fin 16
  rosterIndex : Option Nat
  role : Role
  frame : Nat
deriving DecidableEq, Repr

/-- Where the planning of a sheet stands: the read it waits for or has in flight (R65). -/
inductive PlanStage where
  | ticket
  | layout
  | roster
  | subject (addr : Addr) (seed : CellSeed)
  | text (addr : Addr) (count : Nat) (frame : Nat)
deriving DecidableEq, Repr

/-- The planner's job: the sheet being planned, its stage, the layout entries read, the validation pass's depth and
capacity, and the working state of the placement pass: the steps left, the roster entries read ahead, the roster index,
the number of cells the current row gets, whether the cursor passed the last grid, and the planning counts (R63). -/
structure PlanJob where
  slot : SheetSlot
  stage : PlanStage
  inFlight : Bool
  entries : List LayoutEntry
  depth : Nat
  capacity : Nat
  steps : List PlaceStep
  roster : List RosterEntry
  rosterIndex : Nat
  rowUsed : Nat
  grids : List (Nat × Nat)
  passedLast : Bool
  counts : Counts
deriving DecidableEq, Repr

/-- The Layout Planner: the job under way, the sheet that waits for it, the frame stack and the placement cursor. -/
structure Planner where
  job : Option PlanJob
  waiting : Option SheetSlot
  frameStack : List PanelFrame
  cursor : Option PlaceCursor
deriving DecidableEq, Repr

/-! ## Band Composer, Press Link, Proof Writer -/

/-- An attempt of the sheet in a slot (R173). -/
structure Attempt where
  slot : SheetSlot
  number : Nat
deriving DecidableEq, Repr

/-- The states of a band buffer (R134). -/
inductive BufferState where
  | empty
  | filling
  | full
  | sending
  | writing
deriving DecidableEq, Repr

/-- A band tag (section 7.2). -/
structure BandTag where
  attempt : Attempt
  band : Nat
  lines : Nat
deriving DecidableEq, Repr

/-- A band buffer (section 7.2). `pixels` lists its 589,824 bytes from the first on; a byte after those listed is zero, as
the power-on scrub wrote it (R133, R211; `Buffer.byte`). `poisoned` says that the granule of bytes 0 to 7 was last written
poisoned (R201). -/
structure Buffer where
  state : BufferState
  tag : Option BandTag
  pixels : List Byte
  poisoned : Bool
deriving DecidableEq, Repr

/-- The Band Composer's states (section 7.3). -/
inductive ComposerState where
  | idle
  | waiting
  | painting
deriving DecidableEq, Repr

/-- A glyph found damaged in painting, which paints nothing for the rest of the attempt from the point of the failing
read on: in `band`, after `rowsPainted` of its rows, counted in the model's order of painting (R131; assumption 45). -/
structure Silenced where
  set : Fin 3
  code : Code
  band : Nat
  rowsPainted : Nat
deriving DecidableEq, Repr

/-- The Band Composer and the two band buffers. -/
structure Composer where
  state : ComposerState
  attempt : Option Attempt
  nextBand : Nat
  silenced : List Silenced
  bufX : Buffer
  bufY : Buffer
deriving DecidableEq, Repr

/-- The Press Link's states (section 8.1). -/
inductive LinkState where
  | closed
  | awaitReady
  | opening
  | streaming
  | closing
deriving DecidableEq, Repr

/-- The attempt that holds the link: its sheet id, size and band count, and the mode latched for it (R149). -/
structure LinkHold where
  attempt : Attempt
  sheetId : BitVec 32
  width : Nat
  height : Nat
  bands : Nat
  mode : PressMode
deriving DecidableEq, Repr

/-- The press configuration (R166); result and wait limits in seconds, the others in milliseconds. -/
structure PressConfig where
  bandPeriod : Nat
  grace : Nat
  acceptLimit : Nat
  resultLimit : Nat
  waitLimit : Nat
deriving DecidableEq, Repr

/-- The Press Link. A timer is absent when stopped and holds the value it was started with, in milliseconds, while it
runs. `sending` is the band whose send is in flight; `due` marks a FULL band that is sent when that send ends (R154,
R155); `ready` is the level of the press's READY line. -/
structure Link where
  state : LinkState
  held : Option LinkHold
  nextBand : Nat
  sending : Option Nat
  due : Bool
  abortPending : Bool
  bandTimer : Option Nat
  graceTimer : Option Nat
  acceptTimer : Option Nat
  resultTimer : Option Nat
  waitTimer : Option Nat
  config : PressConfig
  ready : Bool
deriving DecidableEq, Repr

/-- The Proof Writer's states (section 8.8). -/
inductive WriterState where
  | idle
  | waiting
  | writing
deriving DecidableEq, Repr

/-- The Proof Writer. `queued` is an attempt that entered COMPOSING while an earlier one is still served (R167);
`damage` marks a band write ended by an uncorrectable error whose issued writes have not all completed (R169). -/
structure Writer where
  state : WriterState
  attempt : Option Attempt
  nextBand : Nat
  endPending : Bool
  damage : Bool
  queued : Option Attempt
deriving DecidableEq, Repr

/-! ## Memory Port, Local Memory Check, Register Window -/

/-- A write to server memory that the part issued: its address and bytes. -/
structure ServerWrite where
  addr : Addr
  bytes : List Byte
deriving DecidableEq, Repr

/-- A unit that is still completing at the Memory Port although its user no longer wants its result (R189). A band write
keeps the row writes it would have made, of which those issued reach server memory. -/
inductive DiscardedUnit where
  | recordRead
  | trailerRead
  | takenWrite
  | spentWrite
  | profileRead
  | glyphRead
  | ticketRead
  | layoutRead
  | rosterRead
  | subjectRead
  | textRead
  | build
  | bandWrite (rows : List ServerWrite)
  | reportWrite
  | resultsWrite
  | doneWrite
deriving DecidableEq, Repr

/-- The Memory Port: the outstanding count, the hold with HOLD's fields, the window timer (absent when stopped), and the
units in progress whose results are discarded. -/
structure Port where
  outstanding : Nat
  hold : HoldState
  windowCode : BitVec 3
  pressFirst : Bool
  lastResult : HoldResult
  windowTimer : Option Nat
  discarded : List DiscardedUnit
deriving DecidableEq, Repr

/-- The Local Memory Check: the check log and the poison selector (section 10.3, R201), and the correctable errors that
stand in card memory. `standing` holds the places where a read found a granule with a correctable error that has not been
written since, which later reads find again (R197); `finds` is the model's own count of the free values drawn for them
(assumption 51). -/
structure Check where
  correctable : Option CheckLoc
  count : BitVec 8
  uncorrectable : Option CheckLoc
  locked : Bool
  poison : Poison
  standing : List CheckLoc
  finds : Nat
deriving DecidableEq, Repr

/-- The fields the Register Window holds (R203): CHAIN_HEAD, the fields of CONTROL, EVENTS and ENABLES. -/
structure Window where
  chainHead : Addr
  run : Bool
  abandon : Bool
  depth : Nat
  pressMode : PressMode
  sweepPreset : BitVec 16
  events : BitVec 9
  enables : BitVec 9
deriving DecidableEq, Repr

/-! ## What the part puts out -/

/-- A message the part sends on the press link (R147). -/
inductive PressMessage where
  | opened (sheetId : BitVec 32) (width height bands : Nat)
  | band (index lines : Nat) (pixels : List Byte)
  | close (sheetId : BitVec 32) (bands : Nat)
  | abort (sheetId : BitVec 32)
deriving DecidableEq, Repr

/-- What the part has put out at its connections, oldest first: writes to server memory and messages to the press. This
is the model's own record (assumption 4); nothing in the part reads it. -/
structure Outputs where
  serverWrites : List ServerWrite
  pressMessages : List PressMessage
deriving DecidableEq, Repr

/-! ## The whole state -/

/-- The state of the part: the queue of commands that wait, the blocks of spec/00_scope.md, and what was put out. -/
structure State where
  pending : List Instr
  window : Window
  port : Port
  walker : Walker
  control : Control
  planner : Planner
  profiles : Vector (Option Profile) 16
  store : TileStore
  builder : Builder
  glyphs : Vector (Option GlyphSet) 3
  composer : Composer
  link : Link
  writer : Writer
  check : Check
  out : Outputs
deriving DecidableEq, Repr

/-! ## Updates, one per block (their lemmas: Laws/State.lean) -/

/-- The state with another `pending`. -/
def State.setPending (s : State) (x : List Instr) : State := { s with pending := x }

/-- The state with another `window`. -/
def State.setWindow (s : State) (x : Window) : State := { s with window := x }

/-- The state with another `port`. -/
def State.setPort (s : State) (x : Port) : State := { s with port := x }

/-- The state with another `walker`. -/
def State.setWalker (s : State) (x : Walker) : State := { s with walker := x }

/-- The state with another `control`. -/
def State.setControl (s : State) (x : Control) : State := { s with control := x }

/-- The state with another `planner`. -/
def State.setPlanner (s : State) (x : Planner) : State := { s with planner := x }

/-- The state with another `profiles`. -/
def State.setProfiles (s : State) (x : Vector (Option Profile) 16) : State := { s with profiles := x }

/-- The state with another `store`. -/
def State.setStore (s : State) (x : TileStore) : State := { s with store := x }

/-- The state with another `builder`. -/
def State.setBuilder (s : State) (x : Builder) : State := { s with builder := x }

/-- The state with another `glyphs`. -/
def State.setGlyphs (s : State) (x : Vector (Option GlyphSet) 3) : State := { s with glyphs := x }

/-- The state with another `composer`. -/
def State.setComposer (s : State) (x : Composer) : State := { s with composer := x }

/-- The state with another `link`. -/
def State.setLink (s : State) (x : Link) : State := { s with link := x }

/-- The state with another `writer`. -/
def State.setWriter (s : State) (x : Writer) : State := { s with writer := x }

/-- The state with another `check`. -/
def State.setCheck (s : State) (x : Check) : State := { s with check := x }

/-- The state with another `out`. -/
def State.setOut (s : State) (x : Outputs) : State := { s with out := x }

/-- The reasons the part stops with a fault: there are none. Every condition the spec calls a fault or an error (a chain
fault, a bus error, an underrun, damage) is an effect on the state, and the part goes on. -/
inductive Fault where
deriving DecidableEq, Repr

/-- The reasons a command is refused. -/
inductive Refusal where
  /-- Raised by a dispatch arm alone, for a command that has no meaning yet: safe, since it claims nothing. No arm raises
  it now. -/
  | notModelled (mnemonic : String)
deriving DecidableEq, Repr

/-- The three outcomes of a command. -/
abbrev Out := Host.Outcome State Fault Refusal

/-! ## Power-on values -/

/-- An EMPTY store slot (R115). -/
def StoreSlot.blank : StoreSlot := ⟨.empty, none, ⟨false, false⟩, [], none, false⟩

/-- An EMPTY scratch slot (R115). -/
def ScratchSlot.blank : ScratchSlot := ⟨.empty, none, [], none, false⟩

/-- An empty scratch pool with an empty directory (R101, R115). -/
def ScratchPool.blank : ScratchPool := ⟨Vector.replicate 64 ScratchSlot.blank, []⟩

/-- The tile store after power-on (R115). -/
def TileStore.powerOn : TileStore :=
  ⟨Vector.replicate 128 ⟨StoreSlot.blank, StoreSlot.blank, .w0⟩, .normal, ScratchPool.blank, ScratchPool.blank⟩

/-- An EMPTY band buffer, every byte of it zero, as the power-on scrub leaves it (R133, R146, R211). -/
def Buffer.blank : Buffer := ⟨.empty, none, [], false⟩

/-- The walker after power-on and after an engine reset (R25). The value that the stopped sweep timer holds is a DESIGN
CHOICE: 0 (assumption 36). -/
def Walker.cleared : Walker := ⟨.stopped, none, [], false, 0, false, .none, none, [], none, 0⟩

/-- The Composer after power-on (R133, R146). -/
def Composer.cleared : Composer := ⟨.idle, none, 0, [], Buffer.blank, Buffer.blank⟩

/-- The power-on press configuration (R162). -/
def PressConfig.powerOn : PressConfig := ⟨40, 10, 2000, 10, 60⟩

/-- The link CLOSED with no attempt and no timer running, with a configuration and a level of READY (R162). -/
def Link.closedWith (c : PressConfig) (ready : Bool) : Link :=
  ⟨.closed, none, 0, none, false, false, none, none, none, none, none, c, ready⟩

/-- The Proof Writer IDLE (R170). -/
def Writer.cleared : Writer := ⟨.idle, none, 0, false, false, none⟩

/-- The planner with no job, the frame stack empty and the cursor holding no value (R51, R55). -/
def Planner.cleared : Planner := ⟨none, none, [], none⟩

/-- STORE_LOST alone set (R211): event bit 6 (R203). -/
def storeLostOnly : BitVec 9 := 0x040#9

/-- The state right after power-on (R211), with nothing waiting and nothing put out. The level of READY before the press
first drives it is a DESIGN CHOICE: low (assumption 5). -/
def State.reset : State where
  pending := []
  window := ⟨0#64, false, false, 4, .live, 0#16, storeLostOnly, 0#9⟩
  port := ⟨0, .free, 0#3, false, .none, none, []⟩
  walker := Walker.cleared
  control := ⟨.scrubbing, .none, 0#64, none, none, [], .none, .none⟩
  planner := Planner.cleared
  profiles := Vector.replicate 16 none
  store := TileStore.powerOn
  builder := ⟨[], none⟩
  glyphs := Vector.replicate 3 none
  composer := Composer.cleared
  link := Link.closedWith PressConfig.powerOn false
  writer := Writer.cleared
  check := ⟨none, 0#8, none, false, .none, [], 0⟩
  out := ⟨[], []⟩

end Sys2Proof.Machine
end

