-- ==== Sys2Proof/Machine/Operands.lean ====
section
/-! DEFINITION. The record layouts of chapter 12, read from bytes and written to bytes, and the field encodings of the
register window (R203, R212 to R218). Multi-byte fields are little-endian, signed fields two's complement (R1). -/

namespace Sys2Proof.Machine

/-! ## Bytes -/

/-- Byte `i` of a record. -/
def byteAt (bs : List Byte) (i : Nat) : Byte := bs.getD i 0#8

/-- The 8-bit field at offset `i`. -/
def u8 (bs : List Byte) (i : Nat) : Nat := (byteAt bs i).toNat

/-- The little-endian 16-bit field at offset `i`. -/
def u16 (bs : List Byte) (i : Nat) : Nat := u8 bs i + 256 * u8 bs (i + 1)

/-- The little-endian 32-bit field at offset `i`. -/
def u32 (bs : List Byte) (i : Nat) : Nat := u16 bs i + 65536 * u16 bs (i + 2)

/-- The little-endian 64-bit address at offset `i`. -/
def addrAt (bs : List Byte) (i : Nat) : Addr := BitVec.ofNat 64 (u32 bs i + 4294967296 * u32 bs (i + 4))

/-- The signed 16-bit field at offset `i`. -/
def s16 (bs : List Byte) (i : Nat) : Int := if u16 bs i < 32768 then (u16 bs i : Int) else (u16 bs i : Int) - 65536

/-- The glyph code at offset `i`. -/
def codeAt (bs : List Byte) (i : Nat) : Code := BitVec.ofNat 16 (u16 bs i)

/-- The colour whose three bytes start at offset `i`: red, green, blue. -/
def colourAt (bs : List Byte) (i : Nat) : Colour := ⟨byteAt bs i, byteAt bs (i + 1), byteAt bs (i + 2)⟩

/-- The bytes from offset `i`, `n` of them. -/
def slice (bs : List Byte) (i n : Nat) : List Byte := (bs.drop i).take n

/-- `count` glyph codes from offset `i`, in stored order. -/
def codesAt (bs : List Byte) (i count : Nat) : List Code := (List.range count).map fun j => codeAt bs (i + 2 * j)

/-- A number as `n` little-endian bytes, its higher part dropped. -/
def leBytes (n value : Nat) : List Byte :=
  match n with
  | 0 => []
  | n + 1 => BitVec.ofNat 8 (value % 256) :: leBytes n (value / 256)

/-- A signed number as `n` little-endian bytes, two's complement. -/
def leSigned (n : Nat) (value : Int) : List Byte := leBytes n (value % (2 ^ (8 * n) : Nat)).toNat

/-- The bytes of a colour: red, green, blue. -/
def colourBytes (c : Colour) : List Byte := [c.r, c.g, c.b]

/-- The server address `offset` bytes after `base`. Where the sum passes the top of the address space the spec gives no
address (assumption 3). -/
def serverAddr (base : Addr) (offset : Nat) : Addr :=
  if base.toNat + offset < 2 ^ 64 then BitVec.ofNat 64 (base.toNat + offset) else Config.addressPastTop base offset

/-! ## Order records and folios (R212) -/

/-- The address of slot `n` of a folio (R212). -/
def slotAddr (folio : Addr) (n : Nat) : Addr := folio + BitVec.ofNat 64 (64 * n)

/-- The address of the trailer of a folio (R212). -/
def trailerAddr (folio : Addr) : Addr := folio + 4032#64

/-- The kind byte of an order record (R212). -/
def orderKind (n : Nat) : OrderKind :=
  match n with
  | 1 => .sheet
  | 2 => .profile
  | 3 => .glyphs
  | 4 => .purge
  | 5 => .flush
  | 6 => .storeMode
  | 7 => .press
  | 8 => .mark
  | 9 => .skip
  | _ => .unknown

/-- Whether a record reads as HANDED: hand byte 1 (R2, R212). -/
def isHanded (bs : List Byte) : Bool := byteAt bs 0 == 1#8

/-- The copy of a record that the order window keeps (R6). -/
def orderRecord (addr : Addr) (slot : Nat) (bs : List Byte) : OrderRecord :=
  ⟨addr, slot, orderKind (u8 bs 1), (byteAt bs 2).getLsbD 0, slice bs 4 28⟩

/-- The argument byte at record offset `i` (R212). -/
def OrderRecord.arg8 (o : OrderRecord) (i : Nat) : Nat := u8 o.args (i - 4)

/-- The 16-bit argument at record offset `i`. -/
def OrderRecord.arg16 (o : OrderRecord) (i : Nat) : Nat := u16 o.args (i - 4)

/-- The 32-bit argument at record offset `i`. -/
def OrderRecord.arg32 (o : OrderRecord) (i : Nat) : Nat := u32 o.args (i - 4)

/-- The 64-bit argument at record offset `i`. -/
def OrderRecord.argAddr (o : OrderRecord) (i : Nat) : Addr := addrAt o.args (i - 4)

/-! ## Sheet ticket, layout entry, roster entry (R213) -/

/-- A sheet description that passes R45 and R46, or the detail of the first check that fails. -/
def ticketCheck (bs : List Byte) : Except Detail Ticket :=
  let dest := u8 bs 4
  let width := u16 bs 8
  let height := u16 bs 10
  let proofAddr := addrAt bs 16
  let pitch := u32 bs 24
  let cont := u8 bs 5
  let limit := u8 bs 6
  let budget := u8 bs 7
  let count := u16 bs 28
  let layout := addrAt bs 32
  let roster := addrAt bs 40
  let rosterCount := u16 bs 48
  let start := u16 bs 50
  if dest > 1 then .error .geometry
  else if width < 256 ∨ 3072 < width then .error .geometry
  else if height < 256 ∨ 4800 < height then .error .geometry
  else if dest = 1 ∧ (proofAddr = 0#64 ∨ 2 ^ 64 ≤ proofAddr.toNat + pitch * (height - 1) + 3 * width - 1) then .error .geometry
  else if dest = 1 ∧ pitch < 3 * width then .error .geometry
  else if cont > 1 ∨ (cont = 1 ∧ (limit < 1 ∨ 32 < limit)) then .error .geometry
  else if 3 < budget then .error .geometry
  else if 48 < count then .error .geometry
  else if 0 < count ∧ layout = 0#64 then .error .geometry
  else if 4096 < rosterCount then .error .roster
  else if rosterCount < start then .error .roster
  else if start < rosterCount ∧ roster = 0#64 then .error .roster
  else .ok
    { sheetId := BitVec.ofNat 32 (u32 bs 0)
      dest := if dest = 0 then .press else .proof
      autoLimit := if cont = 1 then some limit else none
      retryBudget := budget
      width := width
      height := height
      background := colourAt bs 12
      proofAddr := proofAddr
      proofPitch := pitch
      entryCount := count
      layoutAddr := layout
      rosterAddr := roster
      rosterCount := rosterCount
      rosterStart := start
      reportAddr := addrAt bs 56 }

/-- The roster start index of a ticket as read, whatever its checks say (R69). -/
def ticketRosterStart (bs : List Byte) : Nat := u16 bs 50

/-- A layout entry of 32 bytes (R213). -/
def layoutEntry (bs : List Byte) : LayoutEntry :=
  let x := s16 bs 2
  let y := s16 bs 4
  match u8 bs 0 with
  | 1 => .panel x y (u16 bs 6) (u16 bs 8)
  | 2 => .endPanel
  | 3 => .grid (u8 bs 1) (u8 bs 6) (u8 bs 7) x y (u16 bs 8) (u16 bs 10) (u8 bs 12)
  | 4 => .inset (u8 bs 1) x y (addrAt bs 8) (u8 bs 6)
  | 5 => .banner x y (u16 bs 8) (u8 bs 1) (colourAt bs 10) (u8 bs 6) (addrAt bs 16) (u8 bs 7)
  | 6 => .rule x y (u16 bs 6) (u16 bs 8) (colourAt bs 10)
  | _ => .unknown

/-- `n` layout entries of 32 bytes each. -/
def layoutEntries (bs : List Byte) (n : Nat) : List LayoutEntry :=
  (List.range n).map fun i => layoutEntry (slice bs (32 * i) 32)

/-- `n` roster entries of 16 bytes each (R213). -/
def rosterEntries (bs : List Byte) (n : Nat) : List RosterEntry :=
  (List.range n).map fun i => ⟨addrAt bs (16 * i), u8 bs (16 * i + 8)⟩

/-- The role of a roster or INSET role value, and whether the value encodes one of the three (R34). -/
def roleOf (n : Nat) : Role × Bool :=
  match n with
  | 0 => (.student, true)
  | 1 => (.staff, true)
  | 2 => (.spacer, true)
  | _ => (.spacer, false)

/-- The role byte of the cell report (R218). -/
def Role.byte (r : Role) : Nat :=
  match r with
  | .student => 0
  | .staff => 1
  | .spacer => 2

/-! ## Subject record (R214) -/

/-- Bytes per pixel of a form (R28). -/
def PixelForm.bytes (f : PixelForm) : Nat :=
  match f with
  | .rgb8 => 3
  | .gray8 => 1

/-- The pixel form of a subject record's form byte. -/
def pixelForm (n : Nat) : Option PixelForm :=
  match n with
  | 0 => some .rgb8
  | 1 => some .gray8
  | _ => none

/-- The valid raster description of a PRESENT subject, without its marks (R28). -/
def rasterDescription (bs : List Byte) : Option Source :=
  match pixelForm (u8 bs 6) with
  | none => none
  | some form =>
    let addr := addrAt bs 8
    let width := u16 bs 16
    let height := u16 bs 18
    let pitch := u32 bs 20
    if 64 ≤ width ∧ width ≤ 8192 ∧ 64 ≤ height ∧ height ≤ 8192 ∧ width * form.bytes ≤ pitch ∧ addr ≠ 0#64 ∧
        addr.toNat + pitch * (height - 1) + width * form.bytes - 1 < 2 ^ 64 then
      some ⟨addr, width, height, pitch, form, .none⟩
    else none

/-- The mark variant in effect for a raster of the given size, and whether marks were ignored (R30 to R32). -/
def marksInEffect (bs : List Byte) (width height : Nat) : Marks × Bool :=
  match u8 bs 7 with
  | 0 => (.none, false)
  | 1 =>
    let crown := u16 bs 24
    let chin := u16 bs 26
    let eye := u16 bs 28
    let centre := u16 bs 30
    if crown < eye ∧ eye < chin ∧ crown + 16 ≤ chin ∧ chin ≤ height - 1 ∧ centre ≤ width - 1 then
      (.full crown chin eye centre, false)
    else (.none, true)
  | 2 =>
    let eye := u16 bs 24
    let left := u16 bs 26
    let right := u16 bs 28
    if left + 8 ≤ right ∧ right ≤ width - 1 ∧ eye ≤ height - 1 then (.eyes eye left right, false) else (.none, true)
  | _ => (.none, true)

/-- The given-name codes: at most the first 20 (R29). -/
def givenName (bs : List Byte) : List Code := codesAt bs 34 (min (u8 bs 32) 20)

/-- The family-name codes: at most the first 20 (R29). -/
def familyName (bs : List Byte) : List Code := codesAt bs 74 (min (u8 bs 33) 20)

/-- Whether a name count is above 20 (R29). -/
def nameClipped (bs : List Byte) : Bool := decide (20 < u8 bs 32) || decide (20 < u8 bs 33)

/-! ## Profile block (R214, R38, R39) -/

/-- A value brought into a range. -/
def clampTo (lo hi v : Nat) : Nat := if v < lo then lo else if hi < v then hi else v

/-- Bit `i` of a mark set when a field was clamped. -/
def clampMark (i v v' : Nat) : BitVec 5 := if v = v' then 0#5 else 1#5 <<< i

/-- The profile of a block that passes the structural checks of R38, with its fine fields clamped and one mark for each
clamped field (R39); or the detail of the first structural field that fails. -/
def profileBlock (bs : List Byte) : Except Detail (Profile × BitVec 5) :=
  let wc := u16 bs 0
  let hc := u16 bs 2
  if wc < 32 ∨ 512 < wc then .error .cellWidth
  else if hc < 32 ∨ 640 < hc then .error .cellHeight
  else if 1 < u8 bs 10 then .error .edgePolicy
  else if h : u8 bs 11 < 3 then
    if u8 bs 12 < 1 ∨ 2 < u8 bs 12 then .error .lines
    else if 1 < u8 bs 13 then .error .nameOrder
    else
      let ht := clampTo 16 hc (u16 bs 4)
      let ey := clampTo 0 (hc - 1) (u16 bs 6)
      let cx := clampTo 0 (wc - 1) (u16 bs 8)
      let smax := clampTo 1024 131072 (u32 bs 16)
      let gap := clampTo 0 32 (u8 bs 14)
      .ok
        ({ cellWidth := wc
           cellHeight := hc
           headTarget := ht
           eyeLine := ey
           centreColumn := cx
           edge := if u8 bs 10 = 0 then .shift else .pad
           maxScale := smax
           pad := colourAt bs 20
           glyphSet := ⟨u8 bs 11, h⟩
           lines := u8 bs 12
           nameOrder := if u8 bs 13 = 0 then .givenFirst else .familyFirst
           captionGap := gap
           captionColour := colourAt bs 23
           placeholder := colourAt bs 26 },
         clampMark 0 (u16 bs 4) ht ||| clampMark 1 (u16 bs 6) ey ||| clampMark 2 (u16 bs 8) cx |||
           clampMark 3 (u32 bs 16) smax ||| clampMark 4 (u8 bs 14) gap)
  else .error .glyphSet

/-! ## PRESS arguments (R166, R212) -/

/-- The press configuration of a PRESS order with its values brought into range, and the marks of the clamped ones. -/
def pressConfig (o : OrderRecord) : PressConfig × BitVec 5 :=
  let p := clampTo 5 500 (o.arg16 4)
  let g := clampTo 0 p (o.arg16 6)
  let a := clampTo 100 10000 (o.arg16 8)
  let r := clampTo 1 30 (o.arg16 10)
  let w := clampTo 1 600 (o.arg16 12)
  (⟨p, g, a, r, w⟩,
   clampMark 0 (o.arg16 4) p ||| clampMark 1 (o.arg16 6) g ||| clampMark 2 (o.arg16 8) a |||
     clampMark 3 (o.arg16 10) r ||| clampMark 4 (o.arg16 12) w)

/-! ## Glyph block (R215, R119) -/

/-- What the bytes of a glyph block received so far amount to: a refusal, a whole block of `count` checked records, or a
block of which `checked` records have passed and more bytes are wanted. -/
inductive GlyphScan where
  | refused (d : Detail)
  | whole (glyphs : List Glyph)
  | more (checked : Nat)
deriving DecidableEq, Repr

/-- The glyph records from offset `at`, `left` of them, checked in their order (R119, R215). A record is checked when
its first four bytes have been received: DESIGN CHOICE (assumption 44), since R119 says only that the block is checked as it
arrives. -/
def scanGlyphs (bs : List Byte) (lineHeight at_ checked left : Nat) : GlyphScan × List Glyph :=
  match left with
  | 0 => (.whole [], [])
  | left + 1 =>
    if bs.length < at_ + 4 then (.more checked, [])
    else
      let advance := u8 bs (at_ + 2)
      let width := u8 bs (at_ + 3)
      if advance < 1 ∨ 64 < advance ∨ 48 < width then (.refused .glyph, [])
      else
        let size := width * lineHeight
        if bs.length < at_ + 4 + size then (.more (checked + 1), [])
        else
          let rest := scanGlyphs bs lineHeight (at_ + 4 + size) (checked + 1) left
          (rest.1, ⟨codeAt bs at_, advance, width, slice bs (at_ + 4) size, false, false⟩ :: rest.2)

/-- The check of a glyph block on the bytes received so far: the header first, its line height as soon as the first byte is
there (DESIGN CHOICE, assumption 44), then the records in order (R119). -/
def scanGlyphBlock (bs : List Byte) (count : Nat) : GlyphScan :=
  if bs.length = 0 then .more 0
  else if u8 bs 0 < 8 ∨ 48 < u8 bs 0 then .refused .lineHeight
  else if bs.length < 16 then .more 0
  else
    match scanGlyphs bs (u8 bs 0) 16 0 count with
    | (.whole _, gs) => .whole gs
    | (r, _) => r

/-! ## Results and cell report entries (R217, R218) -/

/-- The outcome byte of R217. -/
def OrderOutcome.byte (o : OrderOutcome) : Nat :=
  match o with
  | .ok => 0
  | .noted => 1
  | .partialRoster => 2
  | .spoiled => 3
  | .pressSilent => 4
  | .refused => 5
  | .memoryFault => 6
  | .abandoned => 7
  | .badKind => 8

/-- The detail code, or the mark set, of R217. -/
def Detail.code (d : Detail) : Nat :=
  match d with
  | .none => 0
  | .geometry => 1
  | .roster => 2
  | .nesting => 3
  | .unbalanced => 4
  | .kind => 5
  | .grid => 6
  | .tooLarge => 7
  | .unset => 8
  | .pressOff => 9
  | .pressRejected => 10
  | .number => 11
  | .cellWidth => 12
  | .cellHeight => 13
  | .edgePolicy => 14
  | .glyphSet => 15
  | .lines => 16
  | .nameOrder => 17
  | .subject => 18
  | .mode => 19
  | .count => 20
  | .lineHeight => 21
  | .glyph => 22
  | .duplicate => 23
  | .underrun => 24
  | .damage => 25
  | .jammed => 26
  | .mediaOut => 27
  | .accept => 28
  | .result => 29
  | .planningRead => 30
  | .proofWrite => 31
  | .reportWrite => 32
  | .blockRead => 33
  | .afterClose => 34
  | .marks m => m.toNat

/-- The 32 result bytes of a record, bytes 32 to 63 (R217). -/
def Results.bytes (r : Results) : List Byte :=
  leBytes 1 r.outcome.byte ++ leBytes 1 r.sheetsMade ++ leBytes 2 r.detail.code ++ leBytes 2 r.attemptsUsed ++
    leBytes 2 r.nextRoster ++ leBytes 2 r.slotsEmptied ++ leBytes 2 r.counts.placeholders ++
    leBytes 2 r.counts.clamped ++ leBytes 2 r.counts.shifted ++ leBytes 2 r.counts.padded ++
    leBytes 2 r.counts.marksIgnored ++ leBytes 2 r.counts.unmarked ++ leBytes 2 r.counts.clippedCaptions ++
    leBytes 2 r.counts.substituted ++ leBytes 2 r.counts.offSheet ++ leBytes 2 r.counts.lateBands ++ leBytes 2 0

/-- The kind byte of the cell report (R218). -/
def CellKind.byte (k : CellKind) : Nat :=
  match k with
  | .portrait => 0
  | .placeholder => 1
  | .empty => 2

/-- The 32-byte cell report entry of a cell placement (R218). -/
def Cell.reportBytes (c : Cell) : List Byte :=
  let f := c.fit.getD ⟨0, 0, 0, 0, 0, 0, 0#11⟩
  leBytes 1 c.kind.byte ++ leBytes 1 c.role.byte ++ leBytes 2 (c.rosterIndex.getD 65535) ++ leBytes 4 c.subject ++
    leSigned 4 c.rect.x ++ leSigned 4 c.rect.y ++ leBytes 4 f.s ++ leBytes 1 f.k ++ [c.serial] ++ leSigned 2 f.x0 ++
    leSigned 2 f.y0 ++ leSigned 2 f.shiftX ++ leSigned 2 f.shiftY ++ leBytes 2 c.notes.toNat

/-! ## The register window (R203) -/

/-- The engine state's encoding (R203). -/
def EngineState.code (e : EngineState) : Nat :=
  match e with
  | .stopped => 0
  | .scrubbing => 1
  | .running => 2
  | .draining => 3
  | .faulted => 4

/-- The walker state's encoding (R203). -/
def WalkerState.code (w : WalkerState) : Nat :=
  match w with
  | .stopped => 0
  | .seeking => 1
  | .taking => 2
  | .blocked => 3
  | .idle => 4
  | .faulted => 5

/-- The hold state's encoding (R203). -/
def HoldState.code (h : HoldState) : Nat :=
  match h with
  | .free => 0
  | .draining => 1
  | .held => 2

/-- The link state's encoding (R203). -/
def LinkState.code (l : LinkState) : Nat :=
  match l with
  | .closed => 0
  | .awaitReady => 1
  | .opening => 2
  | .streaming => 3
  | .closing => 4

/-- The fault cause's encoding (R203). -/
def FaultCause.code (c : FaultCause) : Nat :=
  match c with
  | .none => 0
  | .readError => 1
  | .writeError => 2
  | .badLink => 3

/-- The press mode's encoding (R203). -/
def PressMode.code (m : PressMode) : Nat :=
  match m with
  | .live => 0
  | .loop => 1
  | .off => 2

/-- The press mode of a written field value; 3 is not accepted (R164). -/
def pressModeOf (n : Nat) : Option PressMode :=
  match n with
  | 0 => some .live
  | 1 => some .loop
  | 2 => some .off
  | _ => none

/-- The last result's encoding (R203). -/
def HoldResult.code (r : HoldResult) : Nat :=
  match r with
  | .none => 0
  | .accepted => 1
  | .rejected => 2
  | .withdrawn => 3

/-- The poison selector's encoding (R203). -/
def Poison.code (p : Poison) : Nat :=
  match p with
  | .none => 0
  | .tile => 1
  | .band => 2
  | .glyph => 3

/-- The poison selector of a written field value (R203). -/
def poisonOf (n : Nat) : Poison :=
  match n with
  | 1 => .tile
  | 2 => .band
  | 3 => .glyph
  | _ => .none

/-- The store mode of a STORE_MODE argument (R212). -/
def storeModeOf (n : Nat) : Option StoreMode :=
  match n with
  | 0 => some .normal
  | 1 => some .frozen
  | 2 => some .bypass
  | _ => none

/-- The check area of a record, 0 for an empty record (R203). -/
def checkArea (l : Option CheckLoc) : Nat :=
  match l with
  | none => 0
  | some (.storeTile _ _) => 1
  | some (.scratchTile _ _) => 1
  | some (.band _) => 2
  | some (.glyph _ _) => 3

/-- The 24-bit check location of a record (R203). That it reads 0 for an empty record is a DESIGN CHOICE (assumption 54). -/
def checkLocation (l : Option CheckLoc) : Nat :=
  match l with
  | none => 0
  | some (.storeTile set .w0) => 2 * set.val
  | some (.storeTile set .w1) => 2 * set.val + 1
  | some (.scratchTile .a i) => 8388608 + i.val
  | some (.scratchTile .b i) => 8388608 + 4194304 + i.val
  | some (.band .x) => 0
  | some (.band .y) => 1
  | some (.glyph set code) => 65536 * set.val + code.toNat

/-- A Bool as one bit. -/
def bit (b : Bool) : Nat := if b then 1 else 0

/-- The 8-byte word of the window at word index `i` (offset 8 × i), as a read returns it (R203, R205, R209). -/
def windowWord (s : State) (i : Nat) : Nat :=
  match i with
  | 0 => Config.vendorCode + Config.partNumber * 2 ^ 16 + Config.revision * 2 ^ 32 + Config.storeSlots * 2 ^ 40 +
      Config.scratchSlots * 2 ^ 49 + Config.maxDepth * 2 ^ 56
  | 1 => s.window.chainHead.toNat
  | 2 => bit s.window.run + 2 * bit s.window.abandon + 16 * s.window.depth + 256 * s.window.pressMode.code +
      65536 * s.window.sweepPreset.toNat
  | 4 => s.control.engine.code + 16 * s.walker.state.code + 256 * s.port.hold.code + 4096 * s.link.state.code +
      65536 * s.control.cause.code
  | 5 => s.control.faultAddr.toNat
  | 6 => s.window.events.toNat
  | 7 => s.window.enables.toNat
  | 8 => bit (s.port.hold != .free) + 16 * s.port.windowCode.toNat + 256 * bit s.port.pressFirst +
      65536 * s.port.hold.code + 2 ^ 20 * s.port.lastResult.code
  | 9 => 2 * bit s.check.locked + 16 * s.check.poison.code + 256 * s.check.count.toNat
  | 10 => checkArea s.check.correctable + 256 * checkLocation s.check.correctable +
      2 ^ 32 * checkArea s.check.uncorrectable + 2 ^ 40 * checkLocation s.check.uncorrectable
  | _ => 0

/-- The byte of the window at `offset` as a read returns it: 0 at 0x58 and above (R204; past the end, assumption 29). That
the byte at the lowest offset of a register holds bits 0 to 7 is a DESIGN CHOICE (assumption 34). -/
def windowByte (s : State) (offset : Nat) : Byte := BitVec.ofNat 8 (windowWord s (offset / 8) / 256 ^ (offset % 8))

/-- A read of the window: the bytes concerned (R204). A read changes nothing, so it is no command. That a read of 4 or 8
bytes not aligned to its size also returns the bytes concerned is a DESIGN CHOICE (assumption 42). -/
def readWindow (s : State) (offset size : Nat) : List Byte := (List.range size).map fun i => windowByte s (offset + i)

end Sys2Proof.Machine
end

