-- ==== Sys2Proof/Machine/Flags.lean ====
section
/-! DEFINITION. The flags of the part: the sticky events and the interrupt request (R210), the cell notes (R218), and the
ten counts of an order's results with their saturation (R179, R217). -/

namespace Sys2Proof.Machine

/-! ## Events (R203, R210) -/

/-- The event flags in the order of EVENTS (R203). -/
inductive Event where
  | doneNote
  | chainIdle
  | sheetSpoiled
  | pressStalled
  | holdSettled
  | integrity
  | storeLost
  | chainFault
  | scrubDone
deriving DecidableEq, Repr

/-- The bit of an event in EVENTS and ENABLES (R203). -/
def Event.bit (e : Event) : Nat :=
  match e with
  | .doneNote => 0
  | .chainIdle => 1
  | .sheetSpoiled => 2
  | .pressStalled => 3
  | .holdSettled => 4
  | .integrity => 5
  | .storeLost => 6
  | .chainFault => 7
  | .scrubDone => 8

/-- Whether an event's flag is set. -/
def State.hasEvent (s : State) (e : Event) : Bool := s.window.events.getLsbD e.bit

/-- Raises an event: its flag is set and stays set (R210). -/
def State.raise (s : State) (e : Event) : State :=
  s.setWindow { s.window with events := s.window.events ||| (1#9 <<< e.bit) }

/-- The interrupt request: asserted while at least one flag is set together with its enable (R210). -/
def State.interrupt (s : State) : Bool := s.window.events &&& s.window.enables != 0#9

/-! ## Notes (R218) -/

/-- The cell notes, in the order of their bits (R218). -/
inductive Note where
  | offSheet
  | placeholderAbsent
  | subjectInvalid
  | marksIgnored
  | unmarked
  | captionClipped
  | glyphSubstituted
  | pictureUnreadable
  | scaleClamped
  | shifted
  | padded
deriving DecidableEq, Repr

/-- The bit of a note in a cell's notes (R218). -/
def Note.bit (n : Note) : Nat :=
  match n with
  | .offSheet => 0
  | .placeholderAbsent => 1
  | .subjectInvalid => 2
  | .marksIgnored => 3
  | .unmarked => 4
  | .captionClipped => 5
  | .glyphSubstituted => 6
  | .pictureUnreadable => 7
  | .scaleClamped => 8
  | .shifted => 9
  | .padded => 10

/-- The note set holding one note, or none when `on` is false. -/
def noteIf (n : Note) (on : Bool) : Notes := if on then 1#11 <<< n.bit else 0#11

/-- Whether a note set holds a note. -/
def hasNote (ns : Notes) (n : Note) : Bool := ns.getLsbD n.bit

/-! ## Counts (R179, R217) -/

/-- All ten counts at 0. -/
def Counts.zero : Counts := ⟨0, 0, 0, 0, 0, 0, 0, 0, 0, 0⟩

/-- A count raised by `n`; a count that would pass 65535 stays at 65535 (R217). -/
def raiseCount (c n : Nat) : Nat := min 65535 (c + n)

/-- The sum of two groups of counts, each saturating (R63, R66). -/
def Counts.add (c d : Counts) : Counts :=
  ⟨raiseCount c.placeholders d.placeholders, raiseCount c.clamped d.clamped, raiseCount c.shifted d.shifted,
   raiseCount c.padded d.padded, raiseCount c.marksIgnored d.marksIgnored, raiseCount c.unmarked d.unmarked,
   raiseCount c.clippedCaptions d.clippedCaptions, raiseCount c.substituted d.substituted,
   raiseCount c.offSheet d.offSheet, raiseCount c.lateBands d.lateBands⟩

/-- The counts that a set of notes newly raised on one cell adds: clamped, shifted, padded (R89), marks-ignored and
unmarked (R32), clipped captions and substituted glyphs (R29, R123), off-sheet (R62). Placeholders are counted by the
cell's kind (R27, R106). -/
def countsOfNotes (ns : Notes) : Counts :=
  { Counts.zero with
    clamped := bit (hasNote ns .scaleClamped)
    shifted := bit (hasNote ns .shifted)
    padded := bit (hasNote ns .padded)
    marksIgnored := bit (hasNote ns .marksIgnored)
    unmarked := bit (hasNote ns .unmarked)
    clippedCaptions := bit (hasNote ns .captionClipped)
    substituted := bit (hasNote ns .glyphSubstituted)
    offSheet := bit (hasNote ns .offSheet) }

/-- Whether any count is above 0, which makes the outcome NOTED (R179). -/
def Counts.any (c : Counts) : Bool := c != Counts.zero

/-- Results of an order at its take: nothing made, every field 0 (R180). -/
def Results.blank : Results := ⟨.ok, .none, 0, 0, 0, 0, Counts.zero⟩

end Sys2Proof.Machine
end

