-- ==== Sys2Proof/Machine/Fit.lean ====
section
/-! DEFINITION. Face fit arithmetic (chapter 4): the fit of a build from its source description and its profile, the
source bytes a build needs, and the pixels of the tile. -/

namespace Sys2Proof.Machine

/-- Floor of a quotient by a positive divisor, for negative values as well (R1). -/
def floorDiv (a : Int) (b : Nat) : Int := a / (b : Int)

/-- Ceiling of a quotient by a positive divisor, for negative values as well (R1). -/
def ceilDiv (a : Int) (b : Nat) : Int := -((-a) / (b : Int))

/-- Round half up of a quotient of non-negative whole numbers: the value plus one half, floored (R1). -/
def roundDiv (a b : Nat) : Nat := (2 * a + b) / (2 * b)

/-! ## Stages 1 to 4 (R72 to R77) -/

/-- Stage 1: the head span, absent under NONE (R72). -/
def headSpan (m : Marks) : Option Nat :=
  match m with
  | .full crown chin _ _ => some (chin - crown)
  | .eyes _ left right => some ((right - left) * 5 / 2)
  | .none => none

/-- Stage 1: the mark point (Xm, Yeye) (R72). -/
def markPoint (src : Source) : Nat × Nat :=
  match src.marks with
  | .full _ _ eye centre => (centre, eye)
  | .eyes eye left right => ((left + right) / 2, eye)
  | .none => (src.width / 2, 2 * src.height / 5)

/-- Stage 2: the raw scale (R73). -/
def rawScale (src : Source) (p : Profile) : Nat :=
  match headSpan src.marks with
  | some h => roundDiv (p.headTarget * 65536) h
  | none => roundDiv (p.cellWidth * 65536) src.width

/-- Stage 3: the clamped scale (R74). -/
def clampScale (raw smax : Nat) : Nat := clampTo 1024 smax raw

/-- Stage 4: the smallest k from 0 to 5 with S × 2^k at least 32768 (R75). -/
def halvings (s : Nat) : Nat := ((List.range 6).find? fun k => 32768 ≤ s * 2 ^ k).getD 5

/-- Stage 5: the step D for an effective scale S′ (R78). -/
def stepOf (effective : Nat) : Nat := roundDiv 16777216 effective

/-- Stage 5: the offset o (R78). -/
def offsetOf (step : Nat) : Int := (step / 2 : Nat) - 128

/-- Stage 6: the computed origin on one axis (R79). -/
def computedOrigin (mark target step : Nat) : Int := (mark : Int) - (roundDiv (target * step) 256 : Nat)

/-- Stage 7: the least origin whose samples are in range on an axis (R80). -/
def originMin (offset : Int) : Int := ceilDiv (-128 - offset) 256

/-- Stage 7: the greatest origin whose samples are in range on an axis of `size` reduced pixels and `cell` tile pixels
(R80). -/
def originMax (size cell step : Nat) (offset : Int) : Int :=
  floorDiv (((size : Int) - 1) * 256 + 128 - offset - ((cell : Int) - 1) * step) 256

/-- Stage 7: the final origin on one axis under the edge policy (R81, R82). -/
def finalOrigin (edge : EdgePolicy) (computed lo hi : Int) : Int :=
  match edge with
  | .pad => computed
  | .shift => if lo ≤ hi then (if computed < lo then lo else if hi < computed then hi else computed) else floorDiv (lo + hi) 2

/-- The fit of a build (R70, stages 1 to 7), with the notes each stage raises. -/
def computeFit (src : Source) (p : Profile) : Fit :=
  let raw := rawScale src p
  let s := clampScale raw p.maxScale
  let k := halvings s
  let w' := src.width / 2 ^ k
  let h' := src.height / 2 ^ k
  let d := stepOf (s * 2 ^ k)
  let o := offsetOf d
  let cx := computedOrigin ((markPoint src).1 / 2 ^ k) p.centreColumn d
  let cy := computedOrigin ((markPoint src).2 / 2 ^ k) p.eyeLine d
  let xlo := originMin o
  let xhi := originMax w' p.cellWidth d o
  let ylo := originMin o
  let yhi := originMax h' p.cellHeight d o
  let x0 := finalOrigin p.edge cx xlo xhi
  let y0 := finalOrigin p.edge cy ylo yhi
  { record :=
      { s := s
        k := k
        x0 := x0
        y0 := y0
        shiftX := x0 - cx
        shiftY := y0 - cy
        notes := noteIf .scaleClamped (s != raw) ||| noteIf .shifted (x0 - cx != 0 || y0 - cy != 0) |||
          noteIf .padded (decide (x0 < xlo ∨ xhi < x0 ∨ y0 < ylo ∨ yhi < y0)) }
    step := d
    offset := o
    reducedW := w'
    reducedH := h' }

/-! ## Stage 8: sampling (R84, R85) -/

/-- The sample position of tile column or row `u` on an axis with final origin `origin` (R84). -/
def samplePos (f : Fit) (origin : Int) (u : Nat) : Int := 256 * origin + f.offset + u * f.step

/-- Whether a sample lies in the valid range of an axis of `size` reduced pixels (R80, R84). -/
def sampleInRange (size : Nat) (sx : Int) : Bool := decide (-128 ≤ sx ∧ sx ≤ ((size : Int) - 1) * 256 + 128)

/-- The reduced pixel, the fraction and the neighbour of an in-range sample (R85). -/
def sampleParts (size : Nat) (sx : Int) : Nat × Nat × Nat :=
  let c := (max 0 (min sx (((size : Int) - 1) * 256))).toNat
  let i := c / 256
  (i, c % 256, if i + 1 = size then i else i + 1)

/-- The least and greatest reduced pixel of an axis that the blend reads, absent when no sample is in range (R85, R87). -/
def neededRange (f : Fit) (size cell : Nat) (origin : Int) : Option (Nat × Nat) :=
  let us := (List.range cell).filter fun u => sampleInRange size (samplePos f origin u)
  match us.head?, us.getLast? with
  | some lo, some hi =>
    some ((sampleParts size (samplePos f origin lo)).1, (sampleParts size (samplePos f origin hi)).2.2)
  | _, _ => none

/-- The source rectangle a build reads (R85, R87): first column, columns, first row and rows; absent when it needs no
source byte. -/
structure SourceArea where
  x : Nat
  cols : Nat
  y : Nat
  rows : Nat
deriving DecidableEq, Repr

/-- The source area of a build: the source pixels under the reduced pixels that the blend reads (R85, R87). -/
def sourceArea (f : Fit) (p : Profile) : Option SourceArea :=
  match neededRange f f.reducedW p.cellWidth f.record.x0, neededRange f f.reducedH p.cellHeight f.record.y0 with
  | some (x0, x1), some (y0, y1) =>
    let m := 2 ^ f.record.k
    some ⟨m * x0, m * (x1 + 1 - x0), m * y0, m * (y1 + 1 - y0)⟩
  | _, _ => none

/-- The address of source pixel (x, y): raster address + y × pitch + x × bytes per pixel (R87). -/
def sourceAddr (src : Source) (x y : Nat) : Addr := serverAddr src.addr (y * src.pitch + x * src.form.bytes)

/-- The runs of server-memory bytes a build reads, one for each source row of its area, from the top; none when it needs no
source byte (R87). -/
def sourceRanges (src : Source) (f : Fit) (p : Profile) : List SourceRange :=
  match sourceArea f p with
  | some a => (List.range a.rows).map fun r => ⟨sourceAddr src a.x (a.y + r), a.cols * src.form.bytes⟩
  | none => []

/-- The addresses of the bytes of some runs, in the order in which they are read. -/
def rangeAddrs (rs : List SourceRange) : List Addr :=
  rs.flatMap fun r => (List.range r.bytes).map fun i => serverAddr r.addr i

/-- The number of bytes of some runs. -/
def rangeBytes (rs : List SourceRange) : Nat := (rs.map (·.bytes)).sum

/-- The number of source bytes, from the top row needed, on which tile row 0 stands; 0 when it is all pad colour. -/
def firstRowBytes (src : Source) (f : Fit) (p : Profile) : Nat :=
  match sourceArea f p with
  | some a =>
    let sy := samplePos f f.record.y0 0
    if sampleInRange f.reducedH sy then
      (2 ^ f.record.k * ((sampleParts f.reducedH sy).2.2 + 1) - a.y) * (a.cols * src.form.bytes)
    else 0
  | none => 0

/-! ## Tile pixels (R76, R77, R84 to R88) -/

/-- The source pixel at (x, y) as a colour, from the bytes of the build's runs: its first byte is the one that was read at
`sourceAddr src x y` (R77, R87; Laws/Source.lean). -/
def sourcePixel (src : Source) (a : SourceArea) (got : List Byte) (x y : Nat) : Colour :=
  let i := ((y - a.y) * a.cols + (x - a.x)) * src.form.bytes
  match src.form with
  | .rgb8 => ⟨byteAt got i, byteAt got (i + 1), byteAt got (i + 2)⟩
  | .gray8 => ⟨byteAt got i, byteAt got i, byteAt got i⟩

/-- The rounded mean of four channel values (R76). -/
def mean4 (a b c d : Byte) : Byte := BitVec.ofNat 8 ((a.toNat + b.toNat + c.toNat + d.toNat + 2) / 4)

/-- The rounded mean of four colours, channel by channel (R76). -/
def meanColour (a b c d : Colour) : Colour := ⟨mean4 a.r b.r c.r d.r, mean4 a.g b.g c.g d.g, mean4 a.b b.b c.b d.b⟩

/-- The pixel (i, j) of a raster halved `k` times, each halving rounding on its own (R76). -/
def reducedPixel (raster : Nat → Nat → Colour) (k : Nat) : Nat → Nat → Colour :=
  match k with
  | 0 => raster
  | k + 1 => fun i j =>
    let r := reducedPixel raster k
    meanColour (r (2 * i) (2 * j)) (r (2 * i + 1) (2 * j)) (r (2 * i) (2 * j + 1)) (r (2 * i + 1) (2 * j + 1))

/-- One rounded blend step with a fraction in 256ths (R86). -/
def blendStep (p q : Byte) (f : Nat) : Byte := BitVec.ofNat 8 ((p.toNat * (256 - f) + q.toNat * f + 128) / 256)

/-- The blend of a channel: the two horizontal steps, then the vertical one (R86). -/
def blendChannel (p00 p10 p01 p11 : Byte) (f g : Nat) : Byte := blendStep (blendStep p00 p10 f) (blendStep p01 p11 f) g

/-- Tile pixel (u, v) of a build (R84 to R86). -/
def tilePixel (src : Source) (f : Fit) (p : Profile) (got : List Byte) (u v : Nat) : Colour :=
  let sx := samplePos f f.record.x0 u
  let sy := samplePos f f.record.y0 v
  match sourceArea f p with
  | none => p.pad
  | some a =>
    if sampleInRange f.reducedW sx && sampleInRange f.reducedH sy then
      let xs := sampleParts f.reducedW sx
      let ys := sampleParts f.reducedH sy
      let r := reducedPixel (sourcePixel src a got) f.record.k
      let p00 := r xs.1 ys.1
      let p10 := r xs.2.2 ys.1
      let p01 := r xs.1 ys.2.2
      let p11 := r xs.2.2 ys.2.2
      ⟨blendChannel p00.r p10.r p01.r p11.r xs.2.1 ys.2.1, blendChannel p00.g p10.g p01.g p11.g xs.2.1 ys.2.1,
       blendChannel p00.b p10.b p01.b p11.b xs.2.1 ys.2.1⟩
    else p.pad

/-- The finished tile: Wc × Hc pixels, row by row from row 0, three bytes each, with no padding (R88). -/
def tileBytes (src : Source) (f : Fit) (p : Profile) (got : List Byte) : List Byte :=
  (List.range p.cellHeight).flatMap fun v =>
    (List.range p.cellWidth).flatMap fun u => colourBytes (tilePixel src f p got u v)

end Sys2Proof.Machine
end

