-- ==== Sys2Proof/Machine/Ops.lean ====
section
/-! DEFINITION. The operations that the commands share: sheet slots and retire-queue entries, units of the Memory Port
and the drain of a hold (chapter 10), the Order Walker's moves (chapter 1), and what the part puts out. -/

namespace Sys2Proof.Machine

/-! ## Sheet slots and orders -/

/-- The other sheet slot. -/
def otherSlot (sl : SheetSlot) : SheetSlot :=
  match sl with
  | .a => .b
  | .b => .a

/-- The sheet in a slot; absent when the slot is FREE. -/
def State.sheet (s : State) (sl : SheetSlot) : Option Sheet :=
  match sl with
  | .a => s.control.slotA
  | .b => s.control.slotB

/-- Puts a sheet into a slot, or frees it. -/
def State.setSheet (s : State) (sl : SheetSlot) (x : Option Sheet) : State :=
  match sl with
  | .a => s.setControl { s.control with slotA := x }
  | .b => s.setControl { s.control with slotB := x }

/-- Changes the sheet in a slot; a FREE slot stays FREE. -/
def State.mapSheet (s : State) (sl : SheetSlot) (f : Sheet → Sheet) : State := s.setSheet sl ((s.sheet sl).map f)

/-- Whether the sheet in a slot satisfies a test; a FREE slot does not. -/
def State.sheetIs (s : State) (sl : SheetSlot) (f : Sheet → Bool) : Bool :=
  match s.sheet sl with
  | some sh => f sh
  | none => false

/-- The ticket of the sheet in a slot. -/
def State.ticketOf (s : State) (sl : SheetSlot) : Option Ticket := (s.sheet sl).bind (·.ticket)

/-- Changes every entry of the retire queue. -/
def State.mapQueue (s : State) (f : QueueEntry → QueueEntry) : State :=
  s.setControl { s.control with queue := s.control.queue.map f }

/-- Changes the results of the order that a sheet slot serves (R180). -/
def State.mapResults (s : State) (sl : SheetSlot) (f : Results → Results) : State :=
  s.mapQueue fun e => if e.slot = some sl then { e with results := f e.results } else e

/-- Adds to the counts of the order that a sheet slot serves. -/
def State.addCounts (s : State) (sl : SheetSlot) (c : Counts) : State :=
  s.mapResults sl fun r => { r with counts := r.counts.add c }

/-- The results of the order that a sheet slot serves. -/
def State.orderResults (s : State) (sl : SheetSlot) : Option Results :=
  (s.control.queue.find? fun e => e.slot = some sl).map (·.results)

/-! ## Output -/

/-- Records a write to server memory that the part issues. -/
def State.writeServer (s : State) (addr : Addr) (bytes : List Byte) : State :=
  s.setOut { s.out with serverWrites := s.out.serverWrites ++ [⟨addr, bytes⟩] }

/-- Records writes to server memory. -/
def State.writeServerAll (s : State) (ws : List ServerWrite) : State :=
  s.setOut { s.out with serverWrites := s.out.serverWrites ++ ws }

/-- Records a message on the press link. -/
def State.tellPress (s : State) (m : PressMessage) : State :=
  s.setOut { s.out with pressMessages := s.out.pressMessages ++ [m] }

/-! ## Units of the Memory Port (R189, R192) -/

/-- Whether units may start: the hold is FREE (R189). -/
def State.holdFree (s : State) : Bool := s.port.hold == .free

/-- A unit starts: the outstanding count rises by one (R189). -/
def State.beginUnit (s : State) : State := s.setPort { s.port with outstanding := s.port.outstanding + 1 }

/-- A unit ends: the count falls by one, and a DRAINING hold whose count reaches 0 becomes HELD with last result
ACCEPTED, HOLD_SETTLED raised and the window timer stopped (R189, R192). -/
def State.endUnit (s : State) : State :=
  let n := s.port.outstanding - 1
  if s.port.hold = .draining ∧ n = 0 then
    (s.setPort { s.port with outstanding := n, hold := .held, lastResult := .accepted, windowTimer := none }).raise
      .holdSettled
  else s.setPort { s.port with outstanding := n }

/-- The unit in progress of a user is left to complete at the port with its result discarded (R189). -/
def State.discardUnit (s : State) (u : DiscardedUnit) : State :=
  s.setPort { s.port with discarded := s.port.discarded ++ [u] }

/-- A discarded unit completes: it leaves the port and the count falls (R25, R189). When no such unit is in progress
there is no such event (assumption 1). -/
def State.finishDiscarded (s : State) (u : DiscardedUnit) : State :=
  if u ∈ s.port.discarded then
    (s.setPort { s.port with discarded := s.port.discarded.erase u }).endUnit
  else s

/-! ## The Order Walker (chapter 1) -/

/-- Whether a barrier order is running (R13, R184). -/
def Barrier.running (b : Barrier) : Bool := b != .none

/-- The barrier kinds of the table of section 1.4. -/
def OrderKind.isBarrier (k : OrderKind) : Bool :=
  match k with
  | .profile | .glyphs | .purge | .flush | .storeMode | .press => true
  | .sheet | .mark | .skip | .unknown => false

/-- 1 while a take reserves a retire-queue entry (R11, R13). -/
def Walker.reserved (w : Walker) : Nat :=
  match w.unit with
  | .taken _ _ false => 1
  | _ => 0

/-- The slot a SHEET order is taken into: A when both are FREE, otherwise the FREE one (R11). -/
def State.freeSlotFor (s : State) : Option SheetSlot :=
  if s.control.slotA.isNone then some .a else if s.control.slotB.isNone then some .b else none

/-- Whether an order of a kind can be taken (R13). -/
def State.canTakeKind (s : State) (k : OrderKind) : Bool :=
  decide (s.control.queue.length + s.walker.reserved < Config.retireCapacity) && !s.control.barrier.running &&
    (if k = .sheet then s.freeSlotFor.isSome
     else if k.isBarrier then s.control.slotA.isNone && s.control.slotB.isNone else true)

/-- Whether the window holds a head and it can be taken (R13). -/
def State.canTake (s : State) : Bool :=
  match s.walker.window with
  | [] => false
  | r :: _ => s.canTakeKind r.kind

/-- The walker's state when no unit of its own is in flight in a running engine: SEEKING with an empty window, TAKING
when the head can be taken, BLOCKED otherwise (R7, R11). -/
def State.walkOn (s : State) : State :=
  s.setWalker { s.walker with
    state := if s.walker.window = [] then .seeking else if s.canTake then .taking else .blocked }

/-- A BLOCKED walker whose head can now be taken goes to TAKING (R14). -/
def State.unblock (s : State) : State :=
  if s.walker.state = .blocked ∧ s.canTake = true then s.setWalker { s.walker with state := .taking } else s

/-- The walker enters IDLE: the sweep timer is loaded and started when the preset is not 0 (R15), and CHAIN_IDLE is
raised when the retire queue is empty (R18). -/
def State.enterIdle (s : State) : State :=
  let w := { s.walker with state := .idle, sweepRunning := s.window.sweepPreset != 0#16 }
  let s' := s.setWalker (if s.window.sweepPreset = 0#16 then w else { w with sweepTimer := s.window.sweepPreset.toNat })
  if s.control.queue = [] then s'.raise .chainIdle else s'

/-- The walker arrives at IDLE: a pending wake is consumed and the walker seeks again, otherwise it enters IDLE (R15).
With the cursor cleared there is no read to start, and the walker enters IDLE all the same (R5). -/
def State.arriveIdle (s : State) : State :=
  if s.walker.pendingWake then
    let s' := s.setWalker { s.walker with pendingWake := false, state := .seeking }
    if s.walker.cursor = none then s'.enterIdle else s'
  else s.enterIdle

/-- The walker leaves IDLE for SEEKING at the cursor, the sweep timer stopped; with the cursor cleared it comes back to
IDLE without a read (R5, R16, R17). -/
def State.seekFromIdle (s : State) : State :=
  let s' := s.setWalker { s.walker with state := .seeking, sweepRunning := false }
  if s.walker.cursor = none then s'.arriveIdle else s'

/-- The engine enters RUNNING and the walker leaves STOPPED: the cursor is kept, or loaded from CHAIN_HEAD; with both
cleared the walker enters IDLE without reading (R5, R19, R206). -/
def State.startEngine (s : State) : State :=
  let s1 := s.setControl { s.control with engine := .running }
  match s.walker.cursor with
  | some _ => s1.setWalker { s.walker with state := .seeking }
  | none =>
    if s.window.chainHead = 0#64 then s1.arriveIdle
    else s1.setWalker { s.walker with state := .seeking, cursor := some ⟨s.window.chainHead, .slot 0⟩ }

/-- The engine enters STOPPED, ABANDON reading 0, and RUNNING at once when RUN reads 1 (R185, R187, R206). -/
def State.engineStops (s : State) : State :=
  let s1 := (s.setControl { s.control with engine := .stopped }).setWindow { s.window with abandon := false }
  if s.window.run then s1.startEngine else s1

/-- Whether a drain or an abandon is complete: the retire queue empty, the walker STOPPED and no SPENT write in flight or
waiting (R10, R185). -/
def State.drained (s : State) : Bool :=
  s.control.engine == .draining && s.control.queue.isEmpty && s.walker.state == .stopped &&
    s.walker.spentDue.isEmpty && s.walker.spentInFlight.isNone

/-- A complete drain or abandon brings the engine to STOPPED (R185). -/
def State.stopIfDrained (s : State) : State := if s.drained then s.engineStops else s

/-- The unit of a walker that is drained or faulted: a read is left to complete with its result discarded; a take goes on
in a drain (R20) and is discarded in a fault (R24). -/
def WalkerUnit.discardRead (u : WalkerUnit) : WalkerUnit :=
  match u with
  | .none => .none
  | .recordRead n _ => .recordRead n true
  | .trailerRead _ => .trailerRead true
  | .taken r sl d => .taken r sl d

/-- The unit of a walker in a fault: its result is discarded (R24). -/
def WalkerUnit.discardAll (u : WalkerUnit) : WalkerUnit :=
  match u with
  | .none => .none
  | .recordRead n _ => .recordRead n true
  | .trailerRead _ => .trailerRead true
  | .taken r sl _ => .taken r sl true

/-- The cursor moved back to the first record of a discarded window, kept when there is none (R6, R20). The window's
records lie in one folio, which their addresses name. -/
def cursorBack (c : Option Cursor) (discarded : List OrderRecord) : Option Cursor :=
  match discarded with
  | [] => c
  | r :: _ => some ⟨r.addr - BitVec.ofNat 64 (64 * r.slot), .slot (Fin.ofNat 63 r.slot)⟩

/-- The walker at the beginning of a drain or an abandon: it stops taking, discards its window, returns the cursor to the
first record not taken and stops the sweep timer; it is STOPPED at once when it has no read and no take in flight (R20). -/
def State.drainWalker (s : State) : State :=
  let w := s.walker
  s.setWalker { w with
    window := []
    cursor := cursorBack w.cursor w.window
    sweepRunning := false
    unit := w.unit.discardRead
    state := if w.unit = .none then .stopped else w.state }

/-! ## The retire queue (R181, R183) -/

/-- A MARK entry at the head of the queue becomes FINISHED with outcome OK (R12, R183). -/
def State.markHead (s : State) : State :=
  match s.control.queue with
  | e :: rest =>
    if e.record.kind = .mark ∧ e.finished = false then
      s.setControl { s.control with queue := { e with finished := true } :: rest }
    else s
  | [] => s

/-- The results of a SHEET order whose slot becomes FREE: its ending, or NOTED or OK by its counts (R179). -/
def finalResults (sh : Sheet) (r : Results) : Results :=
  match sh.ending with
  | some (o, d) => { r with outcome := o, detail := d }
  | none => { r with outcome := if r.counts.any then .noted else .ok, detail := .none }

/-- A slot becomes FREE: its order's entry becomes FINISHED with its outcome, the other slot ranks first, and the walker
is told (R14, R171, R175, R179). -/
def State.freeSlot (s : State) (sl : SheetSlot) : State :=
  match s.sheet sl with
  | none => s
  | some sh =>
    let s1 := s.mapQueue fun e =>
      if e.slot = some sl then { e with finished := true, slot := none, results := finalResults sh e.results } else e
    ((s1.setSheet sl none).mapSheet (otherSlot sl) fun o => { o with first := true }).unblock

/-- The running barrier becomes FINISHED with its results and the walker may take again (R14, R184). -/
def State.finishBarrier (s : State) (r : Results) : State :=
  let s1 := s.mapQueue fun e =>
    if (e.record.kind = .profile ∨ e.record.kind = .glyphs) ∧ e.finished = false then
      { e with finished := true, results := r }
    else e
  (s1.setControl { s1.control with barrier := .none }).unblock

/-- The results of a barrier that ends with an outcome, a detail and a number of slots emptied (R180). -/
def barrierResults (o : OrderOutcome) (d : Detail) (emptied : Nat) : Results :=
  { Results.blank with outcome := o, detail := d, slotsEmptied := emptied }

/-! ## Profiles and glyph sets -/

/-- The profile of a number. An UNSET profile is named by no placement (R49); the value for it is never used. -/
def State.profileOf (s : State) (p : Fin 16) : Profile :=
  (s.profiles[p]).getD ⟨0, 0, 0, 0, 0, .shift, 0, ⟨0, 0, 0⟩, 0, 0, .givenFirst, 0, ⟨0, 0, 0⟩, ⟨0, 0, 0⟩⟩

/-- The glyph set of a number. An UNSET set is named by no placement (R49); the value for it is never used. -/
def State.glyphSetOf (s : State) (g : Fin 3) : GlyphSet := (s.glyphs[g]).getD ⟨0, 0, 0, 0, [], []⟩

/-- The height of a cell box: Hc, the caption gap and the allowed lines (R57). -/
def State.cellBoxHeight (s : State) (p : Profile) : Nat :=
  p.cellHeight + p.captionGap + p.lines * (s.glyphSetOf p.glyphSet).lineHeight

/-! ## The check log (R197, R198) -/

/-- An uncorrectable error is logged when the log is unlocked: its record is taken, the log becomes locked and INTEGRITY
is raised (R198). -/
def State.logUncorrectable (s : State) (loc : CheckLoc) : State :=
  if s.check.locked then s
  else (s.setCheck { s.check with uncorrectable := some loc, locked := true }).raise .integrity

/-- A correctable error is logged when the log is unlocked: an empty record takes it, the count rises by one up to 255,
and INTEGRITY is raised (R197). -/
def State.logCorrectable (s : State) (loc : CheckLoc) : State :=
  if s.check.locked then s
  else
    (s.setCheck { s.check with
      correctable := if s.check.correctable = none then some loc else s.check.correctable
      count := if s.check.count = 255#8 then 255#8 else s.check.count + 1#8 }).raise .integrity

/-- The places of some area are written anew: no correctable error stands there any longer (R197). -/
def State.rewritten (s : State) (area : CheckLoc → Bool) : State :=
  s.setCheck { s.check with standing := s.check.standing.filter fun l => !area l }

/-- A correctable error found by a read stands until its granule is next written (R197). -/
def State.keepStanding (s : State) (loc : CheckLoc) : State :=
  if loc ∈ s.check.standing then s else s.setCheck { s.check with standing := s.check.standing ++ [loc] }

/-- Correctable errors of a number of reads of one place are logged (R197). -/
def State.logCorrectableTimes (s : State) (loc : CheckLoc) (n : Nat) : State :=
  match n with
  | 0 => s
  | n + 1 => (s.logCorrectable loc).logCorrectableTimes loc n

/-- A work that reads a place where an error stands finds it again as often as it reads the granule: a free number of times,
drawn anew each time (R197; assumption 51). -/
def State.findOne (s : State) (loc : CheckLoc) : State :=
  (s.setCheck { s.check with finds := s.check.finds + 1 }).logCorrectableTimes loc (Config.foundAgain s.check.finds)

/-- A completed work that reads some places finds again the correctable errors that stand there, in the order in which they
were first found (R197; assumption 51). -/
def State.findAgain (s : State) (reads : CheckLoc → Bool) : State :=
  (s.check.standing.filter reads).foldl State.findOne s

/-! ## Granules (R196) -/

/-- What card memory holds of a content that is written from its start in whole granules of 8 bytes: the content, its last
granule filled out with zero bytes (R196). -/
def wholeGranules (bs : List Byte) : List Byte := bs ++ List.replicate ((8 - bs.length % 8) % 8) 0#8

/-! ## Rectangles (R52) -/

/-- The intersection of two rectangles; an empty one has width or height 0 (R52). -/
def rectMeet (p q : Rect) : Rect :=
  let x := max p.x q.x
  let y := max p.y q.y
  ⟨x, y, (min (p.x + p.w) (q.x + q.w) - x).toNat, (min (p.y + p.h) (q.y + q.h) - y).toNat⟩

/-- Whether a rectangle holds no pixel (R52). -/
def rectEmpty (r : Rect) : Bool := r.w == 0 || r.h == 0

/-- Whether a rectangle holds a pixel (R1, R52). -/
def rectHas (r : Rect) (x y : Int) : Bool := decide (r.x ≤ x ∧ x < r.x + r.w ∧ r.y ≤ y ∧ y < r.y + r.h)

end Sys2Proof.Machine
end

