-- ==== Sys2Proof/Machine/Store.lean ====
section
/-! DEFINITION. The Tile Store's operations (chapter 5): keys and sets, lookups, scratch pools, the build queue, fit
records on cells, release, damage, and emptying by barrier orders. -/

namespace Sys2Proof.Machine

/-- The reference of the tile at a place of card memory; absent at a place of another area. -/
def locTileRef (l : CheckLoc) : Option TileRef :=
  match l with
  | .storeTile i w => some (.store i w)
  | .scratchTile p i => some (.scratch p i)
  | .band _ | .glyph _ _ => none

/-! ## Slots and sets -/

/-- The other way of a set. -/
def otherWay (w : Way) : Way :=
  match w with
  | .w0 => .w1
  | .w1 => .w0

/-- A way of a set. -/
def TileSet.way (t : TileSet) (w : Way) : StoreSlot :=
  match w with
  | .w0 => t.way0
  | .w1 => t.way1

/-- A set with another slot in one way. -/
def TileSet.setWay (t : TileSet) (w : Way) (x : StoreSlot) : TileSet :=
  match w with
  | .w0 => { t with way0 := x }
  | .w1 => { t with way1 := x }

/-- Both ways of a set changed alike; the LRU mark is kept. -/
def TileSet.mapWays (t : TileSet) (f : StoreSlot → StoreSlot) : TileSet := ⟨f t.way0, f t.way1, t.lru⟩

/-- The slot of a set and way. -/
def TileStore.slot (t : TileStore) (i : Fin 128) (w : Way) : StoreSlot := t.sets[i].way w

/-- The store with another set at `i`. -/
def TileStore.setSet (t : TileStore) (i : Fin 128) (x : TileSet) : TileStore :=
  { t with sets := t.sets.set i.val x i.isLt }

/-- The store with another slot at a set and way. -/
def TileStore.setSlot (t : TileStore) (i : Fin 128) (w : Way) (x : StoreSlot) : TileStore :=
  t.setSet i (t.sets[i].setWay w x)

/-- The scratch pool of a sheet slot. -/
def TileStore.pool (t : TileStore) (p : SheetSlot) : ScratchPool :=
  match p with
  | .a => t.poolA
  | .b => t.poolB

/-- The store with another scratch pool for a sheet slot. -/
def TileStore.setPool (t : TileStore) (p : SheetSlot) (x : ScratchPool) : TileStore :=
  match p with
  | .a => { t with poolA := x }
  | .b => { t with poolB := x }

/-- The store with another scratch slot. -/
def TileStore.setScratch (t : TileStore) (p : SheetSlot) (i : Fin 64) (x : ScratchSlot) : TileStore :=
  t.setPool p { t.pool p with slots := (t.pool p).slots.set i.val x i.isLt }

/-- The state with one store slot changed. -/
def State.mapSlot (s : State) (i : Fin 128) (w : Way) (f : StoreSlot → StoreSlot) : State :=
  s.setStore (s.store.setSlot i w (f (s.store.slot i w)))

/-- The state with one scratch slot changed. -/
def State.mapScratch (s : State) (p : SheetSlot) (i : Fin 64) (f : ScratchSlot → ScratchSlot) : State :=
  s.setStore (s.store.setScratch p i (f (s.store.pool p).slots[i]))

/-- Whether a holder set is empty (R93). -/
def Holders.none (h : Holders) : Bool := !h.a && !h.b

/-- Whether a sheet slot is a holder. -/
def Holders.has (h : Holders) (sl : SheetSlot) : Bool :=
  match sl with
  | .a => h.a
  | .b => h.b

/-- A sheet slot joins a holder set; a holder is not added twice (R93). -/
def Holders.join (h : Holders) (sl : SheetSlot) : Holders :=
  match sl with
  | .a => { h with a := true }
  | .b => { h with b := true }

/-- A sheet slot leaves a holder set (R93). -/
def Holders.leave (h : Holders) (sl : SheetSlot) : Holders :=
  match sl with
  | .a => { h with a := false }
  | .b => { h with b := false }

/-- The set of a key (R92). -/
def keySet (k : TileKey) : Fin 128 := Fin.ofNat 128 (k.subject + 16 * k.profile.val)

/-- Whether a slot is FILLING or READY with a key, which is what a search finds (R96). -/
def StoreSlot.answers (x : StoreSlot) (k : TileKey) : Bool :=
  (x.state == .filling || x.state == .ready) && x.key == some k

/-- The way of a set that a search for a key finds (R96). -/
def TileSet.search (t : TileSet) (k : TileKey) : Option Way :=
  if t.way0.answers k then some .w0 else if t.way1.answers k then some .w1 else none

/-- The victim of a miss in NORMAL mode; absent when both ways have holders (R98). -/
def TileSet.victim (t : TileSet) : Option Way :=
  if t.way0.state = .empty then some .w0
  else if t.way1.state = .empty then some .w1
  else if (t.way t.lru).holders.none then some t.lru
  else if (t.way (otherWay t.lru)).holders.none then some (otherWay t.lru)
  else none

/-! ## Lookups (R95 to R100) -/

/-- The answer to a lookup: the tile reference, and the fit record when it names a READY slot (R95). -/
structure LookupAnswer where
  ref : TileRef
  fit : Option FitRecord
deriving DecidableEq, Repr

/-- A build is appended to the build queue (R102). -/
def State.appendBuild (s : State) (ref : TileRef) (k : TileKey) (src : Source) : State :=
  s.setBuilder { s.builder with queue := s.builder.queue ++ [⟨ref, k, src⟩] }

/-- A sheet's pending-build count rises by one (R108). -/
def State.raisePending (s : State) (sl : SheetSlot) : State :=
  s.mapSheet sl fun sh => { sh with pendingBuilds := sh.pendingBuilds + 1 }

/-- The lowest-numbered EMPTY slot of a pool. A pool does not run out (R100); slot 0 stands for the case that cannot
arise. -/
def ScratchPool.lowestEmpty (p : ScratchPool) : Fin 64 :=
  ((List.finRange 64).find? fun i => p.slots[i].state == .empty).getD 0

/-- The scratch slot that a pool's directory holds for a key (R100). -/
def ScratchPool.find (p : ScratchPool) (k : TileKey) : Option (Fin 64) :=
  (p.directory.find? fun e => e.1 == k).map (·.2)

/-- A lookup in a sheet's scratch pool (R100). -/
def State.scratchLookup (s : State) (sl : SheetSlot) (k : TileKey) (src : Source) : State × LookupAnswer :=
  let pool := s.store.pool sl
  match pool.find k with
  | some i =>
    if pool.slots[i].state = .ready then (s, ⟨.scratch sl i, pool.slots[i].fit⟩)
    else (s.raisePending sl, ⟨.scratch sl i, none⟩)
  | none =>
    let i := pool.lowestEmpty
    let pool' : ScratchPool :=
      { slots := pool.slots.set i.val ⟨.filling, some k, [], none, false⟩ i.isLt
        directory := pool.directory ++ [(k, i)] }
    (((s.setStore (s.store.setPool sl pool')).appendBuild (.scratch sl i) k src).raisePending sl, ⟨.scratch sl i, none⟩)

/-- A lookup that finds a FILLING or READY way: a hit, which sets the LRU mark in NORMAL mode alone (R96, R99), or a
join (R97). -/
def State.hitOrJoin (s : State) (sl : SheetSlot) (k : TileKey) (w : Way) : State × LookupAnswer :=
  let i := keySet k
  let x := s.store.slot i w
  let s1 := s.mapSlot i w fun x => { x with holders := x.holders.join sl }
  if x.state = .ready then
    let s2 := if s.store.mode = .normal then
        s1.setStore (s1.store.setSet i { s1.store.sets[i] with lru := otherWay w })
      else s1
    (s2, ⟨.store i w, x.fit⟩)
  else (s1.raisePending sl, ⟨.store i w, none⟩)

/-- A miss that makes a store way FILLING: its old tile and fit record are lost, the sheet is its one holder, the LRU
mark names the other way, and a build is queued (R98). -/
def State.fillWay (s : State) (sl : SheetSlot) (k : TileKey) (src : Source) (w : Way) : State × LookupAnswer :=
  let i := keySet k
  let filled : StoreSlot := ⟨.filling, some k, Holders.join ⟨false, false⟩ sl, [], none, false⟩
  let set' := { s.store.sets[i].setWay w filled with lru := otherWay w }
  (((s.setStore (s.store.setSet i set')).appendBuild (.store i w) k src).raisePending sl, ⟨.store i w, none⟩)

/-- A lookup for a key on behalf of a sheet, under the store mode (R95 to R100). -/
def State.lookup (s : State) (sl : SheetSlot) (k : TileKey) (src : Source) : State × LookupAnswer :=
  match s.store.mode with
  | .bypass => s.scratchLookup sl k src
  | .frozen =>
    match s.store.sets[keySet k].search k with
    | some w => s.hitOrJoin sl k w
    | none => s.scratchLookup sl k src
  | .normal =>
    match s.store.sets[keySet k].search k with
    | some w => s.hitOrJoin sl k w
    | none =>
      match s.store.sets[keySet k].victim with
      | some w => s.fillWay sl k src w
      | none => s.scratchLookup sl k src

/-! ## Fit records on cells (R89, R90) -/

/-- A cell receives a fit record: its fit results are replaced and the notes it does not carry join (R89, R90). -/
def Cell.receiveFit (c : Cell) (f : FitRecord) : Cell := { c with fit := some f, notes := c.notes ||| f.notes }

/-- The counts that a fit record adds when a cell receives it: one for each note the cell does not carry (R89, R90). -/
def Cell.fitCounts (c : Cell) (f : FitRecord) : Counts := countsOfNotes (f.notes &&& ~~~c.notes)

/-- The sum of counts over a list. -/
def sumCounts (cs : List Counts) : Counts := cs.foldl Counts.add Counts.zero

/-- Whether a cell carries a tile reference. -/
def Cell.uses (c : Cell) (ref : TileRef) : Bool := c.ref == some ref

/-- Every cell of a sheet that carries a reference receives a fit record, and the notes are counted (R89). -/
def State.deliverFit (s : State) (sl : SheetSlot) (ref : TileRef) (f : FitRecord) : State :=
  match s.sheet sl with
  | none => s
  | some sh =>
    let added := sumCounts ((sh.cells.filter fun c => c.uses ref).map fun c => c.fitCounts f)
    (s.setSheet sl (some { sh with cells := sh.cells.map fun c => if c.uses ref then c.receiveFit f else c })).addCounts sl
      added

/-- The key of a cell's tile (R64). -/
def Cell.key (c : Cell) : TileKey := ⟨c.subject, c.profile, c.serial⟩

/-! ## Release (R101, R107, R109) -/

/-- A store slot after a sheet leaves its holder set. A set that becomes empty acts by the slot's state: FILLING and
CONDEMNED become EMPTY, READY stays READY (R93). -/
def StoreSlot.leave (x : StoreSlot) (sl : SheetSlot) : StoreSlot :=
  let h := x.holders.leave sl
  if x.holders.has sl && h.none && (x.state == .filling || x.state == .condemned) then StoreSlot.blank
  else { x with holders := h }

/-- Whether the build of a reference is cut when a sheet is released: its scratch pool is emptied, or its FILLING slot
loses its last holder (R107). -/
def TileStore.cutBy (t : TileStore) (sl : SheetSlot) (ref : TileRef) : Bool :=
  match ref with
  | .store i w =>
    let x := t.slot i w
    x.state == .filling && x.holders.has sl && (x.holders.leave sl).none
  | .scratch p _ => p == sl

/-- The current build is cut: the Builder becomes IDLE at once, and the build's unit goes on at the port until its reads
in flight have completed (R107). -/
def State.cutCurrent (s : State) : State :=
  match s.builder.current with
  | none => s
  | some b =>
    let s1 := s.setBuilder { s.builder with current := none }
    if b.portDone then s1 else s1.discardUnit .build

/-- The store releases a sheet: it leaves every holder set, its scratch pool is emptied, the builds that lose their last
claim are cut, and its pending-build count is cleared (R101, R107, R109). -/
def State.releaseSheet (s : State) (sl : SheetSlot) : State :=
  let cut := s.store.cutBy sl
  let s1 := match s.builder.current with
    | some b => if cut b.entry.ref then s.cutCurrent else s
    | none => s
  let s2 := s1.setBuilder { s1.builder with queue := s1.builder.queue.filter fun e => !cut e.ref }
  let store' := { s.store with sets := s.store.sets.map fun (t : TileSet) => t.mapWays fun x => x.leave sl }
  (s2.setStore (store'.setPool sl ScratchPool.blank)).mapSheet sl fun sh => { sh with pendingBuilds := 0 }

/-! ## Builds ending (R105, R106, R108) -/

/-- A sheet's pending-build count falls by one; a FILLING sheet whose count reaches 0 becomes READY (R108, R172). -/
def Sheet.lowerPending (sh : Sheet) : Sheet :=
  let n := sh.pendingBuilds - 1
  { sh with pendingBuilds := n, state := if sh.state = .filling ∧ n = 0 then .ready else sh.state }

/-- The sheet slots that hold a reference: the holders of a store slot, or the owner of a scratch slot. -/
def TileStore.holdersOf (t : TileStore) (ref : TileRef) : List SheetSlot :=
  match ref with
  | .store i w => [SheetSlot.a, SheetSlot.b].filter fun sl => (t.slot i w).holders.has sl
  | .scratch p _ => [p]

/-- The completion of a build, in one step: its slot becomes READY with the tile and the fit record, the cells of every
holder receive the record, and each holder's pending-build count falls (R105). -/
def State.finishBuild (s : State) (e : BuildEntry) (f : FitRecord) (tile : List Byte) (poisoned : Bool) : State :=
  let s1 := match e.ref with
    | .store i w =>
      s.mapSlot i w fun x => { x with state := .ready, key := some e.key, tile := tile, fit := some f, poisoned := poisoned }
    | .scratch p i =>
      s.mapScratch p i fun _ => ⟨.ready, some e.key, tile, some f, poisoned⟩
  (s.store.holdersOf e.ref).foldl (fun s sl => (s.deliverFit sl e.ref f).mapSheet sl Sheet.lowerPending) s1

/-- A cell whose build failed becomes a PLACEHOLDER with no tile reference and the note PICTURE_UNREADABLE (R106). -/
def Cell.unreadable (c : Cell) : Cell :=
  { c with kind := .placeholder, ref := none, notes := c.notes ||| noteIf .pictureUnreadable true }

/-- The cells of a sheet that carried a reference become placeholders, each counted, and the sheet's pending-build count
falls (R106). -/
def State.failCells (s : State) (sl : SheetSlot) (ref : TileRef) : State :=
  match s.sheet sl with
  | none => s
  | some sh =>
    let n := (sh.cells.filter fun c => c.uses ref).length
    let cells := sh.cells.map fun (c : Cell) => if c.uses ref then c.unreadable else c
    (s.setSheet sl (some (Sheet.lowerPending { sh with cells := cells }))).addCounts sl { Counts.zero with placeholders := n }

/-- The failure of a build, in one step (R106). -/
def State.failBuild (s : State) (e : BuildEntry) : State :=
  let s1 := match e.ref with
    | .store i w => s.mapSlot i w fun _ => StoreSlot.blank
    | .scratch p i =>
      let pool := s.store.pool p
      s.setStore (s.store.setPool p
        { slots := pool.slots.set i.val ScratchSlot.blank i.isLt
          directory := pool.directory.filter fun d => d.2 != i })
  (s.store.holdersOf e.ref).foldl (fun s sl => s.failCells sl e.ref) s1

/-! ## Damage (R110 to R113) -/

/-- A READY sheet whose pending-build count is above 0 returns to FILLING (R111, R172). -/
def Sheet.refill (sh : Sheet) : Sheet :=
  { sh with state := if sh.state = .ready ∧ 0 < sh.pendingBuilds then .filling else sh.state }

/-- A sheet replaces a reference: it leaves the slot's holder set, a new lookup is made with the key and the source
description of the first cell that carries the reference, and every such cell takes the answer (R111). -/
def State.replaceRef (s : State) (sl : SheetSlot) (i : Fin 128) (w : Way) : State :=
  match (s.sheet sl).bind fun sh => sh.cells.find? fun c => c.uses (.store i w) with
  | none => s
  | some c =>
    match c.source with
    | none => s
    | some src =>
      let s1 := s.mapSlot i w fun x => x.leave sl
      let r := s1.lookup sl c.key src
      let s2 := r.1.mapSheet sl fun sh =>
        { sh with cells := sh.cells.map fun d => if d.uses (.store i w) then { d with ref := some r.2.ref } else d }
      let s3 := match r.2.fit with
        | some f => s2.deliverFit sl r.2.ref f
        | none => s2
      s3.mapSheet sl Sheet.refill

/-- Whether a sheet replaces a condemned reference at once: it is in PLANNING, FILLING or READY (R111). -/
def Sheet.replacesAtOnce (sh : Sheet) : Bool :=
  sh.state == .planning || sh.state == .filling || sh.state == .ready

/-- An uncorrectable error in a store slot: it becomes CONDEMNED, and its holders in PLANNING, FILLING or READY replace
their reference (R110, R111). A slot already CONDEMNED is not changed. -/
def State.condemn (s : State) (i : Fin 128) (w : Way) : State :=
  if (s.store.slot i w).state = .condemned then s
  else
    let holders := s.store.holdersOf (.store i w)
    let s1 := s.mapSlot i w fun x => { x with state := .condemned }
    holders.foldl (fun s sl => if s.sheetIs sl Sheet.replacesAtOnce then s.replaceRef sl i w else s) s1

/-- An uncorrectable error in a scratch slot marks it REBUILD; its key and fit record are kept (R112). -/
def State.markRebuild (s : State) (p : SheetSlot) (i : Fin 64) : State :=
  s.mapScratch p i fun x => { x with state := .rebuild }

/-- The references of a sheet's cells, each once, in the order of the first cell that carries it (R113). -/
def Sheet.refs (sh : Sheet) : List TileRef :=
  sh.cells.foldl (fun acc c => match c.ref with
    | some r => if r ∈ acc then acc else acc ++ [r]
    | none => acc) []

/-- A REBUILD scratch slot is sent to building with the key and source of its first cell (R113). -/
def State.rebuildScratch (s : State) (sl p : SheetSlot) (i : Fin 64) : State :=
  match (s.sheet sl).bind fun sh => sh.cells.find? fun c => c.uses (.scratch p i) with
  | none => s
  | some c =>
    match c.source with
    | none => s
    | some src =>
      ((s.mapScratch p i fun x => { x with state := .filling }).appendBuild (.scratch p i) c.key src).raisePending sl

/-- One reference of a sheet at its second pass: a CONDEMNED slot is replaced, a REBUILD slot is rebuilt, any other is
kept (R113). -/
def State.renewRef (s : State) (sl : SheetSlot) (ref : TileRef) : State :=
  match ref with
  | .store i w => if (s.store.slot i w).state = .condemned then s.replaceRef sl i w else s
  | .scratch p i => if (s.store.pool p).slots[i].state = .rebuild then s.rebuildScratch sl p i else s

/-- Every reference of a sheet at its second pass (R113). -/
def State.renewRefs (s : State) (sl : SheetSlot) : State :=
  match s.sheet sl with
  | none => s
  | some sh => sh.refs.foldl (fun s r => s.renewRef sl r) s

/-! ## Emptying by barrier orders (R40, R42, R43, R114) -/

/-- A slot emptied when it belongs to the group, is not EMPTY and has no holder (R114). -/
def StoreSlot.emptied (group : StoreSlot → Bool) (x : StoreSlot) : Bool :=
  group x && x.state != .empty && x.holders.none

/-- A group of store slots, by set and by slot. -/
abbrev SlotGroup := Fin 128 → StoreSlot → Bool

/-- Empties a group of store slots; LRU marks, mode and scratch pools are kept (R114). -/
def TileStore.emptyGroup (t : TileStore) (group : SlotGroup) : TileStore :=
  { t with sets := Vector.ofFn fun i => t.sets[i].mapWays fun y => if y.emptied (group i) then StoreSlot.blank else y }

/-- The number of slots a group emptying empties (R114). -/
def TileStore.groupSize (t : TileStore) (group : SlotGroup) : Nat :=
  ((List.finRange 128).map fun i =>
    bit (t.sets[i].way0.emptied (group i)) + bit (t.sets[i].way1.emptied (group i))).sum

/-- The slots whose key names a profile, in any set (R40). -/
def ofProfile (p : Fin 16) : SlotGroup := fun _ x =>
  match x.key with
  | some k => k.profile == p
  | none => false

/-- The eight sets of a subject (R42). -/
def subjectSets (n : Nat) (i : Fin 128) : Bool := (List.finRange 16).any fun p => keySet ⟨n, p, 0#8⟩ == i

/-- The slots of a subject's eight sets whose key names the subject (R42). -/
def ofSubject (n : Nat) : SlotGroup := fun i x =>
  subjectSets n i &&
    match x.key with
    | some k => k.subject == n
    | none => false

/-- Every slot (R43). -/
def everySlot : SlotGroup := fun _ _ => true

end Sys2Proof.Machine
end

