-- ==== Sys2Proof/Machine/Captions.lean ====
section
/-! DEFINITION. Captions and glyph sets (chapter 6): the map of a glyph load, finding glyphs, and the fits of captions and
banners that a sheet gets when it enters COMPOSING. -/

namespace Sys2Proof.Machine

/-! ## Glyph maps (R120) -/

/-- A glyph joins a map: it replaces the glyph of its code, or is added (R120). -/
def addGlyph (m : List Glyph) (g : Glyph) : List Glyph :=
  if m.any fun h => h.code == g.code then m.map fun h => if h.code == g.code then g else h else m ++ [g]

/-- The map of a block's glyph records: the last record given for each code (R120). -/
def glyphMap (gs : List Glyph) : List Glyph := gs.foldl addGlyph []

/-- Whether a code appears twice in a block (R120). -/
def hasDuplicate (gs : List Glyph) : Bool := decide (¬ (gs.map (·.code)).Nodup)

/-- The records whose bytes lie in the block's granule of bytes 16 to 23: the first, and the second when the first has
no bitmap (R201, R215). -/
def poisonFirst (gs : List Glyph) : List Glyph :=
  match gs with
  | [] => []
  | [g] => [{ g with poisoned := true }]
  | g :: h :: rest => { g with poisoned := true } :: { h with poisoned := h.poisoned || g.width == 0 } :: rest

/-- The length of a glyph block: its header and its records, each its head and its bitmap (R118, R215). -/
def blockLength (lineHeight : Nat) (gs : List Glyph) : Nat := 16 + (gs.map fun g => 4 + g.width * lineHeight).sum

/-- The glyph set of a load's header and records, its map in place in the load area, where the block's last granule is filled
out with zero bytes (R120, R196). -/
def loadedSet (bs : List Byte) (gs : List Glyph) : GlyphSet :=
  ⟨u8 bs 0, codeAt bs 2, codeAt bs 4, codeAt bs 6, glyphMap gs, wholeGranules (bs.take (blockLength (u8 bs 0) gs))⟩

/-! ## Finding a glyph (R122, R131) -/

/-- Marks a glyph of a set damaged; nothing else of the set changes (R131). -/
def State.damageGlyph (s : State) (g : Fin 3) (code : Code) : State :=
  match s.glyphs[g] with
  | none => s
  | some set =>
    let map' := set.map.map fun (h : Glyph) => if h.code == code then { h with damaged := true } else h
    s.setGlyphs (s.glyphs.set g.val (some { set with map := map' }) g.isLt)

/-- The glyph of a code in a set's map that is not damaged. -/
def GlyphSet.find (set : GlyphSet) (code : Code) : Option Glyph :=
  set.map.find? fun h => h.code == code && !h.damaged

/-- A read of a code's glyph in fitting. A poisoned glyph is found uncorrectable: it is logged, marked damaged and counts
as missing (R131, R201, R202). -/
def State.readGlyph (s : State) (g : Fin 3) (code : Code) : State × Option Glyph :=
  match (s.glyphSetOf g).find code with
  | none => (s, none)
  | some h => if h.poisoned then ((s.logUncorrectable (.glyph g code)).damageGlyph g code, none) else (s, some h)

/-- The state with the granules of a code's glyph poisoned: by it the model asks which glyphs a fit reads. -/
def State.poisonGlyph (s : State) (g : Fin 3) (code : Code) : State :=
  match s.glyphs[g] with
  | none => s
  | some set =>
    let map' := set.map.map fun (h : Glyph) => if h.code == code then { h with poisoned := true } else h
    s.setGlyphs (s.glyphs.set g.val (some { set with map := map' }) g.isLt)

/-- What fitting a text has found so far: the glyphs to draw, and whether any code was substituted or skipped. -/
structure Run where
  glyphs : List DrawnGlyph
  substituted : Bool
deriving DecidableEq, Repr

/-- The glyph used for a code: its own, the substitute, or none (R122). -/
def State.lookupGlyph (s : State) (g : Fin 3) (code : Code) : State × Run :=
  match s.readGlyph g code with
  | (s1, some h) => (s1, ⟨[⟨h.code, h.advance⟩], false⟩)
  | (s1, none) =>
    match s1.readGlyph g (s1.glyphSetOf g).substitute with
    | (s2, some h) => (s2, ⟨[⟨h.code, h.advance⟩], true⟩)
    | (s2, none) => (s2, ⟨[], true⟩)

/-- The run of a list of codes (R124), looked up one after another from the first: that order is a DESIGN CHOICE (assumption
52). -/
def State.lookupRun (s : State) (g : Fin 3) (codes : List Code) : State × Run :=
  match codes with
  | [] => (s, ⟨[], false⟩)
  | c :: rest =>
    let r := s.lookupGlyph g c
    let t := State.lookupRun r.1 g rest
    (t.1, ⟨r.2.glyphs ++ t.2.glyphs, r.2.substituted || t.2.substituted⟩)

/-- The width of a run: the sum of the advances of its glyphs (R124). -/
def runWidth (gs : List DrawnGlyph) : Nat := (gs.map (·.advance)).sum

/-! ## Clipping (R126) -/

/-- Glyphs removed one at a time from the end of a line, given last glyph first, until its width is at most a limit. -/
def trimReversed (gs : List DrawnGlyph) (limit : Nat) : List DrawnGlyph :=
  match gs with
  | [] => []
  | g :: rest => if runWidth (g :: rest) ≤ limit then g :: rest else trimReversed rest limit

/-- A line after clipping: its glyphs, and whether it was clipped and whether the ellipsis was substituted or skipped. -/
structure ClippedLine where
  glyphs : List DrawnGlyph
  clipped : Bool
  substituted : Bool
deriving DecidableEq, Repr

/-- A line wider than its limit loses glyphs from its end until the rest and the ellipsis fit, and takes the ellipsis;
when the ellipsis alone is too wide the line becomes empty (R126). That a substituted ellipsis which is too wide, and so is
not drawn, raises GLYPH_SUBSTITUTED is a DESIGN CHOICE (assumption 53). -/
def State.clipLine (s : State) (g : Fin 3) (gs : List DrawnGlyph) (limit : Nat) : State × ClippedLine :=
  if runWidth gs ≤ limit then (s, ⟨gs, false, false⟩)
  else
    let e := s.lookupGlyph g (s.glyphSetOf g).ellipsis
    let w := runWidth e.2.glyphs
    if limit < w then (e.1, ⟨[], true, e.2.substituted⟩)
    else (e.1, ⟨(trimReversed gs.reverse (limit - w)).reverse ++ e.2.glyphs, true, e.2.substituted⟩)

/-! ## Caption and banner fits (R123 to R128) -/

/-- A fitted line centred in a cell of a width (R127). -/
def centredLine (cellWidth : Nat) (gs : List DrawnGlyph) : FitLine := ⟨gs, runWidth gs, (cellWidth - runWidth gs) / 2⟩

/-- The notes that a fit raises. -/
def fitNotes (clipped substituted : Bool) : Notes := noteIf .captionClipped clipped ||| noteIf .glyphSubstituted substituted

/-- The first and second part of a name under a name order (R124). -/
def nameParts (o : NameOrder) (given family : List Code) : List Code × List Code :=
  match o with
  | .givenFirst => (given, family)
  | .familyFirst => (family, given)

/-- The caption fit of a cell and the notes it raises (R124 to R127). A space looked up for the one-line width and dropped by
the split into two lines raises no GLYPH_SUBSTITUTED, a DESIGN CHOICE (assumption 39). The order of the lookups, first part,
second part, space and then the ellipsis of each clipped line, is a DESIGN CHOICE (assumption 52). -/
def State.fitCaption (s : State) (c : Cell) : State × List FitLine × Notes :=
  let p := s.profileOf c.profile
  let g := p.glyphSet
  let parts := nameParts p.nameOrder c.given c.family
  if parts.1 = [] ∧ parts.2 = [] then (s, [], 0#11)
  else
    let one := s.lookupRun g parts.1
    let two := one.1.lookupRun g parts.2
    let both := parts.1 ≠ [] ∧ parts.2 ≠ []
    let sp := if both then two.1.lookupGlyph g (two.1.glyphSetOf g).space else (two.1, ⟨[], false⟩)
    let line := one.2.glyphs ++ sp.2.glyphs ++ two.2.glyphs
    if p.cellWidth < runWidth line ∧ p.lines = 2 ∧ both then
      let l0 := sp.1.clipLine g one.2.glyphs p.cellWidth
      let l1 := l0.1.clipLine g two.2.glyphs p.cellWidth
      (l1.1, [centredLine p.cellWidth l0.2.glyphs, centredLine p.cellWidth l1.2.glyphs],
       fitNotes (l0.2.clipped || l1.2.clipped)
         (one.2.substituted || two.2.substituted || l0.2.substituted || l1.2.substituted))
    else
      let l := sp.1.clipLine g line p.cellWidth
      (l.1, [centredLine p.cellWidth l.2.glyphs],
       fitNotes l.2.clipped (one.2.substituted || two.2.substituted || sp.2.substituted || l.2.substituted))

/-- The fit of a banner's text and the notes it raises (R128). -/
def State.fitBanner (s : State) (f : BannerFrame) : State × Option FitLine × Notes :=
  if f.text = [] then (s, none, 0#11)
  else
    let r := s.lookupRun f.set f.text
    let l := r.1.clipLine f.set r.2.glyphs f.boxWidth
    let w := runWidth l.2.glyphs
    let offset := match f.align with
      | .left => 0
      | .centre => (f.boxWidth - w) / 2
      | .right => f.boxWidth - w
    (l.1, some ⟨l.2.glyphs, w, offset⟩, fitNotes l.2.clipped (r.2.substituted || l.2.substituted))

/-- The fits of a sheet's cells in order: the new cells, and the counts of the notes they did not carry before (R123).
EMPTY cells are not fitted. -/
def State.fitCells (s : State) (cells : List Cell) : State × List Cell × List Counts :=
  match cells with
  | [] => (s, [], [])
  | c :: rest =>
    if c.kind = .empty then
      let t := State.fitCells s rest
      (t.1, c :: t.2.1, t.2.2)
    else
      let r := s.fitCaption c
      let t := State.fitCells r.1 rest
      (t.1, { c with caption := r.2.1, notes := c.notes ||| r.2.2 } :: t.2.1,
       countsOfNotes (r.2.2 &&& ~~~c.notes) :: t.2.2)

/-- The fits of a sheet's banners in order, with the counts of new notes (R123, R128). -/
def State.fitFrames (s : State) (frames : List Frame) : State × List Frame × List Counts :=
  match frames with
  | [] => (s, [], [])
  | .banner f :: rest =>
    let r := s.fitBanner f
    let t := State.fitFrames r.1 rest
    (t.1, .banner { f with line := r.2.1, notes := f.notes ||| r.2.2 } :: t.2.1,
     countsOfNotes (r.2.2 &&& ~~~f.notes) :: t.2.2)
  | f :: rest =>
    let t := State.fitFrames s rest
    (t.1, f :: t.2.1, t.2.2)

/-- The caption and banner fits of an attempt, made in one step at the entry to COMPOSING (R123). -/
def State.fitSheet (s : State) (sl : SheetSlot) : State :=
  match s.sheet sl with
  | none => s
  | some sh =>
    let cs := s.fitCells sh.cells
    let fs := cs.1.fitFrames sh.frames
    (fs.1.mapSheet sl fun sh => { sh with cells := cs.2.1, frames := fs.2.1 }).addCounts sl
      (sumCounts (cs.2.2 ++ fs.2.2))

end Sys2Proof.Machine
end

