-- ==== Sys2Proof/Machine/Paint.lean ====
section
/-! DEFINITION. What a band holds (chapter 7, R129 and R130): band geometry, the paintings of a band in paint order, the
pixels they give, and the poisoned granules they read. -/

namespace Sys2Proof.Machine

/-! ## Bands (R132) -/

/-- The number of bands of a sheet of a height (R132). -/
def bandCount (height : Nat) : Nat := (height + 63) / 64

/-- The line count of a band (R132). -/
def bandLines (height b : Nat) : Nat := min 64 (height - 64 * b)

/-- The rectangle of a band (R132). -/
def bandRect (t : Ticket) (b : Nat) : Rect := ⟨0, 64 * b, t.width, bandLines t.height b⟩

/-! ## Paintings -/

/-- One painting of a band, already confined to its rectangle, clip and band (R137). A tile carries the position of its
pixel (0, 0), its width, its bytes, and whether its first granule is poisoned; a glyph row carries the pen position, its
sheet row, its colour, its alpha values and the glyph it belongs to. -/
inductive PaintOp where
  | fill (area : Rect) (colour : Colour)
  | tile (area : Rect) (x y : Int) (width : Nat) (bytes : List Byte) (poisoned : Bool)
  | glyphRow (area : Rect) (pen row : Int) (colour : Colour) (alphas : List Byte) (set : Fin 3) (code : Code)
deriving DecidableEq, Repr

/-- A channel blended by an alpha value (R130). -/
def blendAlpha (fg bg : Byte) (a : Nat) : Byte := BitVec.ofNat 8 ((fg.toNat * a + bg.toNat * (255 - a) + 127) / 255)

/-- A colour blended by an alpha value, channel by channel (R130). -/
def blendColour (fg bg : Colour) (a : Nat) : Colour := ⟨blendAlpha fg.r bg.r a, blendAlpha fg.g bg.g a, blendAlpha fg.b bg.b a⟩

/-- Whether a painting covers a sheet pixel. -/
def PaintOp.covers (op : PaintOp) (x y : Int) : Bool :=
  match op with
  | .fill area _ => rectHas area x y
  | .tile area _ _ _ _ _ => rectHas area x y
  | .glyphRow area pen row _ alphas _ _ => rectHas area x y && decide (y = row ∧ pen ≤ x ∧ x < pen + alphas.length)

/-- The colour of a sheet pixel after a painting, from its colour before (R130, R138 to R141). -/
def PaintOp.apply (op : PaintOp) (x y : Int) (bg : Colour) : Colour :=
  if op.covers x y then
    match op with
    | .fill _ c => c
    | .tile _ tx ty w bytes _ => colourAt bytes (((y - ty).toNat * w + (x - tx).toNat) * 3)
    | .glyphRow _ pen _ c alphas _ _ => blendColour c bg (byteAt alphas (x - pen).toNat).toNat
  else bg

/-- The paintings of the rows of one glyph that lie in an area, from the top down (R129). The order of the rows, which
decides what a failing read finds already painted (R131), is a DESIGN CHOICE (assumption 45), and so is that a row in the
band is read and painted also where the area cuts all of it away in x (assumption 46). -/
def glyphOps (area : Rect) (g : Glyph) (lineHeight : Nat) (set : Fin 3) (pen top : Int) (colour : Colour) : List PaintOp :=
  if g.width = 0 then []
  else
    ((List.range lineHeight).filter fun (row : Nat) => decide (area.y ≤ top + row ∧ top + row < area.y + area.h)).map
      fun (row : Nat) => .glyphRow area pen (top + row) colour (slice g.alpha (row * g.width) g.width) set g.code

/-- The paintings of a line's glyphs in order, the pen moving by each advance (R127, R129). -/
def lineOps (area : Rect) (map : List Glyph) (lineHeight : Nat) (set : Fin 3) (pen top : Int) (colour : Colour)
    (gs : List DrawnGlyph) : List PaintOp :=
  match gs with
  | [] => []
  | g :: rest =>
    (match map.find? fun h => h.code == g.code with
      | some h => glyphOps area h lineHeight set pen top colour
      | none => []) ++
      lineOps area map lineHeight set (pen + g.advance) top colour rest

/-- The paintings of a cell's caption: line 0 before line 1, within the caption area, the clip and the band (R127, R129). -/
def State.captionOps (s : State) (band : Rect) (c : Cell) : List PaintOp :=
  let p := s.profileOf c.profile
  let set := s.glyphSetOf p.glyphSet
  let top : Int := c.rect.y + p.cellHeight + p.captionGap
  let area := rectMeet (rectMeet ⟨c.rect.x, top, p.cellWidth, p.lines * set.lineHeight⟩ c.clip) band
  c.caption.zipIdx.flatMap fun (l, i) =>
    lineOps area set.map set.lineHeight p.glyphSet (c.rect.x + l.offset) (top + i * set.lineHeight) p.captionColour l.glyphs

/-- The paintings of a banner's line (R128, R129, R141). -/
def State.bannerOps (s : State) (band : Rect) (f : BannerFrame) : List PaintOp :=
  let set := s.glyphSetOf f.set
  let area := rectMeet (rectMeet ⟨f.x, f.y, f.boxWidth, set.lineHeight⟩ f.clip) band
  match f.line with
  | none => []
  | some l => lineOps area set.map set.lineHeight f.set (f.x + l.offset) f.y f.colour l.glyphs

/-- The tile of a reference and whether its first granule is poisoned. -/
def TileStore.tileOf (t : TileStore) (ref : TileRef) : List Byte × Bool :=
  match ref with
  | .store i w => ((t.slot i w).tile, (t.slot i w).poisoned)
  | .scratch p i => ((t.pool p).slots[i].tile, (t.pool p).slots[i].poisoned)

/-- The part of a cell's tile area that is painted in a band (R139). -/
def State.tileArea (s : State) (band : Rect) (c : Cell) : Rect :=
  let p := s.profileOf c.profile
  rectMeet (rectMeet ⟨c.rect.x, c.rect.y, p.cellWidth, p.cellHeight⟩ c.clip) band

/-- The paintings of a cell: its tile area by its kind, then its caption (R139, R140). -/
def State.cellOps (s : State) (t : Ticket) (band : Rect) (c : Cell) : List PaintOp :=
  let p := s.profileOf c.profile
  let area := s.tileArea band c
  match c.kind with
  | .empty => [.fill area t.background]
  | .placeholder => .fill area p.placeholder :: s.captionOps band c
  | .portrait =>
    (match c.ref with
      | some r => [.tile area c.rect.x c.rect.y p.cellWidth (s.store.tileOf r).1 (s.store.tileOf r).2]
      | none => []) ++ s.captionOps band c

/-- The paintings of a frame placement by its kind (R137). -/
def State.frameOps (s : State) (t : Ticket) (band : Rect) (cells : List Cell) (f : Frame) : List PaintOp :=
  match f with
  | .rule r => [.fill (rectMeet (rectMeet r.rect r.clip) band) r.colour]
  | .banner b => s.bannerOps band b
  | .grid g => ((cells.drop g.firstCell).take g.cellCount).flatMap (s.cellOps t band)
  | .inset i => ((cells.drop i.cell).take 1).flatMap (s.cellOps t band)

/-! ## Glyphs found damaged in painting (R131) -/

/-- Whether a painting is a row of a glyph. -/
def PaintOp.isRowOf (op : PaintOp) (set : Fin 3) (code : Code) : Bool :=
  match op with
  | .glyphRow _ _ _ _ _ s c => s == set && c == code
  | _ => false

/-- The paintings without the rows of a glyph after its first `n`. -/
def keepFirstRows (set : Fin 3) (code : Code) (n : Nat) (ops : List PaintOp) : List PaintOp :=
  match ops with
  | [] => []
  | op :: rest =>
    if op.isRowOf set code then
      match n with
      | 0 => keepFirstRows set code 0 rest
      | n + 1 => op :: keepFirstRows set code n rest
    else op :: keepFirstRows set code n rest

/-- The paintings of band `b` less those a silenced glyph no longer makes: all its rows in bands below the one of the
failing read, and the rows after the read in that band (R131). -/
def silence (b : Nat) (ops : List PaintOp) (z : Silenced) : List PaintOp :=
  if z.band < b then keepFirstRows z.set z.code 0 ops
  else if z.band = b then keepFirstRows z.set z.code z.rowsPainted ops
  else ops

/-! ## The band (R137, R196) -/

/-- The paintings of band `b` of a sheet after the background fill, in paint order (R137). -/
def State.bandOps (s : State) (sh : Sheet) (t : Ticket) (b : Nat) : List PaintOp :=
  s.composer.silenced.foldl (silence b) (sh.frames.flatMap (s.frameOps t (bandRect t b) sh.cells))

/-- The pixels of a band: each starts at the background colour and takes the paintings in order (R137). -/
def bandPixels (t : Ticket) (b : Nat) (ops : List PaintOp) : List Byte :=
  (List.range (bandLines t.height b)).flatMap fun r =>
    (List.range t.width).flatMap fun x =>
      colourBytes (ops.foldl (fun c op => op.apply x (64 * b + r : Nat) c) t.background)

/-- The bytes that the painting of a band writes into its buffer: the pixels of its rows, the last granule filled out with
zero bytes (R196). -/
def bandBytes (t : Ticket) (b : Nat) (ops : List PaintOp) : List Byte := wholeGranules (bandPixels t b ops)

/-- Whether a painting writes a pixel of its band, which it does as a merge that reads a granule of the band (R196). -/
def PaintOp.merges (op : PaintOp) : Bool :=
  match op with
  | .fill area _ => !rectEmpty area
  | .tile area _ _ _ _ _ => !rectEmpty area
  | .glyphRow area pen row _ alphas _ _ => !rectEmpty (rectMeet area ⟨pen, row, alphas.length, 1⟩)

/-- Whether a painting writes into the granule of band bytes 0 to 7, pixels 0 to 2 of the band's first row, which it does
as a merge that reads the granule (R196). -/
def PaintOp.mergesFirst (op : PaintOp) (b : Nat) : Bool :=
  (List.range 3).any fun x => op.covers x (64 * b : Nat)

/-- Whether a painting reads tile bytes 0 to 7, pixels 0 to 2 of tile row 0, of a poisoned tile (R201). -/
def PaintOp.readsPoisonedTile (op : PaintOp) : Bool :=
  match op with
  | .tile area x y _ _ poisoned => poisoned && (List.range 3).any fun u => rectHas area (x + u) y
  | _ => false

/-- Whether the painting of a band reads a granule that every read finds uncorrectable, so that it cannot complete
(R196, R201, R202). -/
def paintingFails (bufferPoisoned : Bool) (b : Nat) (ops : List PaintOp) : Bool :=
  ops.any fun op => op.readsPoisonedTile || (bufferPoisoned && op.mergesFirst b)

end Sys2Proof.Machine
end

