-- ==== Sys2Proof/Machine/Output.lean ====
section
/-! DEFINITION. The band buffers and the Band Composer's moves (chapter 7), the Press Link's moves (sections 8.1 to 8.6)
and the Proof Writer's (section 8.8), as shared operations. -/

namespace Sys2Proof.Machine

/-! ## Band buffers and the Composer (R133 to R136, R144) -/

/-- The buffer of a band: X for an even index, Y for an odd one (R133). -/
def bufferFor (b : Nat) : BufferId := if b % 2 = 0 then .x else .y

/-- A band buffer. -/
def Composer.buf (c : Composer) (i : BufferId) : Buffer :=
  match i with
  | .x => c.bufX
  | .y => c.bufY

/-- The Composer with another band buffer. -/
def Composer.setBuf (c : Composer) (i : BufferId) (x : Buffer) : Composer :=
  match i with
  | .x => { c with bufX := x }
  | .y => { c with bufY := x }

/-- The state with one band buffer changed. -/
def State.mapBuf (s : State) (i : BufferId) (f : Buffer → Buffer) : State :=
  s.setComposer (s.composer.setBuf i (f (s.composer.buf i)))

/-- A buffer given back EMPTY, its tag cleared (R134). -/
def Buffer.emptied (b : Buffer) : Buffer := { b with state := .empty, tag := none }

/-- Byte `i` of a band buffer: those after the bytes listed are zero (R133, R211). -/
def Buffer.byte (x : Buffer) (i : Nat) : Byte := x.pixels.getD i 0#8

/-- `n` bytes of a band buffer from byte `i` on. -/
def Buffer.bytes (x : Buffer) (i n : Nat) : List Byte := slice (x.pixels.drop i ++ List.replicate n 0#8) 0 n

/-- A band buffer written with bytes from its first on; the bytes after them stay (R133, R196). -/
def Buffer.write (x : Buffer) (bs : List Byte) : Buffer := { x with pixels := bs ++ x.pixels.drop bs.length }

/-- A band buffer after the scrub: zero data with good check bits (R211). -/
def Buffer.scrubbed (x : Buffer) : Buffer := { x with pixels := [], poisoned := false }

/-- The Composer with both buffers scrubbed (R211). -/
def Composer.scrubbed (c : Composer) : Composer := { c with bufX := c.bufX.scrubbed, bufY := c.bufY.scrubbed }

/-- The Composer after an engine reset: IDLE, both buffers EMPTY with no tag, their pixels as earlier use left them (R133,
R146). -/
def Composer.afterReset (c : Composer) : Composer := ⟨.idle, none, 0, [], c.bufX.emptied, c.bufY.emptied⟩

/-- The Composer starts painting its next band when that band's buffer is EMPTY, which becomes FILLING with the band's
tag, and waits otherwise (R135, R136). The background fill is the first write of the painting: a pending BAND poison acts
on it, and any other fill leaves its granules good; no correctable error of the buffer stands any longer (R196, R197,
R201). -/
def State.paintNext (s : State) : State :=
  match s.composer.attempt with
  | none => s
  | some a =>
    match s.ticketOf a.slot with
    | none => s
    | some t =>
      let b := s.composer.nextBand
      let i := bufferFor b
      if (s.composer.buf i).state = .empty then
        let p := s.check.poison == .band
        let s1 := s.mapBuf i fun x =>
          { x with state := .filling, tag := some ⟨a, b, bandLines t.height b⟩, poisoned := p }
        let s2 := (s1.setComposer { s1.composer with state := .painting }).rewritten fun l => l == .band i
        if p then s2.setCheck { s2.check with poison := .none } else s2
      else s.setComposer { s.composer with state := .waiting }

/-- A WAITING Composer starts its painting when the buffer it waits for has become EMPTY (R135). -/
def State.kick (s : State) : State := if s.composer.state = .waiting then s.paintNext else s

/-- A buffer is given back EMPTY and the Composer may paint into it (R134 to R136). -/
def State.giveBack (s : State) (i : BufferId) : State := (s.mapBuf i Buffer.emptied).kick

/-- A buffer at the end of an attempt: emptied when it is FILLING or FULL with a band of the attempt (R144). -/
def Buffer.endAttempt (b : Buffer) (a : Attempt) : Buffer :=
  if (b.tag.map (·.attempt)) = some a ∧ (b.state = .filling ∨ b.state = .full) then b.emptied else b

/-- The end of an attempt: its painting is cut, its FULL buffers are emptied, and the Composer clears it and goes to
IDLE. A buffer SENDING or WRITING stays so. A Composer that works on another attempt may paint into an emptied buffer
(R144). -/
def State.endAttempt (s : State) (a : Attempt) : State :=
  let c := s.composer
  let c1 := { c with bufX := c.bufX.endAttempt a, bufY := c.bufY.endAttempt a }
  (s.setComposer (if c.attempt = some a then { c1 with state := .idle, attempt := none, nextBand := 0, silenced := [] }
    else c1)).kick

/-- Whether a buffer holds band `b` of an attempt, FULL. -/
def State.bandFull (s : State) (a : Attempt) (b : Nat) : Bool :=
  let x := s.composer.buf (bufferFor b)
  x.state == .full && (x.tag.map fun t => (t.attempt, t.band)) == some (a, b)

/-! ## The Press Link (R147 to R162, R165) -/

/-- A message of the link: it goes to the press under LIVE and nowhere under LOOP (R148, R165). -/
def State.tell (s : State) (h : LinkHold) (m : PressMessage) : State :=
  match h.mode with
  | .live => s.tellPress m
  | _ => s

/-- The link returns to CLOSED: every timer stopped and the attempt cleared (R149, R162). -/
def State.linkClose (s : State) : State := s.setLink (Link.closedWith s.link.config s.link.ready)

/-- The send of the next band starts: its buffer becomes SENDING, the band timer starts with the band period and the next
band index rises (R153). -/
def State.startSend (s : State) : State :=
  let b := s.link.nextBand
  let s1 := s.mapBuf (bufferFor b) fun x => { x with state := .sending }
  s1.setLink { s1.link with
    sending := some b
    due := false
    bandTimer := some s1.link.config.bandPeriod
    nextBand := b + 1 }

/-- ACCEPT is taken: the accept timer stops, the link enters STREAMING and band 0's send starts at once (R152, R153). -/
def State.acceptTaken (s : State) : State :=
  (s.setLink { s.link with state := .streaming, acceptTimer := none }).startSend

/-- OPEN is sent: the wait timer stops, the accept timer starts and the link enters OPENING (R150). Under LOOP an ACCEPT
follows at once (R165). -/
def State.sendOpen (s : State) (h : LinkHold) : State :=
  let s1 := s.tell h (.opened h.sheetId h.width h.height h.bands)
  let s2 := s1.setLink { s1.link with
    state := .opening
    waitTimer := none
    acceptTimer := some s1.link.config.acceptLimit }
  if h.mode = .loop then s2.acceptTaken else s2

/-- Whether READY is high for the attempt that holds the link; LOOP takes it as high (R150, R165). -/
def Link.readyHigh (l : Link) (h : LinkHold) : Bool := h.mode == .loop || l.ready

/-- In AWAIT_READY, OPEN is sent when band 0 is FULL and READY is high (R150). -/
def State.openWhenReady (s : State) : State :=
  match s.link.state, s.link.held with
  | .awaitReady, some h => if s.bandFull h.attempt 0 && s.link.readyHigh h then s.sendOpen h else s
  | _, _ => s

/-- The link is told that a band is FULL: band 0 may open the sheet (R150); the due band stops the grace timer, counts as
a late band, and is sent now or after the send in flight (R155). -/
def State.linkBandFull (s : State) (a : Attempt) (b : Nat) : State :=
  match s.link.held with
  | none => s
  | some h =>
    if h.attempt ≠ a then s
    else if s.link.state = .awaitReady then s.openWhenReady
    else if s.link.state = .streaming ∧ s.link.graceTimer ≠ none ∧ s.link.nextBand = b then
      let s1 := (s.setLink { s.link with graceTimer := none }).addCounts a.slot { Counts.zero with lateBands := 1 }
      if s1.link.sending = none then s1.startSend else s1.setLink { s1.link with due := true }
    else s

/-- The link ends the attempt that holds it by its state (R161; R156 and R159 end it in the same way). -/
def State.linkStop (s : State) (a : Attempt) : State :=
  match s.link.held with
  | none => s
  | some h =>
    if h.attempt ≠ a then s
    else
      match s.link.state with
      | .closed => s
      | .awaitReady => s.linkClose
      | .opening => (s.tell h (.abort h.sheetId)).linkClose
      | .streaming =>
        if s.link.sending = none then (s.tell h (.abort h.sheetId)).linkClose
        else s.setLink { s.link with abortPending := true, due := false, bandTimer := none, graceTimer := none }
      | .closing => s.linkClose

/-- Whether the link holds an attempt of a sheet slot. -/
def State.linkHolds (s : State) (sl : SheetSlot) : Bool :=
  match s.link.held with
  | some h => h.attempt.slot == sl
  | none => false

/-- The link takes a PRESS attempt under LIVE or LOOP: it latches the mode and enters AWAIT_READY, the wait timer
starting when READY is low (R149, R151, R165). -/
def State.linkTake (s : State) (a : Attempt) (t : Ticket) : State :=
  let h : LinkHold := ⟨a, t.sheetId, t.width, t.height, bandCount t.height, s.window.pressMode⟩
  let l := { Link.closedWith s.link.config s.link.ready with state := .awaitReady, held := some h }
  s.setLink (if l.readyHigh h then l else { l with waitTimer := some (1000 * l.config.waitLimit) })

/-! ## The Proof Writer (R167 to R170) -/

/-- The Writer clears its attempt and goes to IDLE, or takes the attempt that waits for it (R167). -/
def State.writerNext (s : State) : State :=
  s.setWriter (match s.writer.queued with
    | some a => ⟨.waiting, some a, 0, false, false, none⟩
    | none => Writer.cleared)

/-- The Writer takes a PROOF attempt, at once or when it clears the one it still serves (R167). -/
def State.writerTake (s : State) (a : Attempt) : State :=
  match s.writer.attempt with
  | none => s.setWriter ⟨.waiting, some a, 0, false, false, none⟩
  | some _ => s.setWriter { s.writer with queued := some a }

/-- An attempt served by the Writer ends for a cause other than its own writes: a waiting Writer clears it, a writing one
marks its end pending (R170). -/
def State.writerStop (s : State) (a : Attempt) : State :=
  if s.writer.queued = some a then s.setWriter { s.writer with queued := none }
  else if s.writer.attempt = some a then
    if s.writer.state = .writing then s.setWriter { s.writer with endPending := true } else s.writerNext
  else s

/-- Whether the Writer serves, or will serve, an attempt of a sheet slot. -/
def State.writerServes (s : State) (sl : SheetSlot) : Bool :=
  (s.writer.attempt.map (·.slot)) == some sl || (s.writer.queued.map (·.slot)) == some sl

/-- The writes of a band's rows: row r goes to proof address + (64 × b + r) × proof pitch (R168). -/
def proofRows (t : Ticket) (b lines : Nat) (x : Buffer) : List ServerWrite :=
  (List.range lines).map fun r =>
    ⟨serverAddr t.proofAddr ((64 * b + r) * t.proofPitch), x.bytes (r * (3 * t.width)) (3 * t.width)⟩

/-- The writes of the rows of the band that the Writer is writing. -/
def State.currentRows (s : State) : List ServerWrite :=
  match s.writer.attempt with
  | none => []
  | some a =>
    match s.ticketOf a.slot with
    | none => []
    | some t => proofRows t s.writer.nextBand (bandLines t.height s.writer.nextBand)
        (s.composer.buf (bufferFor s.writer.nextBand))

end Sys2Proof.Machine
end

