-- ==== Sys2Proof/Machine/Control.lean ====
section
/-! DEFINITION. Sheet Control's shared moves that end a sheet (sections 9.3 to 9.5): the parts of letting a slot go, an
ending, the end of the attempt in hand. -/

namespace Sys2Proof.Machine

/-- Whether a sheet is in COMPOSING or CLOSING, the states with an attempt in hand. -/
def Sheet.atWork (sh : Sheet) : Bool := sh.state == .composing || sh.state == .closing

/-- The current attempt of a sheet in a slot (R173). -/
def Sheet.attemptIn (sh : Sheet) (sl : SheetSlot) : Attempt := ⟨sl, sh.attempt⟩

/-- Whether an attempt is the current attempt of a sheet in COMPOSING or CLOSING whose order has no ending (R177). -/
def State.isCurrent (s : State) (a : Attempt) : Bool :=
  s.sheetIs a.slot fun sh => sh.atWork && sh.attempt == a.number && sh.ending.isNone

/-- Whether the three parts of letting a slot go are done: the link released it, the Writer no longer serves it, and no
report is due or in flight (R175). -/
def State.partsDone (s : State) (sl : SheetSlot) : Bool :=
  !s.linkHolds sl && !s.writerServes sl && s.sheetIs sl fun sh => sh.report == .none

/-- A FINISHED slot whose order has an ending becomes FREE when its parts are done (R175). -/
def State.freeIfEnded (s : State) (sl : SheetSlot) : State :=
  if s.sheetIs sl (fun sh => sh.state == .finished && sh.ending.isSome) && s.partsDone sl then s.freeSlot sl else s

/-- An ending reaches the order of a sheet that is not FINISHED: the order takes it, the slot goes to FINISHED, and the
sheet's tile holds are released (R109, R175, R179). An ending for an order that already has one is discarded. -/
def State.endSheet (s : State) (sl : SheetSlot) (o : OrderOutcome) (d : Detail) : State :=
  if s.sheetIs sl (fun sh => sh.ending.isNone && sh.state != .finished) then
    ((s.mapSheet sl fun sh => { sh with ending := some (o, d), state := .finished }).releaseSheet sl).freeIfEnded sl
  else s

/-- The attempt in hand of a sheet ends for the Composer, the buffers and its consumer (R144, R161, R170). -/
def State.stopAttempt (s : State) (a : Attempt) : State := ((s.endAttempt a).linkStop a).writerStop a

/-- An ending that reaches a sheet in any state before FINISHED: the attempt in hand, if any, ends first (R179). -/
def State.endOrder (s : State) (sl : SheetSlot) (o : OrderOutcome) (d : Detail) : State :=
  match s.sheet sl with
  | none => s
  | some sh => (if sh.atWork then s.stopAttempt (sh.attemptIn sl) else s).endSheet sl o d

/-- The placement list of a sheet is cleared (R67). -/
def State.clearPlacement (s : State) (sl : SheetSlot) : State := s.mapSheet sl fun sh => { sh with frames := [], cells := [] }

end Sys2Proof.Machine
end

