-- ==== Sys2Proof/Machine/Placement.lean ====
section
/-! DEFINITION. The Layout Planner's shared moves (chapter 3): the validation pass, the frame stack, the placement pass
with its cursor, cells and notes, and the completion of planning. -/

namespace Sys2Proof.Machine

/-! ## The validation pass (R48 to R50) -/

/-- Whether a profile number is 0 to 15 and LOADED with its glyph set LOADED (R49). -/
def State.profileUsable (s : State) (n : Nat) : Bool :=
  if h : n < 16 then
    match s.profiles[n] with
    | some p => s.glyphs[p.glyphSet].isSome
    | none => false
  else false

/-- Whether a glyph set number is 0 to 2 and LOADED (R49). -/
def State.setUsable (s : State) (n : Nat) : Bool := if h : n < 3 then s.glyphs[n].isSome else false

/-- The capacity after `n` more places, or TOO_LARGE above 64 (R50). -/
def addPlaces (depth capacity n : Nat) : Except Detail (Nat × Nat) :=
  if 64 < capacity + n then .error .tooLarge else .ok (depth, capacity + n)

/-- The checks of one layout entry in their order: the depth and capacity after it, or the detail of the first check that
fails (R49, R50). -/
def State.validateEntry (s : State) (depth capacity : Nat) (e : LayoutEntry) : Except Detail (Nat × Nat) :=
  match e with
  | .unknown => .error .kind
  | .panel _ _ _ _ => if depth < 6 then .ok (depth + 1, capacity) else .error .nesting
  | .endPanel => if 0 < depth then .ok (depth - 1, capacity) else .error .unbalanced
  | .grid profile rows cols _ _ _ _ align =>
    if 1 < align then .error .kind
    else if rows < 1 ∨ 16 < rows ∨ cols < 1 ∨ 16 < cols then .error .grid
    else if s.profileUsable profile then addPlaces depth capacity (rows * cols) else .error .unset
  | .inset profile _ _ _ _ => if s.profileUsable profile then addPlaces depth capacity 1 else .error .unset
  | .banner _ _ _ set _ align _ _ =>
    if 2 < align then .error .kind else if s.setUsable set then .ok (depth, capacity) else .error .unset
  | .rule _ _ _ _ _ => .ok (depth, capacity)

/-- The checks of entries in layout order; the first that fails ends them (R48). -/
def State.validate (s : State) (depth capacity : Nat) (es : List LayoutEntry) : Except Detail (Nat × Nat) :=
  match es with
  | [] => .ok (depth, capacity)
  | e :: rest =>
    match s.validateEntry depth capacity e with
    | .error d => .error d
    | .ok r => State.validate s r.1 r.2 rest

/-! ## The planner's job -/

/-- Changes the planner's job. -/
def State.mapJob (s : State) (f : PlanJob → PlanJob) : State :=
  s.setPlanner { s.planner with job := s.planner.job.map f }

/-- The planner becomes free: no job, the frame stack empty, the cursor without a value; a waiting sheet goes on waiting
(R51, R55). -/
def State.clearJob (s : State) : State := s.setPlanner { Planner.cleared with waiting := s.planner.waiting }

/-- The planner waits to start the read of a stage. -/
def State.awaitRead (s : State) (stage : PlanStage) : State :=
  s.mapJob fun j => { j with stage := stage, inFlight := false }

/-- The unit that a planner's read becomes when its result is discarded (R67). -/
def PlanStage.discarded (st : PlanStage) : DiscardedUnit :=
  match st with
  | .ticket => .ticketRead
  | .layout => .layoutRead
  | .roster => .rosterRead
  | .subject _ _ => .subjectRead
  | .text _ _ _ => .textRead

/-- A job that starts with a read at a stage. -/
def PlanJob.fresh (sl : SheetSlot) (stage : PlanStage) : PlanJob :=
  ⟨sl, stage, false, [], 0, 0, [], [], 0, 0, [], false, Counts.zero⟩

/-- Planning ends by a refusal or a read error: the planner is free, and the order of the sheet takes the ending with its
placement list cleared (R66, R67, R172). -/
def State.planningEnds (s : State) (sl : SheetSlot) (o : OrderOutcome) (d : Detail) : State :=
  (s.clearJob.clearPlacement sl).endSheet sl o d

/-! ## The frame stack (R51 to R53) -/

/-- The frame in effect: the top of the stack, or the base frame of the sheet (section 3.3). -/
def currentFrame (stack : List PanelFrame) (t : Ticket) : PanelFrame := stack.headD ⟨0, 0, ⟨0, 0, t.width, t.height⟩⟩

/-- The frame that a PANEL pushes (R51). -/
def PanelFrame.pushed (f : PanelFrame) (x y : Int) (w h : Nat) : PanelFrame :=
  ⟨f.x + x, f.y + y, rectMeet f.clip ⟨f.x + x, f.y + y, w, h⟩⟩

/-- The frame placement of a layout entry under a frame; absent for the entries that make none (R54, R57, R61). -/
def State.framePlacement (s : State) (f : PanelFrame) (e : LayoutEntry) : Option Frame :=
  match e with
  | .grid profile rows cols x y colGutter rowGutter align =>
    let n := Fin.ofNat 16 profile
    let p := s.profileOf n
    some (.grid ⟨f.x + x, f.y + y, f.clip, n, rows, cols, colGutter, rowGutter, align == 1, p.cellWidth + colGutter,
      s.cellBoxHeight p + rowGutter, 0, 0⟩)
  | .inset profile x y subject role => some (.inset ⟨f.x + x, f.y + y, f.clip, Fin.ofNat 16 profile, subject, role, 0⟩)
  | .banner x y boxWidth set colour align text count =>
    some (.banner ⟨f.x + x, f.y + y, boxWidth, Fin.ofNat 3 set, colour,
      if align = 0 then .left else if align = 1 then .centre else .right, f.clip, text, count, [], 0#11, none⟩)
  | .rule x y w h colour => some (.rule ⟨⟨f.x + x, f.y + y, w, h⟩, colour, f.clip⟩)
  | _ => none

/-! ## The steps of a placement pass -/

/-- The cell places of grid frame `i`, row by row (R55). -/
def gridSteps (i rows cols : Nat) : List PlaceStep :=
  .gridStart i :: (List.range rows).flatMap fun r => (List.range cols).map fun c => .cell i r c

/-- The steps of a first sheet's pass over its layout entries, `i` frames placed before them (R51, R61). -/
def entrySteps (i : Nat) (es : List LayoutEntry) : List PlaceStep :=
  match es with
  | [] => []
  | e :: rest =>
    match e with
    | .panel x y w h => .panel x y w h :: entrySteps i rest
    | .endPanel => .endPanel :: entrySteps i rest
    | .grid _ rows cols _ _ _ _ _ => .entry e :: (gridSteps i rows cols ++ entrySteps (i + 1) rest)
    | .inset _ _ _ _ _ => .entry e :: .inset i :: entrySteps (i + 1) rest
    | .banner _ _ _ _ _ _ _ _ => .entry e :: .text i :: entrySteps (i + 1) rest
    | .rule _ _ _ _ _ => .entry e :: entrySteps (i + 1) rest
    | .unknown => entrySteps i rest

/-- The steps of a continuation sheet's pass over the kept frame placements: its banners and rules stand as they were
(R68). -/
def frameSteps (fs : List Frame) : List PlaceStep :=
  fs.zipIdx.flatMap fun (f, i) =>
    match f with
    | .grid g => gridSteps i g.rows g.cols
    | .inset _ => [.inset i]
    | .banner _ => []
    | .rule _ => []

/-- The grids of a layout, in layout order, as rows and columns (section 3.4). -/
def entryGrids (es : List LayoutEntry) : List (Nat × Nat) :=
  es.filterMap fun e => match e with
    | .grid _ rows cols _ _ _ _ _ => some (rows, cols)
    | _ => none

/-- The grids of the kept frame placements. -/
def frameGrids (fs : List Frame) : List (Nat × Nat) :=
  fs.filterMap fun f => match f with
    | .grid g => some (g.rows, g.cols)
    | _ => none

/-! ## The placement cursor (R55, R56) -/

/-- The cursor after a filled cell, each carry made against the bases of the grid it is in; true when it passed the last
grid (R55, R56). -/
def PlaceCursor.advance (c : PlaceCursor) (grids : List (Nat × Nat)) : PlaceCursor × Bool :=
  let g := grids.getD c.grid (0, 0)
  if c.col + 1 < g.2 then ({ c with col := c.col + 1 }, false)
  else if c.row + 1 < g.1 then ({ c with row := c.row + 1, col := 0 }, false)
  else (⟨c.grid + 1, 0, 0⟩, c.grid + 1 == grids.length)

/-- A grid cell has been filled: the roster index rises by one and the cursor advances (R55, R56). -/
def State.advanceCursor (s : State) : State :=
  match s.planner.job, s.planner.cursor with
  | some j, some c =>
    let r := c.advance j.grids
    s.setPlanner { s.planner with
      job := some { j with rosterIndex := j.rosterIndex + 1, passedLast := j.passedLast || r.2 }
      cursor := some r.1 }
  | _, _ => s

/-! ## Cells (R26 to R34, R57 to R64) -/

/-- The frame placement takes a cell: a grid's range grows by one, an inset names it (R61). -/
def Frame.takeCell (f : Frame) (cell : Nat) : Frame :=
  match f with
  | .grid g => .grid { g with cellCount := g.cellCount + 1 }
  | .inset i => .inset { i with cell := cell }
  | other => other

/-- The cell of a seed with nothing read: the note OFF_SHEET when its rectangle does not meet its clip (R62). -/
def CellSeed.cell (d : CellSeed) (kind : CellKind) (notes : Notes) : Cell :=
  { kind := kind, rect := d.rect, clip := d.clip, profile := d.profile, rosterIndex := d.rosterIndex, subject := 0
    serial := 0#8, role := d.role, given := [], family := [], source := none, ref := none, fit := none
    notes := notes ||| noteIf .offSheet (rectEmpty (rectMeet d.rect d.clip)), caption := [] }

/-- A cell joins the cell part and its frame; its planning notes and its placeholder kind are counted in the planning
counts (R61, R63), and a grid cell advances the cursor (R55). The placeholders count goes by the cell's kind (R27), so that
SUBJECT_INVALID on an EMPTY cell (R34) adds nothing to it: DESIGN CHOICE (assumption 50). -/
def State.placeCell (s : State) (d : CellSeed) (c : Cell) (notes : Notes) : State :=
  match s.planner.job with
  | none => s
  | some j =>
    let s1 := s.mapSheet j.slot fun sh =>
      { sh with cells := sh.cells ++ [c], frames := sh.frames.modify d.frame fun f => f.takeCell sh.cells.length }
    let added := { countsOfNotes notes with placeholders := bit (c.kind == .placeholder) }
    let s2 := s1.mapJob fun j => { j with counts := j.counts.add added }
    if d.rosterIndex.isSome then s2.advanceCursor else s2

/-- A cell placed without a subject record: EMPTY, or a PLACEHOLDER for a subject address of 0 (R26, R34). -/
def State.placeBare (s : State) (d : CellSeed) (kind : CellKind) (notes : Notes) : State :=
  let c := d.cell kind notes
  s.placeCell d c c.notes

/-- The kind of a cell from its subject record, the notes of the decision, and the source of a portrait (R27 to R32). -/
def decideCell (bs : List Byte) : CellKind × Notes × Option Source :=
  if u32 bs 0 = 0 ∨ Config.maxSubject < u32 bs 0 ∨ 1 < u8 bs 5 then (.placeholder, noteIf .subjectInvalid true, none)
  else if u8 bs 5 = 1 then (.placeholder, noteIf .placeholderAbsent true, none)
  else
    match rasterDescription bs with
    | none => (.placeholder, noteIf .subjectInvalid true, none)
    | some src =>
      let m := marksInEffect bs src.width src.height
      (.portrait, noteIf .marksIgnored m.2 ||| noteIf .unmarked (m.1 == .none), some { src with marks := m.1 })

/-- An earlier PORTRAIT cell of a list with the same key (R64). -/
def sameKey (cells : List Cell) (c : Cell) : Option Cell :=
  cells.find? fun d => d.kind == .portrait && d.key == c.key

/-- A cell's tile reference and fit: those of an earlier cell with its key, or the answer of a lookup (R64, R95). -/
def State.claimTile (s : State) (sl : SheetSlot) (c : Cell) (src : Source) : State × LookupAnswer :=
  match (s.sheet sl).bind fun sh => sameKey sh.cells c with
  | some d =>
    match d.ref with
    | some r => (s, ⟨r, d.fit⟩)
    | none => s.lookup sl c.key src
  | none => s.lookup sl c.key src

/-- A cell placed from its subject record (R26 to R33, R62 to R64). The counts of a fit record that it receives are added to
the order's results at once (R89), and stay there when the planning ends early, a DESIGN CHOICE (assumption 38). -/
def State.placeFromRecord (s : State) (sl : SheetSlot) (d : CellSeed) (bs : List Byte) : State :=
  let r := decideCell bs
  let base := d.cell r.1 (r.2.1 ||| noteIf .captionClipped (nameClipped bs))
  let c := { base with
    subject := u32 bs 0
    serial := byteAt bs 4
    given := givenName bs
    family := familyName bs
    source := r.2.2 }
  match r.2.2 with
  | none => s.placeCell d c c.notes
  | some src =>
    let l := s.claimTile sl c src
    let c1 := { c with ref := some l.2.ref }
    match l.2.fit with
    | none => l.1.placeCell d c1 c.notes
    | some f => (l.1.placeCell d (c1.receiveFit f) c.notes).addCounts sl (c1.fitCounts f)

/-- A cell acts on its role and subject address: it is placed at once, or waits for its subject record (R26, R34, R60).
True when it was placed. -/
def State.actOnRole (s : State) (d : CellSeed) (subject : Addr) (role : Nat) : State × Bool :=
  let d := { d with role := (roleOf role).1 }
  match d.role with
  | .spacer => (s.placeBare d .empty (noteIf .subjectInvalid !(roleOf role).2), true)
  | _ =>
    if subject = 0#64 then (s.placeBare d .placeholder (noteIf .subjectInvalid true), true)
    else (s.awaitRead (.subject subject d), false)

/-! ## One step of a placement pass -/

/-- The rectangle of the cell at (row, col) of a grid whose row gets `used` cells (R57, R58). -/
def GridFrame.cellRect (g : GridFrame) (p : Profile) (boxHeight row col used : Nat) : Rect :=
  let offset := if g.centred && decide (0 < used ∧ used < g.cols) then (g.cols - used) * g.colPitch / 2 else 0
  ⟨g.x + (col * g.colPitch : Nat) + (offset : Nat), g.y + (row * g.rowPitch : Nat), p.cellWidth, boxHeight⟩

/-- The place (row, col) of grid frame `i`: passed over when its row does not get it, otherwise filled from the roster
entry at the roster index, which is read first when it is not at hand (R34, R55, R58). True when the pass goes on. -/
def State.placeGridCell (s : State) (t : Ticket) (j : PlanJob) (g : GridFrame) (i row col : Nat) : State × Bool :=
  let used := if col = 0 then min g.cols (t.rosterCount - j.rosterIndex) else j.rowUsed
  if used ≤ col then (s.mapJob fun j => { j with rowUsed := used }, true)
  else
    match j.roster with
    | [] => ((s.mapJob fun j => { j with steps := .cell i row col :: j.steps }).awaitRead .roster, false)
    | e :: rest =>
      let p := s.profileOf g.profile
      let d : CellSeed := ⟨g.cellRect p (s.cellBoxHeight p) row col used, g.clip, g.profile, some j.rosterIndex, .spacer, i⟩
      (s.mapJob fun j => { j with rowUsed := used, roster := rest }).actOnRole d e.subject e.role

/-- An INSET frame's one cell (R57, R60). -/
def State.placeInset (s : State) (f : InsetFrame) (i : Nat) : State × Bool :=
  let p := s.profileOf f.profile
  let d : CellSeed := ⟨⟨f.x, f.y, p.cellWidth, s.cellBoxHeight p⟩, f.clip, f.profile, none, .spacer, i⟩
  s.actOnRole d f.subject f.role

/-- A BANNER's text: empty without a read, or read, a count above 64 taken as 64 with the note CAPTION_CLIPPED (R54,
R128). A count above 64 beside a text address of 0 gives an empty text with no note and no count, a DESIGN CHOICE
(assumption 37). -/
def State.placeText (s : State) (sl : SheetSlot) (f : BannerFrame) (i : Nat) : State × Bool :=
  if f.textCount = 0 ∨ f.textAddr = 0#64 then (s, true)
  else
    let s1 :=
      if 64 < f.textCount then
        (s.mapSheet sl fun sh =>
          { sh with frames := sh.frames.set i (.banner { f with notes := f.notes ||| noteIf .captionClipped true }) }).mapJob
          fun j => { j with counts := j.counts.add { Counts.zero with clippedCaptions := 1 } }
      else s
    (s1.awaitRead (.text f.textAddr (min 64 f.textCount) i), false)

/-- One step of the pass of a sheet; true when the pass goes on, false when it waits for a read (R51 to R60). -/
def State.placeStep (s : State) (sl : SheetSlot) (sh : Sheet) (t : Ticket) (j : PlanJob) (step : PlaceStep) : State × Bool :=
  let frame := currentFrame s.planner.frameStack t
  match step with
  | .panel x y w h =>
    (s.setPlanner { s.planner with frameStack := frame.pushed x y w h :: s.planner.frameStack }, true)
  | .endPanel => (s.setPlanner { s.planner with frameStack := s.planner.frameStack.tail }, true)
  | .entry e =>
    (match s.framePlacement frame e with
      | some f => s.mapSheet sl fun sh => { sh with frames := sh.frames ++ [f] }
      | none => s, true)
  | .gridStart i =>
    (s.mapSheet sl fun sh =>
      { sh with frames := sh.frames.modify i fun f => match f with
          | .grid g => .grid { g with firstCell := sh.cells.length, cellCount := 0 }
          | other => other }, true)
  | .cell i row col =>
    match sh.frames[i]? with
    | some (.grid g) => s.placeGridCell t j g i row col
    | _ => (s, true)
  | .inset i =>
    match sh.frames[i]? with
    | some (.inset f) => s.placeInset f i
    | _ => (s, true)
  | .text i =>
    match sh.frames[i]? with
    | some (.banner f) => s.placeText sl f i
    | _ => (s, true)

/-! ## The pass and its end (R59, R66) -/

/-- Planning completes: the planning counts join the order's results, the sheet is marked carry pending or not, and its
slot goes to FILLING or READY (R59, R66, R172). -/
def State.planComplete (s : State) : State :=
  match s.planner.job with
  | none => s
  | some j =>
    let s1 := s.mapSheet j.slot fun sh =>
      { sh with
        carry := j.passedLast && decide (j.rosterIndex < (sh.ticket.map (·.rosterCount)).getD 0)
        reached := j.rosterIndex
        state := if 0 < sh.pendingBuilds then .filling else .ready }
    (s1.addCounts j.slot j.counts).clearJob

/-- The placement pass from its remaining steps, until it waits for a read or completes (R65, R66). -/
def State.runPass (s : State) (steps : List PlaceStep) : State :=
  match steps with
  | [] => s.planComplete
  | step :: rest =>
    match s.planner.job with
    | none => s
    | some j =>
      match s.sheet j.slot with
      | none => s
      | some sh =>
        match sh.ticket with
        | none => s
        | some t =>
          let j := { j with steps := rest }
          match (s.mapJob fun _ => j).placeStep j.slot sh t j step with
          | (s1, true) => State.runPass s1 rest
          | (s1, false) => s1

/-- The pass resumes from the steps that the job keeps. -/
def State.resumePass (s : State) : State := s.runPass ((s.planner.job.map (·.steps)).getD [])

/-- A placement pass begins: the frame stack empty, the cursor at the first grid, the roster index at the sheet's starting
index (R51, R55). -/
def State.beginPass (s : State) (sl : SheetSlot) (start : Nat) (steps : List PlaceStep) (grids : List (Nat × Nat)) : State :=
  (s.setPlanner { s.planner with
    job := some { PlanJob.fresh sl .roster with rosterIndex := start, grids := grids }
    frameStack := []
    cursor := if grids = [] then none else some ⟨0, 0, 0⟩ }).runPass steps

/-! ## Beginning to plan (R44, R47, R65, R68) -/

/-- Whether a ticket is refused for the press mode: its destination is PRESS and the mode is OFF (R47). -/
def State.refusesPress (s : State) (t : Ticket) : Bool := t.dest == .press && s.window.pressMode == .off

/-- The planner begins a sheet: a first sheet waits for its ticket read; a continuation makes the press check and then its
placement pass over the kept frame placements (R47, R65, R68). -/
def State.beginPlanning (s : State) (sl : SheetSlot) : State :=
  match s.sheet sl with
  | none => s
  | some sh =>
    match sh.ticket with
    | none => s.setPlanner { s.planner with job := some (PlanJob.fresh sl .ticket) }
    | some t =>
      if s.refusesPress t then s.planningEnds sl .refused .pressOff
      else s.beginPass sl sh.start (frameSteps sh.frames) (frameGrids sh.frames)

/-- A sheet enters PLANNING: the planner begins it, or it waits for the planner (R65). -/
def State.enterPlanning (s : State) (sl : SheetSlot) : State :=
  match s.planner.job with
  | none => s.beginPlanning sl
  | some _ => s.setPlanner { s.planner with waiting := some sl }

/-- The planner, when it has become free, takes up the waiting sheet (R65, R66). -/
def State.takeWaiting (s : State) : State :=
  match s.planner.job, s.planner.waiting with
  | none, some sl => (s.setPlanner { s.planner with waiting := none }).beginPlanning sl
  | _, _ => s

end Sys2Proof.Machine
end

