-- ==== Sys2Proof/Machine/SheetControl.lean ====
section
/-! DEFINITION. Sheet Control's shared moves (chapter 9): letting a slot go with its continuation, finishing a sheet,
spoils and second passes, and the ends that an abandon or a chain fault gives. -/

namespace Sys2Proof.Machine

/-! ## Letting a slot go (R68, R175) -/

/-- Whether a FINISHED sheet goes on as a continuation sheet: made, carry pending, no ending, AUTO and below the sheet
limit (R68, R175). -/
def continues (sh : Sheet) (r : Results) : Bool :=
  sh.made && sh.carry && sh.ending.isNone &&
    match sh.ticket.bind (·.autoLimit) with
    | some limit => decide (r.sheetsMade < limit)
    | none => false

/-- The continuation of a finished sheet in its slot (R68, R175). -/
def Sheet.continuation (sh : Sheet) : Sheet :=
  { sh with
    state := .planning, index := sh.index + 1, attempt := 1, pendingBuilds := 0, carry := false, start := sh.reached
    cells := [], made := false, report := .none }

/-- A FINISHED slot whose three parts are done moves on: a continuation sheet, the ending PARTIAL, or FREE (R68, R175). -/
def State.letGo (s : State) (sl : SheetSlot) : State :=
  match s.sheet sl with
  | none => s
  | some sh =>
    if sh.state = .finished ∧ s.partsDone sl = true then
      if continues sh ((s.orderResults sl).getD Results.blank) then (s.setSheet sl (some sh.continuation)).enterPlanning sl
      else if sh.made && sh.carry && sh.ending.isNone then
        (s.mapSheet sl fun sh => { sh with ending := some (.partialRoster, .none) }).freeSlot sl
      else s.freeSlot sl
    else s

/-- A sheet is printed or proofed: sheets made rises by one, the next roster index takes the index its pass reached, its
tile holds are released, its report is due when the ticket has a report address, and the slot is let go when it can be
(R68, R69, R174, R175). -/
def State.finishSheet (s : State) (sl : SheetSlot) : State :=
  match s.sheet sl with
  | none => s
  | some sh =>
    let due := sh.ticket.map (·.reportAddr) != some 0#64
    let s1 := s.mapResults sl fun r => { r with sheetsMade := r.sheetsMade + 1, nextRoster := sh.reached }
    let s2 := s1.mapSheet sl fun sh =>
      { sh with state := .finished, made := true, report := if due then .due else .none }
    (s2.releaseSheet sl).letGo sl

/-! ## Spoils and second passes (R177, R178) -/

/-- A second pass: the attempt number rises, condemned references are replaced and REBUILD slots queued, and the slot goes
to FILLING or READY (R113, R178). -/
def State.secondPass (s : State) (sl : SheetSlot) : State :=
  let s1 := (s.mapSheet sl fun sh => { sh with attempt := sh.attempt + 1 }).renewRefs sl
  s1.mapSheet sl fun sh => { sh with state := if 0 < sh.pendingBuilds then .filling else .ready }

/-- The report of a spoil. For the current attempt of an order with no ending, SHEET_SPOILED is raised, and the sheet has
a second pass or its order the ending SPOILED with the cause; any other report is discarded (R177). -/
def State.spoil (s : State) (a : Attempt) (cause : Detail) : State :=
  if s.isCurrent a then
    let s1 := s.raise .sheetSpoiled
    if a.number < (s.ticketOf a.slot |>.map (·.retryBudget)).getD 0 + 1 then s1.secondPass a.slot
    else s1.endSheet a.slot .spoiled cause
  else s

/-- A spoil found while the attempt is in hand: it ends for the Composer, the buffers and its consumer, and is reported
(R143, R144, R177). -/
def State.spoilAttempt (s : State) (a : Attempt) (cause : Detail) : State :=
  (((s.stopAttempt a).spoil a cause).letGo a.slot)

/-! ## Abandon (R41, R67, R121, R186) -/

/-- The detail of an abandoned sheet in COMPOSING or CLOSING: AFTER_CLOSE when the link is CLOSING for it (R161). -/
def State.abandonDetail (s : State) (a : Attempt) : Detail :=
  if s.link.state = .closing ∧ s.link.held.map (·.attempt) = some a then .afterClose else .none

/-- The end that an abandon or a fault gives the sheet in a slot, by its state (R186). An order that has an ending keeps
it. -/
def State.abandonSheet (s : State) (sl : SheetSlot) : State :=
  match s.sheet sl with
  | none => s
  | some sh =>
    if sh.ending.isSome then s
    else
      match sh.state with
      | .planning => (s.clearPlacement sl).endSheet sl .abandoned .none
      | .filling => s.endSheet sl .abandoned .none
      | .ready => s.endSheet sl .abandoned .none
      | .composing | .closing =>
        (s.stopAttempt (sh.attemptIn sl)).endSheet sl .abandoned (s.abandonDetail (sh.attemptIn sl))
      | .finished => s.mapSheet sl fun sh => { sh with ending := some (.abandoned, .none) }

/-- The planner at an abandon or a fault: a read in flight is left to complete with its content discarded, the planning
ends, and a waiting sheet does not begin (R67). -/
def State.stopPlanner (s : State) : State :=
  let s1 := match s.planner.job with
    | some j => if j.inFlight then s.discardUnit j.stage.discarded else s
    | none => s
  s1.setPlanner Planner.cleared

/-- A profile becomes UNSET (R41). -/
def State.unsetProfile (s : State) (n : Fin 16) : State := s.setProfiles (s.profiles.set n.val none n.isLt)

/-- A glyph set becomes UNSET (R121). -/
def State.unsetGlyphs (s : State) (g : Fin 3) : State := s.setGlyphs (s.glyphs.set g.val none g.isLt)

/-- The running barrier at an abandon or a fault: with a read in flight it ends at its completion; otherwise it ends
ABANDONED at once with its profile or glyph set UNSET (R41, R121). Until that completion the entry stays as it was, so an
engine reset that comes before it leaves the entry so: DESIGN CHOICE (assumption 43). -/
def State.abandonBarrier (s : State) : State :=
  match s.control.barrier with
  | .none => s
  | .profile n block inFlight _ =>
    if inFlight then s.setControl { s.control with barrier := .profile n block true true }
    else (s.unsetProfile n).finishBarrier (barrierResults .abandoned .none 0)
  | .glyphs l =>
    if l.inFlight then s.setControl { s.control with barrier := .glyphs { l with abandoned := true } }
    else (s.unsetGlyphs l.set).finishBarrier (barrierResults .abandoned .none 0)

/-- Every order that has no ending is ended, and the slots are let go as far as they can be (R186). Slot A's sheet ends
before slot B's, though R144 and R186 put both at one moment: DESIGN CHOICE (assumption 47). -/
def State.abandonOrders (s : State) : State :=
  ((((s.stopPlanner.abandonSheet .a).abandonSheet .b).abandonBarrier).letGo .a).letGo .b

/-! ## Chain faults (R23, R24, R188) -/

/-- A report due and not started counts as done in FAULTED (R188). -/
def State.dropDueReport (s : State) (sl : SheetSlot) : State :=
  s.mapSheet sl fun sh => { sh with report := if sh.report = .due then .none else sh.report }

/-- The walker on entry to FAULTED: its window discarded, its sweep timer stopped, its cursor kept, and a unit in flight
left to complete with its result discarded (R24). -/
def State.faultWalker (s : State) : State :=
  s.setWalker { s.walker with state := .faulted, window := [], sweepRunning := false, unit := s.walker.unit.discardAll }

/-- The engine faults: STATUS takes the cause and the address, CHAIN_FAULT is raised, ABANDON reads 0, and all work ends
as an abandon ends it, with nothing more written to server memory. A second fault leaves the record as it is (R23, R24,
R188, R209). -/
def State.engineFaults (s : State) (cause : FaultCause) (addr : Addr) : State :=
  if s.control.engine = .running ∨ s.control.engine = .draining then
    let s1 := (s.setControl { s.control with engine := .faulted, cause := cause, faultAddr := addr }).raise .chainFault
    let s2 := (s1.setWindow { s1.window with abandon := false }).faultWalker
    ((s2.dropDueReport .a).dropDueReport .b).abandonOrders
  else s

end Sys2Proof.Machine
end

