-- ==== Sys2Proof/Machine/Barriers.lean ====
section
/-! DEFINITION. The barrier orders that read server memory: PROFILE (section 2.4) and GLYPHS (section 6.2), with the unit
of each and what its completion does (R37 to R41, R118 to R121). -/

namespace Sys2Proof.Machine

/-! ## PROFILE (R37 to R41) -/

/-- PROFILE_BLOCK_READ_START: a running PROFILE order whose read waits, with the hold FREE (R37). -/
def execProfileBlockReadStart (s : State) : Out :=
  .next (match s.control.barrier with
    | .profile n block false abandoned =>
      if s.holdFree then
        (s.setControl { s.control with barrier := .profile n block true abandoned }).beginUnit
      else s
    | _ => s)

/-- A profile block that passes the structural checks: the entry becomes LOADED and the profile's tiles are emptied (R39,
R40). -/
def State.loadProfile (s : State) (n : Fin 16) (p : Profile) (marks : BitVec 5) : State :=
  let emptied := s.store.groupSize (ofProfile n)
  let s1 := (s.setProfiles (s.profiles.set n.val (some p) n.isLt)).setStore (s.store.emptyGroup (ofProfile n))
  s1.finishBarrier
    (if marks = 0#5 then barrierResults .ok .none emptied else barrierResults .noted (.marks marks) emptied)

/-- PROFILE_BLOCK_READ_DONE (R38 to R41): the block is refused, or clamped and loaded; a bus error gives MEMORY_FAULT, and
an abandon or a fault that came while the read was in flight gives ABANDONED, each with the entry UNSET. -/
def execProfileBlockReadDone (u : UnitOf) (r : ReadResult) (s : State) : Out :=
  .next (match u with
    | .discarded => s.finishDiscarded .profileRead
    | .current =>
      match s.control.barrier with
      | .profile n _ true abandoned =>
        if abandoned then (s.endUnit.unsetProfile n).finishBarrier (barrierResults .abandoned .none 0)
        else
          match r with
          | .busError => (s.endUnit.unsetProfile n).finishBarrier (barrierResults .memoryFault .blockRead 0)
          | .data bs =>
            if bs.length = 32 then
              match profileBlock bs with
              | .error d => s.endUnit.finishBarrier (barrierResults .refused d 0)
              | .ok (p, marks) => s.endUnit.loadProfile n p marks
            else s
      | _ => s)

/-! ## GLYPHS (R118 to R121) -/

/-- GLYPH_UNIT_START: a running GLYPHS order whose next unit waits, with the hold FREE (R118). -/
def execGlyphUnitStart (s : State) : Out :=
  .next (match s.control.barrier with
    | .glyphs l =>
      if l.inFlight = false ∧ s.holdFree = true then
        (s.setControl { s.control with barrier := .glyphs { l with inFlight := true } }).beginUnit
      else s
    | _ => s)

/-- Whether a scan stopped at a failed check. -/
def GlyphScan.isRefused (g : GlyphScan) : Bool :=
  match g with
  | .refused _ => true
  | _ => false

/-- Whether a scan found the whole block. -/
def GlyphScan.isWhole (g : GlyphScan) : Bool :=
  match g with
  | .whole _ => true
  | _ => false

/-- Whether the bytes received so far have had block bytes 16 to 23, the first granule of the first glyph record, written
into the load area: the granule has arrived, or the block ends in it, and no check failed in it (R119, R201). -/
def firstRecordWritten (bs : List Byte) (count : Nat) : Bool :=
  decide (0 < count) && (decide (24 ≤ bs.length) || (scanGlyphBlock bs count).isWhole) &&
    !(scanGlyphBlock (bs.take 24) count).isRefused

/-- The load with the bytes of a completed unit; the write of the first granule of the first record takes a pending GLYPH
poison (R201). -/
def GlyphLoad.receive (l : GlyphLoad) (bs : List Byte) (selected : Bool) : GlyphLoad :=
  let all := l.bytes ++ bs
  let wrote := firstRecordWritten all l.count
  { l with
    bytes := all
    inFlight := false
    poisonTried := l.poisonTried || wrote
    poisoned := l.poisoned || (!l.poisonTried && wrote && selected) }

/-- Whether a place of card memory is a glyph of a set. -/
def glyphOfSet (g : Fin 3) (l : CheckLoc) : Bool :=
  match l with
  | .glyph h _ => h == g
  | .storeTile _ _ | .scratchTile _ _ | .band _ => false

/-- The completion of a load: the set becomes LOADED with the new map, its damage marks cleared, and no correctable error of
its earlier map stands any longer; NOTED DUPLICATE when a code appeared twice (R120, R197). -/
def State.loadGlyphs (s : State) (l : GlyphLoad) (gs : List Glyph) : State :=
  let gs' := if l.poisoned then poisonFirst gs else gs
  let s1 := (s.setGlyphs (s.glyphs.set l.set.val (some (loadedSet l.bytes gs')) l.set.isLt)).rewritten (glyphOfSet l.set)
  s1.finishBarrier
    (if hasDuplicate gs then barrierResults .noted .duplicate 0 else barrierResults .ok .none 0)

/-- A unit of the load has arrived with good data (R119, R120). -/
def State.receiveGlyphUnit (s : State) (l : GlyphLoad) (bs : List Byte) : State :=
  let l' := l.receive bs (s.check.poison == .glyph)
  let s1 := if l'.poisoned && !l.poisoned then s.setCheck { s.check with poison := .none } else s
  match scanGlyphBlock l'.bytes l'.count with
  | .refused d => s1.finishBarrier (barrierResults .refused d 0)
  | .whole gs => s1.loadGlyphs l' gs
  | .more _ => s1.setControl { s1.control with barrier := .glyphs l' }

/-- GLYPH_UNIT_DONE (R119 to R121): the bytes of a unit of at most 4096 bytes are checked; a bus error gives MEMORY_FAULT,
and an abandon or a fault that came while the unit was in flight gives ABANDONED, each with the set UNSET. A unit that
completes so writes nothing into the load area and leaves a pending GLYPH selection pending, a DESIGN CHOICE (assumption
41). -/
def execGlyphUnitDone (u : UnitOf) (r : ReadResult) (s : State) : Out :=
  .next (match u with
    | .discarded => s.finishDiscarded .glyphRead
    | .current =>
      match s.control.barrier with
      | .glyphs l =>
        if l.inFlight = false then s
        else if l.abandoned then (s.endUnit.unsetGlyphs l.set).finishBarrier (barrierResults .abandoned .none 0)
        else
          match r with
          | .busError => (s.endUnit.unsetGlyphs l.set).finishBarrier (barrierResults .memoryFault .blockRead 0)
          | .data bs => if 0 < bs.length ∧ bs.length ≤ 4096 then s.endUnit.receiveGlyphUnit l bs else s
      | _ => s)

end Sys2Proof.Machine
end

