-- ==== Sys2Proof/Machine/Building.lean ====
section
/-! DEFINITION. The Tile Builder's commands (section 5.5): the start of a build, its source reads, its completion and its
failure (R70, R87, R102 to R107). -/

namespace Sys2Proof.Machine

/-- The profile of a build (R70). -/
def State.buildProfile (s : State) (e : BuildEntry) : Profile := s.profileOf e.key.profile

/-- The current build with its first granule written, when the source bytes it stands on are at hand: the write takes a
pending TILE poison (R88, R201). -/
def State.writeFirstGranule (s : State) (b : Build) : State :=
  if b.wrote = false ∧ firstRowBytes b.entry.source b.fit (s.buildProfile b.entry) ≤ b.got.length then
    let p := s.check.poison == .tile
    let s1 := s.setBuilder { s.builder with current := some { b with wrote := true, poisoned := p } }
    if p then s1.setCheck { s1.check with poison := .none } else s1
  else s.setBuilder { s.builder with current := some b }

/-- BUILD_START: the Builder IDLE, the queue not empty and the hold FREE: the head entry becomes the current build, its
fit is computed, and the runs of source bytes that it reads are known; a build that needs no source byte ends its unit at
once (R70, R87, R103, R189). -/
def execBuildStart (s : State) : Out :=
  .next (match s.builder.current, s.builder.queue with
    | none, e :: rest =>
      if s.holdFree then
        let f := computeFit e.source (s.buildProfile e)
        let ranges := sourceRanges e.source f (s.buildProfile e)
        let none_ := rangeBytes ranges == 0
        let s1 := (s.setBuilder { s.builder with queue := rest }).beginUnit
        (if none_ then s1.endUnit else s1).writeFirstGranule ⟨e, f, ranges, [], none_, false, false, false⟩
      else s
    | _, _ => s)

/-- The current build with its unit ended at the Memory Port. -/
def State.endBuildUnit (s : State) (b : Build) : State :=
  (s.setBuilder { s.builder with current := some { b with portDone := true } }).endUnit

/-- The current build receives the bytes of a completed read, which are the next ones of its runs; the last of them ends
its unit (R87, R103, R189). -/
def State.receiveSource (s : State) (b : Build) (bs : List Byte) : State :=
  let b1 := { b with got := b.got ++ bs }
  if b1.got.length = rangeBytes b.ranges then (s.writeFirstGranule { b1 with portDone := true }).endUnit
  else s.writeFirstGranule b1

/-- SOURCE_READ_DONE (R103, R104, R106, R107): the bytes of a read go on to the tile; after a bus error the reads in
flight complete and are discarded, and the last of them ends the unit. -/
def execSourceReadDone (u : UnitOf) (r : ReadResult) (last : Bool) (s : State) : Out :=
  .next (match u with
    | .discarded => if last then s.finishDiscarded .build else s
    | .current =>
      match s.builder.current with
      | none => s
      | some b =>
        if b.portDone then s
        else if b.failing then (if last then s.endBuildUnit b else s)
        else
          match r with
          | .busError =>
            if last then s.endBuildUnit { b with failing := true }
            else s.setBuilder { s.builder with current := some { b with failing := true } }
          | .data bs =>
            if 0 < bs.length ∧ b.got.length + bs.length ≤ rangeBytes b.ranges then s.receiveSource b bs else s)

/-- BUILD_COMPLETE: the last tile row is written, the last granule filled out with zero bytes: the slot becomes READY with
its tile and fit record, every holder is served, and no correctable error of the slot's earlier tile stands any longer (R105,
R196, R197). -/
def execBuildComplete (s : State) : Out :=
  .next (match s.builder.current with
    | some b =>
      if b.portDone && !b.failing then
        let tile := wholeGranules (tileBytes b.entry.source b.fit (s.buildProfile b.entry) b.got)
        ((s.setBuilder { s.builder with current := none }).rewritten fun l => locTileRef l == some b.entry.ref).finishBuild
          b.entry b.fit.record tile b.poisoned
      else s
    | none => s)

/-- BUILD_FAILURE: after a source read bus error, when the reads in flight have completed: the slot becomes EMPTY and the
cells that carried it become placeholders (R106). The unit ends with the failure when it had not ended. -/
def execBuildFailure (s : State) : Out :=
  .next (match s.builder.current with
    | some b =>
      if b.failing then
        let s1 := if b.portDone then s else s.endUnit
        (s1.setBuilder { s1.builder with current := none }).failBuild b.entry
      else s
    | none => s)

end Sys2Proof.Machine
end

