-- ==== Sys2Proof/Machine/Composing.lean ====
section
/-! DEFINITION. A sheet's turn to compose (R123, R135, R149, R167, R173) and the painting of its bands (R136, R174). -/

namespace Sys2Proof.Machine

/-! ## The turn to compose (R173) -/

/-- Whether a sheet holds back a later one: it is in PLANNING, FILLING or READY and ranks first (R173). -/
def Sheet.holdsBack (sh : Sheet) : Bool :=
  sh.first && (sh.state == .planning || sh.state == .filling || sh.state == .ready)

/-- Whether the sheet in a slot has its turn: READY, no sheet COMPOSING, the other slot holding back nothing, and the link
CLOSED for a PRESS sheet (R173). -/
def State.hasTurn (s : State) (sl : SheetSlot) : Bool :=
  s.sheetIs sl (fun sh => sh.state == .ready &&
    ((sh.ticket.map (·.dest)) != some .press || s.link.state == .closed)) &&
  !s.sheetIs .a (fun sh => sh.state == .composing) && !s.sheetIs .b (fun sh => sh.state == .composing) &&
  !s.sheetIs (otherSlot sl) Sheet.holdsBack

/-- The link is offered a PRESS attempt: under OFF the attempt ends and the order is REFUSED PRESS_OFF; otherwise the link
takes it (R144, R149). -/
def State.offerPress (s : State) (a : Attempt) (t : Ticket) : State :=
  if s.window.pressMode = .off then (s.endAttempt a).endSheet a.slot .refused .pressOff
  else (s.linkTake a t).openWhenReady

/-- The entry to COMPOSING: the fits are made, the Composer takes the attempt, attempts used rises by one, and the
consumer takes the attempt (R123, R135, R173). -/
def State.enterComposing (s : State) (sl : SheetSlot) (t : Ticket) : State :=
  let s1 := (s.fitSheet sl).mapSheet sl fun sh => { sh with state := .composing }
  let a : Attempt := ⟨sl, ((s.sheet sl).map (·.attempt)).getD 0⟩
  let s2 := s1.mapResults sl fun r => { r with attemptsUsed := raiseCount r.attemptsUsed 1 }
  let s3 := (s2.setComposer { s2.composer with attempt := some a, nextBand := 0, silenced := [] }).paintNext
  match t.dest with
  | .press => s3.offerPress a t
  | .proof => s3.writerTake a

/-- The slot whose sheet has its turn to compose (R173). -/
def State.turnSlot (s : State) : Option SheetSlot :=
  if s.hasTurn .a then some .a else if s.hasTurn .b then some .b else none

/-- Whether the fits of the sheet in a slot, which is about to enter COMPOSING, read a glyph: they would find it damaged if
its granules were poisoned (R122, R123, R131). -/
def State.fitReads (s : State) (sl : SheetSlot) (g : Fin 3) (code : Code) : Bool :=
  ((s.glyphSetOf g).find code).isSome && (((((s.poisonGlyph g code).fitSheet sl).glyphSetOf g).find code).isNone)

/-- The glyphs that the fits of the sheet in a slot read. -/
def State.fittingReads (s : State) (sl : SheetSlot) (loc : CheckLoc) : Bool :=
  match loc with
  | .glyph g c => s.fitReads sl g c
  | .storeTile _ _ | .scratchTile _ _ | .band _ => false

/-- SHEET_ENTER_COMPOSING (R173): at most one sheet has its turn. Its fits find again the correctable errors that stand in
the glyphs they read (R197). -/
def execSheetEnterComposing (s : State) : Out :=
  .next (match s.turnSlot with
    | some sl => ((s.ticketOf sl).map ((s.findAgain (s.fittingReads sl)).enterComposing sl)).getD s
    | none => s)

/-! ## What a painting reads (R129, R140, R196) -/

/-- Whether the painting of the Composer's band reads the tile of a reference: a PORTRAIT cell carries it and shows in the
band (R140). -/
def State.paintsTile (s : State) (sh : Sheet) (t : Ticket) (ref : TileRef) : Bool :=
  sh.cells.any fun c => c.kind == .portrait && c.uses ref && !rectEmpty (s.tileArea (bandRect t s.composer.nextBand) c)

/-- Whether the painting of the Composer's band reads a glyph's rows (R129). A row cut away in x counts as read: DESIGN
CHOICE (assumption 46). -/
def State.paintsGlyph (s : State) (sh : Sheet) (t : Ticket) (set : Fin 3) (code : Code) : Bool :=
  (s.bandOps sh t s.composer.nextBand).any fun op => op.isRowOf set code

/-- Whether the painting of the Composer's band reads the band's own pixels: it makes a merge in the band, the background
fill being written without a read (R196). -/
def State.paintsBand (s : State) (sh : Sheet) (t : Ticket) : Bool :=
  (s.bandOps sh t s.composer.nextBand).any PaintOp.merges

/-- The tiles and glyphs that the painting of the Composer's band reads. An error in the band's own pixels does not stand:
the merge that finds it writes the granule (R196). -/
def State.paintingReads (s : State) (sh : Sheet) (t : Ticket) (loc : CheckLoc) : Bool :=
  match loc with
  | .storeTile i w => s.paintsTile sh t (.store i w)
  | .scratchTile p i => s.paintsTile sh t (.scratch p i)
  | .glyph g c => s.paintsGlyph sh t g c
  | .band _ => false

/-! ## Painting (R136, R137, R174) -/

/-- The attempt's last band has been painted: the Composer clears it and goes to IDLE, and the sheet goes to CLOSING (R136,
R174). -/
def State.lastBandPainted (s : State) (a : Attempt) : State :=
  (s.setComposer { s.composer with state := .idle, attempt := none, nextBand := 0, silenced := [] }).mapSheet a.slot
    fun sh => { sh with state := .closing }

/-- A band has been painted: its buffer becomes FULL with its pixels, the next band index rises, the consumer is told, and
the next band starts or the last band is reported (R136, R150, R155). -/
def State.bandPainted (s : State) (a : Attempt) (t : Ticket) (bytes : List Byte) : State :=
  let b := s.composer.nextBand
  let s1 := s.mapBuf (bufferFor b) fun x => { x.write bytes with state := .full }
  let s2 := s1.setComposer { s1.composer with nextBand := b + 1 }
  if b + 1 = bandCount t.height then (s2.lastBandPainted a).linkBandFull a b else (s2.paintNext).linkBandFull a b

/-- BAND_PAINT_DONE (R136): the painting of the Composer's band completes, having found again the correctable errors that
stand in the tiles and glyphs it reads (R197). A painting that must read a poisoned granule
does not complete (R201; assumption 1). -/
def execBandPaintDone (s : State) : Out :=
  .next (match s.composer.attempt with
    | none => s
    | some a =>
      match s.sheet a.slot with
      | none => s
      | some sh =>
        match sh.ticket with
        | none => s
        | some t =>
          let b := s.composer.nextBand
          let ops := s.bandOps sh t b
          if s.composer.state = .painting ∧ paintingFails (s.composer.buf (bufferFor b)).poisoned b ops = false then
            (s.findAgain (s.paintingReads sh t)).bandPainted a t (bandBytes t b ops)
          else s)

end Sys2Proof.Machine
end

