-- ==== Sys2Proof/Machine/MemoryCheck.lean ====
section
/-! DEFINITION. The Local Memory Check's commands (section 10.3): correctable and uncorrectable errors found by a read of
card memory, their log and their effects (R131, R143, R159, R169, R196 to R199). -/

namespace Sys2Proof.Machine

/-! ## Which reads can be in progress -/

/-- The band that the Composer is painting, with its sheet and ticket; absent when it paints none. -/
def State.paintingOf (s : State) : Option (Attempt × Sheet × Ticket) :=
  if s.composer.state = .painting then
    match s.composer.attempt with
    | some a =>
      match s.sheet a.slot with
      | some sh => sh.ticket.map fun t => (a, sh, t)
      | none => none
    | none => none
  else none

/-- Whether a block can be reading a location now (R196, R199). The fits of a sheet, which are made in one step, are the
reads in hand while it has its turn to compose (R123; assumption 22). An error at another place is no event (assumption
1). -/
def State.canRead (s : State) (loc : CheckLoc) (by_ : Reader) : Bool :=
  match by_, loc with
  | .composer, .storeTile i w =>
    match s.paintingOf with
    | some (_, sh, t) => s.paintsTile sh t (.store i w)
    | none => false
  | .composer, .scratchTile p i =>
    match s.paintingOf with
    | some (_, sh, t) => s.paintsTile sh t (.scratch p i)
    | none => false
  | .composer, .band b =>
    match s.paintingOf with
    | some (_, sh, t) => s.paintsBand sh t && bufferFor s.composer.nextBand == b
    | none => false
  | .captionFitting, .glyph g c =>
    match s.turnSlot with
    | some sl => s.fitReads sl g c
    | none => false
  | .captionPainting, .glyph g c =>
    match s.paintingOf with
    | some (_, sh, t) => s.paintsGlyph sh t g c
    | none => false
  | .pressLink, .band b =>
    match s.link.sending with
    | some n => bufferFor n == b
    | none => false
  | .proofWriter, .band b => s.writer.state == .writing && !s.writer.damage && bufferFor s.writer.nextBand == b
  | _, _ => false

/-! ## Effects of uncorrectable errors (R199) -/

/-- A store or scratch tile found damaged (R110 to R112). -/
def State.damageTile (s : State) (loc : CheckLoc) : State :=
  match loc with
  | .storeTile i w => s.condemn i w
  | .scratchTile p i => s.markRebuild p i
  | _ => s

/-- Damage found by a painting: the content takes its effect and the attempt is spoiled (R143). -/
def State.painterFindsDamage (s : State) (loc : CheckLoc) : State :=
  match s.composer.attempt with
  | some a => (s.damageTile loc).spoilAttempt a .damage
  | none => s

/-- Damage found by a band send: the send ends at the failing read and its buffer becomes EMPTY; ABORT is sent, the link
enters CLOSED, and the attempt is spoiled (R159). An attempt that has already ended is not spoiled again. -/
def State.sendFindsDamage (s : State) (h : LinkHold) (b : Nat) : State :=
  let s1 := ((s.tell h (.abort h.sheetId)).linkClose).endAttempt h.attempt
  ((s1.giveBack (bufferFor b)).spoil h.attempt .damage).letGo h.attempt.slot

/-- Damage found by a band write: no further row is read or written, and the spoil is reported when the writes in flight
have completed (R169). -/
def State.writeFindsDamage (s : State) : State := s.setWriter { s.writer with damage := true }

/-- A glyph found damaged in painting: it is marked, and paints nothing from that read on in the attempt (R131). A glyph
already marked is changed no further. -/
def State.paintingFindsGlyph (s : State) (g : Fin 3) (code : Code) (rows : Nat) : State :=
  if s.composer.silenced.any fun z => z.set == g && z.code == code then s
  else
    let s1 := s.damageGlyph g code
    s1.setComposer { s1.composer with silenced := s1.composer.silenced ++ [⟨g, code, s1.composer.nextBand, rows⟩] }

/-- The effect of an uncorrectable error by its location and its reader (R199). -/
def State.takeDamage (s : State) (loc : CheckLoc) (by_ : Reader) (rows : Nat) : State :=
  match by_, loc with
  | .composer, _ => s.painterFindsDamage loc
  | .captionFitting, .glyph g c => s.damageGlyph g c
  | .captionPainting, .glyph g c => s.paintingFindsGlyph g c rows
  | .pressLink, _ =>
    match s.link.sending, s.link.held with
    | some b, some h => s.sendFindsDamage h b
    | _, _ => s
  | .proofWriter, _ => s.writeFindsDamage
  | _, _ => s

/-! ## The commands -/

/-- Whether a correctable error stands after the read that found it: a merge writes the granule it has read, every other
read leaves it as it is (R196, R197). -/
def stands (by_ : Reader) (loc : CheckLoc) : Bool :=
  match by_, loc with
  | .composer, .band _ => false
  | _, _ => true

/-- CORRECTABLE_ERROR: the corrected data is used, the work goes on unchanged, the error is logged while the log is
unlocked, and it stands until the granule is next written (R197). -/
def execCorrectableError (loc : CheckLoc) (by_ : Reader) (s : State) : Out :=
  .next (if s.canRead loc by_ then
    if stands by_ loc then (s.logCorrectable loc).keepStanding loc else s.logCorrectable loc
  else s)

/-- UNCORRECTABLE_ERROR: the error is logged while the log is unlocked, and takes its effect either way (R198, R199). -/
def execUncorrectableError (loc : CheckLoc) (by_ : Reader) (rowsPainted : Nat) (s : State) : Out :=
  .next (if s.canRead loc by_ then (s.logUncorrectable loc).takeDamage loc by_ rowsPainted else s)

end Sys2Proof.Machine
end

