-- ==== Sys2Proof/Machine/OrderChain.lean ====
section
/-! DEFINITION. The order chain (chapter 1) and the retire queue (section 9.6): record and trailer reads, takes and the
start of orders, retirement, and SPENT writes. A START event whose conditions do not hold waits, and a completion with no
unit to complete is no event: the state is unchanged (assumption 1). -/

namespace Sys2Proof.Machine

/-! ## Shared moves -/

/-- The walker's unit ends: it is cleared and the outstanding count falls (R189). -/
def State.endWalkerUnit (s : State) : State := (s.setWalker { s.walker with unit := .none }).endUnit

/-- The walker when a unit of its own has ended with nothing more to do in a drain: it is STOPPED, and the drain may be
complete (R20, R185). In FAULTED nothing follows. -/
def State.walkerRests (s : State) : State :=
  if s.control.engine = .draining then (s.setWalker { s.walker with state := .stopped }).stopIfDrained else s

/-- The order records of a read of `n` records from a slot of a folio, those before the first that is not HANDED (R2,
R7). -/
def handedRecords (folio : Addr) (slot n : Nat) (bs : List Byte) : List OrderRecord :=
  ((List.range n).takeWhile fun i => isHanded (slice bs (64 * i) 64)).map fun i =>
    orderRecord (slotAddr folio (slot + i)) (slot + i) (slice bs (64 * i) 64)

/-- The position after `slot` records of a folio: a slot, or the trailer after slot 62 (R7). -/
def chainPosAt (slot : Nat) : ChainPos := if h : slot < 63 then .slot ⟨slot, h⟩ else .trailer

/-- The records of a completed read enter the window, at most as many as the read's limit leaves room for, and the cursor
moves past them (R6, R7). -/
def State.placeRecords (s : State) (folio : Addr) (slot n : Nat) (bs : List Byte) : State :=
  let rs := (handedRecords folio slot n bs).take s.walker.readLimit
  s.setWalker { s.walker with window := rs, cursor := some ⟨folio, chainPosAt (slot + rs.length)⟩ }

/-- The walker after a record read: IDLE by way of R15 with an empty window, otherwise TAKING or BLOCKED (R7). -/
def State.afterRecords (s : State) : State := if s.walker.window = [] then s.arriveIdle else s.walkOn

/-- Whether slot 62 of a folio has not retired: its record is still in the retire queue (R9). -/
def State.slot62Waits (s : State) (folio : Addr) : Bool :=
  s.control.queue.any fun e => e.record.addr == slotAddr folio 62

/-- The cursor leaves a folio for the next one: the folio becomes pending-spent, or its SPENT write is due at once when
slot 62 has retired (R8, R9). -/
def State.leaveFolio (s : State) (folio next : Addr) : State :=
  let w := { s.walker with cursor := some ⟨next, .slot 0⟩, state := .seeking }
  s.setWalker (if s.slot62Waits folio then { w with pendingSpent := some folio }
    else { w with spentDue := w.spentDue ++ [folio] })

/-- The walker's course by the Next field of a trailer (R8). -/
def State.followNext (s : State) (folio next : Addr) : State :=
  if next = 0#64 then s.arriveIdle
  else if next.extractLsb' 0 12 ≠ 0#12 ∨ next = folio then s.engineFaults .badLink (trailerAddr folio)
  else s.leaveFolio folio next

/-! ## Record and trailer reads (R7, R8) -/

/-- RECORD_READ_START: SEEKING, the cursor at a slot, the window empty and the hold FREE: a read of min(depth, 63 − slot)
records starts, limited to the depth (R6, R7, R21). -/
def execRecordReadStart (s : State) : Out :=
  .next (match s.walker.cursor with
    | some ⟨_, .slot n⟩ =>
      if s.walker.state = .seeking ∧ s.walker.window = [] ∧ s.walker.unit = .none ∧ s.holdFree = true then
        (s.setWalker { s.walker with
          unit := .recordRead (min s.window.depth (63 - n.val)) false
          readLimit := s.window.depth }).beginUnit
      else s
    | _ => s)

/-- RECORD_READ_DONE (R7): a bus error faults the engine with the address of the first record read (R23); a read
discarded by a drain, an abandon or a fault has no result (R20, R24). -/
def execRecordReadDone (u : UnitOf) (r : ReadResult) (s : State) : Out :=
  .next (match u with
    | .discarded => s.finishDiscarded .recordRead
    | .current =>
      match s.walker.unit, s.walker.cursor with
      | .recordRead n discard, some ⟨folio, .slot slot⟩ =>
        match r with
        | .busError => s.endWalkerUnit.engineFaults .readError (slotAddr folio slot.val)
        | .data bs =>
          if bs.length = 64 * n then
            if discard then s.endWalkerUnit.walkerRests
            else (s.endWalkerUnit.placeRecords folio slot.val n bs).afterRecords
          else s
      | _, _ => s)

/-- TRAILER_READ_START: SEEKING, the cursor at the trailer, the window empty and the hold FREE (R8, R21). -/
def execTrailerReadStart (s : State) : Out :=
  .next (match s.walker.cursor with
    | some ⟨_, .trailer⟩ =>
      if s.walker.state = .seeking ∧ s.walker.window = [] ∧ s.walker.unit = .none ∧ s.holdFree = true then
        (s.setWalker { s.walker with unit := .trailerRead false }).beginUnit
      else s
    | _ => s)

/-- TRAILER_READ_DONE (R8): a bus error faults the engine with the address of the trailer (R23). -/
def execTrailerReadDone (u : UnitOf) (r : ReadResult) (s : State) : Out :=
  .next (match u with
    | .discarded => s.finishDiscarded .trailerRead
    | .current =>
      match s.walker.unit, s.walker.cursor with
      | .trailerRead discard, some ⟨folio, .trailer⟩ =>
        match r with
        | .busError => s.endWalkerUnit.engineFaults .readError (trailerAddr folio)
        | .data bs =>
          if bs.length = 64 then
            if discard then s.endWalkerUnit.walkerRests else s.endWalkerUnit.followNext folio (addrAt bs 0)
          else s
      | _, _ => s)

/-! ## Takes (R11 to R13) -/

/-- TAKE_START: the head of the window can be taken and the hold is FREE: its retire-queue entry and any sheet slot are
reserved, it leaves the window, and TAKEN is written to its hand field (R11, R217). -/
def execTakeStart (s : State) : Out :=
  .next (match s.walker.window with
    | r :: rest =>
      if s.walker.state = .taking ∧ s.walker.unit = .none ∧ s.canTakeKind r.kind = true ∧ s.holdFree = true then
        let slot := if r.kind = .sheet then s.freeSlotFor else none
        ((s.setWalker { s.walker with window := rest, unit := .taken r slot false }).beginUnit).writeServer r.addr [2#8]
      else s
    | [] => s)

/-- A record joins the tail of the retire queue (R11, R181). -/
def State.joinQueue (s : State) (r : OrderRecord) (finished : Bool) (results : Results) (slot : Option SheetSlot) : State :=
  s.setControl { s.control with queue := s.control.queue ++ [⟨r, finished, results, slot⟩] }

/-- A record joins FINISHED with an outcome, a detail and a number of slots emptied (R12, R180, R184). -/
def State.joinFinished (s : State) (r : OrderRecord) (o : OrderOutcome) (d : Detail) (emptied : Nat) : State :=
  s.joinQueue r true (barrierResults o d emptied) none

/-- A sheet at the taking of its order (R171). -/
def Sheet.taken (r : OrderRecord) (first : Bool) : Sheet :=
  ⟨.planning, first, r.argAddr 8, none, 0, 1, 0, false, 0, 0, [], [], none, false, .none⟩

/-- A SHEET order starts in its reserved slot: planning begins, or the order ends ABANDONED in an abandon (R20, R65,
R171). -/
def State.startSheet (s : State) (r : OrderRecord) (sl : SheetSlot) : State :=
  let s1 := (s.joinQueue r false Results.blank (some sl)).setSheet sl (some (Sheet.taken r (s.sheet (otherSlot sl)).isNone))
  if s.window.abandon then s1.endSheet sl .abandoned .none else s1.enterPlanning sl

/-- A PROFILE order starts: a number above 15 is refused; otherwise its block read waits to start, or the order ends
ABANDONED with the entry UNSET in an abandon (R20, R37, R41). -/
def State.startProfile (s : State) (r : OrderRecord) : State :=
  if h : r.arg8 4 < 16 then
    if s.window.abandon then (s.unsetProfile ⟨r.arg8 4, h⟩).joinFinished r .abandoned .none 0
    else
      let s1 := s.joinQueue r false Results.blank none
      s1.setControl { s1.control with barrier := .profile ⟨r.arg8 4, h⟩ (r.argAddr 8) false false }
  else s.joinFinished r .refused .number 0

/-- A GLYPHS order starts: a set above 2 or a count above 512 is refused; otherwise its first block read waits to start, or
the order ends ABANDONED with the set UNSET in an abandon (R20, R118, R121). -/
def State.startGlyphs (s : State) (r : OrderRecord) : State :=
  if h : r.arg8 4 < 3 then
    if 512 < r.arg16 6 then s.joinFinished r .refused .count 0
    else if s.window.abandon then (s.unsetGlyphs ⟨r.arg8 4, h⟩).joinFinished r .abandoned .none 0
    else
      let s1 := s.joinQueue r false Results.blank none
      s1.setControl { s1.control with
        barrier := .glyphs ⟨⟨r.arg8 4, h⟩, r.arg16 6, r.argAddr 8, [], false, false, false, false⟩ }
  else s.joinFinished r .refused .number 0

/-- A PURGE order: the slots of its subject are emptied, or a bad number is refused (R42, R114). -/
def State.runPurge (s : State) (r : OrderRecord) : State :=
  let n := r.arg32 4
  if n = 0 ∨ Config.maxSubject < n then s.joinFinished r .refused .subject 0
  else (s.setStore (s.store.emptyGroup (ofSubject n))).joinFinished r .ok .none (s.store.groupSize (ofSubject n))

/-- A FLUSH order: every slot is emptied (R43, R114). -/
def State.runFlush (s : State) (r : OrderRecord) : State :=
  (s.setStore (s.store.emptyGroup everySlot)).joinFinished r .ok .none (s.store.groupSize everySlot)

/-- A STORE_MODE order: the mode is set, or a bad mode is refused (R43). -/
def State.runStoreMode (s : State) (r : OrderRecord) : State :=
  match storeModeOf (r.arg8 4) with
  | some m => (s.setStore { s.store with mode := m }).joinFinished r .ok .none 0
  | none => s.joinFinished r .refused .mode 0

/-- A PRESS order: the five values are clamped and replace the press configuration; NOTED with a mark for each clamped
field (R166). -/
def State.runPress (s : State) (r : OrderRecord) : State :=
  let c := pressConfig r
  let s1 := s.setLink { s.link with config := c.1 }
  if c.2 = 0#5 then s1.joinFinished r .ok .none 0 else s1.joinFinished r .noted (.marks c.2) 0

/-- A taken record joins the retire queue and its order starts (R11, R12, R184). -/
def State.startOrder (s : State) (r : OrderRecord) (slot : Option SheetSlot) : State :=
  match r.kind with
  | .sheet =>
    match slot with
    | some sl => s.startSheet r sl
    | none => s
  | .profile => s.startProfile r
  | .glyphs => s.startGlyphs r
  | .purge => s.runPurge r
  | .flush => s.runFlush r
  | .storeMode => s.runStoreMode r
  | .press => s.runPress r
  | .mark => (s.joinQueue r false Results.blank none).markHead
  | .skip => s.joinFinished r .ok .none 0
  | .unknown => s.joinFinished r .badKind .none 0

/-- The walker after a take: it walks on in RUNNING and rests in a drain (R11, R20). -/
def State.afterTake (s : State) : State := if s.control.engine = .running then s.walkOn else s.walkerRests

/-- TAKEN_WRITE_DONE (R11): the record joins the retire queue and its order starts; a bus error releases the reservation
and faults the engine (R23); a take discarded by a fault has no result (R24). -/
def execTakenWriteDone (u : UnitOf) (ok : Bool) (s : State) : Out :=
  .next (match u with
    | .discarded => s.finishDiscarded .takenWrite
    | .current =>
      match s.walker.unit with
      | .taken r slot discard =>
        if discard then s.endWalkerUnit
        else if ok then (s.endWalkerUnit.startOrder r slot).afterTake
        else s.endWalkerUnit.engineFaults .writeError r.addr
      | _ => s)

/-! ## Wake by sweep (R17) -/

/-- SWEEP_EXPIRY: in IDLE the walker enters SEEKING at the cursor, the timer reloaded and stopped (R17). -/
def execSweepExpiry (s : State) : Out :=
  .next (if s.walker.state = .idle ∧ s.walker.sweepRunning = true then
    (s.setWalker { s.walker with sweepTimer := s.window.sweepPreset.toNat }).seekFromIdle
  else s)

/-! ## Retirement (R182, R183) -/

/-- Retirement moves to another phase. -/
def State.setRetire (s : State) (p : RetirePhase) : State := s.setControl { s.control with retire := p }

/-- RETIRE_START: the head is FINISHED, no retirement is in flight, the hold is FREE and the engine is not FAULTED: the 32
result bytes are written to bytes 32 to 63 of the record (R182, R217). -/
def execRetireStart (s : State) : Out :=
  .next (match s.control.queue with
    | e :: _ =>
      if e.finished = true ∧ s.control.retire = .none ∧ s.holdFree = true ∧ s.control.engine ≠ .faulted then
        ((s.setRetire .results).beginUnit).writeServer (e.record.addr + 32#64) e.results.bytes
      else s
    | [] => s)

/-- RESULTS_WRITE_DONE: DONE is written to the hand field; a bus error faults the engine; in FAULTED no further write is
issued (R23, R182, R188, R217). -/
def execResultsWriteDone (u : UnitOf) (ok : Bool) (s : State) : Out :=
  .next (match u with
    | .discarded => s.finishDiscarded .resultsWrite
    | .current =>
      match s.control.retire, s.control.queue with
      | .results, e :: _ =>
        if s.control.engine = .faulted then (s.setRetire .none).endUnit
        else if ok then (s.setRetire .done).writeServer e.record.addr [3#8]
        else ((s.setRetire .none).endUnit).engineFaults .writeError e.record.addr
      | _, _ => s)

/-- Slot 62 of the pending-spent folio has retired: the folio's SPENT write is due (R9, R183). That the pending-spent address
is cleared at this DONE, the folio being held in `spentDue` until its write starts, is a DESIGN CHOICE (assumption 35). -/
def State.spentAfter (s : State) (retired : Addr) : State :=
  match s.walker.pendingSpent with
  | some f =>
    if slotAddr f 62 = retired then
      s.setWalker { s.walker with pendingSpent := none, spentDue := s.walker.spentDue ++ [f] }
    else s
  | none => s

/-- CHAIN_IDLE when the retire queue has become empty while the walker is IDLE (R18). -/
def State.idleIfEmpty (s : State) : State :=
  if s.control.queue = [] ∧ s.walker.state = .idle then s.raise .chainIdle else s

/-- The head entry leaves the queue and what waits on it follows (R183). -/
def State.retireHead (s : State) (e : QueueEntry) (rest : List QueueEntry) : State :=
  let s1 := s.setControl { s.control with queue := rest }
  let s2 := if e.record.notify then s1.raise .doneNote else s1
  ((s2.spentAfter e.record.addr).markHead.unblock.idleIfEmpty).stopIfDrained

/-- DONE_WRITE_DONE (R183): the entry leaves the queue; a bus error faults the engine (R23). -/
def execDoneWriteDone (u : UnitOf) (ok : Bool) (s : State) : Out :=
  .next (match u with
    | .discarded => s.finishDiscarded .doneWrite
    | .current =>
      match s.control.retire, s.control.queue with
      | .done, e :: rest =>
        let s1 := (s.setRetire .none).endUnit
        if ok then s1.retireHead e rest else s1.engineFaults .writeError e.record.addr
      | _, _ => s)

/-! ## SPENT writes (R9, R10) -/

/-- SPENT_WRITE_START: a folio whose slot 62 has retired, the hold FREE and the engine not FAULTED: SPENT is written to
trailer byte 8 (R9, R10, R24, R217). That a write due while another is in flight waits for its end is a DESIGN CHOICE
(assumption 49). -/
def execSpentWriteStart (s : State) : Out :=
  .next (match s.walker.spentDue with
    | f :: rest =>
      if s.walker.spentInFlight = none ∧ s.holdFree = true ∧ s.control.engine ≠ .faulted then
        ((s.setWalker { s.walker with spentDue := rest, spentInFlight := some f }).beginUnit).writeServer
          (trailerAddr f + 8#64) [1#8]
      else s
    | [] => s)

/-- SPENT_WRITE_DONE (R10): a bus error faults the engine with the address of the trailer (R23). -/
def execSpentWriteDone (u : UnitOf) (ok : Bool) (s : State) : Out :=
  .next (match u with
    | .discarded => s.finishDiscarded .spentWrite
    | .current =>
      match s.walker.spentInFlight with
      | some f =>
        let s1 := (s.setWalker { s.walker with spentInFlight := none }).endUnit
        if ok then s1.stopIfDrained else s1.engineFaults .writeError (trailerAddr f)
      | none => s)

end Sys2Proof.Machine
end

