-- ==== Sys2Proof/Machine/Planning.lean ====
section
/-! DEFINITION. The reads of planning (chapters 2 and 3): ticket, layout, roster, subject record and banner text, with
their starts and what each completion does. A read that ends in a bus error ends the order MEMORY_FAULT (R26, R44, R48,
R54, R67). -/

namespace Sys2Proof.Machine

/-! ## Shared moves -/

/-- The planner's read of a job starts: it is in flight and the outstanding count rises (R189). -/
def State.startPlanRead (s : State) : State := (s.mapJob fun j => { j with inFlight := true }).beginUnit

/-- Whether the planner waits to start a read of a kind and the hold is FREE (R65, R67). -/
def State.planReadCanStart (s : State) (kind : PlanStage → Bool) : Bool :=
  match s.planner.job with
  | some j => kind j.stage && !j.inFlight && s.holdFree
  | none => false

/-- The planner's job when its read of a kind is in flight. -/
def State.planReadInFlight (s : State) (kind : PlanStage → Bool) : Option PlanJob :=
  match s.planner.job with
  | some j => if kind j.stage && j.inFlight then some j else none
  | none => none

/-- Whether a stage is the layout read. -/
def PlanStage.isLayout (st : PlanStage) : Bool :=
  match st with
  | .layout => true
  | _ => false

/-- Whether a stage is the ticket read. -/
def PlanStage.isTicket (st : PlanStage) : Bool :=
  match st with
  | .ticket => true
  | _ => false

/-- Whether a stage is a roster read. -/
def PlanStage.isRoster (st : PlanStage) : Bool :=
  match st with
  | .roster => true
  | _ => false

/-- Whether a stage is a subject record read. -/
def PlanStage.isSubject (st : PlanStage) : Bool :=
  match st with
  | .subject _ _ => true
  | _ => false

/-- Whether a stage is a banner text read. -/
def PlanStage.isText (st : PlanStage) : Bool :=
  match st with
  | .text _ _ _ => true
  | _ => false

/-- A planning read ends in a bus error: the tile holds are released, the order ends MEMORY_FAULT, and a waiting sheet
begins (R66, R67). -/
def State.planReadFails (s : State) (sl : SheetSlot) : State :=
  (s.endUnit.planningEnds sl .memoryFault .planningRead).takeWaiting

/-! ## Ticket (R44 to R47) -/

/-- A ticket address that refuses the order without a read: 0, or not a multiple of 128 (R44). -/
def badTicketAddr (a : Addr) : Bool := a == 0#64 || a.extractLsb' 0 7 != 0#7

/-- TICKET_READ_START: a bad address refuses the order GEOMETRY, and nothing is read; otherwise the read starts when the
hold is FREE (R44). -/
def execTicketReadStart (s : State) : Out :=
  .next (match s.planner.job with
    | some j =>
      if j.stage.isTicket && !j.inFlight then
        match s.sheet j.slot with
        | none => s
        | some sh =>
          if badTicketAddr sh.ticketAddr then (s.planningEnds j.slot .refused .geometry).takeWaiting
          else if s.holdFree then s.startPlanRead
          else s
      else s
    | none => s)

/-- A ticket that passes R45 and R46 is kept in the slot; the press check follows (R47), then the layout read, or the
placement pass at once for a layout of no entries (R45, R65). -/
def State.takeTicket (s : State) (sl : SheetSlot) (t : Ticket) : State :=
  let s1 := s.mapSheet sl fun sh => { sh with ticket := some t, start := t.rosterStart, reached := t.rosterStart }
  if s1.refusesPress t then s1.planningEnds sl .refused .pressOff
  else if t.entryCount = 0 then s1.beginPass sl t.rosterStart [] []
  else s1.awaitRead .layout

/-- TICKET_READ_DONE (R45 to R47, R69): the next roster index takes the ticket's roster start index as read, and the
checks refuse the order or let planning go on. -/
def execTicketReadDone (u : UnitOf) (r : ReadResult) (s : State) : Out :=
  .next (match u with
    | .discarded => s.finishDiscarded .ticketRead
    | .current =>
      match s.planReadInFlight PlanStage.isTicket with
      | none => s
      | some j =>
        match r with
        | .busError => s.planReadFails j.slot
        | .data bs =>
          if bs.length = 128 then
            let s1 := s.endUnit.mapResults j.slot fun r => { r with nextRoster := ticketRosterStart bs }
            match ticketCheck bs with
            | .error d => (s1.planningEnds j.slot .refused d).takeWaiting
            | .ok t => (s1.takeTicket j.slot t).takeWaiting
          else s)

/-! ## Layout (R48 to R50) -/

/-- LAYOUT_READ_START (R48). -/
def execLayoutReadStart (s : State) : Out :=
  .next (if s.planReadCanStart PlanStage.isLayout then s.startPlanRead else s)

/-- The entries of a unit have passed: more are wanted, or the layout is refused UNBALANCED, or the placement pass begins
(R48, R65). -/
def State.layoutRead (s : State) (j : PlanJob) (t : Ticket) (es : List LayoutEntry) (depth capacity : Nat) : State :=
  let all := j.entries ++ es
  if all.length < t.entryCount then
    (s.mapJob fun j => { j with entries := all, depth := depth, capacity := capacity }).awaitRead .layout
  else if depth ≠ 0 then s.planningEnds j.slot .refused .unbalanced
  else s.beginPass j.slot t.rosterStart (entrySteps 0 all) (entryGrids all)

/-- LAYOUT_READ_DONE (R48 to R50): the entries of a unit of 1 to 8 are examined in layout order; the first that fails
refuses the order. -/
def execLayoutReadDone (u : UnitOf) (r : ReadResult) (s : State) : Out :=
  .next (match u with
    | .discarded => s.finishDiscarded .layoutRead
    | .current =>
      match s.planReadInFlight PlanStage.isLayout with
      | none => s
      | some j =>
        match r, s.ticketOf j.slot with
        | .busError, _ => s.planReadFails j.slot
        | .data bs, some t =>
          let n := bs.length / 32
          if bs.length = 32 * n ∧ 0 < n ∧ n ≤ 8 ∧ j.entries.length + n ≤ t.entryCount then
            let es := layoutEntries bs n
            match s.validate j.depth j.capacity es with
            | .error d => (s.endUnit.planningEnds j.slot .refused d).takeWaiting
            | .ok v => (s.endUnit.layoutRead j t es v.1 v.2).takeWaiting
          else s
        | .data _, none => s)

/-! ## Roster (R34, R65) -/

/-- ROSTER_READ_START (R65). -/
def execRosterReadStart (s : State) : Out :=
  .next (if s.planReadCanStart PlanStage.isRoster then s.startPlanRead else s)

/-- ROSTER_READ_DONE (R34, R55 to R62): a unit of 1 to 16 entries, not beyond the roster count, is brought in, and the
placement pass acts on the entries it reaches. -/
def execRosterReadDone (u : UnitOf) (r : ReadResult) (s : State) : Out :=
  .next (match u with
    | .discarded => s.finishDiscarded .rosterRead
    | .current =>
      match s.planReadInFlight PlanStage.isRoster with
      | none => s
      | some j =>
        match r, s.ticketOf j.slot with
        | .busError, _ => s.planReadFails j.slot
        | .data bs, some t =>
          let n := bs.length / 16
          if bs.length = 16 * n ∧ 0 < n ∧ n ≤ 16 ∧ j.rosterIndex + n ≤ t.rosterCount then
            ((s.endUnit.mapJob fun j => { j with roster := rosterEntries bs n, inFlight := false }).resumePass).takeWaiting
          else s
        | .data _, none => s)

/-! ## Subject records (R26 to R33) -/

/-- SUBJECT_READ_START (R26). -/
def execSubjectReadStart (s : State) : Out :=
  .next (if s.planReadCanStart PlanStage.isSubject then s.startPlanRead else s)

/-- SUBJECT_READ_DONE (R27 to R33, R64): the cell is decided and placed, with a tile lookup for a PORTRAIT, and the
placement pass goes on. -/
def execSubjectReadDone (u : UnitOf) (r : ReadResult) (s : State) : Out :=
  .next (match u with
    | .discarded => s.finishDiscarded .subjectRead
    | .current =>
      match s.planReadInFlight PlanStage.isSubject with
      | none => s
      | some j =>
        match r, j.stage with
        | .busError, _ => s.planReadFails j.slot
        | .data bs, .subject _ seed =>
          if bs.length = 128 then
            (((s.endUnit.mapJob fun j => { j with inFlight := false }).placeFromRecord j.slot seed bs).resumePass).takeWaiting
          else s
        | .data _, _ => s)

/-! ## Banner texts (R54) -/

/-- BANNER_TEXT_READ_START (R54). -/
def execBannerTextReadStart (s : State) : Out :=
  .next (if s.planReadCanStart PlanStage.isText then s.startPlanRead else s)

/-- A banner frame takes its text. -/
def Frame.withText (f : Frame) (codes : List Code) : Frame :=
  match f with
  | .banner b => .banner { b with text := codes }
  | other => other

/-- BANNER_TEXT_READ_DONE (R54): the codes are kept with the banner's frame placement, and the placement pass goes on. -/
def execBannerTextReadDone (u : UnitOf) (r : ReadResult) (s : State) : Out :=
  .next (match u with
    | .discarded => s.finishDiscarded .textRead
    | .current =>
      match s.planReadInFlight PlanStage.isText with
      | none => s
      | some j =>
        match r, j.stage with
        | .busError, _ => s.planReadFails j.slot
        | .data bs, .text _ count i =>
          if bs.length = 2 * count then
            let s1 := s.endUnit.mapSheet j.slot fun sh =>
              { sh with frames := sh.frames.modify i fun f => f.withText (codesAt bs 0 count) }
            ((s1.mapJob fun j => { j with inFlight := false }).resumePass).takeWaiting
          else s
        | .data _, _ => s)

end Sys2Proof.Machine
end

