-- ==== Sys2Proof/Machine/PressLink.lean ====
section
/-! DEFINITION. The Press Link's commands (sections 8.3 to 8.5): the ready level, the press's messages, the link's timers
and the end of a band send. A message or a timer expiry in a state that gives it no effect changes nothing (R148). -/

namespace Sys2Proof.Machine

/-! ## The ready level (R150, R151) -/

/-- READY_RISE: in AWAIT_READY the wait timer stops and OPEN is sent when band 0 is FULL (R150, R151). Under LOOP changes
of READY are not taken (R165). -/
def execReadyRise (s : State) : Out :=
  .next (let s1 := s.setLink { s.link with ready := true }
    match s.link.state, s.link.held with
    | .awaitReady, some h =>
      if s.link.ready = false ∧ h.mode ≠ .loop then (s1.setLink { s1.link with waitTimer := none }).openWhenReady else s1
    | _, _ => s1)

/-- READY_FALL: in AWAIT_READY the wait timer starts with the wait limit (R151). -/
def execReadyFall (s : State) : Out :=
  .next (let s1 := s.setLink { s.link with ready := false }
    match s.link.state, s.link.held with
    | .awaitReady, some h =>
      if s.link.ready = true ∧ h.mode ≠ .loop then
        s1.setLink { s1.link with waitTimer := some (1000 * s.link.config.waitLimit) }
      else s1
    | _, _ => s1)

/-- WAIT_TIMER_EXPIRY: in AWAIT_READY, PRESS_STALLED is raised and the link goes on waiting (R151). -/
def execWaitTimerExpiry (s : State) : Out :=
  .next (if s.link.state = .awaitReady ∧ s.link.waitTimer ≠ none then
    (s.setLink { s.link with waitTimer := none }).raise .pressStalled
  else s)

/-! ## Opening (R152) -/

/-- Whether the link takes messages from the press for the attempt it holds: LIVE, the sheet's id, and no abort pending
(R148, R156, R165). -/
def State.takesMessage (s : State) (h : LinkHold) (sheetId : BitVec 32) : Bool :=
  h.mode != .loop && h.sheetId == sheetId && !s.link.abortPending

/-- ACCEPT: in OPENING with the sheet's id, the accept timer stops, the link enters STREAMING and band 0's send starts;
otherwise discarded (R148, R152). -/
def execAccept (sheetId : BitVec 32) (s : State) : Out :=
  .next (match s.link.state, s.link.held with
    | .opening, some h => if s.takesMessage h sheetId then s.acceptTaken else s
    | _, _ => s)

/-- The link lets its attempt go without a message: CLOSED, the attempt ended for the Composer and the buffers, and the
buffer of a send in flight, which ends at once, given back EMPTY (R144, R149, R158). -/
def State.dropAttempt (s : State) (a : Attempt) : State :=
  let s1 := s.linkClose.endAttempt a
  match s.link.sending with
  | some b => s1.giveBack (bufferFor b)
  | none => s1

/-- ACCEPT_TIMER_EXPIRY: in OPENING, ABORT is sent, the link enters CLOSED, and the sheet ends PRESS_SILENT (R152). -/
def execAcceptTimerExpiry (s : State) : Out :=
  .next (match s.link.state, s.link.held with
    | .opening, some h =>
      if s.link.acceptTimer ≠ none then
        (((s.tell h (.abort h.sheetId)).dropAttempt h.attempt).endSheet h.attempt.slot .pressSilent .accept).letGo
          h.attempt.slot
      else s
    | _, _ => s)

/-! ## Streaming (R153 to R157) -/

/-- An underrun: the attempt ends, ABORT is sent now or after the send in flight, and the spoil is reported (R156). -/
def State.underrun (s : State) (h : LinkHold) : State :=
  (s.setLink { s.link with graceTimer := none }).spoilAttempt h.attempt .underrun

/-- The next band is due (R154, R155): it is sent, or waits for the send in flight, or the grace timer starts, a grace of
0 expiring at once. -/
def State.bandDue (s : State) (h : LinkHold) : State :=
  if s.bandFull h.attempt s.link.nextBand then
    if s.link.sending = none then s.startSend else s.setLink { s.link with due := true }
  else
    let s1 := s.setLink { s.link with graceTimer := some s.link.config.grace }
    if s.link.config.grace = 0 then s1.underrun h else s1

/-- BAND_TIMER_EXPIRY: in STREAMING, the next band is due; with no next band the expiry has no effect (R154). -/
def execBandTimerExpiry (s : State) : Out :=
  .next (match s.link.state, s.link.held with
    | .streaming, some h =>
      if s.link.bandTimer ≠ none then
        let s1 := s.setLink { s.link with bandTimer := none }
        if s.link.nextBand < h.bands then s1.bandDue h else s1
      else s
    | _, _ => s)

/-- GRACE_TIMER_EXPIRY: the sheet underruns (R155, R156). -/
def execGraceTimerExpiry (s : State) : Out :=
  .next (match s.link.state, s.link.held with
    | .streaming, some h => if s.link.graceTimer ≠ none then s.underrun h else s
    | _, _ => s)

/-- The sheet is printed: the link enters CLOSED and the sheet finishes (R160, R174). -/
def State.printed (s : State) (h : LinkHold) : State := s.linkClose.finishSheet h.attempt.slot

/-- The last band has been sent: the band timer stops, CLOSE is sent, the result timer starts and the link enters CLOSING;
under LOOP a RESULT PRINTED follows at once (R157, R165). -/
def State.sendClose (s : State) (h : LinkHold) : State :=
  let s1 := s.tell h (.close h.sheetId h.bands)
  let s2 := s1.setLink { s1.link with
    state := .closing
    bandTimer := none
    resultTimer := some (1000 * s1.link.config.resultLimit) }
  if h.mode = .loop then s2.printed h else s2

/-- What follows a completed send: a pending ABORT, a delayed send, or CLOSE after the last band (R153 to R157). -/
def State.afterSend (s : State) (h : LinkHold) (b : Nat) : State :=
  if s.link.abortPending then ((s.tell h (.abort h.sheetId)).linkClose).letGo h.attempt.slot
  else if b + 1 = h.bands then s.sendClose h
  else if s.link.due then s.startSend
  else s

/-- BAND_SEND_DONE: the band has gone to the press and its buffer becomes EMPTY (R153), the correctable errors that stand in
it found again (R197). A send that must read a poisoned
granule does not complete (R201; assumption 1). -/
def execBandSendDone (s : State) : Out :=
  .next (match s.link.sending, s.link.held with
    | some b, some h =>
      let x := s.composer.buf (bufferFor b)
      if x.poisoned then s
      else
        let lines := (x.tag.map (·.lines)).getD 0
        let s1 := (s.findAgain fun l => l == .band (bufferFor b)).tell h (.band b lines (x.bytes 0 (3 * (h.width * lines))))
        ((s1.setLink { s1.link with sending := none }).giveBack (bufferFor b)).afterSend h b
    | _, _ => s)

/-! ## Results (R152, R158, R160) -/

/-- The sheet is REFUSED by the press, with no retry (R152, R158, R160). -/
def State.pressRejects (s : State) (h : LinkHold) : State :=
  ((s.dropAttempt h.attempt).endSheet h.attempt.slot .refused .pressRejected).letGo h.attempt.slot

/-- The sheet is spoiled by the press, with no ABORT (R158, R160). -/
def State.pressSpoils (s : State) (h : LinkHold) (cause : Detail) : State :=
  ((s.dropAttempt h.attempt).spoil h.attempt cause).letGo h.attempt.slot

/-- RESULT: with the sheet's id it decides the sheet by the link's state; otherwise discarded (R148, R152, R158, R160). -/
def execResult (sheetId : BitVec 32) (code : PressCode) (s : State) : Out :=
  .next (match s.link.held with
    | none => s
    | some h =>
      if s.takesMessage h sheetId = false then s
      else
        match s.link.state, code with
        | .opening, .rejected => s.pressRejects h
        | .streaming, .rejected => s.pressRejects h
        | .closing, .rejected => s.pressRejects h
        | .streaming, .jammed => s.pressSpoils h .jammed
        | .closing, .jammed => s.pressSpoils h .jammed
        | .streaming, .mediaOut => s.pressSpoils h .mediaOut
        | .closing, .mediaOut => s.pressSpoils h .mediaOut
        | .closing, .printed => s.printed h
        | _, _ => s)

/-- RESULT_TIMER_EXPIRY: in CLOSING the link enters CLOSED and the sheet ends PRESS_SILENT (R160). -/
def execResultTimerExpiry (s : State) : Out :=
  .next (match s.link.state, s.link.held with
    | .closing, some h =>
      if s.link.resultTimer ≠ none then
        ((s.dropAttempt h.attempt).endSheet h.attempt.slot .pressSilent .result).letGo h.attempt.slot
      else s
    | _, _ => s)

end Sys2Proof.Machine
end

