-- ==== Sys2Proof/Machine/ProofOutput.lean ====
section
/-! DEFINITION. The Proof Writer's commands (section 8.8) and the cell report (R176). -/

namespace Sys2Proof.Machine

/-! ## Band writes (R167 to R170) -/

/-- BAND_WRITE_START: the Writer WAITING, its next band FULL and the hold FREE: the buffer becomes WRITING (R167, R168). -/
def execBandWriteStart (s : State) : Out :=
  .next (match s.writer.attempt with
    | none => s
    | some a =>
      if s.writer.state = .waiting ∧ s.bandFull a s.writer.nextBand = true ∧ s.holdFree = true then
        ((s.mapBuf (bufferFor s.writer.nextBand) fun x => { x with state := .writing }).setWriter
          { s.writer with state := .writing }).beginUnit
      else s)

/-- The rows of a band write that have reached server memory when `ends` says of each row issued whether its write completed
or ended in a bus error: the rows in flight with a failing one complete (R169; assumption 9). -/
def rowsReached (rows : List ServerWrite) (ends : List Bool) : List ServerWrite :=
  ((rows.zip ends).filter (·.2)).map (·.1)

/-- The band write in flight ends: the correctable errors that stand in its buffer have been found again, some of its rows
have reached server memory, its buffer becomes EMPTY, and the unit ends (R168 to R170, R197). -/
def State.endBandWrite (s : State) (reached : List ServerWrite) : State :=
  let i := bufferFor s.writer.nextBand
  (((s.findAgain fun l => l == .band i).writeServerAll reached).giveBack i).endUnit

/-- A band has been written and its attempt goes on: the next band index rises; after the last band the Writer clears its
attempt and the sheet is proofed (R168, R174). -/
def State.bandWritten (s : State) (a : Attempt) : State :=
  let b := s.writer.nextBand
  let n := bandCount (((s.ticketOf a.slot).map (·.height)).getD 0)
  if b + 1 = n then s.writerNext.finishSheet a.slot
  else s.setWriter { s.writer with state := .waiting, nextBand := b + 1 }

/-- A band write of a discarded unit: the rows that reached server memory stay there and the unit leaves the port (R170).
Of several such units the oldest ends: DESIGN CHOICE (assumption 48). -/
def State.finishDiscardedBand (s : State) (ends : List Bool) : State :=
  match s.port.discarded.find? fun u => match u with
      | .bandWrite _ => true
      | _ => false with
  | some (.bandWrite ws) => (s.writeServerAll (rowsReached ws ends)).finishDiscarded (.bandWrite ws)
  | _ => s

/-- Whether a band write stopped by an uncorrectable read can have issued so many rows: not all of the band, and none of a
poisoned buffer, whose first read finds it (R169, R201). -/
def State.canStop (s : State) (rows : Nat) : Bool :=
  decide (rows < s.currentRows.length) && (!(s.composer.buf (bufferFor s.writer.nextBand)).poisoned || rows == 0)

/-- BAND_WRITE_DONE: every write the band write issued has completed: all the rows of the band, or those before an
uncorrectable read, which spoils the attempt (R168 to R170). A write of a poisoned buffer writes no row: its first read is an
uncorrectable error (R201; assumption 11). -/
def execBandWriteDone (u : UnitOf) (rows : Nat) (s : State) : Out :=
  .next (match u with
    | .discarded => s.finishDiscardedBand (List.replicate rows true)
    | .current =>
      match s.writer.attempt with
      | none => s
      | some a =>
        if s.writer.state ≠ .writing then s
        else if s.writer.damage then
          if s.canStop rows then
            ((((s.endAttempt a).endBandWrite (s.currentRows.take rows)).writerNext).spoil a .damage).letGo a.slot
          else s
        else if rows = s.currentRows.length ∧ (s.composer.buf (bufferFor s.writer.nextBand)).poisoned = false then
          if s.writer.endPending then ((s.endBandWrite s.currentRows).writerNext).letGo a.slot
          else (s.endBandWrite s.currentRows).bandWritten a
        else s)

/-- Whether a band write can have failed so: some row issued failed, and after a damaged read, with no further row read or
written, the rows issued are not all of the band (R169). -/
def State.canFail (s : State) (ends : List Bool) : Bool :=
  ends.contains false &&
    (if s.writer.damage then decide (ends.length < s.currentRows.length) else decide (ends.length ≤ s.currentRows.length))

/-- BAND_WRITE_FAIL: a write of the band ended in a bus error and every write issued has completed: the attempt ends and the
order ends MEMORY_FAULT when it has no ending (R169, R170). So it does as well when a read of the same band write found
damage before: MEMORY_FAULT, and no spoil, is a DESIGN CHOICE (assumption 40). -/
def execBandWriteFail (u : UnitOf) (rows : List Bool) (s : State) : Out :=
  .next (match u with
    | .discarded => s.finishDiscardedBand rows
    | .current =>
      match s.writer.attempt with
      | none => s
      | some a =>
        if s.writer.state = .writing ∧ s.canFail rows = true ∧
            (s.composer.buf (bufferFor s.writer.nextBand)).poisoned = false then
          ((((s.endAttempt a).endOrder a.slot .memoryFault .proofWrite).endBandWrite
            (rowsReached s.currentRows rows)).writerNext).letGo a.slot
        else s)

/-! ## The cell report (R176, R218) -/

/-- The report of a sheet: one entry for each cell of its cell part, from report address + sheet index × 2048 (R176). -/
def reportWrites (sh : Sheet) (t : Ticket) : List ServerWrite :=
  sh.cells.zipIdx.map fun (c, i) => ⟨serverAddr t.reportAddr (sh.index * 2048 + 32 * i), c.reportBytes⟩

/-- A slot's report moves to another state. -/
def State.setReport (s : State) (sl : SheetSlot) (r : ReportState) : State := s.mapSheet sl fun sh => { sh with report := r }

/-- REPORT_WRITE_START: a report due, the hold FREE and the engine not FAULTED: the report is written as one unit; with no
cells it is complete at its start (R176, R188, R189). -/
def execReportWriteStart (slot : SheetSlot) (s : State) : Out :=
  .next (match s.sheet slot with
    | none => s
    | some sh =>
      match sh.ticket with
      | none => s
      | some t =>
        if sh.report = .due ∧ s.holdFree = true ∧ s.control.engine ≠ .faulted then
          if sh.cells = [] then (s.setReport slot .none).letGo slot
          else ((s.setReport slot .inFlight).beginUnit).writeServerAll (reportWrites sh t)
        else s)

/-- REPORT_WRITE_DONE: the report is written, and the slot is let go when it can be; a bus error gives the order the ending
MEMORY_FAULT REPORT_WRITE when it has none (R175, R176). -/
def execReportWriteDone (u : UnitOf) (slot : SheetSlot) (ok : Bool) (s : State) : Out :=
  .next (match u with
    | .discarded => s.finishDiscarded .reportWrite
    | .current =>
      if s.sheetIs slot fun sh => sh.report == .inFlight then
        let s1 := (s.setReport slot .none).endUnit
        let s2 := if ok then s1 else s1.mapSheet slot fun sh =>
          { sh with ending := if sh.ending.isNone then some (.memoryFault, .reportWrite) else sh.ending }
        s2.letGo slot
      else s)

end Sys2Proof.Machine
end

