-- ==== Sys2Proof/Machine/RegisterWindow.lean ====
section
/-! DEFINITION. Start-up, engine reset and the register window (chapter 11, sections 1.5 and 1.6, 10.2, R200, R201): the
commands that the print server gives by writing a register, power-on, the end of the scrub and the function reset. -/

namespace Sys2Proof.Machine

/-! ## Shared field writes -/

/-- A depth outside 1 to 8 is not accepted; a lowered depth discards the youngest window entries, moves the cursor back to
the oldest discarded one, and limits a record read in flight; a raised one acts at the next record read (R6, R207). -/
def State.writeDepth (s : State) (v : Nat) : State :=
  if v < 1 ∨ Config.maxDepth < v then s
  else
    let s1 := s.setWindow { s.window with depth := v }
    s1.setWalker { s.walker with
      window := s.walker.window.take v
      cursor := cursorBack s.walker.cursor (s.walker.window.drop v)
      readLimit := min s.walker.readLimit v }

/-- The press mode takes LIVE, LOOP or OFF; the value 3 is not accepted (R164). -/
def State.writePressMode (s : State) (v : Nat) : State :=
  match pressModeOf v with
  | some m => s.setWindow { s.window with pressMode := m }
  | none => s

/-- The sweep preset. A change made in IDLE acts on the sweep timer at once: to 0 it stops the timer, to another value it
loads the timer, which runs (R17). -/
def State.writeSweepPreset (s : State) (v : BitVec 16) : State :=
  let s1 := s.setWindow { s.window with sweepPreset := v }
  if s.walker.state = .idle ∧ v ≠ s.window.sweepPreset then
    if v = 0#16 then s1.setWalker { s.walker with sweepRunning := false }
    else s1.setWalker { s.walker with sweepTimer := v.toNat, sweepRunning := true }
  else s1

/-- CHAIN_HEAD is replaced in STOPPED alone; its low twelve bits read 0 (R5). -/
def State.writeChainHead (s : State) (v : Addr) : State :=
  if s.control.engine = .stopped then s.setWindow { s.window with chainHead := (v >>> 12) <<< 12 } else s

/-- A wake (R16): IDLE goes to SEEKING at the cursor, any other walker state sets the pending-wake flag. -/
def State.wakeUp (s : State) : State :=
  if s.walker.state = .idle then s.seekFromIdle else s.setWalker { s.walker with pendingWake := true }

/-- RUN written 1: it is held, and in STOPPED the engine starts (R206). -/
def State.writeRunOne (s : State) : State :=
  let s1 := s.setWindow { s.window with run := true }
  if s.control.engine = .stopped then s1.startEngine else s1

/-- RUN written 0: it is held, and in RUNNING a drain begins (R185, R206). -/
def State.writeRunZero (s : State) : State :=
  let s1 := s.setWindow { s.window with run := false }
  if s.control.engine = .running then
    ((s1.setControl { s1.control with engine := .draining }).drainWalker).stopIfDrained
  else s1

/-- Whether ABANDON written 1 has effect: in RUNNING, in DRAINING while ABANDON reads 0, and in STOPPED, where it reads 1
and clears at once (R186, R207; assumption 12). -/
def State.abandonActs (s : State) : Bool :=
  match s.control.engine with
  | .running => true
  | .draining => !s.window.abandon
  | .stopped => true
  | .scrubbing => false
  | .faulted => false

/-- ABANDON written 1 (R186, R207): RUN becomes 0; in RUNNING and DRAINING the engine drains with ABANDON reading 1, and
every order without an ending is ended. -/
def State.writeAbandon (s : State) : State :=
  if s.abandonActs then
    let s1 := s.setWindow { s.window with run := false }
    if s.control.engine = .stopped then s1
    else
      let s2 := (s1.setControl { s1.control with engine := .draining }).setWindow { s1.window with abandon := true }
      s2.drainWalker.abandonOrders.stopIfDrained
  else s

/-- The events whose bit is written 0 are cleared (R210). -/
def State.writeEvents (s : State) (v : BitVec 9) : State := s.setWindow { s.window with events := s.window.events &&& v }

/-- The enables take the value written, whole (R210). -/
def State.writeEnables (s : State) (v : BitVec 9) : State := s.setWindow { s.window with enables := v }

/-! ## The hold (R191, R194) -/

/-- The window of a code in milliseconds (R190). -/
def windowLength (code : BitVec 3) : Nat := if code = 0#3 then 0 else 2 ^ (code.toNat - 1)

/-- Whether a sheet counts against PRESS_FIRST: in PLANNING or FILLING, with destination PRESS or not yet known (R191). -/
def Sheet.pressAhead (sh : Sheet) : Bool :=
  (sh.state == .planning || sh.state == .filling) && (sh.ticket.map (·.dest)).getD .press == .press

/-- The fields that a write to HOLD sets (R190). -/
def State.setHoldFields (s : State) (code : BitVec 3) (pressFirst : Bool) : State :=
  s.setPort { s.port with windowCode := code, pressFirst := pressFirst }

/-- HOLD written with request 1 while FREE is decided by the first case that applies; while DRAINING or HELD it is
discarded whole (R191, R194). -/
def State.requestHold (s : State) (code : BitVec 3) (pressFirst : Bool) : State :=
  if s.port.hold = .free then
    let s1 := s.setHoldFields code pressFirst
    if pressFirst ∧ (s.sheetIs .a Sheet.pressAhead ∨ s.sheetIs .b Sheet.pressAhead) then
      (s1.setPort { s1.port with lastResult := .rejected }).raise .holdSettled
    else if code = 0#3 ∧ 0 < s.port.outstanding then
      (s1.setPort { s1.port with lastResult := .rejected }).raise .holdSettled
    else if s.port.outstanding = 0 then
      (s1.setPort { s1.port with hold := .held, lastResult := .accepted }).raise .holdSettled
    else s1.setPort { s1.port with hold := .draining, windowTimer := some (windowLength code) }
  else s

/-- HOLD written with request 0: DRAINING is WITHDRAWN, HELD is released, and the written fields are taken (R192, R194;
that they are taken in DRAINING and HELD as well is assumption 13). -/
def State.releaseHold (s : State) (code : BitVec 3) (pressFirst : Bool) : State :=
  let s1 := s.setHoldFields code pressFirst
  match s.port.hold with
  | .free => s1
  | .draining => s1.setPort { s1.port with hold := .free, lastResult := .withdrawn, windowTimer := none }
  | .held => s1.setPort { s1.port with hold := .free }

/-! ## The check log (R200, R201) -/

/-- The log is cleared: both records empty, the count 0, the log unlocked (R200). -/
def State.clearLog (s : State) : State :=
  s.setCheck { s.check with correctable := none, count := 0#8, uncorrectable := none, locked := false }

/-- The poison selector takes the value written (R201). -/
def State.selectPoison (s : State) (v : Nat) : State := s.setCheck { s.check with poison := poisonOf v }

/-! ## Engine reset (R208) -/

/-- The units in progress of the walker. -/
def Walker.unitsInProgress (w : Walker) : List DiscardedUnit :=
  (match w.unit with
    | .none => []
    | .recordRead _ _ => [.recordRead]
    | .trailerRead _ => [.trailerRead]
    | .taken _ _ _ => [.takenWrite]) ++ (if w.spentInFlight.isSome then [.spentWrite] else [])

/-- The report unit of a sheet. -/
def reportUnit (sh : Option Sheet) : List DiscardedUnit :=
  match sh with
  | some sh => if sh.report = .inFlight then [.reportWrite] else []
  | none => []

/-- The units in progress of Sheet Control. -/
def Control.unitsInProgress (c : Control) : List DiscardedUnit :=
  (match c.retire with
    | .none => []
    | .results => [.resultsWrite]
    | .done => [.doneWrite]) ++
  (match c.barrier with
    | .none => []
    | .profile _ _ inFlight _ => if inFlight then [.profileRead] else []
    | .glyphs l => if l.inFlight then [.glyphRead] else []) ++ reportUnit c.slotA ++ reportUnit c.slotB

/-- Every unit in progress that an engine reset leaves to complete at the Memory Port (R189, R208). -/
def State.unitsInProgress (s : State) : List DiscardedUnit :=
  s.walker.unitsInProgress ++ s.control.unitsInProgress ++
  (match s.planner.job with
    | some j => if j.inFlight then [j.stage.discarded] else []
    | none => []) ++
  (match s.builder.current with
    | some b => if b.portDone then [] else [.build]
    | none => []) ++
  (if s.writer.state = .writing then [.bandWrite s.currentRows] else [])

/-- A store slot after an engine reset (R116). -/
def StoreSlot.afterReset (x : StoreSlot) : StoreSlot :=
  if x.state = .ready then { x with holders := ⟨false, false⟩ } else StoreSlot.blank

/-- The tile store after an engine reset (R101, R116). -/
def TileStore.afterReset (t : TileStore) : TileStore :=
  ⟨t.sets.map fun x => x.mapWays StoreSlot.afterReset, t.mode, ScratchPool.blank, ScratchPool.blank⟩

/-- The ABORT that an engine reset sends when the link was OPENING or STREAMING (R162). -/
def State.resetAbort (s : State) : State :=
  match s.link.held with
  | some h => if s.link.state = .opening ∨ s.link.state = .streaming then s.tell h (.abort h.sheetId) else s
  | none => s

/-- The engine reset, in one step at every block (R208 and the rules it names: R25, R116, R146, R162, R170, R188,
R195). -/
def State.engineReset (s : State) : State :=
  { s.resetAbort with
    window := { s.window with run := false, abandon := false, events := s.window.events &&& storeLostOnly }
    port := { s.port with
      hold := .free
      lastResult := .none
      windowTimer := none
      discarded := s.port.discarded ++ s.unitsInProgress }
    walker := Walker.cleared
    control := ⟨if s.control.engine = .scrubbing then .scrubbing else .stopped, .none, 0#64, none, none, [], .none, .none⟩
    planner := Planner.cleared
    store := s.store.afterReset
    builder := ⟨[], none⟩
    composer := s.composer.afterReset
    link := Link.closedWith s.link.config s.link.ready
    writer := Writer.cleared
    check := { s.check with poison := .none } }

/-! ## Register writes decoded (R203, R204) -/

/-- A write to CONTROL (R203, R206 to R208): RESET discards the other fields; ABANDON with effect takes RUN as 0; depth,
press mode and sweep preset are taken as their rules give. -/
def State.writeControl (s : State) (v : BitVec 32) : State :=
  if v.getLsbD 2 then s.engineReset
  else
    let fields (s : State) : State :=
      ((s.writeDepth (v.extractLsb' 4 4).toNat).writePressMode (v.extractLsb' 8 2).toNat).writeSweepPreset
        (v.extractLsb' 16 16)
    if v.getLsbD 1 && s.abandonActs then fields s.writeAbandon
    else if v.getLsbD 0 then (fields s).writeRunOne
    else (fields s).writeRunZero

/-- A write to HOLD (R190, R203). -/
def State.writeHold (s : State) (v : BitVec 32) : State :=
  let code := v.extractLsb' 4 3
  if v.getLsbD 0 then s.requestHold code (v.getLsbD 8) else s.releaseHold code (v.getLsbD 8)

/-- A write to the low half of CHECK_LOG word 0: the selector, and the clear (R200, R201, R203). -/
def State.writeCheckLog (s : State) (v : BitVec 32) : State :=
  let s1 := if v.getLsbD 0 then s.clearLog else s
  s1.selectPoison (v.extractLsb' 4 2).toNat

/-- A CHAIN_HEAD value with one half replaced (R204). -/
def withHalf (old : Addr) (high : Bool) (v : BitVec 32) : Addr :=
  if high then v ++ old.extractLsb' 0 32 else old.extractLsb' 32 32 ++ v

/-- A 4-byte write to the half `high` of the register at word `i` (R203, R204). That bits 0 to 31 lie at the lower offset is
a DESIGN CHOICE (assumption 34). -/
def State.writeHalf (s : State) (i : Nat) (high : Bool) (v : BitVec 32) : State :=
  match i, high with
  | 1, h => s.writeChainHead (withHalf s.window.chainHead h v)
  | 2, false => s.writeControl v
  | 3, _ => s.wakeUp
  | 6, false => s.writeEvents (v.extractLsb' 0 9)
  | 7, false => s.writeEnables (v.extractLsb' 0 9)
  | 8, false => s.writeHold v
  | 9, false => s.writeCheckLog v
  | _, _ => s

/-- An 8-byte write to the register at word `i` (R203, R204). -/
def State.writeWhole (s : State) (i : Nat) (v : BitVec 64) : State :=
  match i with
  | 1 => s.writeChainHead v
  | 3 => s.wakeUp
  | _ => s.writeHalf i false (v.extractLsb' 0 32)

/-- A write of `size` bytes at `offset` of the window; any other size or alignment is discarded (R204). -/
def State.writeRegister (s : State) (offset size : Nat) (v : BitVec 64) : State :=
  if size = 8 ∧ offset % 8 = 0 then s.writeWhole (offset / 8) v
  else if size = 4 ∧ offset % 4 = 0 then s.writeHalf (offset / 8) (offset % 8 == 4) (v.extractLsb' 0 32)
  else s

/-! ## The commands -/

/-- POWER_ON: every block takes its power-on state, STORE_LOST is set and the scrub starts (R211). What was put out, the
level of READY and the commands that wait are outside the part; the count of free values drawn goes on, so that none is
drawn twice (assumption 51). -/
def execPowerOn (s : State) : Out :=
  .next { State.reset with
    pending := s.pending
    link := Link.closedWith PressConfig.powerOn s.link.ready
    check := { State.reset.check with finds := s.check.finds }
    out := s.out }

/-- SCRUB_END: the scrub has written the band buffers with zero data and good check bits; SCRUB_DONE is set and the engine
enters STOPPED, then RUNNING when RUN reads 1 (R211). -/
def execScrubEnd (s : State) : Out :=
  .next (if s.control.engine = .scrubbing then
    ((s.setComposer s.composer.scrubbed).raise .scrubDone).engineStops
  else s)

/-- FUNCTION_RESET: the function reset of the bus makes an engine reset (R208). -/
def execFunctionReset (s : State) : Out := .next s.engineReset

/-- RESET: RESET written 1 makes an engine reset (R208). -/
def execReset (s : State) : Out := .next s.engineReset

/-- RUN_START: RUN written 1 (R206). -/
def execRunStart (s : State) : Out := .next s.writeRunOne

/-- RUN_DRAIN: RUN written 0 (R185, R206). -/
def execRunDrain (s : State) : Out := .next s.writeRunZero

/-- ABANDON: ABANDON written 1 (R186, R207). -/
def execAbandon (s : State) : Out := .next s.writeAbandon

/-- DEPTH_WRITE (R6, R207). -/
def execDepthWrite (v : BitVec 4) (s : State) : Out := .next (s.writeDepth v.toNat)

/-- PRESS_MODE_WRITE (R164). -/
def execPressModeWrite (v : BitVec 2) (s : State) : Out := .next (s.writePressMode v.toNat)

/-- SWEEP_PRESET_WRITE (R17). -/
def execSweepPresetWrite (v : BitVec 16) (s : State) : Out := .next (s.writeSweepPreset v)

/-- CHAIN_HEAD_WRITE (R5). -/
def execChainHeadWrite (v : Addr) (s : State) : Out := .next (s.writeChainHead v)

/-- WAKE: any value written is a wake (R16). -/
def execWake (_v : BitVec 64) (s : State) : Out := .next s.wakeUp

/-- EVENTS_WRITE (R210). -/
def execEventsWrite (v : BitVec 9) (s : State) : Out := .next (s.writeEvents v)

/-- ENABLES_WRITE (R210). -/
def execEnablesWrite (v : BitVec 9) (s : State) : Out := .next (s.writeEnables v)

/-- HOLD_REQUEST: HOLD written with request 1 (R191). -/
def execHoldRequest (code : BitVec 3) (pressFirst : Bool) (s : State) : Out := .next (s.requestHold code pressFirst)

/-- HOLD_RELEASE: HOLD written with request 0 (R194). -/
def execHoldRelease (code : BitVec 3) (pressFirst : Bool) (s : State) : Out := .next (s.releaseHold code pressFirst)

/-- CHECK_LOG_CLEAR: CHECK_LOG written with clear 1 (R200). -/
def execCheckLogClear (s : State) : Out := .next s.clearLog

/-- POISON_SELECT (R201). -/
def execPoisonSelect (v : BitVec 2) (s : State) : Out := .next (s.selectPoison v.toNat)

/-- REGISTER_WRITE: a write of the window as the bus carries it, acting on each field it reaches; one that reaches none,
or has a bad size, alignment or offset, is discarded (R204). -/
def execRegisterWrite (offset size : Nat) (v : BitVec 64) (s : State) : Out := .next (s.writeRegister offset size v)

/-- WINDOW_TIMER_EXPIRY: in DRAINING the request is REJECTED, the hold becomes FREE and HOLD_SETTLED is raised (R192). -/
def execWindowTimerExpiry (s : State) : Out :=
  .next (if s.port.hold = .draining ∧ s.port.windowTimer ≠ none then
    (s.setPort { s.port with hold := .free, lastResult := .rejected, windowTimer := none }).raise .holdSettled
  else s)

end Sys2Proof.Machine
end

