-- ==== Sys2Proof/Machine/Dispatch.lean ====
section
/-! DEFINITION. The dispatch of a command to its meaning: one arm per constructor of Instr. -/

namespace Sys2Proof.Machine

/-- A command's effect on everything but the queue. -/
def exec (i : Instr) (s : State) : Host.Outcome State Fault Refusal :=
  match i with
  | .powerOn => Sys2Proof.Machine.execPowerOn s
  | .scrubEnd => Sys2Proof.Machine.execScrubEnd s
  | .functionReset => Sys2Proof.Machine.execFunctionReset s
  | .reset => Sys2Proof.Machine.execReset s
  | .runStart => Sys2Proof.Machine.execRunStart s
  | .runDrain => Sys2Proof.Machine.execRunDrain s
  | .abandon => Sys2Proof.Machine.execAbandon s
  | .depthWrite value => Sys2Proof.Machine.execDepthWrite value s
  | .pressModeWrite value => Sys2Proof.Machine.execPressModeWrite value s
  | .sweepPresetWrite value => Sys2Proof.Machine.execSweepPresetWrite value s
  | .chainHeadWrite value => Sys2Proof.Machine.execChainHeadWrite value s
  | .wake value => Sys2Proof.Machine.execWake value s
  | .eventsWrite value => Sys2Proof.Machine.execEventsWrite value s
  | .enablesWrite value => Sys2Proof.Machine.execEnablesWrite value s
  | .holdRequest code pressFirst => Sys2Proof.Machine.execHoldRequest code pressFirst s
  | .holdRelease code pressFirst => Sys2Proof.Machine.execHoldRelease code pressFirst s
  | .checkLogClear => Sys2Proof.Machine.execCheckLogClear s
  | .poisonSelect value => Sys2Proof.Machine.execPoisonSelect value s
  | .registerWrite offset size value => Sys2Proof.Machine.execRegisterWrite offset size value s
  | .sweepExpiry => Sys2Proof.Machine.execSweepExpiry s
  | .recordReadStart => Sys2Proof.Machine.execRecordReadStart s
  | .recordReadDone u r => Sys2Proof.Machine.execRecordReadDone u r s
  | .trailerReadStart => Sys2Proof.Machine.execTrailerReadStart s
  | .trailerReadDone u r => Sys2Proof.Machine.execTrailerReadDone u r s
  | .takeStart => Sys2Proof.Machine.execTakeStart s
  | .takenWriteDone u ok => Sys2Proof.Machine.execTakenWriteDone u ok s
  | .profileBlockReadStart => Sys2Proof.Machine.execProfileBlockReadStart s
  | .profileBlockReadDone u r => Sys2Proof.Machine.execProfileBlockReadDone u r s
  | .glyphUnitStart => Sys2Proof.Machine.execGlyphUnitStart s
  | .glyphUnitDone u r => Sys2Proof.Machine.execGlyphUnitDone u r s
  | .ticketReadStart => Sys2Proof.Machine.execTicketReadStart s
  | .ticketReadDone u r => Sys2Proof.Machine.execTicketReadDone u r s
  | .layoutReadStart => Sys2Proof.Machine.execLayoutReadStart s
  | .layoutReadDone u r => Sys2Proof.Machine.execLayoutReadDone u r s
  | .rosterReadStart => Sys2Proof.Machine.execRosterReadStart s
  | .rosterReadDone u r => Sys2Proof.Machine.execRosterReadDone u r s
  | .subjectReadStart => Sys2Proof.Machine.execSubjectReadStart s
  | .subjectReadDone u r => Sys2Proof.Machine.execSubjectReadDone u r s
  | .bannerTextReadStart => Sys2Proof.Machine.execBannerTextReadStart s
  | .bannerTextReadDone u r => Sys2Proof.Machine.execBannerTextReadDone u r s
  | .buildStart => Sys2Proof.Machine.execBuildStart s
  | .buildComplete => Sys2Proof.Machine.execBuildComplete s
  | .buildFailure => Sys2Proof.Machine.execBuildFailure s
  | .sheetEnterComposing => Sys2Proof.Machine.execSheetEnterComposing s
  | .bandPaintDone => Sys2Proof.Machine.execBandPaintDone s
  | .correctableError loc by_ => Sys2Proof.Machine.execCorrectableError loc by_ s
  | .uncorrectableError loc by_ rowsPainted => Sys2Proof.Machine.execUncorrectableError loc by_ rowsPainted s
  | .readyRise => Sys2Proof.Machine.execReadyRise s
  | .readyFall => Sys2Proof.Machine.execReadyFall s
  | .waitTimerExpiry => Sys2Proof.Machine.execWaitTimerExpiry s
  | .accept sheetId => Sys2Proof.Machine.execAccept sheetId s
  | .acceptTimerExpiry => Sys2Proof.Machine.execAcceptTimerExpiry s
  | .bandTimerExpiry => Sys2Proof.Machine.execBandTimerExpiry s
  | .graceTimerExpiry => Sys2Proof.Machine.execGraceTimerExpiry s
  | .bandSendDone => Sys2Proof.Machine.execBandSendDone s
  | .result sheetId code => Sys2Proof.Machine.execResult sheetId code s
  | .resultTimerExpiry => Sys2Proof.Machine.execResultTimerExpiry s
  | .bandWriteStart => Sys2Proof.Machine.execBandWriteStart s
  | .bandWriteDone u rows => Sys2Proof.Machine.execBandWriteDone u rows s
  | .bandWriteFail u rows => Sys2Proof.Machine.execBandWriteFail u rows s
  | .reportWriteStart slot => Sys2Proof.Machine.execReportWriteStart slot s
  | .reportWriteDone u slot ok => Sys2Proof.Machine.execReportWriteDone u slot ok s
  | .retireStart => Sys2Proof.Machine.execRetireStart s
  | .resultsWriteDone u ok => Sys2Proof.Machine.execResultsWriteDone u ok s
  | .doneWriteDone u ok => Sys2Proof.Machine.execDoneWriteDone u ok s
  | .spentWriteStart => Sys2Proof.Machine.execSpentWriteStart s
  | .spentWriteDone u ok => Sys2Proof.Machine.execSpentWriteDone u ok s
  | .windowTimerExpiry => Sys2Proof.Machine.execWindowTimerExpiry s
  | .sourceReadDone u r last => Sys2Proof.Machine.execSourceReadDone u r last s

end Sys2Proof.Machine
end

