-- ==== Sys2Proof/Safety.lean ====
section
/-! DEFINITION. What holds of every safe state, block by block, in the terms the claims use: each condition is meant to
hold after power-on and to be kept by every step from any state that satisfies it. -/

namespace Sys2Proof.Machine

/-- The register fields: the depth is 1 to 8 (R6), CHAIN_HEAD is aligned (R5), ABANDON reads 1 in DRAINING alone (R207),
the order window holds at most the depth, and a record read in flight is limited to at least one record and at most the
depth (R6). -/
structure RegistersOk (s : State) : Prop where
  depth_pos : 1 ≤ s.window.depth
  depth_le : s.window.depth ≤ Config.maxDepth
  head_aligned : s.window.chainHead.extractLsb' 0 12 = 0#12
  abandon_draining : s.window.abandon = true → s.control.engine = .draining
  window_le : s.walker.window.length ≤ s.window.depth
  limit_le : s.walker.readLimit ≤ s.window.depth
  limit_pos : ∀ n d, s.walker.unit = .recordRead n d → 1 ≤ s.walker.readLimit

/-- The press configuration: every value is in its range, and the grace is at most the band period (R166). -/
structure PressConfigOk (c : PressConfig) : Prop where
  bandPeriod : 5 ≤ c.bandPeriod ∧ c.bandPeriod ≤ 500
  grace : c.grace ≤ c.bandPeriod
  acceptLimit : 100 ≤ c.acceptLimit ∧ c.acceptLimit ≤ 10000
  resultLimit : 1 ≤ c.resultLimit ∧ c.resultLimit ≤ 30
  waitLimit : 1 ≤ c.waitLimit ∧ c.waitLimit ≤ 600

/-- The hold: the window timer runs in DRAINING alone, DRAINING waits for at least one unit, and HELD stands with no unit
in progress (R189 to R193). -/
structure HoldOk (p : Port) : Prop where
  timer : p.windowTimer ≠ none ↔ p.hold = .draining
  draining : p.hold = .draining → 0 < p.outstanding
  held : p.hold = .held → p.outstanding = 0

/-- Whether the result of a unit of the walker is to be discarded. -/
def WalkerUnit.isDiscarded (u : WalkerUnit) : Bool :=
  match u with
  | .none => true
  | .recordRead _ d => d
  | .trailerRead d => d
  | .taken _ _ d => d

/-- Whether a unit of the walker is a read of the chain. -/
def WalkerUnit.isRead (u : WalkerUnit) : Bool :=
  match u with
  | .recordRead _ _ => true
  | .trailerRead _ => true
  | .none => false
  | .taken _ _ _ => false

/-- Whether a unit of the walker is a take. -/
def WalkerUnit.isTake (u : WalkerUnit) : Bool :=
  match u with
  | .taken _ _ _ => true
  | _ => false

/-- The fault record: a cause is held exactly in FAULTED, and an address only there (R23, R209). -/
structure FaultRecordOk (c : Control) : Prop where
  cause : c.cause ≠ .none ↔ c.engine = .faulted
  address : c.engine ≠ .faulted → c.faultAddr = 0#64

/-- The walker's state by the engine's and the walker's own unit (section 1.2; R7, R8, R11, R20, R24): the walker is
STOPPED where the engine is STOPPED or SCRUBBING, at work or waiting in RUNNING, finishing a unit or STOPPED in DRAINING,
and FAULTED in FAULTED alone. A chain read is in flight in SEEKING, a take in TAKING, until a fault discards them. -/
structure WalkerOk (s : State) : Prop where
  idleEngine : s.control.engine = .stopped ∨ s.control.engine = .scrubbing → s.walker.state = .stopped
  running : s.control.engine = .running → s.walker.state ≠ .stopped
  draining : s.control.engine = .draining → s.walker.state = .stopped ∨ s.walker.unit ≠ .none
  drainReads : s.control.engine = .draining → s.walker.unit.isRead = true → s.walker.unit.isDiscarded = true
  drainWindow : s.control.engine = .draining → s.walker.window = []
  faulted : s.walker.state = .faulted ↔ s.control.engine = .faulted
  faultedUnit : s.control.engine = .faulted → s.walker.unit.isDiscarded = true
  takeLost : s.walker.unit.isTake = true → s.walker.unit.isDiscarded = true → s.control.engine = .faulted
  resting : s.walker.state = .stopped ∨ s.walker.state = .idle ∨ s.walker.state = .blocked → s.walker.unit = .none
  reads : s.walker.unit.isRead = true → s.walker.state = .seeking ∨ s.walker.state = .faulted
  takes : s.walker.unit.isTake = true → s.walker.state = .taking ∨ s.walker.state = .faulted
  seekingEmpty : s.walker.state = .seeking ∨ s.walker.state = .idle ∨ s.walker.state = .stopped ∨
    s.walker.state = .faulted → s.walker.window = []
  headWaits : s.walker.state = .blocked ∨ (s.walker.state = .taking ∧ s.walker.unit = .none) → s.walker.window ≠ []

/-- The retire queue and a take's reservation together never pass 16 (R11, R13, R181). -/
def QueueOk (s : State) : Prop := s.control.queue.length + s.walker.reserved ≤ Config.retireCapacity

/-- The link: an attempt is held exactly outside CLOSED; each timer, the send in flight, a delayed send and a pending ABORT
belong to their state (R149 to R162); a send in flight is the band before the next one, and a band is due only while there
is a next one (R153 to R157). -/
structure LinkOk (l : Link) : Prop where
  holds : l.held = none ↔ l.state = .closed
  wait : l.waitTimer ≠ none → l.state = .awaitReady
  accept : l.acceptTimer ≠ none ↔ l.state = .opening
  result : l.resultTimer ≠ none ↔ l.state = .closing
  band : l.bandTimer ≠ none → l.state = .streaming
  grace : l.graceTimer ≠ none → l.state = .streaming ∧ l.bandTimer = none ∧ l.due = false
  sending : l.sending ≠ none → l.state = .streaming
  next : ∀ b, l.sending = some b → l.nextBand = b + 1
  due : l.due = true → l.state = .streaming ∧ l.sending ≠ none ∧ l.bandTimer = none
  abort : l.abortPending = true → l.sending ≠ none ∧ l.bandTimer = none ∧ l.graceTimer = none ∧ l.due = false
  left : ∀ h, l.held = some h → l.graceTimer ≠ none ∨ l.due = true → l.nextBand < h.bands

/-- The Proof Writer: IDLE exactly without an attempt, an attempt waits only behind another, and a band's pending end or
damage belongs to a band write in flight (R167, R169, R170). -/
structure WriterOk (w : Writer) : Prop where
  idle : w.state = .idle ↔ w.attempt = none
  queued : w.queued ≠ none → w.attempt ≠ none
  endPending : w.endPending = true → w.state = .writing
  damage : w.damage = true → w.state = .writing

/-- A read of the chain whose result is discarded has completed with data: the walker's unit is over with no other effect.
In DRAINING the walker is STOPPED, and with nothing left to do the engine enters STOPPED with ABANDON reading 0, and RUNNING
at once, the walker seeking at its cursor, where RUN reads 1; in FAULTED nothing follows (R20, R24, R185, R206). -/
structure DiscardedReadEnds (s : State) (c : Instr) : Prop where
  more : s.control.engine = .draining → s.control.queue ≠ [] ∨ s.walker.spentDue ≠ [] ∨ s.walker.spentInFlight ≠ none →
    exec c s = .next { s.endUnit with walker := { s.walker with unit := .none, state := .stopped } }
  last : s.control.engine = .draining → s.control.queue = [] → s.walker.spentDue = [] → s.walker.spentInFlight = none →
    s.window.run = false → exec c s = .next { s.endUnit with
      walker := { s.walker with unit := .none, state := .stopped }
      control := { s.control with engine := .stopped }
      window := { s.endUnit.window with abandon := false } }
  again : s.control.engine = .draining → s.control.queue = [] → s.walker.spentDue = [] → s.walker.spentInFlight = none →
    s.window.run = true → exec c s = .next { s.endUnit with
      walker := { s.walker with unit := .none, state := .seeking }
      control := { s.control with engine := .running }
      window := { s.endUnit.window with abandon := false } }
  faulted : s.control.engine = .faulted → exec c s = .next { s.endUnit with walker := { s.walker with unit := .none } }

/-- The parts of the state that work on orders and sheets leaves alone: what the server wrote in the window and in HOLD,
the store mode and the press configuration. -/
structure SettingsKept (s t : State) : Prop where
  pending : t.pending = s.pending
  chainHead : t.window.chainHead = s.window.chainHead
  depth : t.window.depth = s.window.depth
  pressMode : t.window.pressMode = s.window.pressMode
  sweepPreset : t.window.sweepPreset = s.window.sweepPreset
  enables : t.window.enables = s.window.enables
  windowCode : t.port.windowCode = s.port.windowCode
  pressFirst : t.port.pressFirst = s.port.pressFirst
  storeMode : t.store.mode = s.store.mode
  config : t.link.config = s.link.config
  ready : t.link.ready = s.link.ready

/-! ## The register window, in the terms of its statement -/

/-- What a read of the window shows, register by register, with its fields at the places of R203 (R203, R204, R205, R209).
That bits 0 to 31 of a register, and the low byte of a half, lie at the lower offset is the model's choice (assumption
34), as is the location 0 of an empty record (assumption 54). -/
structure WindowReads (s : State) : Prop where
  whole : ∀ i < 12, (addrAt (readWindow s (8 * i) 8) 0).toNat = windowWord s i
  halves : ∀ i < 12, u32 (readWindow s (8 * i) 4) 0 = windowWord s i % 2 ^ 32 ∧
    u32 (readWindow s (8 * i + 4) 4) 0 = windowWord s i / 2 ^ 32
  ident : readWindow s 0 8 = [0x4D#8, 0x4C#8, 0xD4#8, 0x12#8, 0x01#8, 0x00#8, 0x81#8, 0x08#8]
  chainHead : windowWord s 1 = s.window.chainHead.toNat
  control : windowWord s 2 % 2 = (if s.window.run then 1 else 0) ∧
    windowWord s 2 / 2 % 2 = (if s.window.abandon then 1 else 0) ∧ windowWord s 2 / 4 % 4 = 0 ∧
    windowWord s 2 / 2 ^ 4 % 2 ^ 4 = s.window.depth ∧ windowWord s 2 / 2 ^ 8 % 2 ^ 8 = s.window.pressMode.code ∧
    windowWord s 2 / 2 ^ 16 = s.window.sweepPreset.toNat
  wake : windowWord s 3 = 0
  status : windowWord s 4 % 2 ^ 4 = s.control.engine.code ∧ windowWord s 4 / 2 ^ 4 % 2 ^ 4 = s.walker.state.code ∧
    windowWord s 4 / 2 ^ 8 % 2 ^ 4 = s.port.hold.code ∧ windowWord s 4 / 2 ^ 12 % 2 ^ 4 = s.link.state.code ∧
    windowWord s 4 / 2 ^ 16 = s.control.cause.code
  faultAddr : windowWord s 5 = s.control.faultAddr.toNat
  events : windowWord s 6 = s.window.events.toNat
  enables : windowWord s 7 = s.window.enables.toNat
  hold : windowWord s 8 % 2 ^ 4 = (if s.port.hold = .free then 0 else 1) ∧
    windowWord s 8 / 2 ^ 4 % 2 ^ 4 = s.port.windowCode.toNat ∧
    windowWord s 8 / 2 ^ 8 % 2 ^ 8 = (if s.port.pressFirst then 1 else 0) ∧
    windowWord s 8 / 2 ^ 16 % 2 ^ 4 = s.port.hold.code ∧ windowWord s 8 / 2 ^ 20 = s.port.lastResult.code
  checkLog : windowWord s 9 % 2 ^ 4 = (if s.check.locked then 2 else 0) ∧
    windowWord s 9 / 2 ^ 4 % 2 ^ 4 = s.check.poison.code ∧ windowWord s 9 / 2 ^ 8 = s.check.count.toNat
  checkRecords : windowWord s 10 % 2 ^ 8 = checkArea s.check.correctable ∧
    windowWord s 10 / 2 ^ 8 % 2 ^ 24 = checkLocation s.check.correctable ∧
    windowWord s 10 / 2 ^ 32 % 2 ^ 8 = checkArea s.check.uncorrectable ∧
    windowWord s 10 / 2 ^ 40 = checkLocation s.check.uncorrectable
  above : ∀ o n, 0x58 ≤ o → readWindow s o n = List.replicate n 0#8

/-! ## The order chain, in the terms of its statements -/

/-- The head of the window can be taken: the retire queue has room, counting a take's reservation; no barrier runs; for a
SHEET order a sheet slot is FREE, and for a barrier both are (R13). -/
structure HeadTakeable (t : State) (r : OrderRecord) : Prop where
  room : t.control.queue.length + t.walker.reserved < 16
  barrier : t.control.barrier = .none
  sheet : r.kind = .sheet → t.control.slotA = none ∨ t.control.slotB = none
  slots : r.kind.isBarrier = true → t.control.slotA = none ∧ t.control.slotB = none

/-- The walker's state after a unit of its own in a running engine: SEEKING with an empty window, TAKING when the head can
be taken, BLOCKED when not (R7, R11). -/
structure WalksOn (t : State) : Prop where
  seeks : t.walker.window = [] → t.walker.state = .seeking
  takes : ∀ r rest, t.walker.window = r :: rest → HeadTakeable t r → t.walker.state = .taking
  blocked : ∀ r rest, t.walker.window = r :: rest → ¬ HeadTakeable t r → t.walker.state = .blocked

/-- The walker has entered IDLE: the sweep timer is loaded with the preset and runs, or is stopped for a preset of 0; and
CHAIN_IDLE is raised where the retire queue is empty (R15, R18). -/
structure IdleEntered (s t : State) : Prop where
  state : t.walker.state = .idle
  wake : t.walker.pendingWake = false
  stopped : s.window.sweepPreset = 0#16 → t.walker.sweepRunning = false
  loaded : s.window.sweepPreset ≠ 0#16 →
    t.walker.sweepRunning = true ∧ t.walker.sweepTimer = s.window.sweepPreset.toNat
  raised : s.control.queue = [] → t.hasEvent .chainIdle = true
  kept : s.control.queue ≠ [] → t.hasEvent .chainIdle = s.hasEvent .chainIdle

/-- A pending wake has turned the walker's arrival at IDLE into a new read: the wake is consumed, the sweep timer is not
loaded and CHAIN_IDLE is not raised (R15, R18). -/
structure SeeksAgain (s t : State) : Prop where
  state : t.walker.state = .seeking
  wake : t.walker.pendingWake = false
  timer : t.walker.sweepTimer = s.walker.sweepTimer ∧ t.walker.sweepRunning = s.walker.sweepRunning
  kept : t.hasEvent .chainIdle = s.hasEvent .chainIdle

/-- Whether a store slot of a set is one that a PURGE of a subject reaches: its set is one of the subject's eight, (n + 16 ×
p) mod 128 for p from 0 to 15, and its key names the subject, whatever its profile and serial; it is not EMPTY and no sheet
holds it (R42, R114). -/
def purges (n : Nat) (i : Fin 128) (x : StoreSlot) : Bool :=
  ((List.range 16).any fun p => i.val == (n + 16 * p) % 128) && x.key.map (·.subject) == some n && x.state != .empty &&
    x.holders == ⟨false, false⟩

/-- The 32 result bytes of a record, at the offsets of R217, byte 32 of the record being the first; the fields are written
in 8 or 16 bits. -/
structure ResultsWritten (r : Results) (bs : List Byte) : Prop where
  length : bs.length = 32
  outcome : u8 bs 0 = r.outcome.byte
  sheetsMade : u8 bs 1 = r.sheetsMade % 2 ^ 8
  detail : u16 bs 2 = r.detail.code
  attemptsUsed : u16 bs 4 = r.attemptsUsed % 2 ^ 16
  nextRoster : u16 bs 6 = r.nextRoster % 2 ^ 16
  slotsEmptied : u16 bs 8 = r.slotsEmptied % 2 ^ 16
  counts : [u16 bs 10, u16 bs 12, u16 bs 14, u16 bs 16, u16 bs 18, u16 bs 20, u16 bs 22, u16 bs 24, u16 bs 26, u16 bs 28] =
    [r.counts.placeholders, r.counts.clamped, r.counts.shifted, r.counts.padded, r.counts.marksIgnored, r.counts.unmarked,
      r.counts.clippedCaptions, r.counts.substituted, r.counts.offSheet, r.counts.lateBands].map (· % 2 ^ 16)
  spare : u16 bs 30 = 0

/-- The retire queue with the order of a sheet slot FINISHED with an outcome and a detail, its other results as they were
(R179, R180). -/
def queueEnded (q : List QueueEntry) (sl : SheetSlot) (o : OrderOutcome) (d : Detail) : List QueueEntry :=
  q.map fun e => if e.slot = some sl then
    { e with finished := true, slot := none, results := { e.results with outcome := o, detail := d } } else e

/-- An ending of the order of the sheet in a slot: the slot is FREE and the order FINISHED with it where no report, link or
Writer holds the slot any more, and the sheet waits in FINISHED with it otherwise (R175, R179, R186). -/
structure SheetEnded (s t : State) (sl : SheetSlot) (sh : Sheet) (o : OrderOutcome) (d : Detail) : Prop where
  freed : sh.report = .none → t.linkHolds sl = false → t.writerServes sl = false → t.sheet sl = none ∧
    ∀ (i : Nat) (e : QueueEntry), s.control.queue[i]? = some e → e.slot = some sl → e.record.kind = .sheet →
      t.control.queue[i]? = some
        { e with finished := true, slot := none, results := { e.results with outcome := o, detail := d } }
  kept : sh.report ≠ .none ∨ t.linkHolds sl = true ∨ t.writerServes sl = true →
    (∃ sh', t.sheet sl = some sh' ∧ sh'.state = .finished ∧ sh'.ending = some (o, d) ∧ sh'.report = sh.report) ∧
    ∀ (i : Nat) (e : QueueEntry), s.control.queue[i]? = some e → e.slot = some sl → e.record.kind = .sheet →
      t.control.queue[i]? = some e

/-- The link has ended the attempt that it held, by its state: CLOSED with its timers stopped, ABORT sent under LIVE from
OPENING and from STREAMING with no send in flight; with a send in flight ABORT waits for its end (R161, R162). -/
structure LinkStopped (s t : State) (h : LinkHold) : Prop where
  silent : s.link.state = .awaitReady ∨ s.link.state = .closing →
    t.link = ⟨.closed, none, 0, none, false, false, none, none, none, none, none, s.link.config, s.link.ready⟩ ∧
    t.out.pressMessages = s.out.pressMessages
  aborted : s.link.state = .opening ∨ (s.link.state = .streaming ∧ s.link.sending = none) →
    t.link = ⟨.closed, none, 0, none, false, false, none, none, none, none, none, s.link.config, s.link.ready⟩ ∧
    t.out.pressMessages = s.out.pressMessages ++ (if h.mode = .live then [.abort h.sheetId] else [])
  sending : s.link.state = .streaming → s.link.sending ≠ none →
    t.link = { s.link with abortPending := true, due := false, bandTimer := none, graceTimer := none } ∧
    t.out.pressMessages = s.out.pressMessages

/-- The end of an attempt at the band buffers and at the Composer: each buffer FILLING or FULL with a band of the attempt is
EMPTY with its tag cleared, where a Composer that works on another attempt may have begun to paint; one SENDING or WRITING
stays so, but for the send `ended` that ends with the attempt and gives its buffer back; a band of another attempt stays;
and a Composer that works on the attempt clears it and is IDLE (R144). -/
structure BuffersEnded (s t : State) (a : Attempt) (ended : Option Nat) : Prop where
  emptied : ∀ i, ((s.composer.buf i).tag.map (·.attempt) = some a ∧
      ((s.composer.buf i).state = .filling ∨ (s.composer.buf i).state = .full)) ∨ ended.map bufferFor = some i →
    s.composer.attempt = none ∨ s.composer.attempt = some a →
    t.composer.buf i = { s.composer.buf i with state := .empty, tag := none }
  taken : ∀ i b, ((s.composer.buf i).tag.map (·.attempt) = some a ∧
      ((s.composer.buf i).state = .filling ∨ (s.composer.buf i).state = .full)) ∨ ended.map bufferFor = some i →
    s.composer.attempt = some b → b ≠ a →
    ((t.composer.buf i).state = .empty ∧ (t.composer.buf i).tag = none) ∨
      ((t.composer.buf i).state = .filling ∧ (t.composer.buf i).tag.map (·.attempt) = some b)
  busy : ∀ i, (s.composer.buf i).state = .sending ∨ (s.composer.buf i).state = .writing → ended.map bufferFor ≠ some i →
    t.composer.buf i = s.composer.buf i
  others : ∀ i, (s.composer.buf i).state = .filling ∨ (s.composer.buf i).state = .full →
    (s.composer.buf i).tag.map (·.attempt) ≠ some a → ended.map bufferFor ≠ some i →
    t.composer.buf i = s.composer.buf i
  current : s.composer.attempt = some a → t.composer.attempt = none ∧ t.composer.state = .idle ∧ t.composer.silenced = []

/-- The end of an attempt at the Proof Writer: a WAITING Writer clears it and is IDLE, or takes the attempt that waits behind
it; a WRITING one has its end pending until the band write in flight has completed; an attempt that waits leaves; and a
Writer that does not serve it stays as it is (R167, R170). -/
structure WriterStopped (s t : State) (a : Attempt) : Prop where
  waits : s.writer.queued = none → s.writer.attempt = some a → s.writer.state = .waiting →
    t.writer = ⟨.idle, none, 0, false, false, none⟩
  next : ∀ b, s.writer.queued = some b → b ≠ a → s.writer.attempt = some a → s.writer.state = .waiting →
    t.writer = ⟨.waiting, some b, 0, false, false, none⟩
  writes : s.writer.queued ≠ some a → s.writer.attempt = some a → s.writer.state = .writing →
    t.writer = { s.writer with endPending := true }
  queued : s.writer.queued = some a → t.writer = { s.writer with queued := none }
  other : s.writer.queued ≠ some a → s.writer.attempt ≠ some a → t.writer = s.writer

/-- The sheets that an abandon ends with an attempt in hand (R186). -/
def InHandOf (s : State) (sl : SheetSlot) (sh : Sheet) : Prop :=
  s.sheet sl = some sh ∧ (sh.state = .composing ∨ sh.state = .closing) ∧ sh.ending = none

/-- An abandon has ended the attempts in hand at the buffers and at the Writer: their FILLING and FULL buffers are EMPTY, a
buffer SENDING or WRITING stays so until its consumer ends; a WAITING Writer is IDLE, or serves the attempt that waited, if
that has not ended too; a WRITING one has its end pending; and one that served none of them stays as it is (R144, R170,
R186). -/
structure AttemptsAbandoned (s t : State) : Prop where
  emptied : (∀ a, s.composer.attempt = some a → ∃ sh, InHandOf s a.slot sh ∧ sh.attempt = a.number) →
    ∀ sl sh i, InHandOf s sl sh → (s.composer.buf i).tag.map (·.attempt) = some ⟨sl, sh.attempt⟩ →
    (s.composer.buf i).state = .filling ∨ (s.composer.buf i).state = .full →
    (t.composer.buf i).state = .empty ∧ (t.composer.buf i).tag = none
  busy : ∀ i, (s.composer.buf i).state = .sending ∨ (s.composer.buf i).state = .writing →
    t.composer.buf i = s.composer.buf i
  waits : ∀ sl sh, InHandOf s sl sh → s.writer.attempt = some ⟨sl, sh.attempt⟩ → s.writer.queued ≠ some ⟨sl, sh.attempt⟩ →
    s.writer.state = .waiting → t.writer.attempt ≠ some ⟨sl, sh.attempt⟩ ∧
      (s.writer.queued = none → t.writer = ⟨.idle, none, 0, false, false, none⟩)
  writes : ∀ sl sh, InHandOf s sl sh → s.writer.attempt = some ⟨sl, sh.attempt⟩ → s.writer.queued ≠ some ⟨sl, sh.attempt⟩ →
    s.writer.state = .writing → t.writer.state = .writing ∧ t.writer.attempt = some ⟨sl, sh.attempt⟩ ∧
      t.writer.endPending = true ∧ t.writer.nextBand = s.writer.nextBand
  queued : ∀ sl sh, InHandOf s sl sh → s.writer.queued = some ⟨sl, sh.attempt⟩ → t.writer.queued ≠ some ⟨sl, sh.attempt⟩
  other : (∀ sl sh, InHandOf s sl sh →
    s.writer.attempt ≠ some ⟨sl, sh.attempt⟩ ∧ s.writer.queued ≠ some ⟨sl, sh.attempt⟩) → t.writer = s.writer

/-- The build of a reference is lost when a sheet is released: its scratch slot is the sheet's, or its FILLING store slot has
no other holder (R93, R101, R107). -/
def LostBy (s : State) (sl : SheetSlot) (ref : TileRef) : Prop :=
  match ref with
  | .store i w => (s.store.slot i w).state = .filling ∧ (s.store.slot i w).holders.has sl = true ∧
      (s.store.slot i w).holders.has (otherSlot sl) = false
  | .scratch p _ => p = sl

/-- A sheet's holds have been released: it holds no store slot, where a slot that it alone held is EMPTY if it was FILLING or
CONDEMNED and stays READY otherwise, and a slot of the other sheet keeps its hold; the LRU marks stay; its scratch pool is
empty; the builds that it alone wanted have left the queue, or are cut, and every other build goes on (R93, R101, R107,
R109). -/
structure HoldsReleased (s t : State) (sl : SheetSlot) : Prop where
  unheld : ∀ i w, (s.store.slot i w).holders.has sl = false → t.store.slot i w = s.store.slot i w
  shared : ∀ i w, (s.store.slot i w).holders.has (otherSlot sl) = true →
    t.store.slot i w = { s.store.slot i w with holders := ⟨sl == .b, sl == .a⟩ }
  kept : ∀ i w, (s.store.slot i w).holders = ⟨sl == .a, sl == .b⟩ → (s.store.slot i w).state = .ready →
    t.store.slot i w = { s.store.slot i w with holders := ⟨false, false⟩ }
  emptied : ∀ i w, (s.store.slot i w).holders = ⟨sl == .a, sl == .b⟩ →
    (s.store.slot i w).state = .filling ∨ (s.store.slot i w).state = .condemned → t.store.slot i w = StoreSlot.blank
  lru : ∀ i : Fin 128, t.store.sets[i].lru = s.store.sets[i].lru
  pool : t.store.pool sl = ScratchPool.blank
  otherPool : t.store.pool (otherSlot sl) = s.store.pool (otherSlot sl)
  queue : ∀ e, e ∈ t.builder.queue ↔ e ∈ s.builder.queue ∧ ¬ LostBy s sl e.ref
  order : t.builder.queue.Sublist s.builder.queue
  cut : ∀ b, s.builder.current = some b → LostBy s sl b.entry.ref → t.builder.current = none ∧
    (b.portDone = false → DiscardedUnit.build ∈ t.port.discarded)
  goesOn : (∀ b, s.builder.current = some b → ¬ LostBy s sl b.entry.ref) → t.builder.current = s.builder.current
  outstanding : t.port.outstanding ≤ s.port.outstanding

/-- A BLOCKED walker after an event that may let its head be taken: TAKING where the head can be taken now, BLOCKED where it
cannot, and a walker in another state stays in it (R14). -/
structure WalkerUnblocked (s t : State) : Prop where
  takes : ∀ r rest, s.walker.state = .blocked → s.walker.window = r :: rest → HeadTakeable t r → t.walker.state = .taking
  blocked : ∀ r rest, s.walker.state = .blocked → s.walker.window = r :: rest → ¬ HeadTakeable t r →
    t.walker.state = .blocked
  other : s.walker.state ≠ .blocked → t.walker.state = s.walker.state

/-- The running barrier at an abandon: it ends ABANDONED at once with its profile or glyph set UNSET where its read waits to
start, and is marked to end so at the completion of a read in flight (R41, R121, R184). -/
structure BarrierAbandoned (s t : State) : Prop where
  none : s.control.barrier = .none → t.control.barrier = .none ∧ t.profiles = s.profiles ∧ t.glyphs = s.glyphs
  profileWaits : ∀ n a b, s.control.barrier = .profile n a false b → t.control.barrier = .none ∧
    t.profiles = s.profiles.set n.val .none n.isLt ∧ t.glyphs = s.glyphs
  glyphsWait : ∀ l, s.control.barrier = .glyphs l → l.inFlight = false → t.control.barrier = .none ∧
    t.glyphs = s.glyphs.set l.set.val .none l.set.isLt ∧ t.profiles = s.profiles
  entry : (∃ n a b, s.control.barrier = .profile n a false b) ∨ (∃ l, s.control.barrier = .glyphs l ∧ l.inFlight = false) →
    ∀ (i : Nat) (e : QueueEntry), s.control.queue[i]? = some e → e.slot = .none → e.finished = false →
      e.record.kind = .profile ∨ e.record.kind = .glyphs →
      t.control.queue[i]? = some { e with finished := true, results := barrierResults .abandoned .none 0 }
  profileReads : ∀ n a b, s.control.barrier = .profile n a true b → t.control.barrier = .profile n a true true ∧
    t.profiles = s.profiles ∧ t.glyphs = s.glyphs
  glyphsRead : ∀ l, s.control.barrier = .glyphs l → l.inFlight = true →
    t.control.barrier = .glyphs { l with abandoned := true } ∧ t.profiles = s.profiles ∧ t.glyphs = s.glyphs

/-- What a chain fault leaves: the engine and the walker FAULTED with the cause and the address recorded, CHAIN_FAULT set,
ABANDON reading 0, the window discarded with the cursor kept, the planner free, and nothing more written to server memory.
Every order without an ending ends ABANDONED as in an abandon, a report due and not started counting as done; the link ends
the attempt it holds by its state, the attempts in hand end at the buffers and the Writer, and a running load leaves its entry
UNSET at once or at its read's completion (R23, R24, R41, R121, R144, R161, R170, R188). -/
structure FaultedFrom (s t : State) (cause : FaultCause) (addr : Addr) : Prop where
  engine : t.control.engine = .faulted
  cause : t.control.cause = cause
  addr : t.control.faultAddr = addr
  event : t.hasEvent .chainFault = true
  abandon : t.window.abandon = false
  run : t.window.run = s.window.run
  walker : t.walker.state = .faulted
  window : t.walker.window = []
  cursor : t.walker.cursor = s.walker.cursor
  wake : t.walker.pendingWake = s.walker.pendingWake
  sweep : t.walker.sweepRunning = false
  pendingSpent : t.walker.pendingSpent = s.walker.pendingSpent
  sheets : ∀ sl sh, t.sheet sl = some sh → sh.ending ≠ none
  ended : ∀ sl sh, s.sheet sl = some sh → sh.ending = none →
    SheetEnded s t sl { sh with report := if sh.report = .due then .none else sh.report } .abandoned
      (if (sh.state = .composing ∨ sh.state = .closing) ∧ s.link.state = .closing ∧
        s.link.held.map (·.attempt) = some ⟨sl, sh.attempt⟩ then .afterClose else .none)
  keeps : ∀ sl sh o d, s.sheet sl = some sh → sh.state = .finished → sh.ending = some (o, d) →
    SheetEnded s t sl { sh with report := if sh.report = .due then .none else sh.report } o d
  link : ∀ h sh, s.link.held = some h → s.sheet h.attempt.slot = some sh → sh.attempt = h.attempt.number →
    sh.state = .composing ∨ sh.state = .closing → sh.ending = none → LinkStopped s t h
  linkIdle : s.link.held = none → t.link = s.link ∧ t.out.pressMessages = s.out.pressMessages
  attempts : AttemptsAbandoned s t
  load : BarrierAbandoned s t
  planner : t.planner = ⟨none, none, [], none⟩
  writes : t.out.serverWrites = s.out.serverWrites
  outstanding : t.port.outstanding = s.port.outstanding - 1
  settings : SettingsKept s t

/-- The retire queue with the running barrier FINISHED with its results (R184). -/
def queueBarrierEnded (q : List QueueEntry) (r : Results) : List QueueEntry :=
  q.map fun e => if (e.record.kind = .profile ∨ e.record.kind = .glyphs) ∧ e.finished = false then
    { e with finished := true, results := r } else e

/-- The check log: locked exactly with an uncorrectable record, and with a correctable record exactly when the count is
above 0 (R197, R198, R200); and no place is listed twice among those where a correctable error stands (R197). -/
structure CheckLogOk (c : Check) : Prop where
  locked : c.locked = true ↔ c.uncorrectable ≠ none
  counted : c.count = 0#8 ↔ c.correctable = none
  standing : c.standing.Nodup

/-- The state with an uncorrectable error logged: while the log is unlocked its record is taken, the log is locked and
INTEGRITY is raised; a locked log stays as it is (R198). -/
def State.errorLogged (s : State) (loc : CheckLoc) : State :=
  if s.check.locked then s
  else { s with
    check := { s.check with uncorrectable := some loc, locked := true }
    window := { s.window with events := s.window.events ||| 0x020#9 } }

/-- A work that reads some places has found again the correctable errors that stand there, a free number of times `n`: with
none standing there, or with the log locked, nothing is logged; otherwise the count has risen by `n` up to 255, an empty
record has taken one of the places, and INTEGRITY is set, where `n` is above 0. An error in a tile or a glyph goes on
standing (R197, R198; assumption 51). -/
structure FoundAgain (s t : State) (reads : CheckLoc → Bool) : Prop where
  quiet : (∀ l ∈ s.check.standing, reads l = false) ∨ s.check.locked = true →
    t.check.correctable = s.check.correctable ∧ t.check.count = s.check.count ∧
    t.hasEvent .integrity = s.hasEvent .integrity
  logged : s.check.locked = false → ∃ n, t.check.count = BitVec.ofNat 8 (min 255 (s.check.count.toNat + n)) ∧
    (n = 0 → t.check.correctable = s.check.correctable ∧ t.hasEvent .integrity = s.hasEvent .integrity) ∧
    (0 < n → t.hasEvent .integrity = true ∧
      ∃ l ∈ s.check.standing, reads l = true ∧ t.check.correctable = some (s.check.correctable.getD l))
  stands : ∀ l ∈ s.check.standing, (∀ i, l ≠ .band i) → l ∈ t.check.standing

/-! ## Planning, in the terms of its statements -/

/-- What the completion of a planner's read leaves alone: the registers but for the unit's end, and every block but the
planner, the store, the Builder, the sheets, the retire queue and the walker's state. -/
structure PlanFrame (s t : State) : Prop where
  pending : t.pending = s.pending
  window : t.window = s.endUnit.window
  outstanding : t.port.outstanding = s.endUnit.port.outstanding
  hold : t.port.hold = s.endUnit.port.hold
  windowCode : t.port.windowCode = s.port.windowCode
  walkerUnit : t.walker.unit = s.walker.unit
  walkerWindow : t.walker.window = s.walker.window
  cursor : t.walker.cursor = s.walker.cursor
  engine : t.control.engine = s.control.engine
  retire : t.control.retire = s.control.retire
  barrier : t.control.barrier = s.control.barrier
  storeMode : t.store.mode = s.store.mode
  profiles : t.profiles = s.profiles
  glyphs : t.glyphs = s.glyphs
  composer : t.composer = s.composer
  link : t.link = s.link
  writer : t.writer = s.writer
  check : t.check = s.check
  out : t.out = s.out

/-- The planner works on a sheet in PLANNING whose order has no ending and which nothing else holds, and no sheet waits
for the planner. -/
structure PlansAlone (s : State) (j : PlanJob) (sh : Sheet) : Prop where
  job : s.planner.job = some j
  sheet : s.sheet j.slot = some sh
  state : sh.state = .planning
  ending : sh.ending = none
  report : sh.report = .none
  link : s.linkHolds j.slot = false
  writer : s.writerServes j.slot = false
  waiting : s.planner.waiting = none

/-- Planning has ended the order of a sheet slot: the order is FINISHED with the outcome and the detail, its slot FREE with
its tile holds released, the other slot first, and the planner free (R66, R67, R109, R175, R179). -/
structure PlanningEnded (s t : State) (sl : SheetSlot) (q : List QueueEntry) (o : OrderOutcome) (d : Detail) : Prop where
  queue : t.control.queue = queueEnded q sl o d
  slot : t.sheet sl = none
  other : t.sheet (otherSlot sl) = (s.sheet (otherSlot sl)).map fun x => { x with first := true }
  planner : t.planner = ⟨none, none, [], none⟩
  released : HoldsReleased s t sl
  walker : WalkerUnblocked s t

/-- The planner works on a sheet as above while the other slot's sheet, whose ticket is not read, waits for it (R65). -/
structure PlansBeside (s : State) (j : PlanJob) (sh : Sheet) (w : SheetSlot) (sw : Sheet) : Prop where
  job : s.planner.job = some j
  sheet : s.sheet j.slot = some sh
  state : sh.state = .planning
  ending : sh.ending = none
  report : sh.report = .none
  link : s.linkHolds j.slot = false
  writer : s.writerServes j.slot = false
  waiting : s.planner.waiting = some w
  other : w = otherSlot j.slot
  waits : s.sheet w = some sw
  unread : sw.ticket = none

/-- Planning has ended the order of a sheet slot, and the planner has taken up the sheet that waited, which now ranks first
and waits to start its ticket read (R65, R66, R171). -/
structure PlanningPassedOn (s t : State) (sl : SheetSlot) (o : OrderOutcome) (d : Detail) (w : SheetSlot) (sw : Sheet) :
    Prop where
  queue : t.control.queue = queueEnded s.control.queue sl o d
  slot : t.sheet sl = none
  waiter : t.sheet w = some { sw with first := true }
  planner : t.planner = ⟨some (PlanJob.fresh w .ticket), none, [], none⟩
  released : HoldsReleased s t sl
  walker : WalkerUnblocked s t

/-- The placement pass of a sheet has come to a read that it waits to start, or to its end with the slot in FILLING or
READY by its pending builds (R65, R66). -/
def PassRests (t : State) (sl : SheetSlot) : Prop :=
  (∃ j, t.planner.job = some j ∧ j.slot = sl ∧ j.inFlight = false ∧
    (j.stage.isRoster || j.stage.isSubject || j.stage.isText) = true) ∨
  (t.planner.job = none ∧ ∃ sh, t.sheet sl = some sh ∧ sh.state = if 0 < sh.pendingBuilds then .filling else .ready)

/-- The fields of a layout entry of 32 bytes by its kind byte (R213). -/
structure LayoutEntryReads (bs : List Byte) : Prop where
  panel : u8 bs 0 = 1 → layoutEntry bs = .panel (s16 bs 2) (s16 bs 4) (u16 bs 6) (u16 bs 8)
  endPanel : u8 bs 0 = 2 → layoutEntry bs = .endPanel
  grid : u8 bs 0 = 3 → layoutEntry bs =
    .grid (u8 bs 1) (u8 bs 6) (u8 bs 7) (s16 bs 2) (s16 bs 4) (u16 bs 8) (u16 bs 10) (u8 bs 12)
  inset : u8 bs 0 = 4 → layoutEntry bs = .inset (u8 bs 1) (s16 bs 2) (s16 bs 4) (addrAt bs 8) (u8 bs 6)
  banner : u8 bs 0 = 5 → layoutEntry bs =
    .banner (s16 bs 2) (s16 bs 4) (u16 bs 8) (u8 bs 1) (colourAt bs 10) (u8 bs 6) (addrAt bs 16) (u8 bs 7)
  rule : u8 bs 0 = 6 → layoutEntry bs = .rule (s16 bs 2) (s16 bs 4) (u16 bs 6) (u16 bs 8) (colourAt bs 10)
  unknown : u8 bs 0 = 0 ∨ 6 < u8 bs 0 → layoutEntry bs = .unknown

/-- A profile number is 0 to 15 and LOADED, and its glyph set is LOADED (R49). -/
def ProfileUsable (s : State) (n : Nat) : Prop :=
  ∃ (h : n < 16) (p : Profile) (g : GlyphSet), s.profiles[n] = some p ∧ s.glyphs[p.glyphSet] = some g

/-- A glyph set number is 0 to 2 and the set is LOADED (R49). -/
def SetUsable (s : State) (n : Nat) : Prop := ∃ (h : n < 3) (g : GlyphSet), s.glyphs[n] = some g

/-- The checks of the validation pass, entry by entry and in their order: what each leaves of the depth and the running
capacity, or the detail of the first check that fails (R48 to R50). -/
structure LayoutChecks (s : State) (depth cap : Nat) : Prop where
  unknown : s.validateEntry depth cap .unknown = .error .kind
  panel : ∀ x y w h, s.validateEntry depth cap (.panel x y w h) = if depth < 6 then .ok (depth + 1, cap) else .error .nesting
  endPanel : s.validateEntry depth cap .endPanel = if 0 < depth then .ok (depth - 1, cap) else .error .unbalanced
  gridAlign : ∀ n rows cols x y cg rg align, 1 < align →
    s.validateEntry depth cap (.grid n rows cols x y cg rg align) = .error .kind
  gridSize : ∀ n rows cols x y cg rg align, align ≤ 1 → ¬(1 ≤ rows ∧ rows ≤ 16 ∧ 1 ≤ cols ∧ cols ≤ 16) →
    s.validateEntry depth cap (.grid n rows cols x y cg rg align) = .error .grid
  gridUnset : ∀ n rows cols x y cg rg align, align ≤ 1 → 1 ≤ rows → rows ≤ 16 → 1 ≤ cols → cols ≤ 16 → ¬ ProfileUsable s n →
    s.validateEntry depth cap (.grid n rows cols x y cg rg align) = .error .unset
  gridPlaces : ∀ n rows cols x y cg rg align, align ≤ 1 → 1 ≤ rows → rows ≤ 16 → 1 ≤ cols → cols ≤ 16 → ProfileUsable s n →
    s.validateEntry depth cap (.grid n rows cols x y cg rg align) =
      if cap + rows * cols ≤ 64 then .ok (depth, cap + rows * cols) else .error .tooLarge
  insetUnset : ∀ n x y subject role, ¬ ProfileUsable s n →
    s.validateEntry depth cap (.inset n x y subject role) = .error .unset
  insetPlaces : ∀ n x y subject role, ProfileUsable s n →
    s.validateEntry depth cap (.inset n x y subject role) = if cap + 1 ≤ 64 then .ok (depth, cap + 1) else .error .tooLarge
  bannerAlign : ∀ x y w n c align a count, 2 < align →
    s.validateEntry depth cap (.banner x y w n c align a count) = .error .kind
  bannerUnset : ∀ x y w n c align a count, align ≤ 2 → ¬ SetUsable s n →
    s.validateEntry depth cap (.banner x y w n c align a count) = .error .unset
  banner : ∀ x y w n c align a count, align ≤ 2 → SetUsable s n →
    s.validateEntry depth cap (.banner x y w n c align a count) = .ok (depth, cap)
  rule : ∀ x y w h c, s.validateEntry depth cap (.rule x y w h c) = .ok (depth, cap)
  none : s.validate depth cap [] = .ok (depth, cap)
  first : ∀ e rest d, s.validateEntry depth cap e = .error d → s.validate depth cap (e :: rest) = .error d
  next : ∀ e rest depth' cap', s.validateEntry depth cap e = .ok (depth', cap') →
    s.validate depth cap (e :: rest) = s.validate depth' cap' rest

/-- The steps of a first sheet's pass: its entries in layout order, a GRID followed by its places row by row from the top
and from left to right, an INSET by its cell, a BANNER by its text, the frames counted from `i` (R51, R54, R55, R61). -/
structure LayoutSteps (i : Nat) (rest : List LayoutEntry) : Prop where
  none : entrySteps i [] = []
  panel : ∀ (x y : Int) (w h : Nat), entrySteps i (.panel x y w h :: rest) = .panel x y w h :: entrySteps i rest
  endPanel : entrySteps i (.endPanel :: rest) = .endPanel :: entrySteps i rest
  rule : ∀ (x y : Int) (w h : Nat) c, entrySteps i (.rule x y w h c :: rest) =
    .entry (.rule x y w h c) :: entrySteps (i + 1) rest
  banner : ∀ x y w n c align a count, entrySteps i (.banner x y w n c align a count :: rest) =
    .entry (.banner x y w n c align a count) :: .text i :: entrySteps (i + 1) rest
  inset : ∀ n x y a role, entrySteps i (.inset n x y a role :: rest) =
    .entry (.inset n x y a role) :: .inset i :: entrySteps (i + 1) rest
  grid : ∀ n rows cols x y cg rg align, ∃ places, entrySteps i (.grid n rows cols x y cg rg align :: rest) =
      .entry (.grid n rows cols x y cg rg align) :: .gridStart i :: (places ++ entrySteps (i + 1) rest) ∧
    places.length = rows * cols ∧
    ∀ r c, r < rows → c < cols → places[r * cols + c]? = some (.cell i r c)
  grids : ∀ n rows cols x y cg rg align,
    entryGrids (.grid n rows cols x y cg rg align :: rest) = (rows, cols) :: entryGrids rest

/-- The planner is in the placement pass of a sheet whose ticket it holds, under the frame in effect: the top of the frame
stack, or the sheet's own frame at (0, 0) with the whole sheet as its clip (R51). -/
structure Placing (s : State) (j : PlanJob) (sh : Sheet) (k : Ticket) (f : PanelFrame) : Prop where
  job : s.planner.job = some j
  sheet : s.sheet j.slot = some sh
  ticket : sh.ticket = some k
  base : s.planner.frameStack = [] → f = ⟨0, 0, ⟨0, 0, k.width, k.height⟩⟩
  top : ∀ g more, s.planner.frameStack = g :: more → f = g

/-- The state with another planner's job, frame stack and placement cursor, and another sheet in the job's slot. -/
def State.passWith (s : State) (j : PlanJob) (stack : List PanelFrame) (cur : Option PlaceCursor) (sh : Sheet) : State :=
  (s.setPlanner ⟨some j, s.planner.waiting, stack, cur⟩).setSheet j.slot (some sh)

/-- The pass over a PANEL, an END and the entries that make frame placements: what each does to the frame stack and to the
frame part, under the frame in effect (R51 to R54, R57, R61). -/
structure EntriesPlaced (s : State) (j : PlanJob) (sh : Sheet) (f : PanelFrame) (rest : List PlaceStep) : Prop where
  panel : ∀ (x y : Int) (w h : Nat), ∃ g : PanelFrame, g.x = f.x + x ∧ g.y = f.y + y ∧
    (∀ px py, rectHas g.clip px py = true ↔ rectHas f.clip px py = true ∧ f.x + x ≤ px ∧ px < f.x + x + w ∧
      f.y + y ≤ py ∧ py < f.y + y + h) ∧
    s.runPass (.panel x y w h :: rest) =
      (s.passWith { j with steps := rest } (g :: s.planner.frameStack) s.planner.cursor sh).runPass rest
  endPanel : s.runPass (.endPanel :: rest) =
    (s.passWith { j with steps := rest } s.planner.frameStack.tail s.planner.cursor sh).runPass rest
  rule : ∀ (x y : Int) (w h : Nat) c, s.runPass (.entry (.rule x y w h c) :: rest) =
    (s.passWith { j with steps := rest } s.planner.frameStack s.planner.cursor
      { sh with frames := sh.frames ++ [.rule ⟨⟨f.x + x, f.y + y, w, h⟩, c, f.clip⟩] }).runPass rest
  banner : ∀ x y w n c align a count b, (h : n < 3) →
    (align = 0 ∧ b = .left) ∨ (align = 1 ∧ b = .centre) ∨ (align = 2 ∧ b = .right) →
    s.runPass (.entry (.banner x y w n c align a count) :: rest) =
      (s.passWith { j with steps := rest } s.planner.frameStack s.planner.cursor { sh with frames := sh.frames ++
        [.banner ⟨f.x + x, f.y + y, w, ⟨n, h⟩, c, b, f.clip, a, count, [], 0#11, none⟩] }).runPass rest
  inset : ∀ n x y a role, (h : n < 16) → s.runPass (.entry (.inset n x y a role) :: rest) =
    (s.passWith { j with steps := rest } s.planner.frameStack s.planner.cursor
      { sh with frames := sh.frames ++ [.inset ⟨f.x + x, f.y + y, f.clip, ⟨n, h⟩, a, role, 0⟩] }).runPass rest
  grid : ∀ n rows cols x y cg rg align p set, (h : n < 16) → s.profiles[n] = some p → s.glyphs[p.glyphSet] = some set →
    s.runPass (.entry (.grid n rows cols x y cg rg align) :: rest) =
      (s.passWith { j with steps := rest } s.planner.frameStack s.planner.cursor { sh with frames := sh.frames ++
        [.grid ⟨f.x + x, f.y + y, f.clip, ⟨n, h⟩, rows, cols, cg, rg, align == 1, p.cellWidth + cg,
          p.cellHeight + p.captionGap + p.lines * set.lineHeight + rg, 0, 0⟩] }).runPass rest
  gridStart : ∀ i g, sh.frames[i]? = some (.grid g) → s.runPass (.gridStart i :: rest) =
    (s.passWith { j with steps := rest } s.planner.frameStack s.planner.cursor
      { sh with frames := sh.frames.set i (.grid { g with firstCell := sh.cells.length, cellCount := 0 }) }).runPass rest

/-- The cursor after a filled cell: the next column; at the last column the next row; after the last row the first place of
the next grid, which passes the last grid where the layout has no more (R55, R56, R59). -/
structure CursorMoved (grids : List (Nat × Nat)) (cur cur' : PlaceCursor) (passed : Bool) : Prop where
  right : ∀ rows cols, grids[cur.grid]? = some (rows, cols) → cur.col + 1 < cols →
    cur' = ⟨cur.grid, cur.row, cur.col + 1⟩ ∧ passed = false
  down : ∀ rows cols, grids[cur.grid]? = some (rows, cols) → cols ≤ cur.col + 1 → cur.row + 1 < rows →
    cur' = ⟨cur.grid, cur.row + 1, 0⟩ ∧ passed = false
  on : ∀ rows cols, grids[cur.grid]? = some (rows, cols) → cols ≤ cur.col + 1 → rows ≤ cur.row + 1 →
    cur' = ⟨cur.grid + 1, 0, 0⟩ ∧ passed = decide (cur.grid + 1 = grids.length)
  known : cur.grid < grids.length

/-- The kind, the role as acted on and the validity note of a cell that is placed with no subject record read: a SPACER, a
role value that encodes none, and a STUDENT or STAFF whose subject record address is 0 (R26, R34, R60). -/
def PlacedBare (role : Nat) (subject : Addr) (acted : Role) (kind : CellKind) (invalid : Bool) : Prop :=
  (role = 2 ∧ acted = .spacer ∧ kind = .empty ∧ invalid = false) ∨
  (2 < role ∧ acted = .spacer ∧ kind = .empty ∧ invalid = true) ∨
  (role = 0 ∧ subject = 0#64 ∧ acted = .student ∧ kind = .placeholder ∧ invalid = true) ∨
  (role = 1 ∧ subject = 0#64 ∧ acted = .staff ∧ kind = .placeholder ∧ invalid = true)

/-- A cell placed with no subject record read, and the counts that it adds: no subject, serial, name, tile or fit, and the
notes SUBJECT_INVALID as given and OFF_SHEET where its rectangle and its clip share no pixel (R34, R62, R63; assumption 50).
-/
structure BareCell (d : CellSeed) (kind : CellKind) (invalid : Bool) (c : Cell) (added : Counts) : Prop where
  off : ∃ off : Bool, (off = true ↔ ∀ x y, ¬(rectHas d.rect x y = true ∧ rectHas d.clip x y = true)) ∧
    c = ⟨kind, d.rect, d.clip, d.profile, d.rosterIndex, 0, 0#8, d.role, [], [], none, none, none,
      (if invalid then 0x004#11 else 0#11) ||| (if off then 0x001#11 else 0#11), []⟩ ∧
    added = { Counts.zero with placeholders := if kind = .placeholder then 1 else 0, offSheet := if off then 1 else 0 }

/-- A cell about to be placed at the place (row, col) of a grid whose row gets `used` cells: its rectangle by the grid's
pitches, under CENTRE alignment a short last row moved right by half the width it leaves free; its clip and profile the
grid's; its roster index the one taken (R57, R58, R62). -/
def gridSeed (g : GridFrame) (p : Profile) (set : GlyphSet) (row col used index i : Nat) (role : Role) : CellSeed :=
  ⟨⟨g.x + (col * g.colPitch : Nat) +
      ((if g.centred = true ∧ used < g.cols then (g.cols - used) * g.colPitch / 2 else 0 : Nat) : Int),
    g.y + (row * g.rowPitch : Nat), p.cellWidth, p.cellHeight + p.captionGap + p.lines * set.lineHeight⟩,
    g.clip, g.profile, some index, role, i⟩

/-- The pass at a place of a grid whose row gets `used` cells. A place beyond them is passed over. Otherwise it takes the
roster entry at the roster index, which is read first when it is not at hand: the planner waits for the subject record, or
the cell is placed with none, the grid's range grows, and the roster index and the cursor move (R34, R55 to R58, R61 to
R63). -/
structure GridPlace (s : State) (j : PlanJob) (sh : Sheet) (rest : List PlaceStep) (g : GridFrame) (i row col used : Nat) :
    Prop where
  beyond : used ≤ col → s.runPass (.cell i row col :: rest) = (s.passWith { j with steps := rest, rowUsed := used }
    s.planner.frameStack s.planner.cursor sh).runPass rest
  reads : col < used → j.roster = [] → s.runPass (.cell i row col :: rest) =
    s.passWith { j with steps := .cell i row col :: rest, stage := .roster, inFlight := false } s.planner.frameStack
      s.planner.cursor sh
  subject : ∀ e more p set role, col < used → j.roster = e :: more → s.profiles[g.profile] = some p →
    s.glyphs[p.glyphSet] = some set → e.subject ≠ 0#64 → (e.role = 0 ∧ role = .student) ∨ (e.role = 1 ∧ role = .staff) →
    s.runPass (.cell i row col :: rest) = s.passWith { j with
        steps := rest, rowUsed := used, roster := more, inFlight := false
        stage := .subject e.subject (gridSeed g p set row col used j.rosterIndex i role) }
      s.planner.frameStack s.planner.cursor sh
  bare : ∀ e more p set role kind invalid c added cur cur' passed, col < used → j.roster = e :: more →
    s.profiles[g.profile] = some p → s.glyphs[p.glyphSet] = some set → PlacedBare e.role e.subject role kind invalid →
    BareCell (gridSeed g p set row col used j.rosterIndex i role) kind invalid c added →
    s.planner.cursor = some cur → CursorMoved j.grids cur cur' passed →
    s.runPass (.cell i row col :: rest) = (s.passWith { j with
        steps := rest, rowUsed := used, roster := more, rosterIndex := j.rosterIndex + 1
        passedLast := j.passedLast || passed, counts := j.counts.add added }
      s.planner.frameStack (some cur') { sh with
        cells := sh.cells ++ [c]
        frames := sh.frames.set i (.grid { g with cellCount := g.cellCount + 1 }) }).runPass rest

/-- The pass at an INSET's cell: the planner waits for its subject record, or the cell is placed with none; no roster entry
is taken and the cursor does not move (R57, R60). -/
structure InsetPlaced (s : State) (j : PlanJob) (sh : Sheet) (rest : List PlaceStep) (f : InsetFrame) (i : Nat)
    (p : Profile) (set : GlyphSet) : Prop where
  subject : ∀ role, f.subject ≠ 0#64 → (f.role = 0 ∧ role = .student) ∨ (f.role = 1 ∧ role = .staff) →
    s.runPass (.inset i :: rest) = s.passWith { j with
        steps := rest, inFlight := false
        stage := .subject f.subject ⟨⟨f.x, f.y, p.cellWidth, p.cellHeight + p.captionGap + p.lines * set.lineHeight⟩, f.clip,
          f.profile, none, role, i⟩ } s.planner.frameStack s.planner.cursor sh
  bare : ∀ role kind invalid c added, PlacedBare f.role f.subject role kind invalid →
    BareCell ⟨⟨f.x, f.y, p.cellWidth, p.cellHeight + p.captionGap + p.lines * set.lineHeight⟩, f.clip, f.profile, none,
      role, i⟩ kind invalid c added →
    s.runPass (.inset i :: rest) = (s.passWith { j with steps := rest, counts := j.counts.add added }
      s.planner.frameStack s.planner.cursor { sh with
        cells := sh.cells ++ [c], frames := sh.frames.set i (.inset { f with cell := sh.cells.length }) }).runPass rest

/-- The pass at a BANNER's text: nothing is read for a glyph count or a text address of 0; otherwise the planner waits to
read it, a count above 64 taken as 64 with the clipped-captions count raised by one (R54; assumption 37). -/
structure TextPlaced (s : State) (j : PlanJob) (sh : Sheet) (rest : List PlaceStep) (b : BannerFrame) (i : Nat) : Prop where
  empty : b.textCount = 0 ∨ b.textAddr = 0#64 → s.runPass (.text i :: rest) =
    (s.passWith { j with steps := rest } s.planner.frameStack s.planner.cursor sh).runPass rest
  reads : 0 < b.textCount → b.textCount ≤ 64 → b.textAddr ≠ 0#64 → s.runPass (.text i :: rest) =
    s.passWith { j with steps := rest, stage := .text b.textAddr b.textCount i, inFlight := false } s.planner.frameStack
      s.planner.cursor sh
  clipped : 64 < b.textCount → b.textAddr ≠ 0#64 → s.runPass (.text i :: rest) =
    s.passWith { j with
        steps := rest, stage := .text b.textAddr 64 i, inFlight := false
        counts := j.counts.add { Counts.zero with clippedCaptions := 1 } }
      s.planner.frameStack s.planner.cursor
      { sh with frames := sh.frames.set i (.banner { b with notes := b.notes ||| 0x020#11 }) }

/-- The end of the placement pass: the planning counts join the order's results; the sheet is carry pending exactly when the
cursor has passed the last grid with roster entries left, its roster index kept; the slot is FILLING while builds remain and
READY when none do; and the planner is free, its stack empty and its cursor without a value (R55, R59, R63, R66). -/
def PassEnds (s t : State) (j : PlanJob) (sh : Sheet) (k : Ticket) : Prop :=
  t = ((s.setPlanner ⟨none, s.planner.waiting, [], none⟩).setSheet j.slot (some { sh with
    carry := j.passedLast && decide (j.rosterIndex < k.rosterCount), reached := j.rosterIndex
    state := if 0 < sh.pendingBuilds then .filling else .ready })).mapQueue fun e =>
      if e.slot = some j.slot then { e with results := { e.results with counts := e.results.counts.add j.counts } } else e

/-- The sum of two groups of counts: each count the sum, at most 65535 (R63, R217). -/
structure CountsAdded (c d e : Counts) : Prop where
  placeholders : e.placeholders = min 65535 (c.placeholders + d.placeholders)
  clamped : e.clamped = min 65535 (c.clamped + d.clamped)
  shifted : e.shifted = min 65535 (c.shifted + d.shifted)
  padded : e.padded = min 65535 (c.padded + d.padded)
  marksIgnored : e.marksIgnored = min 65535 (c.marksIgnored + d.marksIgnored)
  unmarked : e.unmarked = min 65535 (c.unmarked + d.unmarked)
  clippedCaptions : e.clippedCaptions = min 65535 (c.clippedCaptions + d.clippedCaptions)
  substituted : e.substituted = min 65535 (c.substituted + d.substituted)
  offSheet : e.offSheet = min 65535 (c.offSheet + d.offSheet)
  lateBands : e.lateBands = min 65535 (c.lateBands + d.lateBands)

/-- The raster description of a PRESENT subject's record is valid, in a pixel form (R28). -/
structure RasterValid (bs : List Byte) (form : PixelForm) : Prop where
  code : (u8 bs 6 = 0 ∧ form = .rgb8) ∨ (u8 bs 6 = 1 ∧ form = .gray8)
  width : 64 ≤ u16 bs 16 ∧ u16 bs 16 ≤ 8192
  height : 64 ≤ u16 bs 18 ∧ u16 bs 18 ≤ 8192
  pitch : u16 bs 16 * (if form = .rgb8 then 3 else 1) ≤ u32 bs 20
  addr : addrAt bs 8 ≠ 0#64
  last : (addrAt bs 8).toNat + u32 bs 20 * (u16 bs 18 - 1) + u16 bs 16 * (if form = .rgb8 then 3 else 1) - 1 < 2 ^ 64

/-- The marks in effect for a subject record with a valid raster, and whether its marks are ignored (R30 to R32). -/
structure MarksTaken (bs : List Byte) (m : Marks) (ignored : Bool) : Prop where
  none : u8 bs 7 = 0 → m = .none ∧ ignored = false
  full : u8 bs 7 = 1 → u16 bs 24 < u16 bs 28 → u16 bs 28 < u16 bs 26 → 16 ≤ u16 bs 26 - u16 bs 24 →
    u16 bs 26 ≤ u16 bs 18 - 1 → u16 bs 30 ≤ u16 bs 16 - 1 →
    m = .full (u16 bs 24) (u16 bs 26) (u16 bs 28) (u16 bs 30) ∧ ignored = false
  fullFails : u8 bs 7 = 1 → ¬(u16 bs 24 < u16 bs 28 ∧ u16 bs 28 < u16 bs 26 ∧ 16 ≤ u16 bs 26 - u16 bs 24 ∧
    u16 bs 26 ≤ u16 bs 18 - 1 ∧ u16 bs 30 ≤ u16 bs 16 - 1) → m = .none ∧ ignored = true
  eyes : u8 bs 7 = 2 → u16 bs 26 + 8 ≤ u16 bs 28 → u16 bs 28 ≤ u16 bs 16 - 1 → u16 bs 24 ≤ u16 bs 18 - 1 →
    m = .eyes (u16 bs 24) (u16 bs 26) (u16 bs 28) ∧ ignored = false
  eyesFail : u8 bs 7 = 2 → ¬(u16 bs 26 + 8 ≤ u16 bs 28 ∧ u16 bs 28 ≤ u16 bs 16 - 1 ∧ u16 bs 24 ≤ u16 bs 18 - 1) →
    m = .none ∧ ignored = true
  unknown : 2 < u8 bs 7 → m = .none ∧ ignored = true

/-- The tile that a PORTRAIT cell takes, placed after some cells of its sheet: the reference and the fit, when known, of the
first earlier PORTRAIT cell with its subject, profile and picture serial, with no lookup made; and otherwise the answer of
the lookup with that key and the cell's source (R64, R95). -/
structure TileClaimed (s u : State) (sl : SheetSlot) (cells : List Cell) (c : Cell) (src : Source) : Prop where
  shared : ∀ d r, (cells.find? fun d => d.kind == .portrait && d.subject == c.subject && d.profile == c.profile &&
      d.serial == c.serial) = some d → d.ref = some r →
    c.ref = some r ∧ c.fit = d.fit ∧ u.store = s.store ∧ u.builder = s.builder ∧
    (u.sheet sl).map (·.pendingBuilds) = (s.sheet sl).map (·.pendingBuilds)
  looked : (∀ d ∈ cells, d.kind = .portrait →
      d.subject ≠ c.subject ∨ d.profile ≠ c.profile ∨ d.serial ≠ c.serial) →
    c.ref = some (s.lookup sl ⟨c.subject, c.profile, c.serial⟩ src).2.ref ∧
    c.fit = (s.lookup sl ⟨c.subject, c.profile, c.serial⟩ src).2.fit ∧
    u.store = (s.lookup sl ⟨c.subject, c.profile, c.serial⟩ src).1.store ∧
    u.builder = (s.lookup sl ⟨c.subject, c.profile, c.serial⟩ src).1.builder ∧
    (u.sheet sl).map (·.pendingBuilds) =
      ((s.lookup sl ⟨c.subject, c.profile, c.serial⟩ src).1.sheet sl).map (·.pendingBuilds)

/-! ## Attempts and finished sheets, in the terms of their statements -/

/-- An attempt is the current attempt of a sheet in COMPOSING or CLOSING whose order has no ending (R177). -/
structure InHand (s : State) (a : Attempt) (sh : Sheet) (k : Ticket) : Prop where
  sheet : s.sheet a.slot = some sh
  number : sh.attempt = a.number
  state : sh.state = .composing ∨ sh.state = .closing
  ending : sh.ending = none
  report : sh.report = .none
  ticket : sh.ticket = some k

/-- A spoil has been reported for the current attempt of a sheet: SHEET_SPOILED is set; with retries left the sheet is in
its next pass, FILLING or READY by its pending builds; otherwise its order ends SPOILED with the cause, the slot FREE once
the link and the Writer have let it go, where a BLOCKED walker goes on, and its tile holds released at once (R14, R109, R175,
R177, R178). -/
structure Spoiled (s t : State) (a : Attempt) (sh : Sheet) (k : Ticket) (cause : Detail) : Prop where
  event : t.hasEvent .sheetSpoiled = true
  retry : sh.attempt ≤ k.retryBudget → ∃ sh', t.sheet a.slot = some sh' ∧ sh'.attempt = sh.attempt + 1 ∧
    sh'.state = (if 0 < sh'.pendingBuilds then .filling else .ready) ∧ sh'.ending = none ∧ sh'.ticket = some k ∧
    sh'.cells.length = sh.cells.length ∧ sh'.frames = sh.frames
  freed : k.retryBudget < sh.attempt → t.linkHolds a.slot = false → t.writerServes a.slot = false →
    t.sheet a.slot = none ∧ t.control.queue = queueEnded s.control.queue a.slot .spoiled cause ∧ WalkerUnblocked s t
  kept : k.retryBudget < sh.attempt → t.linkHolds a.slot = true ∨ t.writerServes a.slot = true →
    ∃ sh', t.sheet a.slot = some sh' ∧ sh'.state = .finished ∧ sh'.ending = some (.spoiled, cause) ∧
      t.control.queue = s.control.queue
  released : k.retryBudget < sh.attempt → HoldsReleased s t a.slot

/-- The link or the Writer has finished with an attempt that had ended before. A FINISHED sheet with an ending is let go when
the link, the Writer and the report are done with it: its slot is FREE, its order FINISHED with the ending, and a BLOCKED
walker goes on. Every other sheet, one in its second pass among them, stays as it is (R14, R156, R170, R175, R179). -/
structure EndedLetGo (s t : State) (sl : SheetSlot) : Prop where
  freed : ∀ sh o d, s.sheet sl = some sh → sh.state = .finished → sh.ending = some (o, d) → sh.report = .none →
    t.linkHolds sl = false → t.writerServes sl = false →
    t.sheet sl = none ∧ t.control.queue = queueEnded s.control.queue sl o d ∧ WalkerUnblocked s t
  held : ∀ sh, s.sheet sl = some sh → sh.state ≠ .finished ∨ sh.report ≠ .none ∨ t.linkHolds sl = true ∨
    t.writerServes sl = true → t.sheet sl = some sh ∧ t.control = s.control

/-- How the rows of a band write can have failed: some row that was issued ended in a bus error, and after a damaged read not
every row was issued. No row of a poisoned buffer is issued (R169, R201; assumption 11). -/
structure RowsFailed (s : State) (rows : List Bool) : Prop where
  failed : false ∈ rows
  issued : rows.length ≤ s.currentRows.length
  damaged : s.writer.damage = true → rows.length < s.currentRows.length
  good : (s.composer.buf (bufferFor s.writer.nextBand)).poisoned = false

/-- A band write has failed: of its rows those issued have been written whose writes completed, an error that stood in its
buffer has been found again, and the unit has ended (R168 to R170; assumptions 9, 51). -/
structure BandWriteFailed (s t : State) (rows : List Bool) : Prop where
  writes : t.out.serverWrites = s.out.serverWrites ++
    ((List.range rows.length).filter fun r => rows[r]? = some true).filterMap (fun r => s.currentRows[r]?)
  messages : t.out.pressMessages = s.out.pressMessages
  found : FoundAgain s t (· == .band (bufferFor s.writer.nextBand))
  outstanding : t.port.outstanding = s.endUnit.port.outstanding

/-- The retire queue after a sheet of a slot's order has been made: sheets made risen by one and the next roster index at
the index the sheet's pass reached (R174). -/
def queueMade (q : List QueueEntry) (sl : SheetSlot) (reached : Nat) : List QueueEntry :=
  q.map fun e => if e.slot = some sl then
    { e with results := { e.results with sheetsMade := e.results.sheetsMade + 1, nextRoster := reached } } else e

/-- A sheet whose order has no ending has been printed or proofed, with its slot let go by the link and the Writer. With no
report wanted: the order is FINISHED, OK or NOTED by its counts, when the roster is used up; PARTIAL under STOP and at the
sheet limit; and under AUTO below the sheet limit the slot goes on with the next sheet, which waits when the planner is
busy, and otherwise is refused under OFF, or makes its placement pass at once. A report that is wanted is due, and the slot
waits for it in FINISHED. Its tile holds are released, and a BLOCKED walker goes on when the slot is FREE (R14, R47, R65, R68,
R69, R109, R174, R175, R179). -/
structure SheetMade (s t : State) (sl : SheetSlot) (sh : Sheet) (k : Ticket) : Prop where
  done : sh.carry = false → k.reportAddr = 0#64 → t.sheet sl = none ∧
    (t.control.queue = (queueMade s.control.queue sl sh.reached).map fun e => if e.slot = some sl then
      { e with finished := true, slot := none, results := { e.results with
        outcome := if e.results.counts = Counts.zero then .ok else .noted, detail := .none } } else e) ∧
    WalkerUnblocked s t
  partialRoster : sh.carry = true →
    k.autoLimit = none ∨ (∃ l r, k.autoLimit = some l ∧ s.orderResults sl = some r ∧ l ≤ r.sheetsMade + 1) →
    k.reportAddr = 0#64 → t.sheet sl = none ∧
    t.control.queue = queueEnded (queueMade s.control.queue sl sh.reached) sl .partialRoster .none ∧ WalkerUnblocked s t
  next : ∀ l r, sh.carry = true → k.autoLimit = some l → s.orderResults sl = some r → r.sheetsMade + 1 < l →
    k.reportAddr = 0#64 → s.planner.job ≠ none → t.planner = { s.planner with waiting := some sl } ∧
    t.control.queue = queueMade s.control.queue sl sh.reached ∧
    t.sheet sl = some { sh with
      state := .planning, index := sh.index + 1, attempt := 1, pendingBuilds := 0, carry := false, start := sh.reached
      cells := [], made := false, report := .none }
  nextRefused : ∀ l r, sh.carry = true → k.autoLimit = some l → s.orderResults sl = some r → r.sheetsMade + 1 < l →
    k.reportAddr = 0#64 → s.planner.job = none → s.planner.waiting = none → k.dest = .press → s.window.pressMode = .off →
    t.planner = ⟨none, none, [], none⟩ ∧ t.sheet sl = none ∧
    t.control.queue = queueEnded (queueMade s.control.queue sl sh.reached) sl .refused .pressOff ∧ WalkerUnblocked s t
  nextPlanned : ∀ l r, sh.carry = true → k.autoLimit = some l → s.orderResults sl = some r → r.sheetsMade + 1 < l →
    k.reportAddr = 0#64 → s.planner.job = none → s.planner.waiting = none →
    k.dest = .proof ∨ s.window.pressMode ≠ .off → PassRests t sl ∧
    (t.orderResults sl).map (fun r => (r.sheetsMade, r.nextRoster)) = some (r.sheetsMade + 1, sh.reached) ∧
    ∃ sh', t.sheet sl = some sh' ∧ sh'.ticket = some k ∧ sh'.index = sh.index + 1 ∧ sh'.attempt = 1 ∧
      sh'.start = sh.reached ∧ sh'.ending = none ∧ sh'.made = false ∧ sh'.report = .none
  report : k.reportAddr ≠ 0#64 → t.control.queue = queueMade s.control.queue sl sh.reached ∧
    t.sheet sl = some { sh with state := .finished, made := true, report := .due, pendingBuilds := 0 }
  released : sh.carry = false ∨ k.autoLimit = none ∨ k.reportAddr ≠ 0#64 ∨ s.planner.job ≠ none → HoldsReleased s t sl

/-- The cell report entry of a cell placement, at the offsets of R218; the signed fields are two's complement, and each is
its value exactly where that lies in its range. -/
structure ReportEntry (c : Cell) (bs : List Byte) : Prop where
  length : bs.length = 32
  kind : u8 bs 0 = (match c.kind with
    | .portrait => 0
    | .placeholder => 1
    | .empty => 2)
  role : u8 bs 1 = (match c.role with
    | .student => 0
    | .staff => 1
    | .spacer => 2)
  roster : u16 bs 2 = (c.rosterIndex.getD 65535) % 2 ^ 16
  subject : u32 bs 4 = c.subject % 2 ^ 32
  left : -2 ^ 31 ≤ c.rect.x → c.rect.x < 2 ^ 31 → (BitVec.ofNat 32 (u32 bs 8)).toInt = c.rect.x
  top : -2 ^ 31 ≤ c.rect.y → c.rect.y < 2 ^ 31 → (BitVec.ofNat 32 (u32 bs 12)).toInt = c.rect.y
  serial : byteAt bs 21 = c.serial
  unfitted : c.fit = none → u32 bs 16 = 0 ∧ u8 bs 20 = 0 ∧ s16 bs 22 = 0 ∧ s16 bs 24 = 0 ∧ s16 bs 26 = 0 ∧ s16 bs 28 = 0
  fitted : ∀ f, c.fit = some f → u32 bs 16 = f.s % 2 ^ 32 ∧ u8 bs 20 = f.k % 2 ^ 8 ∧
    (-2 ^ 15 ≤ f.x0 → f.x0 < 2 ^ 15 → s16 bs 22 = f.x0) ∧ (-2 ^ 15 ≤ f.y0 → f.y0 < 2 ^ 15 → s16 bs 24 = f.y0) ∧
    (-2 ^ 15 ≤ f.shiftX → f.shiftX < 2 ^ 15 → s16 bs 26 = f.shiftX) ∧
    (-2 ^ 15 ≤ f.shiftY → f.shiftY < 2 ^ 15 → s16 bs 28 = f.shiftY)
  notes : u16 bs 30 = c.notes.toNat

/-- What follows the report of a sheet that is carry pending, its order without an ending and its slot let go by the link and
the Writer: PARTIAL under STOP and at the sheet limit; under AUTO below it the slot goes on with the next sheet, which waits
when the planner is busy, is refused under OFF, or makes its placement pass at once; a BLOCKED walker goes on when the slot
is FREE (R14, R47, R65, R68, R175). -/
structure ReportFollowed (s t : State) (sl : SheetSlot) (sh : Sheet) (k : Ticket) : Prop where
  partialRoster : k.autoLimit = none ∨ (∃ l r, k.autoLimit = some l ∧ s.orderResults sl = some r ∧ l ≤ r.sheetsMade) →
    t.sheet sl = none ∧ t.control.queue = queueEnded s.control.queue sl .partialRoster .none ∧ WalkerUnblocked s t
  next : ∀ l r, k.autoLimit = some l → s.orderResults sl = some r → r.sheetsMade < l → s.planner.job ≠ none →
    t.planner = { s.planner with waiting := some sl } ∧ t.control.queue = s.control.queue ∧
    t.sheet sl = some { sh with
      state := .planning, index := sh.index + 1, attempt := 1, pendingBuilds := 0, carry := false, start := sh.reached
      cells := [], made := false, report := .none }
  nextRefused : ∀ l r, k.autoLimit = some l → s.orderResults sl = some r → r.sheetsMade < l → s.planner.job = none →
    s.planner.waiting = none → k.dest = .press → s.window.pressMode = .off → t.planner = ⟨none, none, [], none⟩ ∧
    t.sheet sl = none ∧ t.control.queue = queueEnded s.control.queue sl .refused .pressOff ∧ WalkerUnblocked s t
  nextPlanned : ∀ l r, k.autoLimit = some l → s.orderResults sl = some r → r.sheetsMade < l → s.planner.job = none →
    s.planner.waiting = none → k.dest = .proof ∨ s.window.pressMode ≠ .off → PassRests t sl ∧
    ∃ sh', t.sheet sl = some sh' ∧ sh'.ticket = some k ∧ sh'.index = sh.index + 1 ∧ sh'.attempt = 1 ∧
      sh'.start = sh.reached ∧ sh'.ending = none ∧ sh'.made = false ∧ sh'.report = .none

/-! ## The tile of a build and its fit, in the terms of their statements -/

/-- The pixels of a source raster as colours, within the area that a build reads, from the bytes read in their order: three
bytes red, green and blue for RGB8, the one byte in each channel for GRAY8 (R77, R87). -/
structure SourceTaken (src : Source) (a : SourceArea) (got : List Byte) (raster : Nat → Nat → Colour) : Prop where
  rgb : src.form = .rgb8 → ∀ x y, a.x ≤ x → x < a.x + a.cols → a.y ≤ y → y < a.y + a.rows →
    raster x y = ⟨byteAt got (3 * ((y - a.y) * a.cols + (x - a.x))), byteAt got (3 * ((y - a.y) * a.cols + (x - a.x)) + 1),
      byteAt got (3 * ((y - a.y) * a.cols + (x - a.x)) + 2)⟩
  gray : src.form = .gray8 → ∀ x y, a.x ≤ x → x < a.x + a.cols → a.y ≤ y → y < a.y + a.rows →
    raster x y = ⟨byteAt got ((y - a.y) * a.cols + (x - a.x)), byteAt got ((y - a.y) * a.cols + (x - a.x)),
      byteAt got ((y - a.y) * a.cols + (x - a.x))⟩

/-- A raster halved once: pixel (i, j) is, channel by channel, the rounded mean of the four pixels under it (R76). -/
def Halved (r r' : Nat → Nat → Colour) : Prop :=
  ∀ i j, (r' i j).r.toNat = ((r (2 * i) (2 * j)).r.toNat + (r (2 * i + 1) (2 * j)).r.toNat +
      (r (2 * i) (2 * j + 1)).r.toNat + (r (2 * i + 1) (2 * j + 1)).r.toNat + 2) / 4 ∧
    (r' i j).g.toNat = ((r (2 * i) (2 * j)).g.toNat + (r (2 * i + 1) (2 * j)).g.toNat +
      (r (2 * i) (2 * j + 1)).g.toNat + (r (2 * i + 1) (2 * j + 1)).g.toNat + 2) / 4 ∧
    (r' i j).b.toNat = ((r (2 * i) (2 * j)).b.toNat + (r (2 * i + 1) (2 * j)).b.toNat +
      (r (2 * i) (2 * j + 1)).b.toNat + (r (2 * i + 1) (2 * j + 1)).b.toNat + 2) / 4

/-- An in-range sample of an axis of `size` reduced pixels: clamped to the outermost centres, its reduced pixel `i`, its
fraction `f` and its neighbour `i'`, which at the last pixel is that pixel (R85). -/
structure AxisSampled (size : Nat) (pos : Int) (i f i' : Nat) : Prop where
  below : pos < 0 → i = 0 ∧ f = 0
  above : ((size : Int) - 1) * 256 < pos → i + 1 = size ∧ f = 0
  within : 0 ≤ pos → pos ≤ ((size : Int) - 1) * 256 → (i : Int) * 256 + f = pos ∧ f < 256
  last : i + 1 = size → i' = i
  next : i + 1 ≠ size → i' = i + 1

/-- The blend of one channel: two rounded horizontal steps, then a rounded vertical one (R86). -/
def ChannelBlended (p00 p10 p01 p11 : Byte) (f g : Nat) (c : Byte) : Prop :=
  c.toNat = ((p00.toNat * (256 - f) + p10.toNat * f + 128) / 256 * (256 - g) +
    (p01.toNat * (256 - f) + p11.toNat * f + 128) / 256 * g + 128) / 256

/-- The tile pixel (u, v) of a fit over its reduced raster: the profile's pad colour where its sample lies outside the valid
range of an axis, and the blend of the four reduced pixels about the sample otherwise (R84 to R86). -/
structure PixelSampled (f : Fit) (p : Profile) (r : Nat → Nat → Colour) (u v : Nat) (c : Colour) : Prop where
  pad : ¬(-128 ≤ 256 * f.record.x0 + f.offset + u * f.step ∧
      256 * f.record.x0 + f.offset + u * f.step ≤ ((f.reducedW : Int) - 1) * 256 + 128 ∧
      -128 ≤ 256 * f.record.y0 + f.offset + v * f.step ∧
      256 * f.record.y0 + f.offset + v * f.step ≤ ((f.reducedH : Int) - 1) * 256 + 128) → c = p.pad
  blend : -128 ≤ 256 * f.record.x0 + f.offset + u * f.step →
    256 * f.record.x0 + f.offset + u * f.step ≤ ((f.reducedW : Int) - 1) * 256 + 128 →
    -128 ≤ 256 * f.record.y0 + f.offset + v * f.step →
    256 * f.record.y0 + f.offset + v * f.step ≤ ((f.reducedH : Int) - 1) * 256 + 128 →
    ∃ i fx i' j gy j', AxisSampled f.reducedW (256 * f.record.x0 + f.offset + u * f.step) i fx i' ∧
      AxisSampled f.reducedH (256 * f.record.y0 + f.offset + v * f.step) j gy j' ∧
      ChannelBlended (r i j).r (r i' j).r (r i j').r (r i' j').r fx gy c.r ∧
      ChannelBlended (r i j).g (r i' j).g (r i j').g (r i' j').g fx gy c.g ∧
      ChannelBlended (r i j).b (r i' j).b (r i j').b (r i' j').b fx gy c.b

/-- The tile of a build: Wc × Hc pixels of three bytes, row by row from row 0, each sampled from the source bytes read,
halved as often as the fit says, in whole granules of 8 bytes, the last filled out with zero bytes (R76, R77, R84 to R88,
R196). `rasters` is the source raster followed by its halvings. -/
structure TileBuilt (src : Source) (f : Fit) (p : Profile) (got tile : List Byte) : Prop where
  length : tile.length = (3 * (p.cellWidth * p.cellHeight) + 7) / 8 * 8
  filled : ∀ i, 3 * (p.cellWidth * p.cellHeight) ≤ i → i < tile.length → tile[i]? = some 0#8
  pixels : 1 ≤ f.reducedW → 1 ≤ f.reducedH → ∀ rasters : Nat → Nat → Nat → Colour,
    (∀ a, sourceArea f p = some a → SourceTaken src a got (rasters 0)) →
    (∀ n < f.record.k, Halved (rasters n) (rasters (n + 1))) →
    ∀ u v, u < p.cellWidth → v < p.cellHeight →
      PixelSampled f p (rasters f.record.k) u v (colourAt tile (3 * (v * p.cellWidth + u)))

/-- The final origin of an axis of `size` reduced pixels and `cell` tile pixels under SHIFT, from the computed one, `lo` and
`hi` being the least and the greatest origin that keep every sample of the axis in its range: the nearest origin from `lo`
to `hi` where there is one, and the origin that centres the window on the raster where there is none (R80, R81). -/
structure OriginShifted (size cell step : Nat) (o computed final : Int) : Prop where
  bounds : ∃ lo hi : Int, (∀ x : Int, lo ≤ x ↔ -128 ≤ 256 * x + o) ∧
    (∀ x : Int, x ≤ hi ↔ 256 * x + o + ((cell : Int) - 1) * step ≤ ((size : Int) - 1) * 256 + 128) ∧
    (lo ≤ hi → (computed < lo → final = lo) ∧ (hi < computed → final = hi) ∧
      (lo ≤ computed → computed ≤ hi → final = computed)) ∧
    (hi < lo → 2 * final ≤ lo + hi ∧ lo + hi < 2 * final + 2)

/-! ## Captions and paintings, in the terms of their statements -/

/-- No glyph of the sets is poisoned, so that no fit finds damage (R201). -/
def GlyphsGood (s : State) : Prop := ∀ (g : Fin 3), ∀ h ∈ (s.glyphSetOf g).map, h.poisoned = false

/-- The glyph used for a code and whether it raises GLYPH_SUBSTITUTED: its own where the map holds it undamaged, otherwise
the substitute's, otherwise none (R122). -/
structure CodeFitted (set : GlyphSet) (c : Code) (r : Run) : Prop where
  own : ∀ h, set.find c = some h → r = ⟨[⟨h.code, h.advance⟩], false⟩
  substitute : ∀ h, set.find c = none → set.find set.substitute = some h → r = ⟨[⟨h.code, h.advance⟩], true⟩
  skipped : set.find c = none → set.find set.substitute = none → r = ⟨[], true⟩

/-- The glyphs used for a list of codes, code by code in their order (R122, R124). -/
inductive RunFitted (set : GlyphSet) : List Code → Run → Prop where
  | nil : RunFitted set [] ⟨[], false⟩
  | cons {c : Code} {r : Run} {cs : List Code} {rest : Run} (head : CodeFitted set c r) (tail : RunFitted set cs rest) :
    RunFitted set (c :: cs) ⟨r.glyphs ++ rest.glyphs, r.substituted || rest.substituted⟩

/-- A line after clipping to a limit. One that fits stays. One that does not loses glyphs from its end, as few as bring it
with the ellipsis within the limit, and the ellipsis follows; where the ellipsis alone is too wide it becomes empty (R126; the
note of a substituted ellipsis that is not drawn is assumption 53). -/
structure LineClipped (set : GlyphSet) (gs : List DrawnGlyph) (limit : Nat) (l : ClippedLine) : Prop where
  fits : runWidth gs ≤ limit → l = ⟨gs, false, false⟩
  cut : ∀ e, CodeFitted set set.ellipsis e → limit < runWidth gs → runWidth e.glyphs ≤ limit →
    ∃ n, n < gs.length ∧ l = ⟨gs.take n ++ e.glyphs, true, e.substituted⟩ ∧
      runWidth (gs.take n) + runWidth e.glyphs ≤ limit ∧
      ∀ m, n < m → m ≤ gs.length → limit < runWidth (gs.take m) + runWidth e.glyphs
  empty : ∀ e, CodeFitted set set.ellipsis e → limit < runWidth gs → limit < runWidth e.glyphs →
    l = ⟨[], true, e.substituted⟩

/-- The caption of a cell and the notes that its fit raises: no line without a code; one line, the parts of the name joined
by the space glyph where both hold a code; two lines, one part each, where the one line does not fit, two are allowed and
both parts hold a code. Each line is clipped to the cell's width and centred in it (R124 to R127; the notes of a substituted
space and ellipsis are assumptions 23 and 39). -/
def CaptionFitted (p : Profile) (set : GlyphSet) (c : Cell) (lines : List FitLine) (notes : Notes) : Prop :=
  (c.given = [] → c.family = [] → lines = [] ∧ notes = 0#11) ∧
  (c.given ≠ [] ∨ c.family ≠ [] → ∃ first second one two sp,
    (first = if p.nameOrder = .givenFirst then c.given else c.family) ∧
    (second = if p.nameOrder = .givenFirst then c.family else c.given) ∧
    RunFitted set first one ∧ RunFitted set second two ∧
    (first ≠ [] → second ≠ [] → CodeFitted set set.space sp) ∧ (first = [] ∨ second = [] → sp = ⟨[], false⟩) ∧
    (runWidth (one.glyphs ++ sp.glyphs ++ two.glyphs) ≤ p.cellWidth ∨ p.lines ≠ 2 ∨ first = [] ∨ second = [] →
      ∃ l, LineClipped set (one.glyphs ++ sp.glyphs ++ two.glyphs) p.cellWidth l ∧
        lines = [⟨l.glyphs, runWidth l.glyphs, (p.cellWidth - runWidth l.glyphs) / 2⟩] ∧
        notes = (noteIf .captionClipped l.clipped |||
          noteIf .glyphSubstituted (one.substituted || two.substituted || sp.substituted || l.substituted))) ∧
    (p.cellWidth < runWidth (one.glyphs ++ sp.glyphs ++ two.glyphs) → p.lines = 2 → first ≠ [] → second ≠ [] →
      ∃ l m, LineClipped set one.glyphs p.cellWidth l ∧ LineClipped set two.glyphs p.cellWidth m ∧
        lines = [⟨l.glyphs, runWidth l.glyphs, (p.cellWidth - runWidth l.glyphs) / 2⟩,
          ⟨m.glyphs, runWidth m.glyphs, (p.cellWidth - runWidth m.glyphs) / 2⟩] ∧
        notes = (noteIf .captionClipped (l.clipped || m.clipped) |||
          noteIf .glyphSubstituted (one.substituted || two.substituted || l.substituted || m.substituted))))

/-- The line of a banner and the notes that its fit raises: none without a code; otherwise its codes as one line, clipped to
the box width and placed by the alignment (R128). -/
def BannerFitted (set : GlyphSet) (f : BannerFrame) (line : Option FitLine) (notes : Notes) : Prop :=
  (f.text = [] → line = none ∧ notes = 0#11) ∧
  (f.text ≠ [] → ∃ r l, RunFitted set f.text r ∧ LineClipped set r.glyphs f.boxWidth l ∧
    line = some ⟨l.glyphs, runWidth l.glyphs, match f.align with
      | .left => 0
      | .centre => (f.boxWidth - runWidth l.glyphs) / 2
      | .right => f.boxWidth - runWidth l.glyphs⟩ ∧
    notes = (noteIf .captionClipped l.clipped ||| noteIf .glyphSubstituted (r.substituted || l.substituted)))

/-- The notes of a frame placement: a banner's own; the other kinds have none (R54). -/
def Frame.notes (f : Frame) : Notes :=
  match f with
  | .banner b => b.notes
  | .rule _ | .grid _ | .inset _ => 0#11

/-- The notes of a sheet's cells and banners, in their order. -/
def sheetNotes (cells : List Cell) (frames : List Frame) : List Notes := cells.map (·.notes) ++ frames.map Frame.notes

/-- How many cells and banners carry a note now that they did not carry before. -/
def newlyNoted (n : Note) (before after : List Notes) : Nat :=
  ((before.zip after).filter fun q => hasNote q.2 n && !hasNote q.1 n).length

/-- The fits of a sheet at its entry to COMPOSING: every PORTRAIT and PLACEHOLDER cell has the caption that its codes give,
every banner its line, and the notes raised join those carried; EMPTY cells and the other frames stay as they are (R123). -/
structure SheetFitted (s : State) (sh sh' : Sheet) : Prop where
  cells : ∀ (i : Nat) (c c' : Cell), sh.cells[i]? = some c → sh'.cells[i]? = some c' → (c.kind = .empty → c' = c) ∧
    (c.kind ≠ .empty → ∃ lines notes,
      CaptionFitted (s.profileOf c.profile) (s.glyphSetOf (s.profileOf c.profile).glyphSet) c lines notes ∧
      c' = { c with caption := lines, notes := c.notes ||| notes })
  banners : ∀ (i : Nat) (f : BannerFrame) (f' : Frame), sh.frames[i]? = some (.banner f) → sh'.frames[i]? = some f' →
    ∃ line notes,
    BannerFitted (s.glyphSetOf f.set) f line notes ∧ f' = .banner { f with line := line, notes := f.notes ||| notes }
  others : ∀ (i : Nat) (f : Frame), sh.frames[i]? = some f → (∀ b, f ≠ .banner b) → sh'.frames[i]? = some f

/-- The colour of a sheet pixel after some paintings, in their order, from its colour before. -/
def painted (ops : List PaintOp) (x y : Int) (bg : Colour) : Colour := ops.foldl (fun c op => op.apply x y c) bg

/-- A Composer has started to paint a band of its attempt: its buffer is FILLING with the band's tag, its pixels still those
of earlier use, and takes a pending BAND poison; a correctable error in it stands no longer (R135, R136, R197, R201). -/
structure PaintingStarted (s t : State) (a : Attempt) (k : Ticket) (b : Nat) : Prop where
  state : t.composer.state = .painting
  attempt : t.composer.attempt = some a
  band : t.composer.nextBand = b
  buffer : t.composer.buf (bufferFor b) = { s.composer.buf (bufferFor b) with
    state := .filling, tag := some ⟨a, b, min 64 (k.height - 64 * b)⟩, poisoned := s.check.poison == .band }
  other : t.composer.buf (bufferFor (b + 1)) = s.composer.buf (bufferFor (b + 1))
  poison : t.check.poison = if s.check.poison = .band then .none else s.check.poison
  standing : t.check.standing = s.check.standing.filter fun l => l ≠ .band (bufferFor b)
  uncorrectable : t.check.uncorrectable = s.check.uncorrectable ∧ t.check.locked = s.check.locked

/-- A band buffer has been given back EMPTY, its tag cleared. A Composer that does not wait leaves it so, and so does one that
waits for the other buffer while that is not EMPTY; one that waits for it starts to paint its next band into it in the same
step (R134 to R136, R153, R168). -/
structure GivenBack (s t : State) (i : BufferId) : Prop where
  rests : s.composer.state ≠ .waiting →
    t.composer = s.composer.setBuf i { s.composer.buf i with state := .empty, tag := none }
  waits : ∀ a, s.composer.state = .waiting → s.composer.attempt = some a → s.ticketOf a.slot ≠ none →
    bufferFor s.composer.nextBand ≠ i → (s.composer.buf (bufferFor s.composer.nextBand)).state ≠ .empty →
    t.composer = s.composer.setBuf i { s.composer.buf i with state := .empty, tag := none }
  paints : ∀ a k, s.composer.state = .waiting → s.composer.attempt = some a → s.ticketOf a.slot = some k →
    bufferFor s.composer.nextBand = i → PaintingStarted s t a k s.composer.nextBand

/-- A sheet has entered COMPOSING: its captions are fitted, each line centred within its cell, the Composer has taken its
attempt and paints band 0 or waits for buffer X, and the order's attempts used has risen by one (R123 to R127, R135,
R173). -/
structure ComposingEntered (s t : State) (sl : SheetSlot) (sh : Sheet) (k : Ticket) : Prop where
  sheet : ∃ sh', t.sheet sl = some sh' ∧ sh'.state = .composing ∧ sh'.attempt = sh.attempt ∧ sh'.ticket = some k ∧
    sh'.cells.length = sh.cells.length ∧ sh'.frames.length = sh.frames.length ∧
    ∀ c ∈ sh'.cells, c.kind ≠ .empty → c.caption.length ≤ (if (s.profileOf c.profile).lines = 2 then 2 else 1) ∧
      ∀ l ∈ c.caption, l.width = runWidth l.glyphs ∧ l.width ≤ (s.profileOf c.profile).cellWidth ∧
        l.offset = ((s.profileOf c.profile).cellWidth - l.width) / 2
  fits : GlyphsGood s → ∀ sh', t.sheet sl = some sh' → SheetFitted s sh sh'
  counts : GlyphsGood s → ∀ sh' r, t.sheet sl = some sh' → s.orderResults sl = some r → ∃ r', t.orderResults sl = some r' ∧
    r'.counts.clippedCaptions = min 65535 (r.counts.clippedCaptions +
      newlyNoted .captionClipped (sheetNotes sh.cells sh.frames) (sheetNotes sh'.cells sh'.frames)) ∧
    r'.counts.substituted = min 65535 (r.counts.substituted +
      newlyNoted .glyphSubstituted (sheetNotes sh.cells sh.frames) (sheetNotes sh'.cells sh'.frames))
  found : GlyphsGood s → FoundAgain s t (s.fittingReads sl)
  other : t.sheet (otherSlot sl) = s.sheet (otherSlot sl)
  used : (t.orderResults sl).map (·.attemptsUsed) = (s.orderResults sl).map fun r => min 65535 (r.attemptsUsed + 1)
  attempt : t.composer.attempt = some ⟨sl, sh.attempt⟩
  band : t.composer.nextBand = 0
  silenced : t.composer.silenced = []
  bufY : t.composer.bufY = s.composer.bufY
  paints : s.composer.bufX.state = .empty → t.composer.state = .painting ∧ t.composer.bufX = { s.composer.bufX with
    state := .filling, tag := some ⟨⟨sl, sh.attempt⟩, 0, bandLines k.height 0⟩, poisoned := s.check.poison == .band }
  waits : s.composer.bufX.state ≠ .empty → t.composer.state = .waiting ∧ t.composer.bufX = s.composer.bufX
  profiles : t.profiles = s.profiles
  store : t.store = s.store
  port : t.port = s.port
  planner : t.planner = s.planner
  out : t.out = s.out

end Sys2Proof.Machine
end

