-- ==== Sys2Proof/Certificates/Slice0/Obligations.lean ====
section
/-! DEFINITION. The statements for the provers: what each command does, what every step keeps, and the arithmetic of the
part. -/

open Sys2Proof Sys2Proof.Machine

/-! ## The queue of commands -/

/-- A step takes the command at the front of the queue and runs it on the state with the rest of the queue; with an empty
queue the part idles (assumption 2). -/
def Obligations.StepRunsTheFrontCommand : Prop :=
  (∀ (s : State) (c : Instr) (rest : List Instr), s.pending = c :: rest → step s = exec c { s with pending := rest }) ∧
  ∀ s : State, s.pending = [] → step s = .next s

/-- Every command completes with a next state, whatever the state, and leaves the queue of waiting commands alone: no
command stops the part. That a command which cannot occur in the state it meets changes nothing, and so completes too, is
the model's choice (assumption 1), as is that the queue lies outside the part and POWER_ON and an engine reset keep it
(assumption 14). -/
def Obligations.EveryCommandCompletes : Prop :=
  ∀ (c : Instr) (s : State), ∃ t, exec c s = .next t ∧ t.pending = s.pending

/-! ## The state after power-on, and what every step keeps -/

/-- The state after power-on satisfies every condition of Safety.lean. -/
def Obligations.ResetIsSafe : Prop :=
  RegistersOk State.reset ∧ FaultRecordOk State.reset.control ∧ WalkerOk State.reset ∧ HoldOk State.reset.port ∧
  QueueOk State.reset ∧ LinkOk State.reset.link ∧ PressConfigOk State.reset.link.config ∧ WriterOk State.reset.writer ∧
  CheckLogOk State.reset.check

/-- Every step keeps the register fields and the fault record in order. -/
def Obligations.StepKeepsRegisters : Prop :=
  ∀ s t : State, RegistersOk s → FaultRecordOk s.control → step s = .next t →
    RegistersOk t ∧ FaultRecordOk t.control

/-- Every step keeps the walker's state in agreement with the engine's state and with the walker's own unit. -/
def Obligations.StepKeepsWalker : Prop := ∀ s t : State, WalkerOk s → step s = .next t → WalkerOk t

/-- Every step keeps the hold in order, and the retire queue with a take's reservation within 16 entries. -/
def Obligations.StepKeepsHoldAndQueue : Prop :=
  ∀ s t : State, HoldOk s.port → QueueOk s → step s = .next t → HoldOk t.port ∧ QueueOk t

/-- Every step keeps the press link's timers, send and attempt in agreement with its state, and the press configuration
within its ranges. -/
def Obligations.StepKeepsLink : Prop :=
  ∀ s t : State, LinkOk s.link → PressConfigOk s.link.config → step s = .next t →
    LinkOk t.link ∧ PressConfigOk t.link.config

/-- Every step keeps the Proof Writer and the check log in order. -/
def Obligations.StepKeepsWriterAndLog : Prop :=
  ∀ s t : State, WriterOk s.writer → CheckLogOk s.check → step s = .next t → WriterOk t.writer ∧ CheckLogOk t.check

/-! ## Rules of the whole part -/

/-- An event flag that is set stays set, except over a write that may clear it, an engine reset, or power-on; and
STORE_LOST stays set over an engine reset as well. -/
def Obligations.EventsStaySet : Prop :=
  (∀ (c : Instr) (s t : State) (e : Event), exec c s = .next t → s.hasEvent e = true → (∀ v, c ≠ .eventsWrite v) →
    (∀ o n v, c ≠ .registerWrite o n v) → c ≠ .powerOn → c ≠ .functionReset → c ≠ .reset → t.hasEvent e = true) ∧
  ∀ (c : Instr) (s t : State), exec c s = .next t → s.hasEvent .storeLost = true → c = .functionReset ∨ c = .reset →
    t.hasEvent .storeLost = true

/-- While the hold is not FREE no command starts a unit of server-memory work: the outstanding count does not rise. -/
def Obligations.NoUnitStartsUnlessFree : Prop :=
  ∀ (c : Instr) (s t : State), exec c s = .next t → s.port.hold ≠ .free → t.port.outstanding ≤ s.port.outstanding

/-- The fields that the server writes change by the server's writes and by power-on alone: CHAIN_HEAD, depth, press mode,
sweep preset, ENABLES, and HOLD's window code and PRESS_FIRST. -/
def Obligations.ServerFieldsKept : Prop :=
  ∀ (c : Instr) (s t : State), exec c s = .next t → c ≠ .powerOn → (∀ o n v, c ≠ .registerWrite o n v) →
    ((∀ v, c ≠ .chainHeadWrite v) → t.window.chainHead = s.window.chainHead) ∧
    ((∀ v, c ≠ .depthWrite v) → t.window.depth = s.window.depth) ∧
    ((∀ v, c ≠ .pressModeWrite v) → t.window.pressMode = s.window.pressMode) ∧
    ((∀ v, c ≠ .sweepPresetWrite v) → t.window.sweepPreset = s.window.sweepPreset) ∧
    ((∀ v, c ≠ .enablesWrite v) → t.window.enables = s.window.enables) ∧
    ((∀ k p, c ≠ .holdRequest k p) → (∀ k p, c ≠ .holdRelease k p) →
      t.port.windowCode = s.port.windowCode ∧ t.port.pressFirst = s.port.pressFirst)

/-! ## The register window -/

/-- IDENT reads vendor code 0x4C4D, part number 4820, revision 1, store slots 256, scratch slots per sheet 64 and maximum
depth 8, in every state. -/
def Obligations.IdentReads : Prop :=
  ∀ s : State,
    windowWord s 0 % 2 ^ 16 = 0x4C4D ∧ windowWord s 0 / 2 ^ 16 % 2 ^ 16 = 4820 ∧ windowWord s 0 / 2 ^ 32 % 2 ^ 8 = 1 ∧
    windowWord s 0 / 2 ^ 40 % 2 ^ 9 = 256 ∧ windowWord s 0 / 2 ^ 49 % 2 ^ 7 = 64 ∧ windowWord s 0 / 2 ^ 56 = 8

/-- POWER_ON puts every block in its power-on state with STORE_LOST set and the engine in SCRUBBING: every store and
scratch slot EMPTY with no key, holder or fit, the Composer without an attempt and its buffers EMPTY and untagged, the
link CLOSED with no timer, send or mark, the Writer IDLE. SCRUB_END sets SCRUB_DONE; the engine enters STOPPED, or
RUNNING when RUN reads 1, where a walker with nothing to read enters IDLE. Outside SCRUBBING there is no scrub to end
(assumption 1). The scrub leaves both band buffers zero in every byte, with good check bits; the part holds zeros there from
POWER_ON on (assumption 26). The stopped sweep timer's value of 0 is the model's choice (assumption 36), as is what lies
outside the part being kept (assumption 14), and the count of the free values drawn (assumption 51). -/
def Obligations.PowerOnAndScrub : Prop :=
  (∀ s : State, ∃ t, exec .powerOn s = .next t ∧
    t.window = ⟨0#64, false, false, 4, .live, 0#16, 0x040#9, 0#9⟩ ∧ t.port = ⟨0, .free, 0#3, false, .none, none, []⟩ ∧
    t.walker = ⟨.stopped, none, [], false, 0, false, .none, none, [], none, 0⟩ ∧
    t.control = ⟨.scrubbing, .none, 0#64, none, none, [], .none, .none⟩ ∧ t.planner = ⟨none, none, [], none⟩ ∧
    (∀ p : Fin 16, t.profiles[p] = none) ∧ (∀ g : Fin 3, t.glyphs[g] = none) ∧
    (∀ i : Fin 128, t.store.sets[i].way0.state = .empty ∧ t.store.sets[i].way1.state = .empty ∧
      t.store.sets[i].lru = .w0) ∧
    (∀ (i : Fin 128) (w : Way), (t.store.slot i w).key = none ∧ (t.store.slot i w).holders = ⟨false, false⟩ ∧
      (t.store.slot i w).fit = none) ∧
    t.store.mode = .normal ∧ t.store.poolA.directory = [] ∧ t.store.poolB.directory = [] ∧
    (∀ j : Fin 64, t.store.poolA.slots[j].state = .empty ∧ t.store.poolB.slots[j].state = .empty) ∧ t.builder = ⟨[], none⟩ ∧
    t.composer.state = .idle ∧ t.composer.attempt = none ∧ t.composer.silenced = [] ∧
    t.composer.bufX.state = .empty ∧ t.composer.bufX.tag = none ∧ t.composer.bufY.state = .empty ∧
    t.composer.bufY.tag = none ∧ (∀ i j, (t.composer.buf i).byte j = 0#8 ∧ (t.composer.buf i).poisoned = false) ∧
    t.link = ⟨.closed, none, 0, none, false, false, none, none, none, none, none, ⟨40, 10, 2000, 10, 60⟩, s.link.ready⟩ ∧
    t.writer = ⟨.idle, none, 0, false, false, none⟩ ∧ t.check = ⟨none, 0#8, none, false, .none, [], s.check.finds⟩ ∧
    t.pending = s.pending ∧ t.out = s.out) ∧
  (∀ s : State, s.control.engine = .scrubbing → s.window.run = false →
    exec .scrubEnd s = .next { s with
      window := { s.window with abandon := false, events := s.window.events ||| 0x100#9 }
      control := { s.control with engine := .stopped }
      composer := { s.composer with
        bufX := { s.composer.bufX with pixels := [], poisoned := false }
        bufY := { s.composer.bufY with pixels := [], poisoned := false } } }) ∧
  (∀ (x : Buffer) (j : Nat), { x with pixels := [] }.byte j = 0#8) ∧
  (∀ s : State, s.control.engine = .scrubbing → s.window.run = true → s.walker.cursor = none →
    s.window.chainHead = 0#64 → ∃ t, exec .scrubEnd s = .next t ∧ t.control = { s.control with engine := .running } ∧
      t.walker.state = .idle ∧ t.walker.unit = s.walker.unit ∧ t.walker.cursor = none ∧ t.hasEvent .scrubDone = true ∧
      (s.walker.pendingWake = false → IdleEntered s t) ∧ t.port = s.port ∧ t.out = s.out ∧
      ∀ i, (t.composer.buf i).state = (s.composer.buf i).state ∧ (t.composer.buf i).tag = (s.composer.buf i).tag ∧
        (t.composer.buf i).poisoned = false ∧ ∀ j, (t.composer.buf i).byte j = 0#8) ∧
  ∀ s : State, s.control.engine ≠ .scrubbing → exec .scrubEnd s = .next s

/-- An engine reset, by RESET or by the function reset of the bus: every block by its rule in one step, units in
progress left to complete at the port with their results discarded, ABORT sent where the link was OPENING or STREAMING
under LIVE and no message under LOOP, both band buffers EMPTY with the pixels of earlier use (assumption 26), and
nothing written to server memory. The stopped sweep timer's value of 0 is the model's choice (assumption 36); the queue
of commands and the level of READY lie outside the part and are kept (assumption 14); a build with no read in flight is
counted on as a discarded unit (assumption 16); and the entry of a load that an abandon or a fault met with its read in
flight is kept too (assumption 43). -/
def Obligations.EngineReset : Prop :=
  ∀ (s : State) (c : Instr), c = .reset ∨ c = .functionReset → ∃ t, exec c s = .next t ∧
    t.window = { s.window with run := false, abandon := false, events := s.window.events &&& 0x040#9 } ∧
    t.port = { s.port with
      hold := .free, lastResult := .none, windowTimer := none, discarded := s.port.discarded ++ s.unitsInProgress } ∧
    t.walker = ⟨.stopped, none, [], false, 0, false, .none, none, [], none, 0⟩ ∧
    t.control = ⟨if s.control.engine = .scrubbing then .scrubbing else .stopped, .none, 0#64, none, none, [], .none,
      .none⟩ ∧
    t.planner = ⟨none, none, [], none⟩ ∧ t.profiles = s.profiles ∧ t.glyphs = s.glyphs ∧ t.builder = ⟨[], none⟩ ∧
    t.store.mode = s.store.mode ∧ t.store.poolA = ScratchPool.blank ∧ t.store.poolB = ScratchPool.blank ∧
    (∀ (i : Fin 128) (w : Way), t.store.sets[i].lru = s.store.sets[i].lru ∧
      t.store.slot i w = if (s.store.slot i w).state = .ready then { s.store.slot i w with holders := ⟨false, false⟩ }
        else StoreSlot.blank) ∧
    t.composer = ⟨.idle, none, 0, [], { s.composer.bufX with state := .empty, tag := none },
      { s.composer.bufY with state := .empty, tag := none }⟩ ∧
    t.link = ⟨.closed, none, 0, none, false, false, none, none, none, none, none, s.link.config, s.link.ready⟩ ∧
    t.writer = ⟨.idle, none, 0, false, false, none⟩ ∧ t.check = { s.check with poison := .none } ∧
    t.out.serverWrites = s.out.serverWrites ∧
    (∀ h, s.link.held = some h → s.link.state = .opening ∨ s.link.state = .streaming →
      t.out.pressMessages = s.out.pressMessages ++ (if h.mode = .live then [.abort h.sheetId] else [])) ∧
    (s.link.state ≠ .opening → s.link.state ≠ .streaming → t.out.pressMessages = s.out.pressMessages) ∧
    t.pending = s.pending

/-- RUN written 1 is held, and in STOPPED it starts the engine with the cursor kept, or loaded from CHAIN_HEAD, or
cleared where both are cleared, where the walker enters IDLE. RUN written 0 is held, and in RUNNING it begins a drain:
the walker's window is discarded and its cursor returned to the first record not taken, its reads are to be discarded,
and the engine is STOPPED at once when nothing is left to do. -/
def Obligations.RunWrites : Prop :=
  (∀ s : State, s.control.engine ≠ .stopped → exec .runStart s = .next { s with window := { s.window with run := true } }) ∧
  (∀ (s : State) (c : Cursor), s.control.engine = .stopped → s.walker.cursor = some c →
    exec .runStart s = .next { s with
      window := { s.window with run := true }
      control := { s.control with engine := .running }
      walker := { s.walker with state := .seeking } }) ∧
  (∀ s : State, s.control.engine = .stopped → s.walker.cursor = none → s.window.chainHead ≠ 0#64 →
    exec .runStart s = .next { s with
      window := { s.window with run := true }
      control := { s.control with engine := .running }
      walker := { s.walker with state := .seeking, cursor := some ⟨s.window.chainHead, .slot 0⟩ } }) ∧
  (∀ s : State, s.control.engine = .stopped → s.walker.cursor = none → s.window.chainHead = 0#64 →
    ∃ t, exec .runStart s = .next t ∧ t.control = { s.control with engine := .running } ∧ t.window.run = true ∧
      t.walker.state = .idle ∧ t.walker.cursor = none ∧ t.walker.unit = s.walker.unit ∧
      (s.walker.pendingWake = false → IdleEntered s t) ∧ t.port = s.port ∧ t.out = s.out) ∧
  (∀ s : State, s.control.engine ≠ .running →
    exec .runDrain s = .next { s with window := { s.window with run := false } }) ∧
  (∀ s : State, s.control.engine = .running → s.walker.unit ≠ .none → s.walker.state ≠ .stopped →
    exec .runDrain s = .next { s with
      window := { s.window with run := false }
      control := { s.control with engine := .draining }
      walker := { s.walker with
        window := [], cursor := cursorBack s.walker.cursor s.walker.window, sweepRunning := false
        unit := s.walker.unit.discardRead } }) ∧
  (∀ s : State, s.control.engine = .running → s.walker.unit = .none →
    s.control.queue ≠ [] ∨ s.walker.spentDue ≠ [] ∨ s.walker.spentInFlight ≠ none →
    exec .runDrain s = .next { s with
      window := { s.window with run := false }
      control := { s.control with engine := .draining }
      walker := { s.walker with
        window := [], cursor := cursorBack s.walker.cursor s.walker.window, sweepRunning := false, state := .stopped } }) ∧
  ∀ s : State, s.control.engine = .running → s.walker.unit = .none → s.control.queue = [] → s.walker.spentDue = [] →
    s.walker.spentInFlight = none →
    exec .runDrain s = .next { s with
      window := { s.window with run := false, abandon := false }
      control := { s.control with engine := .stopped }
      walker := { s.walker with
        window := [], cursor := cursorBack s.walker.cursor s.walker.window, sweepRunning := false, state := .stopped } }

/-- ABANDON written 1. In RUNNING, and in DRAINING while it reads 0: RUN becomes 0, the walker's window is discarded, the
planner is free with a read in flight discarded, and the engine is DRAINING with ABANDON reading 1, or STOPPED with it
reading 0. Every sheet whose order has no ending takes ABANDONED, detail AFTER_CLOSE where the link is CLOSING for it;
its order is FINISHED with it in the same step where the link, the Writer and the report have let the slot go. A sheet
that has an ending keeps it, and the counts added so far stay (assumption 38). The attempts in hand end at the band buffers
and at the Writer. The outstanding count stays, over the cut
of a build too (assumption 16). The link ends the attempt it holds by its state. A running PROFILE or GLYPHS load ends
ABANDONED with its entry UNSET, at once or, with a read in flight, at its completion. In STOPPED it sets RUN to 0 and
changes nothing else; in SCRUBBING and FAULTED, and while ABANDON reads 1, it has no effect (assumption 12). -/
def Obligations.AbandonWritten : Prop :=
  (∀ s : State, s.control.engine = .running ∨ (s.control.engine = .draining ∧ s.window.abandon = false) →
    ∃ t, exec .abandon s = .next t ∧ t.window.run = false ∧ t.walker.window = [] ∧ t.planner = ⟨none, none, [], none⟩ ∧
      (∀ j, s.planner.job = some j → j.inFlight = true → j.stage.discarded ∈ t.port.discarded) ∧
      (∀ sl sh, t.sheet sl = some sh → sh.ending ≠ none) ∧
      (∀ sl sh, s.sheet sl = some sh → sh.ending = none → SheetEnded s t sl sh .abandoned
        (if (sh.state = .composing ∨ sh.state = .closing) ∧ s.link.state = .closing ∧
          s.link.held.map (·.attempt) = some ⟨sl, sh.attempt⟩ then .afterClose else .none)) ∧
      (∀ sl sh o d, s.sheet sl = some sh → sh.state = .finished → sh.ending = some (o, d) → SheetEnded s t sl sh o d) ∧
      (∀ h sh, s.link.held = some h → s.sheet h.attempt.slot = some sh → sh.attempt = h.attempt.number →
        sh.state = .composing ∨ sh.state = .closing → sh.ending = none → LinkStopped s t h) ∧
      (s.link.held = none → t.link = s.link ∧ t.out.pressMessages = s.out.pressMessages) ∧
      (∀ sl sh, s.sheet sl = some sh → sh.state = .composing ∨ sh.state = .closing → sh.ending = none →
        t.composer.attempt ≠ some ⟨sl, sh.attempt⟩) ∧
      AttemptsAbandoned s t ∧ BarrierAbandoned s t ∧
      ((t.control.engine = .draining ∧ t.window.abandon = true) ∨
        (t.control.engine = .stopped ∧ t.window.abandon = false ∧ t.control.queue = [])) ∧
      t.window.chainHead = s.window.chainHead ∧ t.window.depth = s.window.depth ∧ t.window.enables = s.window.enables ∧
      t.window.pressMode = s.window.pressMode ∧ t.window.sweepPreset = s.window.sweepPreset ∧
      t.port.outstanding = s.port.outstanding ∧ t.port.hold = s.port.hold ∧ t.store.mode = s.store.mode ∧
      t.check.uncorrectable = s.check.uncorrectable ∧ t.check.correctable = s.check.correctable ∧
      t.out.serverWrites = s.out.serverWrites) ∧
  (∀ s : State, s.control.engine = .stopped → exec .abandon s = .next { s with window := { s.window with run := false } }) ∧
  ∀ s : State, s.control.engine = .scrubbing ∨ s.control.engine = .faulted ∨
    (s.control.engine = .draining ∧ s.window.abandon = true) → exec .abandon s = .next s

/-- A depth of 1 to 8 is taken; the window keeps its oldest entries up to it and the cursor goes back to the oldest entry
discarded, which is the folio and slot that entry was read from. The limit of a record read in flight falls to it and does
not rise to it: a raised depth acts at the next record read (assumption 28). Any other depth is not accepted. -/
def Obligations.DepthWritten : Prop :=
  (∀ (s : State) (v : BitVec 4), 1 ≤ v.toNat → v.toNat ≤ 8 → s.walker.window.length ≤ v.toNat →
    exec (.depthWrite v) s = .next { s with
      window := { s.window with depth := v.toNat }
      walker := { s.walker with readLimit := min s.walker.readLimit v.toNat } }) ∧
  (∀ (s : State) (v : BitVec 4) (kept rest : List OrderRecord) (r : OrderRecord) (folio : Addr) (n : Fin 63),
    1 ≤ v.toNat → v.toNat ≤ 8 → s.walker.window = kept ++ r :: rest → kept.length = v.toNat → r.slot = n.val →
    r.addr = slotAddr folio n.val →
    exec (.depthWrite v) s = .next { s with
      window := { s.window with depth := v.toNat }
      walker := { s.walker with
        window := kept, cursor := some ⟨folio, .slot n⟩, readLimit := min s.walker.readLimit v.toNat } }) ∧
  (∀ (s : State) (v w : BitVec 4), 1 ≤ v.toNat → v.toNat ≤ w.toNat → w.toNat ≤ 8 → s.walker.window = [] →
    v.toNat ≤ s.walker.readLimit → ∃ t u, exec (.depthWrite v) s = .next t ∧ exec (.depthWrite w) t = .next u ∧
      u.walker.readLimit = v.toNat ∧ u.window.depth = w.toNat ∧ u.walker.unit = s.walker.unit) ∧
  ∀ (s : State) (v : BitVec 4), v.toNat = 0 ∨ 8 < v.toNat → exec (.depthWrite v) s = .next s

/-- The press mode takes LIVE, LOOP and OFF and not the value 3. CHAIN_HEAD is replaced in STOPPED alone, its low twelve
bits reading 0. A write to EVENTS keeps each flag whose bit is written 1 and clears the others, ENABLES takes the value
written, and the interrupt request is asserted exactly while a flag is set together with its enable. CHECK_LOG written
with clear 1 empties both records, sets the count to 0 and unlocks the log; the poison selector takes NONE, TILE, BAND or
GLYPH. -/
def Obligations.FieldWrites : Prop :=
  (∀ s : State, exec (.pressModeWrite 0#2) s = .next { s with window := { s.window with pressMode := .live } } ∧
    exec (.pressModeWrite 1#2) s = .next { s with window := { s.window with pressMode := .loop } } ∧
    exec (.pressModeWrite 2#2) s = .next { s with window := { s.window with pressMode := .off } } ∧
    exec (.pressModeWrite 3#2) s = .next s) ∧
  (∀ (s : State) (v : Addr), s.control.engine = .stopped → ∃ a : Addr,
    exec (.chainHeadWrite v) s = .next { s with window := { s.window with chainHead := a } } ∧
    a.extractLsb' 0 12 = 0#12 ∧ a.extractLsb' 12 52 = v.extractLsb' 12 52) ∧
  (∀ (s : State) (v : Addr), s.control.engine ≠ .stopped → exec (.chainHeadWrite v) s = .next s) ∧
  (∀ (s : State) (v : BitVec 9), ∃ ev : BitVec 9,
    exec (.eventsWrite v) s = .next { s with window := { s.window with events := ev } } ∧
    ∀ i < 9, ev.getLsbD i = (s.window.events.getLsbD i && v.getLsbD i)) ∧
  (∀ (s : State) (v : BitVec 9), exec (.enablesWrite v) s = .next { s with window := { s.window with enables := v } }) ∧
  (∀ s : State, s.interrupt = true ↔ ∃ e : Event, s.hasEvent e = true ∧ s.window.enables.getLsbD e.bit = true) ∧
  (∀ s : State, exec .checkLogClear s = .next { s with
    check := { s.check with correctable := none, count := 0#8, uncorrectable := none, locked := false } }) ∧
  ∀ s : State, exec (.poisonSelect 0#2) s = .next { s with check := { s.check with poison := .none } } ∧
    exec (.poisonSelect 1#2) s = .next { s with check := { s.check with poison := .tile } } ∧
    exec (.poisonSelect 2#2) s = .next { s with check := { s.check with poison := .band } } ∧
    exec (.poisonSelect 3#2) s = .next { s with check := { s.check with poison := .glyph } }

/-- A new sweep preset acts at once in IDLE, where 0 stops the timer and another value loads it and lets it run, and
otherwise waits for the next loading. A wake, or the timer's expiry, takes an IDLE walker with a cursor to SEEKING with
the timer stopped; in any other state a wake sets the pending-wake flag. With the cursor cleared either brings the walker
back to IDLE without a read, which it enters anew (assumption 15). The expiry of a timer that does not run is no event
(assumption 1). -/
def Obligations.SweepAndWake : Prop :=
  (∀ (s : State) (v : BitVec 16), s.walker.state = .idle → v ≠ s.window.sweepPreset →
    exec (.sweepPresetWrite v) s = .next { s with
      window := { s.window with sweepPreset := v }
      walker := { s.walker with
        sweepTimer := if v = 0#16 then s.walker.sweepTimer else v.toNat, sweepRunning := !(v == 0#16) } }) ∧
  (∀ (s : State) (v : BitVec 16), s.walker.state ≠ .idle ∨ v = s.window.sweepPreset →
    exec (.sweepPresetWrite v) s = .next { s with window := { s.window with sweepPreset := v } }) ∧
  (∀ (s : State) (v : BitVec 64) (c : Cursor), s.walker.state = .idle → s.walker.cursor = some c →
    exec (.wake v) s = .next { s with walker := { s.walker with state := .seeking, sweepRunning := false } }) ∧
  (∀ (s : State) (v : BitVec 64), s.walker.state ≠ .idle →
    exec (.wake v) s = .next { s with walker := { s.walker with pendingWake := true } }) ∧
  (∀ (s : State) (c : Cursor), s.walker.state = .idle → s.walker.sweepRunning = true → s.walker.cursor = some c →
    exec .sweepExpiry s = .next { s with walker := { s.walker with
      state := .seeking, sweepRunning := false, sweepTimer := s.window.sweepPreset.toNat } }) ∧
  (∀ (s : State) (v : BitVec 64), s.walker.state = .idle → s.walker.cursor = none → ∃ t, exec (.wake v) s = .next t ∧
    t.walker.state = .idle ∧ t.walker.cursor = none ∧ t.walker.unit = s.walker.unit ∧
    t.port.outstanding = s.port.outstanding ∧ IdleEntered s t) ∧
  (∀ s : State, s.walker.state = .idle → s.walker.sweepRunning = true → s.walker.cursor = none →
    ∃ t, exec .sweepExpiry s = .next t ∧ t.walker.state = .idle ∧ t.walker.cursor = none ∧
      t.walker.unit = s.walker.unit ∧ t.port.outstanding = s.port.outstanding ∧ IdleEntered s t) ∧
  ∀ s : State, s.walker.state ≠ .idle ∨ s.walker.sweepRunning = false → exec .sweepExpiry s = .next s

/-- HOLD written with request 1 while FREE takes its window code and PRESS_FIRST and is decided by the first case that
applies: REJECTED for a press sheet ahead, one whose ticket has not been read counting as one, REJECTED for a window code
of 0 with units in progress, ACCEPTED and HELD with none, and otherwise DRAINING with the window timer started and last
result left. A press sheet that enters PLANNING later leaves the hold as it is. -/
def Obligations.HoldRequested : Prop :=
  (∀ (s : State) (k : BitVec 3) (sl : SheetSlot) (sh : Sheet), s.port.hold = .free → s.sheet sl = some sh →
    sh.state = .planning ∨ sh.state = .filling → sh.ticket = none ∨ sh.ticket.map (·.dest) = some .press →
    exec (.holdRequest k true) s = .next { s with
      port := { s.port with windowCode := k, pressFirst := true, lastResult := .rejected }
      window := { s.window with events := s.window.events ||| 0x010#9 } }) ∧
  (∀ (s : State) (k : BitVec 3) (p : Bool), s.port.hold = .free →
    p = false ∨ (∀ sl sh, s.sheet sl = some sh → (sh.state ≠ .planning ∧ sh.state ≠ .filling) ∨
      sh.ticket.map (·.dest) = some .proof) →
    (k = 0#3 → 0 < s.port.outstanding → exec (.holdRequest k p) s = .next { s with
      port := { s.port with windowCode := k, pressFirst := p, lastResult := .rejected }
      window := { s.window with events := s.window.events ||| 0x010#9 } }) ∧
    (s.port.outstanding = 0 → exec (.holdRequest k p) s = .next { s with
      port := { s.port with windowCode := k, pressFirst := p, hold := .held, lastResult := .accepted }
      window := { s.window with events := s.window.events ||| 0x010#9 } }) ∧
    (k ≠ 0#3 → 0 < s.port.outstanding → exec (.holdRequest k p) s = .next { s with
      port := { s.port with windowCode := k, pressFirst := p, hold := .draining, windowTimer := some (windowLength k) } })) ∧
  ∀ (s : State) (sl : SheetSlot), ∃ ds, (s.enterPlanning sl).port = { s.port with discarded := ds }

/-- HOLD written with request 0 withdraws a DRAINING request, frees a HELD hold, and in FREE sets the window code and
PRESS_FIRST (that they are set in DRAINING and HELD too is assumption 13). The window timer's expiry in DRAINING rejects
the request. A unit that ends brings a DRAINING hold whose last unit it was to HELD. A write with request 1 in DRAINING
and HELD is discarded whole. The window of a code is 0, 1, 2, 4, 8, 16, 32 or 64 ms. -/
def Obligations.HoldEnds : Prop :=
  ((List.range 8).map fun k => windowLength (BitVec.ofNat 3 k)) = [0, 1, 2, 4, 8, 16, 32, 64] ∧
  (∀ (s : State) (k : BitVec 3) (p : Bool), s.port.hold ≠ .free → exec (.holdRequest k p) s = .next s) ∧
  (∀ (s : State) (k : BitVec 3) (p : Bool), s.port.hold = .draining → exec (.holdRelease k p) s = .next { s with
    port := { s.port with windowCode := k, pressFirst := p, hold := .free, lastResult := .withdrawn, windowTimer := none } }) ∧
  (∀ (s : State) (k : BitVec 3) (p : Bool), s.port.hold = .held → exec (.holdRelease k p) s = .next { s with
    port := { s.port with windowCode := k, pressFirst := p, hold := .free } }) ∧
  (∀ (s : State) (k : BitVec 3) (p : Bool), s.port.hold = .free → exec (.holdRelease k p) s = .next { s with
    port := { s.port with windowCode := k, pressFirst := p } }) ∧
  (∀ s : State, s.port.hold = .draining → s.port.windowTimer ≠ none → exec .windowTimerExpiry s = .next { s with
    port := { s.port with hold := .free, lastResult := .rejected, windowTimer := none }
    window := { s.window with events := s.window.events ||| 0x010#9 } }) ∧
  (∀ s : State, s.port.hold = .draining → s.port.outstanding = 1 → s.endUnit = { s with
    port := { s.port with outstanding := 0, hold := .held, lastResult := .accepted, windowTimer := none }
    window := { s.window with events := s.window.events ||| 0x010#9 } }) ∧
  ∀ s : State, s.port.hold ≠ .draining ∨ 1 < s.port.outstanding →
    s.endUnit = { s with port := { s.port with outstanding := s.port.outstanding - 1 } }

/-- A write of the window acts on the fields it reaches, and on nothing otherwise. CONTROL without RESET takes depth,
press mode and sweep preset, and RUN after them, or ABANDON, when it has effect, before them with RUN taken as 0 (that
order is assumption 10; when it has effect, in STOPPED too and not in DRAINING while it reads 1, is assumption 12).
CHAIN_HEAD is written whole or by halves in STOPPED; any half of WAKE is a wake; the low halves of EVENTS, ENABLES, HOLD
and CHECK_LOG act as whole writes. A write of another size or alignment, to IDENT or STATUS, to a half that holds no
field, or at 0x58 and above, changes nothing. A read of 4 or 8 bytes shows every register's fields at their places, and
0 at 0x58 and above. Which half of a register lies at the lower offset, and which byte of a half, is the model's choice
(assumption 34), as are an access past the window's 96 bytes (assumption 29) and the location 0 of an empty record
(assumption 54). -/
def Obligations.RegisterWritten : Prop :=
  (∀ (s : State) (n : Nat) (v : BitVec 64), n = 4 ∨ n = 8 →
    (v.getLsbD 2 = true → ∃ t, exec (.registerWrite 0x10 n v) s = .next t ∧ exec .reset s = .next t) ∧
    (v.getLsbD 2 = false → v.getLsbD 1 = false ∨ s.control.engine = .scrubbing ∨ s.control.engine = .faulted ∨
        (s.control.engine = .draining ∧ s.window.abandon = true) →
      ∃ s1 s2 s3 t, exec (.depthWrite (v.extractLsb' 4 4)) s = .next s1 ∧
        exec (.pressModeWrite (v.extractLsb' 8 2)) s1 = .next s2 ∧
        exec (.sweepPresetWrite (v.extractLsb' 16 16)) s2 = .next s3 ∧
        exec (if v.getLsbD 0 then .runStart else .runDrain) s3 = .next t ∧ exec (.registerWrite 0x10 n v) s = .next t) ∧
    (v.getLsbD 2 = false → v.getLsbD 1 = true → s.control.engine = .running ∨ s.control.engine = .stopped ∨
        (s.control.engine = .draining ∧ s.window.abandon = false) →
      ∃ s0 s1 s2 t, exec .abandon s = .next s0 ∧ exec (.depthWrite (v.extractLsb' 4 4)) s0 = .next s1 ∧
        exec (.pressModeWrite (v.extractLsb' 8 2)) s1 = .next s2 ∧
        exec (.sweepPresetWrite (v.extractLsb' 16 16)) s2 = .next t ∧ exec (.registerWrite 0x10 n v) s = .next t) ∧
    (∀ m, v.getLsbD 2 = false → v.getLsbD 1 = false →
      (v.getLsbD 0 = true ∧ s.control.engine ≠ .stopped) ∨ (v.getLsbD 0 = false ∧ s.control.engine ≠ .running) →
      s.walker.state ≠ .idle → 1 ≤ (v.extractLsb' 4 4).toNat → (v.extractLsb' 4 4).toNat ≤ 8 →
      s.walker.window.length ≤ (v.extractLsb' 4 4).toNat → (v.extractLsb' 8 2).toNat = m.code →
      exec (.registerWrite 0x10 n v) s = .next { s with
        window := { s.window with
          run := v.getLsbD 0, depth := (v.extractLsb' 4 4).toNat, pressMode := m, sweepPreset := v.extractLsb' 16 16 }
        walker := { s.walker with readLimit := min s.walker.readLimit (v.extractLsb' 4 4).toNat } })) ∧
  (∀ (s : State) (v : BitVec 64), s.control.engine = .stopped → ∃ a b c : Addr,
    exec (.registerWrite 0x08 8 v) s = .next { s with window := { s.window with chainHead := a } } ∧
    exec (.registerWrite 0x08 4 v) s = .next { s with window := { s.window with chainHead := b } } ∧
    exec (.registerWrite 0x0C 4 v) s = .next { s with window := { s.window with chainHead := c } } ∧
    a.extractLsb' 0 12 = 0#12 ∧ a.extractLsb' 12 52 = v.extractLsb' 12 52 ∧
    b.extractLsb' 0 12 = 0#12 ∧ b.extractLsb' 12 20 = v.extractLsb' 12 20 ∧
    b.extractLsb' 32 32 = s.window.chainHead.extractLsb' 32 32 ∧
    c.extractLsb' 0 12 = 0#12 ∧ c.extractLsb' 12 20 = s.window.chainHead.extractLsb' 12 20 ∧
    c.extractLsb' 32 32 = v.extractLsb' 0 32) ∧
  (∀ (s : State) (v : BitVec 64), s.control.engine ≠ .stopped → exec (.registerWrite 0x08 8 v) s = .next s ∧
    exec (.registerWrite 0x08 4 v) s = .next s ∧ exec (.registerWrite 0x0C 4 v) s = .next s) ∧
  (∀ (s : State) (v : BitVec 64), ∃ t, exec (.wake v) s = .next t ∧ exec (.registerWrite 0x18 8 v) s = .next t ∧
    exec (.registerWrite 0x18 4 v) s = .next t ∧ exec (.registerWrite 0x1C 4 v) s = .next t) ∧
  (∀ (s : State) (n : Nat) (v : BitVec 64), n = 4 ∨ n = 8 →
    exec (.registerWrite 0x30 n v) s =
      .next { s with window := { s.window with events := s.window.events &&& v.extractLsb' 0 9 } } ∧
    exec (.registerWrite 0x38 n v) s = .next { s with window := { s.window with enables := v.extractLsb' 0 9 } } ∧
    (v.getLsbD 0 = true → ∃ t, exec (.holdRequest (v.extractLsb' 4 3) (v.getLsbD 8)) s = .next t ∧
      exec (.registerWrite 0x40 n v) s = .next t) ∧
    (v.getLsbD 0 = false → ∃ t, exec (.holdRelease (v.extractLsb' 4 3) (v.getLsbD 8)) s = .next t ∧
      exec (.registerWrite 0x40 n v) s = .next t) ∧
    ∀ p : Poison, (v.extractLsb' 4 2).toNat = p.code →
      (v.getLsbD 0 = false →
        exec (.registerWrite 0x48 n v) s = .next { s with check := { s.check with poison := p } }) ∧
      (v.getLsbD 0 = true → exec (.registerWrite 0x48 n v) s = .next { s with check := { s.check with
        correctable := none, count := 0#8, uncorrectable := none, locked := false, poison := p } })) ∧
  (∀ (s : State) (o n : Nat) (v : BitVec 64),
    (n ≠ 4 ∧ n ≠ 8) ∨ o % n ≠ 0 ∨ o < 8 ∨ (0x20 ≤ o ∧ o < 0x30) ∨ 0x50 ≤ o ∨
      (n = 4 ∧ (o = 0x14 ∨ o = 0x34 ∨ o = 0x3C ∨ o = 0x44 ∨ o = 0x4C)) →
    exec (.registerWrite o n v) s = .next s) ∧
  [EngineState.stopped, .scrubbing, .running, .draining, .faulted].map (·.code) = [0, 1, 2, 3, 4] ∧
  [WalkerState.stopped, .seeking, .taking, .blocked, .idle, .faulted].map (·.code) = [0, 1, 2, 3, 4, 5] ∧
  [HoldState.free, .draining, .held].map (·.code) = [0, 1, 2] ∧
  [LinkState.closed, .awaitReady, .opening, .streaming, .closing].map (·.code) = [0, 1, 2, 3, 4] ∧
  [FaultCause.none, .readError, .writeError, .badLink].map (·.code) = [0, 1, 2, 3] ∧
  [PressMode.live, .loop, .off].map (·.code) = [0, 1, 2] ∧
  [HoldResult.none, .accepted, .rejected, .withdrawn].map (·.code) = [0, 1, 2, 3] ∧
  [Poison.none, .tile, .band, .glyph].map (·.code) = [0, 1, 2, 3] ∧
  ∀ s : State, s.window.depth ≤ 8 → WindowReads s

/-! ## The order chain -/

/-- A record read, a trailer read and a take start when their conditions hold: the cursor at a slot or at the trailer
with the walker SEEKING and its window empty, or a head that can be taken with the walker TAKING; the hold FREE; and no
unit of the walker in flight. A record read takes the depth as its limit (assumption 28). A take reserves the sheet
slot, A when both are FREE, and writes TAKEN to the hand field, the write recorded when it is issued (assumption 9).
While the hold is not FREE all three wait (assumption 1). -/
def Obligations.ChainUnitsStart : Prop :=
  (∀ (s : State) (f : Addr) (n : Fin 63), s.walker.cursor = some ⟨f, .slot n⟩ → s.walker.state = .seeking →
    s.walker.window = [] → s.walker.unit = .none → s.port.hold = .free →
    exec .recordReadStart s = .next { s with
      walker := { s.walker with
        unit := .recordRead (min s.window.depth (63 - n.val)) false, readLimit := s.window.depth }
      port := { s.port with outstanding := s.port.outstanding + 1 } }) ∧
  (∀ (s : State) (f : Addr), s.walker.cursor = some ⟨f, .trailer⟩ → s.walker.state = .seeking → s.walker.window = [] →
    s.walker.unit = .none → s.port.hold = .free →
    exec .trailerReadStart s = .next { s with
      walker := { s.walker with unit := .trailerRead false }
      port := { s.port with outstanding := s.port.outstanding + 1 } }) ∧
  (∀ (s : State) (r : OrderRecord) (rest : List OrderRecord) (slot : Option SheetSlot), s.walker.window = r :: rest →
    s.walker.state = .taking → s.walker.unit = .none → s.port.hold = .free → s.control.queue.length < 16 →
    s.control.barrier = .none →
    (r.kind = .sheet ∧ s.control.slotA = none ∧ slot = some .a) ∨
    (r.kind = .sheet ∧ s.control.slotA ≠ none ∧ s.control.slotB = none ∧ slot = some .b) ∨
    (r.kind.isBarrier = true ∧ s.control.slotA = none ∧ s.control.slotB = none ∧ slot = none) ∨
    ((r.kind = .mark ∨ r.kind = .skip ∨ r.kind = .unknown) ∧ slot = none) →
    exec .takeStart s = .next { s with
      walker := { s.walker with window := rest, unit := .taken r slot false }
      port := { s.port with outstanding := s.port.outstanding + 1 }
      out := { s.out with serverWrites := s.out.serverWrites ++ [⟨r.addr, [2#8]⟩] } }) ∧
  ∀ s : State, s.port.hold ≠ .free →
    exec .recordReadStart s = .next s ∧ exec .trailerReadStart s = .next s ∧ exec .takeStart s = .next s

/-- A record read that completes places the records that read as HANDED before the first that does not, at most as many
as its limit, in the window, and moves the cursor past them. That the limit is the depth at the read's start, lowered to
each lower depth written since, also where a higher one followed, is assumption 28. With none placed, the walker goes to
IDLE, the sweep timer loaded and CHAIN_IDLE raised with the retire queue empty, or, with a wake pending, consumes it and
seeks again with neither; otherwise it is TAKING when the head can be taken and BLOCKED when not. A read that a drain or
a fault has discarded places nothing; the walker is STOPPED in a drain, and a drain with nothing left to do is over. -/
def Obligations.RecordReadCompletes : Prop :=
  (∀ (s : State) (f : Addr) (i : Fin 63) (n : Nat) (bs : List Byte), s.walker.unit = .recordRead n false →
    s.walker.cursor = some ⟨f, .slot i⟩ → bs.length = 64 * n →
    ∃ t k, exec (.recordReadDone .current (.data bs)) s = .next t ∧ k ≤ n ∧ k ≤ s.walker.readLimit ∧
      (∀ j < k, isHanded (slice bs (64 * j) 64) = true) ∧
      (k = n ∨ k = s.walker.readLimit ∨ isHanded (slice bs (64 * k) 64) = false) ∧
      t.walker.window = (List.range k).map (fun j =>
        orderRecord (slotAddr f (i.val + j)) (i.val + j) (slice bs (64 * j) 64)) ∧
      t.walker.cursor = some ⟨f, chainPosAt (i.val + k)⟩ ∧ t.walker.unit = .none ∧
      (0 < k → (t.walker.state = if t.canTake then .taking else .blocked) ∧ WalksOn t) ∧
      (k = 0 → s.walker.pendingWake = false → IdleEntered s t) ∧
      (k = 0 → s.walker.pendingWake = true → SeeksAgain s t) ∧
      t.port = s.endUnit.port ∧ t.control = s.control ∧ t.planner = s.planner ∧ t.store = s.store ∧
      t.builder = s.builder ∧ t.composer = s.composer ∧ t.link = s.link ∧ t.writer = s.writer ∧ t.out = s.out ∧
      SettingsKept s t) ∧
  ∀ (s : State) (f : Addr) (i : Fin 63) (n : Nat) (bs : List Byte), s.walker.unit = .recordRead n true →
    s.walker.cursor = some ⟨f, .slot i⟩ → bs.length = 64 * n → DiscardedReadEnds s (.recordReadDone .current (.data bs))

/-- A trailer read that completes decides by its Next: 0 leaves the cursor and brings the walker to IDLE, the sweep timer
loaded and CHAIN_IDLE raised with the retire queue empty, or, with a wake pending, to seek again with neither; an aligned
address of another folio moves the cursor there and gives the folio left to spent marking, at once when its slot 62 has
left the retire queue (the folio is held until its SPENT write starts, assumption 35); an unaligned address, or the
folio's own, faults the engine BAD_LINK (the count of units over the cut of a build is assumption 16). A read that a
drain or a fault has discarded moves nothing; the walker is STOPPED in a drain, and a drain with nothing left to do is
over. -/
def Obligations.TrailerReadCompletes : Prop :=
  (∀ (s : State) (f : Addr) (bs : List Byte), s.walker.unit = .trailerRead false →
    s.walker.cursor = some ⟨f, .trailer⟩ → bs.length = 64 → addrAt bs 0 = 0#64 →
    ∃ t, exec (.trailerReadDone .current (.data bs)) s = .next t ∧ t.walker.cursor = s.walker.cursor ∧
      t.walker.unit = .none ∧ t.walker.window = s.walker.window ∧
      (s.walker.pendingWake = false → IdleEntered s t) ∧ (s.walker.pendingWake = true → SeeksAgain s t) ∧
      t.port = s.endUnit.port ∧ t.control = s.control ∧ t.out = s.out ∧ SettingsKept s t) ∧
  (∀ (s : State) (f next : Addr) (bs : List Byte), s.walker.unit = .trailerRead false →
    s.walker.cursor = some ⟨f, .trailer⟩ → bs.length = 64 → addrAt bs 0 = next → next ≠ 0#64 →
    next.extractLsb' 0 12 = 0#12 → next ≠ f →
    ((∃ e ∈ s.control.queue, e.record.addr = slotAddr f 62) →
      exec (.trailerReadDone .current (.data bs)) s = .next { s.endUnit with walker := { s.walker with
        unit := .none, cursor := some ⟨next, .slot 0⟩, state := .seeking, pendingSpent := some f } }) ∧
    ((∀ e ∈ s.control.queue, e.record.addr ≠ slotAddr f 62) →
      exec (.trailerReadDone .current (.data bs)) s = .next { s.endUnit with walker := { s.walker with
        unit := .none, cursor := some ⟨next, .slot 0⟩, state := .seeking, spentDue := s.walker.spentDue ++ [f] } })) ∧
  (∀ (s : State) (f : Addr) (bs : List Byte), s.walker.unit = .trailerRead false →
    s.walker.cursor = some ⟨f, .trailer⟩ → bs.length = 64 → s.control.engine = .running → addrAt bs 0 ≠ 0#64 →
    (addrAt bs 0).extractLsb' 0 12 ≠ 0#12 ∨ addrAt bs 0 = f →
    ∃ t, exec (.trailerReadDone .current (.data bs)) s = .next t ∧ FaultedFrom s t .badLink (trailerAddr f)) ∧
  ∀ (s : State) (f : Addr) (bs : List Byte), s.walker.unit = .trailerRead true →
    s.walker.cursor = some ⟨f, .trailer⟩ → bs.length = 64 → DiscardedReadEnds s (.trailerReadDone .current (.data bs))

/-- The TAKEN write of an order that needs no sheet slot and no server memory completes: the record joins the retire
queue FINISHED with its results, and the order has had its effect. SKIP is OK and an unknown kind BAD_KIND; PURGE empties
the slots of its eight sets whose key names its subject and FLUSH every slot, where no sheet holds them; STORE_MODE sets
the mode; PRESS sets the press configuration, each value brought into its range, with one mark for each clamped value;
bad arguments are REFUSED. A MARK joins ACTIVE, and becomes FINISHED where it is the head. The walker goes on to TAKING,
BLOCKED or SEEKING by its window. A take of any kind that completes in a drain has the effect that it has in RUNNING, but
for the walker, which is STOPPED. -/
def Obligations.PlainOrdersRun : Prop :=
  (∀ (s : State) (r : OrderRecord) (sl : Option SheetSlot), s.walker.unit = .taken r sl false →
    s.control.engine = .running → r.kind = .skip ∨ r.kind = .unknown →
    ∃ t, exec (.takenWriteDone .current true) s = .next t ∧
      t.control = { s.control with queue := s.control.queue ++
        [⟨r, true, { Results.blank with outcome := if r.kind = .skip then .ok else .badKind }, none⟩] } ∧
      t.walker.unit = .none ∧ t.port = s.endUnit.port ∧ t.store = s.store ∧ t.out = s.out ∧ SettingsKept s t ∧
      WalksOn t ∧ t.walker.window = s.walker.window) ∧
  (∀ (s : State) (r : OrderRecord) (sl : Option SheetSlot), s.walker.unit = .taken r sl false →
    s.control.engine = .running → r.kind = .mark →
    (∀ e ∈ s.control.queue.head?, ¬(e.record.kind = .mark ∧ e.finished = false)) →
    ∃ t, exec (.takenWriteDone .current true) s = .next t ∧
      t.control = { s.control with queue := s.control.queue ++ [⟨r, s.control.queue.isEmpty, Results.blank, none⟩] } ∧
      t.walker.unit = .none ∧ t.port = s.endUnit.port ∧ t.store = s.store ∧ t.out = s.out ∧ SettingsKept s t ∧
      WalksOn t ∧ t.walker.window = s.walker.window) ∧
  (∀ (s : State) (r : OrderRecord) (sl : Option SheetSlot), s.walker.unit = .taken r sl false →
    s.control.engine = .running → r.kind = .purge →
    (r.arg32 4 = 0 ∨ 16777215 < r.arg32 4 → ∃ t, exec (.takenWriteDone .current true) s = .next t ∧
      t.control = { s.control with queue := s.control.queue ++
        [⟨r, true, { Results.blank with outcome := .refused, detail := .subject }, none⟩] } ∧ t.store = s.store ∧
      t.port = s.endUnit.port ∧ t.out = s.out ∧ SettingsKept s t ∧ WalksOn t ∧ t.walker.window = s.walker.window) ∧
    (0 < r.arg32 4 → r.arg32 4 ≤ 16777215 → ∃ t emptied, exec (.takenWriteDone .current true) s = .next t ∧
      t.control = { s.control with queue := s.control.queue ++
        [⟨r, true, { Results.blank with slotsEmptied := emptied }, none⟩] } ∧
      emptied = ((List.finRange 128).map fun i => (if purges (r.arg32 4) i (s.store.slot i .w0) then 1 else 0) +
        (if purges (r.arg32 4) i (s.store.slot i .w1) then 1 else 0)).sum ∧
      (∀ (i : Fin 128) (w : Way), t.store.sets[i].lru = s.store.sets[i].lru ∧
        t.store.slot i w = if purges (r.arg32 4) i (s.store.slot i w) then ⟨.empty, none, ⟨false, false⟩, [], none, false⟩
          else s.store.slot i w) ∧
      t.store.poolA = s.store.poolA ∧ t.store.poolB = s.store.poolB ∧ t.port = s.endUnit.port ∧ t.out = s.out ∧
      SettingsKept s t ∧ WalksOn t ∧ t.walker.window = s.walker.window)) ∧
  (∀ (s : State) (r : OrderRecord) (sl : Option SheetSlot), s.walker.unit = .taken r sl false →
    s.control.engine = .running → r.kind = .flush →
    ∃ t, exec (.takenWriteDone .current true) s = .next t ∧
      t.control = { s.control with queue := s.control.queue ++
        [⟨r, true, { Results.blank with slotsEmptied := s.store.groupSize everySlot }, none⟩] } ∧
      (∀ (i : Fin 128) (w : Way), t.store.sets[i].lru = s.store.sets[i].lru ∧
        t.store.slot i w = if (s.store.slot i w).state ≠ .empty ∧ (s.store.slot i w).holders = ⟨false, false⟩ then
          StoreSlot.blank else s.store.slot i w) ∧
      t.port = s.endUnit.port ∧ t.out = s.out ∧ SettingsKept s t ∧ WalksOn t ∧ t.walker.window = s.walker.window) ∧
  (∀ (s : State) (r : OrderRecord) (sl : Option SheetSlot), s.walker.unit = .taken r sl false →
    s.control.engine = .running → r.kind = .storeMode →
    ∃ t, exec (.takenWriteDone .current true) s = .next t ∧
      t.control = { s.control with queue := s.control.queue ++
        [⟨r, true, if r.arg8 4 < 3 then Results.blank else { Results.blank with outcome := .refused, detail := .mode },
          none⟩] } ∧
      t.store = { s.store with
        mode := if r.arg8 4 = 0 then .normal else if r.arg8 4 = 1 then .frozen else if r.arg8 4 = 2 then .bypass
          else s.store.mode } ∧
      t.port = s.endUnit.port ∧ t.out = s.out ∧ WalksOn t ∧ t.walker.window = s.walker.window) ∧
  (∀ (s : State) (r : OrderRecord) (sl : Option SheetSlot), s.walker.unit = .taken r sl false →
    s.control.engine = .running → r.kind = .press →
    ∃ t marks, exec (.takenWriteDone .current true) s = .next t ∧
      t.control = { s.control with queue := s.control.queue ++
        [⟨r, true, if marks = 0#5 then Results.blank
          else { Results.blank with outcome := .noted, detail := .marks marks }, none⟩] } ∧
      t.link = { s.link with config := ⟨max 5 (min 500 (r.arg16 4)), min (max 5 (min 500 (r.arg16 4))) (r.arg16 6),
        max 100 (min 10000 (r.arg16 8)), max 1 (min 30 (r.arg16 10)), max 1 (min 600 (r.arg16 12))⟩ } ∧
      (marks.getLsbD 0 = decide (t.link.config.bandPeriod ≠ r.arg16 4)) ∧
      (marks.getLsbD 1 = decide (t.link.config.grace ≠ r.arg16 6)) ∧
      (marks.getLsbD 2 = decide (t.link.config.acceptLimit ≠ r.arg16 8)) ∧
      (marks.getLsbD 3 = decide (t.link.config.resultLimit ≠ r.arg16 10)) ∧
      (marks.getLsbD 4 = decide (t.link.config.waitLimit ≠ r.arg16 12)) ∧
      t.store = s.store ∧ t.port = s.endUnit.port ∧ t.out = s.out ∧ WalksOn t ∧ t.walker.window = s.walker.window) ∧
  ∀ (s : State) (r : OrderRecord) (sl : Option SheetSlot), s.walker.unit = .taken r sl false →
    s.control.engine = .draining → s.window.abandon = false → (r.kind = .sheet → sl ≠ none) →
    ∃ t u, exec (.takenWriteDone .current true) { s with control := { s.control with engine := .running } } = .next u ∧
      exec (.takenWriteDone .current true) s = .next t ∧ t = { u with
        control := { u.control with engine := .draining }, walker := { u.walker with state := .stopped } } ∧
      t.control.queue.length = s.control.queue.length + 1

/-- The TAKEN write of a SHEET, PROFILE or GLYPHS order completes: the record joins the queue ACTIVE; a SHEET order
begins planning in its reserved slot, or waits there for the planner; a PROFILE or GLYPHS order is the running barrier
and waits to start its block read. A profile number above 15, a set number above 2 or a count above 512 is REFUSED at
once, and no entry changes. The walker goes on to SEEKING, TAKING or BLOCKED by its window (in a drain, PlainOrdersRun
says how). A take that completes while ABANDON reads 1 ends a SHEET order ABANDONED at once with its slot FREE, and a
PROFILE or GLYPHS order ABANDONED with its entry UNSET, or REFUSED as ever, and the walker is STOPPED (assumption 17). -/
def Obligations.SheetsAndLoadsStart : Prop :=
  (∀ (s : State) (r : OrderRecord) (sl : SheetSlot), s.walker.unit = .taken r (some sl) false →
    s.control.engine = .running → r.kind = .sheet → s.window.abandon = false →
    ∃ t, exec (.takenWriteDone .current true) s = .next t ∧
      t.control.queue = s.control.queue ++ [⟨r, false, Results.blank, some sl⟩] ∧
      t.sheet sl = some ⟨.planning, (s.sheet (otherSlot sl)).isNone, r.argAddr 8, none, 0, 1, 0, false, 0, 0, [], [], none,
        false, .none⟩ ∧
      t.sheet (otherSlot sl) = s.sheet (otherSlot sl) ∧
      t.planner = (match s.planner.job with
        | none => { s.planner with job := some (PlanJob.fresh sl .ticket) }
        | some _ => { s.planner with waiting := some sl }) ∧
      t.walker.unit = .none ∧ t.port = s.endUnit.port ∧ t.store = s.store ∧ t.builder = s.builder ∧ t.out = s.out ∧
      SettingsKept s t ∧ WalksOn t ∧ t.walker.window = s.walker.window) ∧
  (∀ (s : State) (r : OrderRecord) (sl : Option SheetSlot), s.walker.unit = .taken r sl false →
    s.control.engine = .running → s.window.abandon = false → r.kind = .profile →
    (∀ h : r.arg8 4 < 16, ∃ t, exec (.takenWriteDone .current true) s = .next t ∧
      t.control = { s.control with
        queue := s.control.queue ++ [⟨r, false, Results.blank, none⟩]
        barrier := .profile ⟨r.arg8 4, h⟩ (r.argAddr 8) false false } ∧
      t.profiles = s.profiles ∧ t.port = s.endUnit.port ∧ t.store = s.store ∧ t.out = s.out ∧ SettingsKept s t ∧ WalksOn t ∧
      t.walker.window = s.walker.window) ∧
    (16 ≤ r.arg8 4 → ∃ t, exec (.takenWriteDone .current true) s = .next t ∧
      t.control = { s.control with queue := s.control.queue ++
        [⟨r, true, { Results.blank with outcome := .refused, detail := .number }, none⟩] } ∧
      t.profiles = s.profiles ∧ t.port = s.endUnit.port ∧ t.store = s.store ∧ t.out = s.out ∧ SettingsKept s t ∧ WalksOn t ∧
      t.walker.window = s.walker.window)) ∧
  (∀ (s : State) (r : OrderRecord) (sl : Option SheetSlot), s.walker.unit = .taken r sl false →
    s.control.engine = .running → s.window.abandon = false → r.kind = .glyphs →
    (∀ h : r.arg8 4 < 3, r.arg16 6 ≤ 512 → ∃ t, exec (.takenWriteDone .current true) s = .next t ∧
      t.control = { s.control with
        queue := s.control.queue ++ [⟨r, false, Results.blank, none⟩]
        barrier := .glyphs ⟨⟨r.arg8 4, h⟩, r.arg16 6, r.argAddr 8, [], false, false, false, false⟩ } ∧
      t.glyphs = s.glyphs ∧ t.port = s.endUnit.port ∧ t.store = s.store ∧ t.out = s.out ∧ SettingsKept s t ∧ WalksOn t ∧
      t.walker.window = s.walker.window) ∧
    (3 ≤ r.arg8 4 ∨ 512 < r.arg16 6 → ∃ t, exec (.takenWriteDone .current true) s = .next t ∧
      t.control = { s.control with queue := s.control.queue ++
        [⟨r, true, { Results.blank with
          outcome := .refused, detail := if 3 ≤ r.arg8 4 then .number else .count }, none⟩] } ∧
      t.glyphs = s.glyphs ∧ t.port = s.endUnit.port ∧ t.store = s.store ∧ t.out = s.out ∧ SettingsKept s t ∧ WalksOn t ∧
      t.walker.window = s.walker.window)) ∧
  (∀ (s : State) (r : OrderRecord) (sl : SheetSlot), s.walker.unit = .taken r (some sl) false →
    s.control.engine = .draining → r.kind = .sheet → s.window.abandon = true → s.sheet sl = none →
    s.linkHolds sl = false → s.writerServes sl = false → (∀ e ∈ s.control.queue, e.slot ≠ some sl) →
    ∃ t, exec (.takenWriteDone .current true) s = .next t ∧ t.sheet sl = none ∧
      t.control.queue = s.control.queue ++ [⟨r, true, { Results.blank with outcome := .abandoned }, none⟩] ∧
      t.sheet (otherSlot sl) = (s.sheet (otherSlot sl)).map (fun x => { x with first := true }) ∧
      t.control.engine = .draining ∧ t.walker.unit = .none ∧ t.walker.state = .stopped ∧
      t.port.outstanding = s.endUnit.port.outstanding ∧ t.planner = s.planner ∧ t.out = s.out) ∧
  ∀ (s : State) (r : OrderRecord) (sl : Option SheetSlot), s.walker.unit = .taken r sl false →
    s.control.engine = .draining → s.window.abandon = true →
    (∀ h : r.arg8 4 < 16, r.kind = .profile → exec (.takenWriteDone .current true) s = .next { s.endUnit with
      walker := { s.walker with unit := .none, state := .stopped }
      profiles := s.profiles.set (r.arg8 4) none h
      control := { s.control with queue := s.control.queue ++
        [⟨r, true, { Results.blank with outcome := .abandoned }, none⟩] } }) ∧
    (∀ h : r.arg8 4 < 3, r.kind = .glyphs → r.arg16 6 ≤ 512 → exec (.takenWriteDone .current true) s =
      .next { s.endUnit with
        walker := { s.walker with unit := .none, state := .stopped }
        glyphs := s.glyphs.set (r.arg8 4) none h
        control := { s.control with queue := s.control.queue ++
          [⟨r, true, { Results.blank with outcome := .abandoned }, none⟩] } }) ∧
    ((r.kind = .profile ∧ 16 ≤ r.arg8 4) ∨ (r.kind = .glyphs ∧ (3 ≤ r.arg8 4 ∨ 512 < r.arg16 6)) →
      exec (.takenWriteDone .current true) s = .next { s.endUnit with
        walker := { s.walker with unit := .none, state := .stopped }
        control := { s.control with queue := s.control.queue ++
          [⟨r, true, { Results.blank with
            outcome := .refused
            detail := if r.kind = .glyphs ∧ r.arg8 4 < 3 then .count else .number }, none⟩] } })

/-- Retirement: with the head FINISHED, no retirement in flight, the hold FREE and the engine not FAULTED, the 32 result
bytes, each field at its offset, are written to bytes 32 to 63 of the record; then DONE to its hand field; then the
entry leaves the queue, DONE_NOTE is raised for a record with Notify, a BLOCKED walker goes to TAKING where its head can
now be taken, the pending-spent folio whose slot 62 it was becomes due for its SPENT write (its address cleared then,
which is assumption 35), and a drain with nothing left stops the engine. SPENT is then written to byte 8 of that folio's
trailer, one folio at a time, though another may have fallen due (assumption 49); the write's completion clears the
unit, and lets a drain with nothing left stop. Each write is recorded when it is issued (assumption 9). -/
def Obligations.RetirementRuns : Prop :=
  (∀ (s : State) (e : QueueEntry) (rest : List QueueEntry), s.control.queue = e :: rest → e.finished = true →
    s.control.retire = .none → s.port.hold = .free → s.control.engine ≠ .faulted →
    ResultsWritten e.results e.results.bytes ∧ exec .retireStart s = .next { s with
      control := { s.control with retire := .results }
      port := { s.port with outstanding := s.port.outstanding + 1 }
      out := { s.out with serverWrites := s.out.serverWrites ++ [⟨e.record.addr + 32#64, e.results.bytes⟩] } }) ∧
  (∀ (s : State) (e : QueueEntry) (rest : List QueueEntry), s.control.queue = e :: rest → s.control.retire = .results →
    s.control.engine ≠ .faulted → exec (.resultsWriteDone .current true) s = .next { s with
      control := { s.control with retire := .done }
      out := { s.out with serverWrites := s.out.serverWrites ++ [⟨e.record.addr, [3#8]⟩] } }) ∧
  (∀ (s : State) (e : QueueEntry) (rest : List QueueEntry), s.control.queue = e :: rest → s.control.retire = .done →
    s.control.engine = .running →
    ∃ t, exec (.doneWriteDone .current true) s = .next t ∧
      t.control = { s.control with
        retire := .none
        queue := match rest with
          | m :: more => if m.record.kind = .mark ∧ m.finished = false then { m with finished := true } :: more else rest
          | [] => [] } ∧
      (e.record.notify = true → t.hasEvent .doneNote = true) ∧
      (rest = [] → s.walker.state = .idle → t.hasEvent .chainIdle = true) ∧
      (∀ f, s.walker.pendingSpent = some f → slotAddr f 62 = e.record.addr →
        t.walker.pendingSpent = none ∧ t.walker.spentDue = s.walker.spentDue ++ [f]) ∧
      (∀ f, s.walker.pendingSpent = some f → slotAddr f 62 ≠ e.record.addr →
        t.walker.pendingSpent = some f ∧ t.walker.spentDue = s.walker.spentDue) ∧
      (s.walker.state ≠ .blocked → t.walker.state = s.walker.state) ∧ t.walker.window = s.walker.window ∧
      (∀ r more, s.walker.state = .blocked → s.walker.window = r :: more →
        (HeadTakeable t r → t.walker.state = .taking) ∧ (¬ HeadTakeable t r → t.walker.state = .blocked)) ∧
      t.walker.cursor = s.walker.cursor ∧ t.port = s.endUnit.port ∧ t.store = s.store ∧ t.link = s.link ∧
      t.out = s.out ∧ SettingsKept s t) ∧
  (∀ (s : State) (e : QueueEntry), s.control.queue = [e] → s.control.retire = .done → s.control.engine = .draining →
    s.walker.state = .stopped → s.walker.spentDue = [] → s.walker.spentInFlight = none → s.walker.pendingSpent = none →
    s.window.run = false →
    ∃ t, exec (.doneWriteDone .current true) s = .next t ∧
      t.control = { s.control with retire := .none, queue := [], engine := .stopped } ∧ t.window.abandon = false ∧
      t.walker = s.walker ∧ t.port = s.endUnit.port ∧ t.out = s.out) ∧
  (∀ (s : State) (f : Addr) (rest : List Addr), s.walker.spentDue = f :: rest → s.walker.spentInFlight = none →
    s.port.hold = .free → s.control.engine ≠ .faulted →
    exec .spentWriteStart s = .next { s with
      walker := { s.walker with spentDue := rest, spentInFlight := some f }
      port := { s.port with outstanding := s.port.outstanding + 1 }
      out := { s.out with serverWrites := s.out.serverWrites ++ [⟨trailerAddr f + 8#64, [1#8]⟩] } }) ∧
  (∀ s : State, s.walker.spentInFlight ≠ none → exec .spentWriteStart s = .next s) ∧
  (∀ (s : State) (f : Addr), s.walker.spentInFlight = some f → s.control.engine ≠ .draining →
    exec (.spentWriteDone .current true) s = .next { s.endUnit with
      walker := { s.walker with spentInFlight := none } }) ∧
  (∀ (s : State) (f : Addr), s.walker.spentInFlight = some f → s.control.engine = .draining → s.control.queue = [] →
    s.walker.state = .stopped → s.walker.spentDue = [] → s.window.run = false →
    ∃ t, exec (.spentWriteDone .current true) s = .next t ∧ t.control = { s.control with engine := .stopped } ∧
      t.window.abandon = false ∧ t.walker = { s.walker with spentInFlight := none } ∧ t.port = s.endUnit.port ∧
      t.out = s.out) ∧
  [OrderOutcome.ok, .noted, .partialRoster, .spoiled, .pressSilent, .refused, .memoryFault, .abandoned, .badKind].map
    (·.byte) = [0, 1, 2, 3, 4, 5, 6, 7, 8] ∧
  [Detail.none, .geometry, .roster, .nesting, .unbalanced, .kind, .grid, .tooLarge, .unset, .pressOff, .pressRejected,
    .number, .cellWidth, .cellHeight, .edgePolicy, .glyphSet, .lines, .nameOrder, .subject, .mode, .count, .lineHeight,
    .glyph, .duplicate, .underrun, .damage, .jammed, .mediaOut, .accept, .result, .planningRead, .proofWrite, .reportWrite,
    .blockRead, .afterClose].map (·.code) = List.range 35 ∧
  ∀ m : BitVec 5, (Detail.marks m).code = m.toNat

/-- A bus error on a chain transaction, in RUNNING or DRAINING, faults the engine: READ_ERROR at the first record read or
at the trailer, also for a read whose result would have been discarded; WRITE_ERROR at the record or the trailer written.
A second one in FAULTED, on any of them, leaves the recorded cause and address: the unit ends and nothing else changes
(the retirement's end is assumption 18; that the cut of a build leaves its unit in the count is assumption 16). The fault
ends every order without an ending ABANDONED, the link's attempt by its state, and a running load with its entry UNSET.
-/
def Obligations.BusErrorsFault : Prop :=
  (∀ (s : State) (f : Addr) (i : Fin 63) (n : Nat) (d : Bool), s.control.engine = .running ∨ s.control.engine = .draining →
    s.walker.unit = .recordRead n d → s.walker.cursor = some ⟨f, .slot i⟩ →
    ∃ t, exec (.recordReadDone .current .busError) s = .next t ∧ FaultedFrom s t .readError (slotAddr f i.val)) ∧
  (∀ (s : State) (f : Addr) (d : Bool), s.control.engine = .running ∨ s.control.engine = .draining →
    s.walker.unit = .trailerRead d → s.walker.cursor = some ⟨f, .trailer⟩ →
    ∃ t, exec (.trailerReadDone .current .busError) s = .next t ∧ FaultedFrom s t .readError (trailerAddr f)) ∧
  (∀ (s : State) (r : OrderRecord) (sl : Option SheetSlot),
    s.control.engine = .running ∨ s.control.engine = .draining → s.walker.unit = .taken r sl false →
    ∃ t, exec (.takenWriteDone .current false) s = .next t ∧ FaultedFrom s t .writeError r.addr) ∧
  (∀ (s : State) (e : QueueEntry) (rest : List QueueEntry),
    s.control.engine = .running ∨ s.control.engine = .draining → s.control.queue = e :: rest →
    (s.control.retire = .results → ∃ t, exec (.resultsWriteDone .current false) s = .next t ∧
      FaultedFrom s t .writeError e.record.addr ∧ t.control.queue ≠ []) ∧
    (s.control.retire = .done → ∃ t, exec (.doneWriteDone .current false) s = .next t ∧
      FaultedFrom s t .writeError e.record.addr ∧ t.control.queue ≠ [])) ∧
  (∀ (s : State) (f : Addr), s.control.engine = .running ∨ s.control.engine = .draining →
    s.walker.spentInFlight = some f →
    ∃ t, exec (.spentWriteDone .current false) s = .next t ∧ FaultedFrom s t .writeError (trailerAddr f)) ∧
  ∀ s : State, s.control.engine = .faulted →
    (∀ (f : Addr) (i : Fin 63) (n : Nat) (d : Bool), s.walker.unit = .recordRead n d → s.walker.cursor = some ⟨f, .slot i⟩ →
      exec (.recordReadDone .current .busError) s = .next { s.endUnit with walker := { s.walker with unit := .none } }) ∧
    (∀ (f : Addr) (d : Bool), s.walker.unit = .trailerRead d → s.walker.cursor = some ⟨f, .trailer⟩ →
      exec (.trailerReadDone .current .busError) s = .next { s.endUnit with walker := { s.walker with unit := .none } }) ∧
    (∀ (r : OrderRecord) (sl : Option SheetSlot) (ok : Bool), s.walker.unit = .taken r sl true →
      exec (.takenWriteDone .current ok) s = .next { s.endUnit with walker := { s.walker with unit := .none } }) ∧
    (∀ (ok : Bool), s.control.queue ≠ [] → s.control.retire = .results → exec (.resultsWriteDone .current ok) s =
      .next { s.endUnit with control := { s.control with retire := .none } }) ∧
    (s.control.queue ≠ [] → s.control.retire = .done → exec (.doneWriteDone .current false) s =
      .next { s.endUnit with control := { s.control with retire := .none } }) ∧
    ∀ f : Addr, s.walker.spentInFlight = some f → exec (.spentWriteDone .current false) s =
      .next { s.endUnit with walker := { s.walker with spentInFlight := none } }

/-! ## Barrier orders that read server memory -/

/-- The block read of a running PROFILE order and the next unit of a running GLYPHS order start when the hold is FREE;
with the hold in DRAINING or HELD they wait (assumption 1). -/
def Obligations.LoadReadsStart : Prop :=
  (∀ (s : State) (n : Fin 16) (block : Addr) (ab : Bool), s.control.barrier = .profile n block false ab →
    s.port.hold = .free →
    exec .profileBlockReadStart s = .next { s with
      control := { s.control with barrier := .profile n block true ab }
      port := { s.port with outstanding := s.port.outstanding + 1 } }) ∧
  (∀ (s : State) (l : GlyphLoad), s.control.barrier = .glyphs l → l.inFlight = false → s.port.hold = .free →
    exec .glyphUnitStart s = .next { s with
      control := { s.control with barrier := .glyphs { l with inFlight := true } }
      port := { s.port with outstanding := s.port.outstanding + 1 } }) ∧
  ∀ s : State, s.port.hold ≠ .free → exec .profileBlockReadStart s = .next s ∧ exec .glyphUnitStart s = .next s

/-- The block read of a PROFILE order completes. The first structural field that fails refuses the order, and the entry
and every tile stay. A block that passes makes the entry LOADED with each fine field brought into its range, empties
every unheld slot whose key names the profile, and ends the order OK, or NOTED with one mark for each clamped field. A
bus error gives MEMORY_FAULT and an abandon ABANDONED, each with the entry UNSET and no tile emptied. However the barrier
ends, a BLOCKED walker goes to TAKING where its head can now be taken. -/
def Obligations.ProfileBlockCompletes : Prop :=
  (∀ (s : State) (n : Fin 16) (block : Addr) (r : ReadResult), s.control.barrier = .profile n block true true →
    ∃ t, exec (.profileBlockReadDone .current r) s = .next t ∧ t.profiles = s.profiles.set n.val none n.isLt ∧
      t.control.queue = queueBarrierEnded s.control.queue (barrierResults .abandoned .none 0) ∧
      t.control.barrier = .none ∧ t.store = s.store ∧ t.glyphs = s.glyphs ∧ t.port = s.endUnit.port ∧ t.out = s.out ∧
      SettingsKept s t ∧ WalkerUnblocked s t) ∧
  (∀ (s : State) (n : Fin 16) (block : Addr), s.control.barrier = .profile n block true false →
    ∃ t, exec (.profileBlockReadDone .current .busError) s = .next t ∧
      t.profiles = s.profiles.set n.val none n.isLt ∧
      t.control.queue = queueBarrierEnded s.control.queue (barrierResults .memoryFault .blockRead 0) ∧
      t.control.barrier = .none ∧ t.store = s.store ∧ t.glyphs = s.glyphs ∧ t.port = s.endUnit.port ∧ t.out = s.out ∧
      SettingsKept s t ∧ WalkerUnblocked s t) ∧
  (∀ (s : State) (n : Fin 16) (block : Addr) (bs : List Byte) (d : Detail),
    s.control.barrier = .profile n block true false → bs.length = 32 →
    d = (if ¬(32 ≤ u16 bs 0 ∧ u16 bs 0 ≤ 512) then .cellWidth
      else if ¬(32 ≤ u16 bs 2 ∧ u16 bs 2 ≤ 640) then .cellHeight
      else if ¬ u8 bs 10 ≤ 1 then .edgePolicy else if ¬ u8 bs 11 ≤ 2 then .glyphSet
      else if ¬(1 ≤ u8 bs 12 ∧ u8 bs 12 ≤ 2) then .lines else if ¬ u8 bs 13 ≤ 1 then .nameOrder else .none) → d ≠ .none →
    ∃ t, exec (.profileBlockReadDone .current (.data bs)) s = .next t ∧ t.profiles = s.profiles ∧
      t.control.queue = queueBarrierEnded s.control.queue (barrierResults .refused d 0) ∧ t.control.barrier = .none ∧
      t.store = s.store ∧ t.glyphs = s.glyphs ∧ t.port = s.endUnit.port ∧ t.out = s.out ∧ SettingsKept s t ∧
      WalkerUnblocked s t) ∧
  ∀ (s : State) (n : Fin 16) (block : Addr) (bs : List Byte), s.control.barrier = .profile n block true false →
    bs.length = 32 → 32 ≤ u16 bs 0 → u16 bs 0 ≤ 512 → 32 ≤ u16 bs 2 → u16 bs 2 ≤ 640 → u8 bs 10 ≤ 1 →
    ∀ hg : u8 bs 11 < 3, 1 ≤ u8 bs 12 → u8 bs 12 ≤ 2 → u8 bs 13 ≤ 1 →
    ∃ t p marks, exec (.profileBlockReadDone .current (.data bs)) s = .next t ∧
      t.profiles = s.profiles.set n.val (some p) n.isLt ∧
      p = ⟨u16 bs 0, u16 bs 2, max 16 (min (u16 bs 2) (u16 bs 4)), min (u16 bs 2 - 1) (u16 bs 6),
        min (u16 bs 0 - 1) (u16 bs 8), if u8 bs 10 = 0 then .shift else .pad, max 1024 (min 131072 (u32 bs 16)),
        colourAt bs 20, ⟨u8 bs 11, hg⟩, u8 bs 12, if u8 bs 13 = 0 then .givenFirst else .familyFirst,
        min 32 (u8 bs 14), colourAt bs 23, colourAt bs 26⟩ ∧
      marks.getLsbD 0 = decide (p.headTarget ≠ u16 bs 4) ∧ marks.getLsbD 1 = decide (p.eyeLine ≠ u16 bs 6) ∧
      marks.getLsbD 2 = decide (p.centreColumn ≠ u16 bs 8) ∧ marks.getLsbD 3 = decide (p.maxScale ≠ u32 bs 16) ∧
      marks.getLsbD 4 = decide (p.captionGap ≠ u8 bs 14) ∧
      t.control.queue = queueBarrierEnded s.control.queue
        (if marks = 0#5 then barrierResults .ok .none (s.store.groupSize (ofProfile n))
          else barrierResults .noted (.marks marks) (s.store.groupSize (ofProfile n))) ∧ t.control.barrier = .none ∧
      (∀ (i : Fin 128) (w : Way), t.store.sets[i].lru = s.store.sets[i].lru ∧
        t.store.slot i w = if (∃ k, (s.store.slot i w).key = some k ∧ k.profile = n) ∧ (s.store.slot i w).state ≠ .empty ∧
            (s.store.slot i w).holders = ⟨false, false⟩ then StoreSlot.blank else s.store.slot i w) ∧
      t.store.poolA = s.store.poolA ∧ t.store.poolB = s.store.poolB ∧ t.glyphs = s.glyphs ∧ t.port = s.endUnit.port ∧
      t.out = s.out ∧ SettingsKept s t ∧ WalkerUnblocked s t

/-- A unit of a GLYPHS load completes. While more of the block is wanted its bytes join those received and the next unit
waits to start. A failed check refuses the order and the set stays. With the last of its records the set becomes LOADED
with the header's values and a map that holds, for each code, the last record given for it, undamaged, and its load area
is the set's in place: the block's bytes in whole granules of 8 bytes, the last filled out with zero bytes; the order
ends NOTED DUPLICATE when a code appeared twice and OK otherwise. A bus error gives MEMORY_FAULT and an abandon
ABANDONED, each with the set UNSET. A load whose map has become the set's leaves no correctable error standing in the
set's glyphs (assumption 51). However the barrier ends, a BLOCKED walker goes to TAKING where its head can now be taken.
(The poison of assumption 11 is left out: its selector is not GLYPH.) -/
def Obligations.GlyphUnitCompletes : Prop :=
  (∀ (s : State) (l : GlyphLoad) (r : ReadResult), s.control.barrier = .glyphs l → l.inFlight = true →
    l.abandoned = true ∨ r = .busError →
    ∃ t, exec (.glyphUnitDone .current r) s = .next t ∧ t.glyphs = s.glyphs.set l.set.val none l.set.isLt ∧
      t.control.queue = queueBarrierEnded s.control.queue
        (if l.abandoned then barrierResults .abandoned .none 0 else barrierResults .memoryFault .blockRead 0) ∧
      t.control.barrier = .none ∧ t.profiles = s.profiles ∧ t.store = s.store ∧ t.port = s.endUnit.port ∧ t.out = s.out ∧
      SettingsKept s t ∧ WalkerUnblocked s t) ∧
  ∀ (s : State) (l : GlyphLoad) (bs : List Byte), s.control.barrier = .glyphs l → l.inFlight = true →
    l.abandoned = false → 0 < bs.length → bs.length ≤ 4096 → s.check.poison ≠ .glyph → l.poisoned = false →
    ∃ t, exec (.glyphUnitDone .current (.data bs)) s = .next t ∧ t.profiles = s.profiles ∧ t.store = s.store ∧
      t.port = s.endUnit.port ∧ t.out = s.out ∧ SettingsKept s t ∧ (t.control.barrier = .none → WalkerUnblocked s t) ∧
      ((∀ gs, scanGlyphBlock (l.bytes ++ bs) l.count ≠ .whole gs) → t.check = s.check) ∧
      (∀ d, scanGlyphBlock (l.bytes ++ bs) l.count = .refused d → t.glyphs = s.glyphs ∧ t.control.barrier = .none ∧
        t.control.queue = queueBarrierEnded s.control.queue (barrierResults .refused d 0)) ∧
      (∀ k, scanGlyphBlock (l.bytes ++ bs) l.count = .more k → t.glyphs = s.glyphs ∧ t.control.queue = s.control.queue ∧
        ∃ l', t.control.barrier = .glyphs l' ∧ l'.set = l.set ∧ l'.count = l.count ∧ l'.block = l.block ∧
          l'.bytes = l.bytes ++ bs ∧ l'.inFlight = false ∧ l'.abandoned = false ∧ l'.poisoned = false) ∧
      ∀ gs, scanGlyphBlock (l.bytes ++ bs) l.count = .whole gs → t.control.barrier = .none ∧
        t.check = { s.check with standing := s.check.standing.filter fun p => !glyphOfSet l.set p } ∧
        (∃ set, t.glyphs = s.glyphs.set l.set.val (some set) l.set.isLt ∧ set.lineHeight = u8 (l.bytes ++ bs) 0 ∧
          set.space = codeAt (l.bytes ++ bs) 2 ∧ set.ellipsis = codeAt (l.bytes ++ bs) 4 ∧
          set.substitute = codeAt (l.bytes ++ bs) 6 ∧ (set.map.map (·.code)).Nodup ∧
          (∀ c : Code, (set.map.find? fun g => g.code == c) = gs.reverse.find? fun g => g.code == c) ∧
          ∃ n, n = 16 + (gs.map fun g => 4 + g.width * u8 (l.bytes ++ bs) 0).sum ∧ n ≤ (l.bytes ++ bs).length ∧
            set.area.length = (n + 7) / 8 * 8 ∧ ∀ i < (n + 7) / 8 * 8,
              set.area[i]? = if i < n then (l.bytes ++ bs)[i]? else some 0#8) ∧
        ((gs.map (·.code)).Nodup →
          t.control.queue = queueBarrierEnded s.control.queue (barrierResults .ok .none 0)) ∧
        (¬(gs.map (·.code)).Nodup →
          t.control.queue = queueBarrierEnded s.control.queue (barrierResults .noted .duplicate 0))

/-- The check of a glyph block on the bytes received: a line height outside 8 to 48 is refused LINE_HEIGHT; a block of
whole records, each with an advance of 1 to 64, a width of at most 48 and as many alpha values as its bitmap has, is read
back record for record, in order; a record out of range after whole ones is refused GLYPH once its first four bytes are
there (at which byte the checks are made is assumption 44). -/
def Obligations.GlyphBlocksScan : Prop :=
  (∀ (bs : List Byte) (n : Nat), bs ≠ [] → u8 bs 0 < 8 ∨ 48 < u8 bs 0 → scanGlyphBlock bs n = .refused .lineHeight) ∧
  (∀ (head : List Byte) (gs : List Glyph) (more : List Byte), head.length = 16 → 8 ≤ u8 head 0 → u8 head 0 ≤ 48 →
    (∀ g ∈ gs, 1 ≤ g.advance ∧ g.advance ≤ 64 ∧ g.width ≤ 48 ∧ g.alpha.length = g.width * u8 head 0 ∧
      g.damaged = false ∧ g.poisoned = false) →
    scanGlyphBlock
      (head ++ (gs.flatMap fun g => leBytes 2 g.code.toNat ++ leBytes 1 g.advance ++ leBytes 1 g.width ++ g.alpha) ++ more)
      gs.length = .whole gs) ∧
  ∀ (head : List Byte) (gs : List Glyph) (rec : List Byte) (n : Nat), head.length = 16 → 8 ≤ u8 head 0 →
    u8 head 0 ≤ 48 →
    (∀ g ∈ gs, 1 ≤ g.advance ∧ g.advance ≤ 64 ∧ g.width ≤ 48 ∧ g.alpha.length = g.width * u8 head 0 ∧
      g.damaged = false ∧ g.poisoned = false) →
    gs.length < n → 4 ≤ rec.length → u8 rec 2 < 1 ∨ 64 < u8 rec 2 ∨ 48 < u8 rec 3 →
    scanGlyphBlock
      (head ++ (gs.flatMap fun g => leBytes 2 g.code.toNat ++ leBytes 1 g.advance ++ leBytes 1 g.width ++ g.alpha) ++ rec)
      n = .refused .glyph

/-! ## Planning -/

/-- A read that the planner waits for starts when the hold is FREE, and waits while it is not (assumption 1). A ticket
address of 0, or one that is not a multiple of 128, refuses the order GEOMETRY, and nothing is read: it does so at
TICKET_READ_START and in every state of the hold, which is assumption 20. -/
def Obligations.PlanningReadsStart : Prop :=
  (∀ (s : State) (j : PlanJob), s.planner.job = some j → j.inFlight = false → s.port.hold = .free →
    (∀ sh, s.sheet j.slot = some sh → sh.ticketAddr ≠ 0#64 → sh.ticketAddr.toNat % 128 = 0 → j.stage = .ticket →
      exec .ticketReadStart s = .next { s with
        planner := { s.planner with job := some { j with inFlight := true } }
        port := { s.port with outstanding := s.port.outstanding + 1 } }) ∧
    (j.stage = .layout → exec .layoutReadStart s = .next { s with
        planner := { s.planner with job := some { j with inFlight := true } }
        port := { s.port with outstanding := s.port.outstanding + 1 } }) ∧
    (j.stage = .roster → exec .rosterReadStart s = .next { s with
        planner := { s.planner with job := some { j with inFlight := true } }
        port := { s.port with outstanding := s.port.outstanding + 1 } }) ∧
    (∀ a seed, j.stage = .subject a seed → exec .subjectReadStart s = .next { s with
        planner := { s.planner with job := some { j with inFlight := true } }
        port := { s.port with outstanding := s.port.outstanding + 1 } }) ∧
    (∀ a n i, j.stage = .text a n i → exec .bannerTextReadStart s = .next { s with
        planner := { s.planner with job := some { j with inFlight := true } }
        port := { s.port with outstanding := s.port.outstanding + 1 } })) ∧
  (∀ s : State, s.port.hold ≠ .free →
    (∀ j sh, s.planner.job = some j → s.sheet j.slot = some sh → sh.ticketAddr ≠ 0#64 → sh.ticketAddr.toNat % 128 = 0 →
      exec .ticketReadStart s = .next s) ∧
    exec .layoutReadStart s = .next s ∧ exec .rosterReadStart s = .next s ∧ exec .subjectReadStart s = .next s ∧
    exec .bannerTextReadStart s = .next s) ∧
  ∀ (s : State) (j : PlanJob) (sh : Sheet), PlansAlone s j sh → j.stage = .ticket → j.inFlight = false →
    sh.ticketAddr = 0#64 ∨ sh.ticketAddr.toNat % 128 ≠ 0 →
    ∃ t, exec .ticketReadStart s = .next t ∧ PlanningEnded s t j.slot s.control.queue .refused .geometry ∧
      t.port.outstanding = s.port.outstanding ∧ t.out = s.out ∧ SettingsKept s t

/-- A planning read that ends in a bus error, of the ticket, the layout, the roster, a subject record or a banner text,
ends the order MEMORY_FAULT PLANNING_READ. The counts of the order's results stay as they are, those that the sheet's
cells had added by fits and failed builds too (assumption 38); the outstanding count falls by the read alone, over the
cut of a build too (assumption 16). The planner then takes up a sheet that waits for it, which waits to start its ticket
read. -/
def Obligations.PlanningReadFails : Prop :=
  (∀ (s : State) (j : PlanJob) (sh : Sheet), PlansAlone s j sh → j.inFlight = true →
    (j.stage = .ticket → ∃ t, exec (.ticketReadDone .current .busError) s = .next t ∧ PlanFrame s t ∧
      PlanningEnded s t j.slot s.control.queue .memoryFault .planningRead) ∧
    (j.stage = .layout → ∃ t, exec (.layoutReadDone .current .busError) s = .next t ∧ PlanFrame s t ∧
      PlanningEnded s t j.slot s.control.queue .memoryFault .planningRead) ∧
    (j.stage = .roster → ∃ t, exec (.rosterReadDone .current .busError) s = .next t ∧ PlanFrame s t ∧
      PlanningEnded s t j.slot s.control.queue .memoryFault .planningRead) ∧
    (∀ a seed, j.stage = .subject a seed → ∃ t, exec (.subjectReadDone .current .busError) s = .next t ∧ PlanFrame s t ∧
      PlanningEnded s t j.slot s.control.queue .memoryFault .planningRead) ∧
    ∀ a n i, j.stage = .text a n i → ∃ t, exec (.bannerTextReadDone .current .busError) s = .next t ∧ PlanFrame s t ∧
      PlanningEnded s t j.slot s.control.queue .memoryFault .planningRead) ∧
  ∀ (s : State) (j : PlanJob) (sh : Sheet) (w : SheetSlot) (sw : Sheet), PlansBeside s j sh w sw → j.inFlight = true →
    (j.stage = .ticket → ∃ t, exec (.ticketReadDone .current .busError) s = .next t ∧ PlanFrame s t ∧
      PlanningPassedOn s t j.slot .memoryFault .planningRead w sw) ∧
    (j.stage = .layout → ∃ t, exec (.layoutReadDone .current .busError) s = .next t ∧ PlanFrame s t ∧
      PlanningPassedOn s t j.slot .memoryFault .planningRead w sw) ∧
    (j.stage = .roster → ∃ t, exec (.rosterReadDone .current .busError) s = .next t ∧ PlanFrame s t ∧
      PlanningPassedOn s t j.slot .memoryFault .planningRead w sw) ∧
    (∀ a seed, j.stage = .subject a seed → ∃ t, exec (.subjectReadDone .current .busError) s = .next t ∧ PlanFrame s t ∧
      PlanningPassedOn s t j.slot .memoryFault .planningRead w sw) ∧
    ∀ a n i, j.stage = .text a n i → ∃ t, exec (.bannerTextReadDone .current .busError) s = .next t ∧ PlanFrame s t ∧
      PlanningPassedOn s t j.slot .memoryFault .planningRead w sw

/-- The checks of a ticket: it passes exactly when every field of the two tables is valid; the detail is ROSTER when only
the roster fields fail and GEOMETRY otherwise. A ticket that passes keeps its fields. -/
def Obligations.TicketChecked : Prop :=
  ∀ bs : List Byte,
    let sheetOk := u8 bs 4 ≤ 1 ∧ 256 ≤ u16 bs 8 ∧ u16 bs 8 ≤ 3072 ∧ 256 ≤ u16 bs 10 ∧ u16 bs 10 ≤ 4800 ∧
      (u8 bs 4 = 1 → addrAt bs 16 ≠ 0#64 ∧
        (addrAt bs 16).toNat + u32 bs 24 * (u16 bs 10 - 1) + 3 * u16 bs 8 - 1 < 2 ^ 64 ∧ 3 * u16 bs 8 ≤ u32 bs 24) ∧
      (u8 bs 5 = 0 ∨ (u8 bs 5 = 1 ∧ 1 ≤ u8 bs 6 ∧ u8 bs 6 ≤ 32)) ∧ u8 bs 7 ≤ 3 ∧ u16 bs 28 ≤ 48 ∧
      (0 < u16 bs 28 → addrAt bs 32 ≠ 0#64)
    let rosterOk := u16 bs 48 ≤ 4096 ∧ u16 bs 50 ≤ u16 bs 48 ∧ (u16 bs 50 < u16 bs 48 → addrAt bs 40 ≠ 0#64)
    (sheetOk → rosterOk → ∃ t, ticketCheck bs = .ok t ∧ t.sheetId.toNat = u32 bs 0 ∧
      t.dest = (if u8 bs 4 = 0 then .press else .proof) ∧ t.autoLimit = (if u8 bs 5 = 0 then none else some (u8 bs 6)) ∧
      t.retryBudget = u8 bs 7 ∧ t.width = u16 bs 8 ∧ t.height = u16 bs 10 ∧ t.background = colourAt bs 12 ∧
      t.proofAddr = addrAt bs 16 ∧ t.proofPitch = u32 bs 24 ∧ t.entryCount = u16 bs 28 ∧ t.layoutAddr = addrAt bs 32 ∧
      t.rosterAddr = addrAt bs 40 ∧ t.rosterCount = u16 bs 48 ∧ t.rosterStart = u16 bs 50 ∧
      t.reportAddr = addrAt bs 56) ∧
    (¬ sheetOk → ticketCheck bs = .error .geometry) ∧ (sheetOk → ¬ rosterOk → ticketCheck bs = .error .roster)

/-- A ticket read completes. A ticket that fails its checks refuses the order; the next roster index has taken the
ticket's roster start index either way. A PRESS ticket under OFF is refused PRESS_OFF. A ticket of layout entries is kept
in the slot and the layout read waits to start; one of no entries completes planning with the slot READY. The planner
then takes up a sheet that waits for it: a first sheet waits to start its ticket read; a continuation is refused
PRESS_OFF under OFF, and otherwise begins its pass over the kept frame placements at its starting index. -/
def Obligations.TicketReadCompletes : Prop :=
  (∀ (s : State) (j : PlanJob) (sh : Sheet) (bs : List Byte), PlansAlone s j sh → j.stage = .ticket → j.inFlight = true →
    bs.length = 128 → ∃ t, exec (.ticketReadDone .current (.data bs)) s = .next t ∧ PlanFrame s t ∧
      (∀ d, ticketCheck bs = .error d → PlanningEnded s t j.slot
        (s.control.queue.map fun e => if e.slot = some j.slot then
          { e with results := { e.results with nextRoster := u16 bs 50 } } else e) .refused d) ∧
      (∀ k, ticketCheck bs = .ok k → k.dest = .press → s.window.pressMode = .off → PlanningEnded s t j.slot
        (s.control.queue.map fun e => if e.slot = some j.slot then
          { e with results := { e.results with nextRoster := u16 bs 50 } } else e) .refused .pressOff) ∧
      (∀ k, ticketCheck bs = .ok k → k.dest = .proof ∨ s.window.pressMode ≠ .off → 0 < k.entryCount →
        t.sheet j.slot = some { sh with ticket := some k, start := k.rosterStart, reached := k.rosterStart } ∧
        t.sheet (otherSlot j.slot) = s.sheet (otherSlot j.slot) ∧
        t.planner = { s.planner with job := some { j with stage := .layout, inFlight := false } } ∧ t.store = s.store ∧
        t.control.queue = s.control.queue.map fun e => if e.slot = some j.slot then
          { e with results := { e.results with nextRoster := u16 bs 50 } } else e) ∧
      ∀ k, ticketCheck bs = .ok k → k.dest = .proof ∨ s.window.pressMode ≠ .off → k.entryCount = 0 → sh.pendingBuilds = 0 →
        t.sheet j.slot = some { sh with
          ticket := some k, start := k.rosterStart, reached := k.rosterStart, carry := false, state := .ready } ∧
        t.sheet (otherSlot j.slot) = s.sheet (otherSlot j.slot) ∧ t.planner = ⟨none, none, [], none⟩ ∧ t.store = s.store ∧
        t.control.queue = s.control.queue.map fun e => if e.slot = some j.slot then { e with results := { e.results with
          nextRoster := u16 bs 50, counts := e.results.counts.add Counts.zero } } else e) ∧
  (∀ (s : State) (j : PlanJob) (sh : Sheet) (w : SheetSlot) (sw : Sheet) (bs : List Byte) (k : Ticket),
    PlansBeside s j sh w sw → j.stage = .ticket → j.inFlight = true → bs.length = 128 → ticketCheck bs = .ok k →
    k.dest = .proof ∨ s.window.pressMode ≠ .off → k.entryCount = 0 → sh.pendingBuilds = 0 →
    ∃ t, exec (.ticketReadDone .current (.data bs)) s = .next t ∧ PlanFrame s t ∧ t.sheet j.slot = some { sh with
        ticket := some k, start := k.rosterStart, reached := k.rosterStart, carry := false, state := .ready } ∧
      t.sheet w = some sw ∧ t.planner = ⟨some (PlanJob.fresh w .ticket), none, [], none⟩ ∧ t.store = s.store) ∧
  (∀ (s : State) (w : SheetSlot) (sw : Sheet) (kw : Ticket), s.planner.job = none → s.planner.waiting = some w →
    s.sheet w = some sw → sw.ticket = some kw → kw.dest = .proof ∨ s.window.pressMode ≠ .off →
    s.takeWaiting = ({ s with planner := ⟨some { PlanJob.fresh w .roster with
          rosterIndex := sw.start, grids := frameGrids sw.frames }, none, [],
        if frameGrids sw.frames = [] then none else some ⟨0, 0, 0⟩⟩ }).runPass (frameSteps sw.frames)) ∧
  (∀ (s : State) (w : SheetSlot) (sw : Sheet) (kw : Ticket), s.planner.job = none → s.planner.waiting = some w →
    s.sheet w = some sw → sw.ticket = some kw → kw.dest = .press → s.window.pressMode = .off → sw.state = .planning →
    sw.ending = none → sw.report = .none → s.linkHolds w = false → s.writerServes w = false →
    PlanningEnded s s.takeWaiting w s.control.queue .refused .pressOff) ∧
  ∀ s : State, s.planner.job ≠ none ∨ s.planner.waiting = none → s.takeWaiting = s

/-- A layout read completes with the entries of a unit. The first entry that fails refuses the order with its detail;
with more entries wanted the next read waits to start; a layout whose panels do not close is refused UNBALANCED; a layout
that passes begins the placement pass, which goes on to a read or to its end. A layout of RULE entries alone places them
in order, each with its rectangle, its colour and the sheet as its clip, and the slot is READY. Each entry is read from
its 32 bytes and checked in order: KIND, NESTING above depth 6, UNBALANCED, GRID outside 1 to 16, UNSET, TOO_LARGE above
64 places. The pass starts with an empty frame stack, the cursor at the first grid and the ticket's roster index. PANEL
pushes the frame of summed origin and cut clip, END pops it; RULE, BANNER, GRID and INSET make their frame placements
under the frame in effect, a GRID with its pitches; a GRID's places follow row by row, a banner's text is empty or read
(assumption 37). At its end the counts are added, the carry is marked, and the planner is free. -/
def Obligations.LayoutReadCompletes : Prop :=
  (∀ (s : State) (j : PlanJob) (sh : Sheet) (k : Ticket) (bs : List Byte) (n : Nat), PlansAlone s j sh →
    sh.ticket = some k → j.stage = .layout → j.inFlight = true → bs.length = 32 * n → 1 ≤ n → n ≤ 8 →
    j.entries.length + n ≤ k.entryCount →
    ∃ t, exec (.layoutReadDone .current (.data bs)) s = .next t ∧ PlanFrame s t ∧
      (∀ d, s.validate j.depth j.capacity (layoutEntries bs n) = .error d →
        PlanningEnded s t j.slot s.control.queue .refused d) ∧
      ∀ depth cap, s.validate j.depth j.capacity (layoutEntries bs n) = .ok (depth, cap) →
        (j.entries.length + n < k.entryCount →
          t.planner = { s.planner with job := some { j with
            entries := j.entries ++ layoutEntries bs n, depth := depth, capacity := cap, inFlight := false } } ∧
          t.control = s.control ∧ t.store = s.store) ∧
        (j.entries.length + n = k.entryCount → 0 < depth →
          PlanningEnded s t j.slot s.control.queue .refused .unbalanced) ∧
        (j.entries.length + n = k.entryCount → depth = 0 → PassRests t j.slot ∧
          ∃ sh' more, t.sheet j.slot = some sh' ∧ sh'.cells = sh.cells ++ more ∧ sh'.ticket = some k)) ∧
  (∀ (s : State) (j : PlanJob) (sh : Sheet) (k : Ticket) (bs : List Byte) (n : Nat)
    (rules : List (Int × Int × Nat × Nat × Colour)), PlansAlone s j sh →
    sh.ticket = some k → j.stage = .layout → j.inFlight = true → bs.length = 32 * n → 1 ≤ n → n ≤ 8 →
    j.entries = [] → j.depth = 0 → n = k.entryCount → sh.frames = [] → sh.pendingBuilds = 0 →
    (layoutEntries bs n) = rules.map (fun q => .rule q.1 q.2.1 q.2.2.1 q.2.2.2.1 q.2.2.2.2) →
    ∃ t sh', exec (.layoutReadDone .current (.data bs)) s = .next t ∧ t.sheet j.slot = some sh' ∧ sh'.state = .ready ∧
      sh'.frames = rules.map (fun q =>
        .rule ⟨⟨q.1, q.2.1, q.2.2.1, q.2.2.2.1⟩, q.2.2.2.2, ⟨0, 0, k.width, k.height⟩⟩) ∧
      sh'.cells = sh.cells ∧ t.planner = ⟨none, none, [], none⟩ ∧ t.store = s.store ∧ PlanFrame s t) ∧
  (∀ (s : State) (depth cap : Nat), LayoutChecks s depth cap) ∧
  (∀ bs : List Byte, LayoutEntryReads bs) ∧
  (∀ (bs : List Byte) (n i : Nat), i < n → (layoutEntries bs n).length = n ∧
    (layoutEntries bs n)[i]? = some (layoutEntry ((bs.drop (32 * i)).take 32))) ∧
  (∀ (s : State) (j : PlanJob) (k : Ticket) (bs : List Byte) (n cap : Nat) (all : List LayoutEntry),
    s.planner.job = some j → s.ticketOf j.slot = some k → j.stage = .layout → j.inFlight = true → bs.length = 32 * n →
    1 ≤ n → n ≤ 8 → all = j.entries ++ layoutEntries bs n → all.length = k.entryCount →
    s.validate j.depth j.capacity (layoutEntries bs n) = .ok (0, cap) →
    exec (.layoutReadDone .current (.data bs)) s = .next (({ s.endUnit with
      planner := ⟨some { PlanJob.fresh j.slot .roster with
          rosterIndex := k.rosterStart, grids := entryGrids all }, s.planner.waiting, [],
        if entryGrids all = [] then none else some ⟨0, 0, 0⟩⟩ }).runPass (entrySteps 0 all)).takeWaiting) ∧
  (∀ (i : Nat) (rest : List LayoutEntry), LayoutSteps i rest) ∧
  (∀ (fs : List Frame) (f : Frame), frameSteps [] = [] ∧ frameSteps (fs ++ [f]) = frameSteps fs ++ (match f with
    | .grid g => gridSteps fs.length g.rows g.cols
    | .inset _ => [.inset fs.length]
    | .banner _ | .rule _ => [])) ∧
  (∀ (s : State) (j : PlanJob) (sh : Sheet) (k : Ticket) (f : PanelFrame), Placing s j sh k f →
    (∀ rest, EntriesPlaced s j sh f rest) ∧
    (∀ i b rest, sh.frames[i]? = some (.banner b) → TextPlaced s j sh rest b i) ∧
    PassEnds s (s.runPass []) j sh k) ∧
  ∀ c d : Counts, CountsAdded c d (c.add d)

/-- A roster read completes: its entries are at hand and the placement pass goes on to a read or to its end, the cells
placed before kept. Where the pass waits at a place of a grid, the first entry read decides it: a STUDENT or STAFF entry
with a subject address makes the planner wait to read the subject record, the cell carrying the roster index. At every
place of a grid, a row gets the smaller of its columns and the entries left, and a place beyond them is passed over; a
SPACER and an unknown role give an EMPTY cell, the second with SUBJECT_INVALID, and a subject address of 0 a PLACEHOLDER
with it; the cell's rectangle comes from the grid's pitches, a short last row moved under CENTRE; and a filled cell moves
the roster index and the cursor on, with the carries of its grid. An INSET's one cell is decided in the same way and
moves neither. That SUBJECT_INVALID adds nothing to the placeholders count at an EMPTY cell is assumption 50. -/
def Obligations.RosterReadCompletes : Prop :=
  (∀ (s : State) (j : PlanJob) (sh : Sheet) (k : Ticket) (bs : List Byte) (n : Nat), PlansAlone s j sh →
    sh.ticket = some k → j.stage = .roster → j.inFlight = true → bs.length = 16 * n → 1 ≤ n → n ≤ 16 →
    j.rosterIndex + n ≤ k.rosterCount →
    ∃ t sh' more, exec (.rosterReadDone .current (.data bs)) s = .next t ∧ PlanFrame s t ∧ PassRests t j.slot ∧
      t.sheet j.slot = some sh' ∧ sh'.cells = sh.cells ++ more ∧ sh'.ticket = some k ∧
      t.sheet (otherSlot j.slot) = s.sheet (otherSlot j.slot)) ∧
  (∀ (s : State) (j : PlanJob) (sh : Sheet) (k : Ticket) (bs : List Byte) (n i row col : Nat) (g : GridFrame)
    (rest : List PlaceStep) (e : RosterEntry) (more : List RosterEntry) (role : Role), PlansAlone s j sh →
    sh.ticket = some k → j.stage = .roster → j.inFlight = true → bs.length = 16 * n → 1 ≤ n → n ≤ 16 →
    j.rosterIndex + n ≤ k.rosterCount → j.steps = .cell i row col :: rest → sh.frames[i]? = some (.grid g) → col < g.cols →
    col = 0 ∨ col < j.rowUsed → rosterEntries bs n = e :: more → e.subject ≠ 0#64 →
    (e.role = 0 ∧ role = .student) ∨ (e.role = 1 ∧ role = .staff) →
    ∃ t j' seed, exec (.rosterReadDone .current (.data bs)) s = .next t ∧ t.planner.job = some j' ∧
      j'.stage = .subject e.subject seed ∧ j'.inFlight = false ∧ j'.steps = rest ∧ j'.roster = more ∧
      j'.rosterIndex = j.rosterIndex ∧ seed.rosterIndex = some j.rosterIndex ∧ seed.role = role ∧ seed.frame = i ∧
      seed.profile = g.profile ∧ seed.clip = g.clip ∧ t.control = s.control ∧ t.store = s.store ∧
      ∀ p set used, s.profiles[g.profile] = some p → s.glyphs[p.glyphSet] = some set →
        used = (if col = 0 then min g.cols (k.rosterCount - j.rosterIndex) else j.rowUsed) →
        seed = gridSeed g p set row col used j.rosterIndex i role) ∧
  (∀ (s : State) (j : PlanJob) (k : Ticket) (bs : List Byte) (n : Nat), s.planner.job = some j →
    s.ticketOf j.slot = some k → j.stage = .roster → j.inFlight = true → bs.length = 16 * n → 1 ≤ n → n ≤ 16 →
    j.rosterIndex + n ≤ k.rosterCount → exec (.rosterReadDone .current (.data bs)) s = .next (({ s.endUnit with
      planner := { s.planner with job := some { j with roster := rosterEntries bs n, inFlight := false } } }).runPass
        j.steps).takeWaiting) ∧
  (∀ (bs : List Byte) (n i : Nat), i < n → (rosterEntries bs n).length = n ∧
    (rosterEntries bs n)[i]? = some ⟨addrAt bs (16 * i), u8 bs (16 * i + 8)⟩) ∧
  ∀ (s : State) (j : PlanJob) (sh : Sheet) (k : Ticket) (f : PanelFrame), Placing s j sh k f →
    (∀ g i row col used rest, sh.frames[i]? = some (.grid g) →
      used = (if col = 0 then min g.cols (k.rosterCount - j.rosterIndex) else j.rowUsed) →
      GridPlace s j sh rest g i row col used) ∧
    ∀ g i p set rest, sh.frames[i]? = some (.inset g) → s.profiles[g.profile] = some p →
      s.glyphs[p.glyphSet] = some set → InsetPlaced s j sh rest g i p set

/-- A subject record read completes: the cell is placed after the cells placed before it, with the record's subject
number, picture serial and names, each name cut to its first 20 codes, and the placement pass goes on. It is a
PLACEHOLDER with SUBJECT_INVALID for a subject number of 0 or above 16777215, a status above 1, or a PRESENT picture
whose raster is not valid; a PLACEHOLDER with PLACEHOLDER_ABSENT for an ABSENT one; and otherwise a PORTRAIT with a tile
reference, whose fit notes join the cell's own: the reference and fit of an earlier PORTRAIT cell of the sheet with its
subject, profile and serial, and otherwise the store's answer to a lookup with that key and its source. The raster's
checks and the marks in effect are stated from the record's bytes. The cell's planning notes and its placeholder kind
join the planning counts, and a grid cell moves the roster index and the cursor. -/
def Obligations.SubjectReadCompletes : Prop :=
  ∀ (s : State) (j : PlanJob) (sh : Sheet) (k : Ticket) (a : Addr) (seed : CellSeed) (bs : List Byte), PlansAlone s j sh →
    sh.ticket = some k → j.stage = .subject a seed → j.inFlight = true → bs.length = 128 →
    ∃ (t : State) (sh' : Sheet) (c : Cell) (more : List Cell) (own : Notes) (u : State) (j1 : PlanJob) (sh1 : Sheet),
      exec (.subjectReadDone .current (.data bs)) s = .next t ∧ PlanFrame s t ∧
      PassRests t j.slot ∧ t.sheet j.slot = some sh' ∧ sh'.cells = sh.cells ++ c :: more ∧ sh'.ticket = some k ∧
      c.subject = u32 bs 0 ∧ c.serial = byteAt bs 4 ∧ c.rect = seed.rect ∧ c.clip = seed.clip ∧
      c.profile = seed.profile ∧ c.rosterIndex = seed.rosterIndex ∧ c.role = seed.role ∧
      c.notes = own ||| ((c.fit.map (·.notes)).getD 0#11) ∧ c.given = codesAt bs 34 (min 20 (u8 bs 32)) ∧
      c.family = codesAt bs 74 (min 20 (u8 bs 33)) ∧
      hasNote own .captionClipped = decide (20 < u8 bs 32 ∨ 20 < u8 bs 33) ∧
      hasNote own .offSheet = rectEmpty (rectMeet seed.rect seed.clip) ∧
      (u32 bs 0 = 0 ∨ 16777215 < u32 bs 0 ∨ 1 < u8 bs 5 ∨ (u8 bs 5 = 0 ∧ ∀ form, ¬ RasterValid bs form) →
        c.kind = .placeholder ∧ c.ref = none ∧ hasNote own .subjectInvalid = true ∧
        hasNote own .placeholderAbsent = false ∧ hasNote own .marksIgnored = false ∧ hasNote own .unmarked = false) ∧
      (0 < u32 bs 0 → u32 bs 0 ≤ 16777215 → u8 bs 5 = 1 → c.kind = .placeholder ∧ c.ref = none ∧
        hasNote own .subjectInvalid = false ∧ hasNote own .placeholderAbsent = true ∧
        hasNote own .marksIgnored = false ∧ hasNote own .unmarked = false) ∧
      (∀ form, 0 < u32 bs 0 → u32 bs 0 ≤ 16777215 → u8 bs 5 = 0 → RasterValid bs form →
        c.kind = .portrait ∧ c.ref ≠ none ∧ hasNote own .subjectInvalid = false ∧
        hasNote own .placeholderAbsent = false ∧
        ∃ m ignored, MarksTaken bs m ignored ∧
          TileClaimed s u j.slot sh.cells c ⟨addrAt bs 8, u16 bs 16, u16 bs 18, u32 bs 20, form, m⟩ ∧
          c.source = some ⟨addrAt bs 8, u16 bs 16, u16 bs 18, u32 bs 20, form, m⟩ ∧
          hasNote own .marksIgnored = ignored ∧ hasNote own .unmarked = (m == .none)) ∧
      t = (u.runPass j.steps).takeWaiting ∧ u.planner.job = some j1 ∧ u.sheet j.slot = some sh1 ∧
      sh1.cells = sh.cells ++ [c] ∧ sh1.frames = sh.frames.modify seed.frame (fun f => match f with
        | .grid g => .grid { g with cellCount := g.cellCount + 1 }
        | .inset g => .inset { g with cell := sh.cells.length }
        | .banner b => .banner b
        | .rule r => .rule r) ∧
      u.planner.frameStack = s.planner.frameStack ∧ j1.slot = j.slot ∧ j1.roster = j.roster ∧ j1.grids = j.grids ∧
      j1.rowUsed = j.rowUsed ∧
      j1.counts = j.counts.add { Counts.zero with
        placeholders := if c.kind = .placeholder then 1 else 0
        marksIgnored := if hasNote own .marksIgnored then 1 else 0
        unmarked := if hasNote own .unmarked then 1 else 0
        clippedCaptions := if hasNote own .captionClipped then 1 else 0
        offSheet := if hasNote own .offSheet then 1 else 0 } ∧
      (seed.rosterIndex = none → j1.rosterIndex = j.rosterIndex ∧ j1.passedLast = j.passedLast ∧
        u.planner.cursor = s.planner.cursor) ∧
      ∀ cur cur' passed, seed.rosterIndex ≠ none → s.planner.cursor = some cur → CursorMoved j.grids cur cur' passed →
        j1.rosterIndex = j.rosterIndex + 1 ∧ j1.passedLast = (j.passedLast || passed) ∧ u.planner.cursor = some cur'

/-- A banner text read completes: the codes are kept with the banner's frame placement, in order, and the placement pass
goes on. -/
def Obligations.BannerTextReadCompletes : Prop :=
  ∀ (s : State) (j : PlanJob) (sh : Sheet) (k : Ticket) (a : Addr) (n i : Nat) (b : BannerFrame) (bs : List Byte),
    PlansAlone s j sh → sh.ticket = some k → j.stage = .text a n i → j.inFlight = true → bs.length = 2 * n →
    sh.frames[i]? = some (.banner b) → (∀ m, .text m ∈ j.steps → m ≠ i) →
    ∃ t sh' more, exec (.bannerTextReadDone .current (.data bs)) s = .next t ∧ PlanFrame s t ∧ PassRests t j.slot ∧
      t.sheet j.slot = some sh' ∧ sh'.frames[i]? = some (.banner { b with text := codesAt bs 0 n }) ∧
      sh'.cells = sh.cells ++ more ∧ sh'.ticket = some k ∧ t.sheet (otherSlot j.slot) = s.sheet (otherSlot j.slot) ∧
      t = ((s.endUnit.passWith { j with inFlight := false } s.planner.frameStack s.planner.cursor { sh with
        frames := sh.frames.set i (.banner { b with text := codesAt bs 0 n }) }).runPass j.steps).takeWaiting

/-! ## Building tiles -/

/-- A build starts with the Builder IDLE, an entry at the head of the queue and the hold FREE: the entry becomes the
current build with its fit computed and the runs of source bytes that it reads, one for each row of its source area from
the top, and byte j of the pixel at column x and row y is read at raster address + y × pitch + x × bytes per pixel + j
(that the runs are read in this order is assumption 7). A build that needs no source byte ends its unit at once. The first
granule of a tile whose first row needs no source is written at the start and takes a pending TILE poison (that moment is
assumption 11). Otherwise the build waits (assumption 1). -/
def Obligations.BuildStarts : Prop :=
  (∀ (s : State) (e : BuildEntry) (rest : List BuildEntry), s.builder.current = none → s.builder.queue = e :: rest →
    s.port.hold = .free →
    ∃ t b, exec .buildStart s = .next t ∧ t.builder = ⟨rest, some b⟩ ∧ b.entry = e ∧
      b.fit = computeFit e.source (s.profileOf e.key.profile) ∧ b.got = [] ∧ b.failing = false ∧
      (sourceArea b.fit (s.profileOf e.key.profile) = none → b.ranges = []) ∧
      (∀ a bpp, sourceArea b.fit (s.profileOf e.key.profile) = some a → bpp = (if e.source.form = .rgb8 then 3 else 1) →
        b.ranges.length = a.rows ∧ rangeBytes b.ranges = a.rows * (a.cols * bpp) ∧
        ∀ x y j, a.x ≤ x → x < a.x + a.cols → a.y ≤ y → y < a.y + a.rows → j < bpp →
          e.source.addr.toNat + (y * e.source.pitch + x * bpp + j) < 2 ^ 64 →
          (rangeAddrs b.ranges)[((y - a.y) * a.cols + (x - a.x)) * bpp + j]? =
            some (e.source.addr + BitVec.ofNat 64 (y * e.source.pitch + x * bpp + j))) ∧
      b.portDone = decide (rangeBytes b.ranges = 0) ∧
      b.wrote = decide (firstRowBytes e.source b.fit (s.profileOf e.key.profile) = 0) ∧
      b.poisoned = (b.wrote && s.check.poison == .tile) ∧
      t.check = { s.check with poison := if b.poisoned then .none else s.check.poison } ∧
      t.port = { s.port with outstanding := s.port.outstanding + if b.portDone then 0 else 1 } ∧
      t.store = s.store ∧ t.control = s.control ∧ t.window = s.window ∧ t.walker = s.walker ∧ t.planner = s.planner ∧
      t.profiles = s.profiles ∧ t.composer = s.composer ∧ t.out = s.out ∧ t.pending = s.pending) ∧
  ∀ s : State, s.builder.current ≠ none ∨ s.builder.queue = [] ∨ s.port.hold ≠ .free → exec .buildStart s = .next s

/-- A source read completes: its bytes join those read, which lie in the order of the build's runs (assumption 7), and the
last byte wanted ends the build's unit. After a bus error the build is failing, the reads that follow are discarded, and
the last in flight ends the unit. -/
def Obligations.SourceReadCompletes : Prop :=
  (∀ (s : State) (b : Build) (bs : List Byte) (last : Bool) (wanted : Nat), s.builder.current = some b →
    b.portDone = false → b.failing = false → wanted = rangeBytes b.ranges →
    bs ≠ [] → b.got.length + bs.length ≤ wanted →
    ∃ t b', exec (.sourceReadDone .current (.data bs) last) s = .next t ∧
      t.builder = { s.builder with current := some b' } ∧ b'.entry = b.entry ∧ b'.fit = b.fit ∧ b'.ranges = b.ranges ∧
      b'.got = b.got ++ bs ∧ b'.failing = false ∧ b'.portDone = decide (b.got.length + bs.length = wanted) ∧
      t.port = (if b'.portDone then s.endUnit.port else s.port) ∧ t.store = s.store ∧ t.control = s.control ∧
      t.out = s.out ∧ SettingsKept s t) ∧
  (∀ (s : State) (b : Build) (r : ReadResult), s.builder.current = some b → b.portDone = false →
    b.failing = true ∨ r = .busError →
    exec (.sourceReadDone .current r false) s =
      .next { s with builder := { s.builder with current := some { b with failing := true } } } ∧
    exec (.sourceReadDone .current r true) s =
      .next { s.endUnit with builder := { s.builder with current := some { b with failing := true, portDone := true } } })

/-- The last tile row is written: the slot becomes READY with the key, the tile and the fit record, a store slot keeping
its holders and its set's LRU mark. Each pixel of the tile is the pad colour or the blend about its sample in the source
raster read, halved as often as the fit says, its three bytes at its place row by row, and the tile's last granule of 8
bytes is filled out with zero bytes; no correctable error stands in it (assumption 51); each cell of each holder sheet
that carries the reference receives the fit record, with one count for each note it did not carry; each holder's
pending-build count falls by one and a FILLING sheet with none left is READY; the Builder is IDLE. -/
def Obligations.BuildCompletes : Prop :=
  ∀ (s : State) (b : Build), s.builder.current = some b → b.portDone = true → b.failing = false →
    ∃ t tile, exec .buildComplete s = .next t ∧ t.builder = { s.builder with current := none } ∧
      tile = wholeGranules (tileBytes b.entry.source b.fit (s.profileOf b.entry.key.profile) b.got) ∧
      TileBuilt b.entry.source b.fit (s.profileOf b.entry.key.profile) b.got tile ∧
      (∀ i w, b.entry.ref = .store i w → t.store = s.store.setSlot i w { s.store.slot i w with
        state := .ready, key := some b.entry.key, tile := tile, fit := some b.fit.record, poisoned := b.poisoned }) ∧
      (∀ p i, b.entry.ref = .scratch p i → t.store = s.store.setScratch p i
        ⟨.ready, some b.entry.key, tile, some b.fit.record, b.poisoned⟩) ∧
      (∀ sl sh, s.sheet sl = some sh → sl ∈ s.store.holdersOf b.entry.ref →
        t.sheet sl = some { sh with
          cells := sh.cells.map fun c => if c.ref = some b.entry.ref then
            { c with fit := some b.fit.record, notes := c.notes ||| b.fit.record.notes } else c
          pendingBuilds := sh.pendingBuilds - 1
          state := if sh.state = .filling ∧ sh.pendingBuilds ≤ 1 then .ready else sh.state } ∧
        (∀ n, n ∈ [Note.scaleClamped, Note.shifted, Note.padded] →
          ∀ r, s.orderResults sl = some r → ∃ r', t.orderResults sl = some r' ∧
          (match n with
            | .scaleClamped => r'.counts.clamped
            | .shifted => r'.counts.shifted
            | _ => r'.counts.padded) = min 65535 ((match n with
            | .scaleClamped => r.counts.clamped
            | .shifted => r.counts.shifted
            | _ => r.counts.padded) + (sh.cells.filter fun c => decide (c.ref = some b.entry.ref) &&
              hasNote b.fit.record.notes n && !hasNote c.notes n).length))) ∧
      (∀ sl, sl ∉ s.store.holdersOf b.entry.ref → t.sheet sl = s.sheet sl) ∧
      t.port = s.port ∧ t.window = s.window ∧ t.walker = s.walker ∧ t.profiles = s.profiles ∧
      t.composer = s.composer ∧ t.out = s.out ∧ t.check = { s.check with
        standing := s.check.standing.filter fun l => locTileRef l ≠ some b.entry.ref }

/-- A build fails: a store slot or a scratch slot becomes EMPTY, its scratch key leaves the directory, and LRU marks stay;
each cell that carried the reference in each sheet that held it becomes a PLACEHOLDER with no reference and the note
PICTURE_UNREADABLE, one count each; each holder's pending-build count falls by one; the Builder is IDLE. That a unit
which has not ended before ends with the failure is assumption 16. -/
def Obligations.BuildFails : Prop :=
  ∀ (s : State) (b : Build), s.builder.current = some b → b.failing = true →
    ∃ t, exec .buildFailure s = .next t ∧ t.builder = { s.builder with current := none } ∧
      (∀ i w, b.entry.ref = .store i w → t.store = s.store.setSlot i w ⟨.empty, none, ⟨false, false⟩, [], none, false⟩) ∧
      (∀ p i, b.entry.ref = .scratch p i → (t.store.pool p).slots[i] = ⟨.empty, none, [], none, false⟩ ∧
        (∀ j, j ≠ i → (t.store.pool p).slots[j] = (s.store.pool p).slots[j]) ∧
        (∀ d ∈ (t.store.pool p).directory, d ∈ (s.store.pool p).directory ∧ d.2 ≠ i) ∧ t.store.sets = s.store.sets) ∧
      (∀ sl sh, s.sheet sl = some sh → sl ∈ s.store.holdersOf b.entry.ref →
        t.sheet sl = some { sh with
          cells := sh.cells.map fun c => if c.ref = some b.entry.ref then
            { c with kind := .placeholder, ref := none, notes := c.notes ||| 0x080#11 } else c
          pendingBuilds := sh.pendingBuilds - 1
          state := if sh.state = .filling ∧ sh.pendingBuilds ≤ 1 then .ready else sh.state } ∧
        ∀ r, s.orderResults sl = some r → ∃ r', t.orderResults sl = some r' ∧ r'.counts.placeholders =
          min 65535 (r.counts.placeholders + (sh.cells.filter fun c => decide (c.ref = some b.entry.ref)).length)) ∧
      (∀ sl, sl ∉ s.store.holdersOf b.entry.ref → t.sheet sl = s.sheet sl) ∧
      t.port = (if b.portDone then s.port else s.endUnit.port) ∧
      t.window = (if b.portDone then s.window else s.endUnit.window) ∧ t.walker = s.walker ∧ t.profiles = s.profiles ∧
      t.composer = s.composer ∧ t.check = s.check ∧ t.out = s.out

/-! ## Composing -/

/-- A READY sheet enters COMPOSING when no sheet is COMPOSING, the other slot holds no sheet in PLANNING, FILLING or
READY that ranks first, and the link is CLOSED for a PRESS sheet. Its captions and banners are fitted: each code by its
own glyph, the substitute or none; a caption on one line, or split into two; each line clipped with the ellipsis; each
new note joined and counted, a correctable error that stands in a glyph read being found again (assumption 51; the
ellipsis and the joining space raise GLYPH_SUBSTITUTED by assumption 23, and a space that the split drops raises none,
assumption 39; an ellipsis substituted and too wide to be drawn raises it too, assumption 53; stated for sets with no
poisoned glyph). Buffer X, where it is EMPTY, is painted at once and takes a pending BAND poison at that moment
(assumption 11). A PROOF attempt goes to the Proof Writer; a PRESS attempt takes the link, its mode latched, which waits
for READY; under OFF it is REFUSED PRESS_OFF. A sheet that another holds back, and a PRESS sheet while the link is not
CLOSED, does not enter (assumption 1); a sheet that ranks second enters while the first is CLOSING or FINISHED. -/
def Obligations.SheetEntersComposing : Prop :=
  (∀ (s : State) (sl : SheetSlot) (sh : Sheet) (k : Ticket), s.sheet sl = some sh → sh.state = .ready →
    sh.first = true ∨ (∀ o, s.sheet (otherSlot sl) = some o → o.state = .closing ∨ o.state = .finished) →
    sh.ticket = some k → (k.dest = .press → s.link.state = .closed) →
    (∀ o, s.sheet (otherSlot sl) = some o → o.state ≠ .composing ∧
      (o.first = false ∨ o.state = .closing ∨ o.state = .finished)) →
    (k.dest = .proof → ∃ t, exec .sheetEnterComposing s = .next t ∧ ComposingEntered s t sl sh k ∧ t.link = s.link ∧
      (s.writer.attempt = none → t.writer = ⟨.waiting, some ⟨sl, sh.attempt⟩, 0, false, false, none⟩) ∧
      (s.writer.attempt ≠ none → t.writer = { s.writer with queued := some ⟨sl, sh.attempt⟩ })) ∧
    (k.dest = .press → s.window.pressMode ≠ .off → s.bandFull ⟨sl, sh.attempt⟩ 0 = false →
      ∃ t, exec .sheetEnterComposing s = .next t ∧ ComposingEntered s t sl sh k ∧ t.writer = s.writer ∧
        t.link = ⟨.awaitReady, some ⟨⟨sl, sh.attempt⟩, k.sheetId, k.width, k.height, (k.height + 63) / 64,
          s.window.pressMode⟩, 0, none, false, false, none, none, none, none,
          if s.window.pressMode = .loop ∨ s.link.ready = true then none else some (1000 * s.link.config.waitLimit),
          s.link.config, s.link.ready⟩) ∧
    (k.dest = .press → s.window.pressMode = .off → sh.ending = none → sh.report = .none → s.link.held = none →
      s.writerServes sl = false → ∃ t, exec .sheetEnterComposing s = .next t ∧ t.sheet sl = none ∧ t.link = s.link ∧
        t.writer = s.writer ∧ t.composer.attempt = none ∧ t.composer.state = .idle ∧ t.out = s.out ∧
        t.control.queue.map (fun e => (e.slot, e.finished, e.results.outcome, e.results.detail, e.results.attemptsUsed)) =
          s.control.queue.map fun e => if e.slot = some sl then
            (none, true, .refused, .pressOff, min 65535 (e.results.attemptsUsed + 1))
            else (e.slot, e.finished, e.results.outcome, e.results.detail, e.results.attemptsUsed))) ∧
  ∀ s : State, (∀ sl sh, s.sheet sl = some sh → sh.state = .ready →
      (sh.ticket.map (·.dest) = some .press ∧ s.link.state ≠ .closed) ∨ ∃ o, s.sheet (otherSlot sl) = some o ∧
      (o.state = .composing ∨ (o.first = true ∧ (o.state = .planning ∨ o.state = .filling ∨ o.state = .ready)))) →
    exec .sheetEnterComposing s = .next s

/-- The painting of a band completes: its buffer is FULL with its pixels, the last granule filled out with zeros and the
bytes beyond it as they were; a correctable error that stands in a tile or glyph read is found again (assumption 51);
the next band index rises and the next painting starts or waits for its buffer; after the last band the Composer is IDLE
and the sheet in CLOSING. The link opens a sheet at its FULL band 0 with READY high, and sends a due band now or after
the send in flight, counting a late band. It does not send early: in OPENING, in STREAMING with no grace timer running,
and in AWAIT_READY at a later band (READY low, or the sheet would be open) the buffer is FULL, and the link, the
messages sent and the queue stay. A painting that reads a poisoned granule does not complete (assumption 11), and a
Composer that is not painting has no painting to complete (assumption 1). -/
def Obligations.BandPainted : Prop :=
  (∀ (s : State) (a : Attempt) (sh : Sheet) (k : Ticket) (b : Nat), s.composer.state = .painting →
    s.composer.attempt = some a → s.sheet a.slot = some sh → sh.ticket = some k → s.composer.nextBand = b →
    (∀ h, s.link.held = some h → h.attempt = a → s.link.state = .awaitReady → s.link.nextBand = 0 ∧
      (b = 0 ∨ (s.link.ready = false ∧ h.mode = .live))) →
    paintingFails (s.composer.buf (bufferFor b)).poisoned b (s.bandOps sh k b) = false →
    ∃ t n, exec .bandPaintDone s = .next t ∧ n = 3 * (k.width * min 64 (k.height - 64 * b)) ∧
      (bandPixels k b (s.bandOps sh k b)).length = n ∧
      (∀ i, (t.composer.buf (bufferFor b)).byte i = if i < n then (bandPixels k b (s.bandOps sh k b)).getD i 0#8
        else if i < (n + 7) / 8 * 8 then 0#8 else (s.composer.buf (bufferFor b)).byte i) ∧
      FoundAgain s t (s.paintingReads sh k) ∧
      (t.composer.buf (bufferFor b)).tag = (s.composer.buf (bufferFor b)).tag ∧
      (b + 1 = (k.height + 63) / 64 → t.composer.state = .idle ∧ t.composer.attempt = none ∧
        t.sheet a.slot = some { sh with state := .closing } ∧
        t.composer.buf (bufferFor (b + 1)) = s.composer.buf (bufferFor (b + 1))) ∧
      (b + 1 ≠ (k.height + 63) / 64 → t.composer.attempt = some a ∧ t.composer.nextBand = b + 1 ∧
        t.sheet a.slot = some sh ∧
        ((s.composer.buf (bufferFor (b + 1))).state = .empty → t.composer.state = .painting ∧
          (t.composer.buf (bufferFor (b + 1))).state = .filling ∧
          (t.composer.buf (bufferFor (b + 1))).tag = some ⟨a, b + 1, min 64 (k.height - 64 * (b + 1))⟩) ∧
        ((s.composer.buf (bufferFor (b + 1))).state ≠ .empty → t.composer.state = .waiting ∧
          t.composer.buf (bufferFor (b + 1)) = s.composer.buf (bufferFor (b + 1)))) ∧
      (s.link.held.map (·.attempt) ≠ some a → t.link = s.link ∧ t.out = s.out ∧ t.control.queue = s.control.queue ∧
        (t.composer.buf (bufferFor b)).state = .full) ∧
      (∀ h, s.link.held = some h → h.attempt = a → s.link.state = .opening ∨ s.link.state = .closing ∨
        (s.link.state = .streaming ∧ (s.link.graceTimer = none ∨ s.link.nextBand ≠ b)) ∨
        (s.link.state = .awaitReady ∧ b ≠ 0) → t.link = s.link ∧ t.out = s.out ∧ t.control.queue = s.control.queue ∧
        (t.composer.buf (bufferFor b)).state = .full) ∧
      (∀ h l, s.link.held = some h → h.attempt = a → s.link.state = .awaitReady → b = 0 →
        (s.composer.buf .x).tag = some ⟨a, 0, l⟩ →
        (h.mode = .live → s.link.ready = true → (t.composer.buf .x).state = .full ∧
          t.link = { s.link with state := .opening, waitTimer := none, acceptTimer := some s.link.config.acceptLimit } ∧
          t.out = { s.out with
            pressMessages := s.out.pressMessages ++ [.opened h.sheetId h.width h.height h.bands] }) ∧
        (h.mode = .live → s.link.ready = false → t.link = s.link ∧ t.out = s.out ∧ (t.composer.buf .x).state = .full) ∧
        (h.mode = .loop → s.link.nextBand = 0 → t.link = { s.link with
            state := .streaming, waitTimer := none, acceptTimer := none, sending := some 0, due := false, nextBand := 1
            bandTimer := some s.link.config.bandPeriod } ∧ t.out = s.out ∧ (t.composer.buf .x).state = .sending)) ∧
      (∀ h g, s.link.held = some h → h.attempt = a → s.link.state = .streaming → s.link.graceTimer = some g →
        s.link.nextBand = b →
        (∀ r, s.orderResults a.slot = some r → ∃ r', t.orderResults a.slot = some r' ∧
          r'.counts.lateBands = min 65535 (r.counts.lateBands + 1)) ∧
        (s.link.sending = none → t.link = { s.link with
            graceTimer := none, sending := some b, due := false, nextBand := b + 1
            bandTimer := some s.link.config.bandPeriod } ∧ (t.composer.buf (bufferFor b)).state = .sending) ∧
        (s.link.sending ≠ none → t.link = { s.link with graceTimer := none, due := true } ∧
          (t.composer.buf (bufferFor b)).state = .full)) ∧
      t.store = s.store ∧ t.writer = s.writer ∧ t.port = s.port ∧ t.planner = s.planner) ∧
  (∀ (s : State) (a : Attempt) (sh : Sheet) (k : Ticket), s.composer.attempt = some a → s.sheet a.slot = some sh →
    sh.ticket = some k → paintingFails (s.composer.buf (bufferFor s.composer.nextBand)).poisoned s.composer.nextBand
      (s.bandOps sh k s.composer.nextBand) = true → exec .bandPaintDone s = .next s) ∧
  ∀ s : State, s.composer.state ≠ .painting → exec .bandPaintDone s = .next s

/-! ## Errors in card memory -/

/-- A correctable error at a place that a block can be reading is logged while the log is unlocked: an empty record
takes it, the count rises by one up to 255, and INTEGRITY is raised; a locked log stays. Locked or not, the error stands
there until its granule is next written, which the merge of a painting does at once (assumption 51). The reads that can
be in progress at a band buffer are the link's send and the Writer's band write of it, and the Composer's painting of it
where the painting makes a merge, some painting of the band covering a pixel (assumption 22); an error, correctable or
not, at a place that no block reads is no event (assumption 1). -/
def Obligations.CorrectableErrorLogged : Prop :=
  (∀ (s : State) (loc : CheckLoc) (by_ : Reader), s.canRead loc by_ = true → s.check.locked = false →
    exec (.correctableError loc by_) s = .next { s with
      check := { s.check with
        correctable := some (s.check.correctable.getD loc), count := BitVec.ofNat 8 (min 255 (s.check.count.toNat + 1))
        standing := if (by_ = .composer ∧ (loc = .band .x ∨ loc = .band .y)) ∨ loc ∈ s.check.standing then
          s.check.standing else s.check.standing ++ [loc] }
      window := { s.window with events := s.window.events ||| 0x020#9 } }) ∧
  (∀ (s : State) (loc : CheckLoc) (by_ : Reader), s.canRead loc by_ = true → s.check.locked = true →
    exec (.correctableError loc by_) s = .next { s with check := { s.check with
      standing := if (by_ = .composer ∧ (loc = .band .x ∨ loc = .band .y)) ∨ loc ∈ s.check.standing then
        s.check.standing else s.check.standing ++ [loc] } }) ∧
  (∀ (s : State) (loc : CheckLoc) (by_ : Reader) (n : Nat), s.canRead loc by_ = false →
    exec (.correctableError loc by_) s = .next s ∧ exec (.uncorrectableError loc by_ n) s = .next s) ∧
  ∀ (s : State) (i : BufferId),
    (s.canRead (.band i) .composer = true ↔ s.composer.state = .painting ∧ bufferFor s.composer.nextBand = i ∧
      ∃ a sh k, s.composer.attempt = some a ∧ s.sheet a.slot = some sh ∧ sh.ticket = some k ∧
        ∃ op ∈ s.bandOps sh k s.composer.nextBand, ∃ x y, op.covers x y = true) ∧
    (s.canRead (.band i) .pressLink = true ↔ ∃ n, s.link.sending = some n ∧ bufferFor n = i) ∧
    (s.canRead (.band i) .proofWriter = true ↔
      s.writer.state = .writing ∧ s.writer.damage = false ∧ bufferFor s.writer.nextBand = i)

/-- An uncorrectable error at a place that a block can be reading (assumption 22) is logged while the log is unlocked,
which locks it, and takes its effect either way. Found by a send: the send ends, ABORT is sent under LIVE and no message
under LOOP, the link is CLOSED and the attempt is spoiled, cause DAMAGE. Found by a band write: the write stops at it,
and the spoil is reported at its completion (assumption 21). Found by a painting: the Composer's attempt is spoiled and
ends at the buffers, at the Writer and, by its state, at the link; a store tile is no longer READY, and is EMPTY where
the sheet that alone held it has no second pass and ends SPOILED DAMAGE; a scratch tile keeps its key and fit record, is
FILLING again in the second pass with a build queued from its first cell (assumption 31), and is emptied with its pool
where the sheet has no second pass; a glyph is marked damaged and stays silent for the attempt, which is not spoiled
(which rows a painting reads, and the order by which the rows painted before are counted, are assumptions 45 and 46).
Found by a fit: the glyph is marked damaged. -/
def Obligations.UncorrectableErrorTakesEffect : Prop :=
  (∀ (s : State) (loc : CheckLoc) (by_ : Reader) (n : Nat), s.canRead loc by_ = true →
    ∃ t, exec (.uncorrectableError loc by_ n) s = .next t ∧ t.check.locked = true ∧
      (s.check.locked = false → t.check.uncorrectable = some loc ∧ t.hasEvent .integrity = true) ∧
      (s.check.locked = true → t.check.uncorrectable = s.check.uncorrectable ∧
        t.hasEvent .integrity = s.hasEvent .integrity) ∧
      t.check.correctable = s.check.correctable ∧ t.check.count = s.check.count ∧ t.port.outstanding = s.port.outstanding ∧
      t.out.serverWrites = s.out.serverWrites) ∧
  (∀ (s : State) (h : LinkHold) (b n : Nat) (sh : Sheet) (k : Ticket), s.link.sending = some b → s.link.held = some h →
    InHand s h.attempt sh k → s.composer.attempt = none ∨ s.composer.attempt = some h.attempt →
    ∃ t, exec (.uncorrectableError (.band (bufferFor b)) .pressLink n) s = .next t ∧
      t.link = ⟨.closed, none, 0, none, false, false, none, none, none, none, none, s.link.config, s.link.ready⟩ ∧
      t.out.pressMessages = s.out.pressMessages ++ (if h.mode = .live then [.abort h.sheetId] else []) ∧
      (t.composer.buf (bufferFor b)).state = .empty ∧ t.composer.attempt = none ∧ BuffersEnded s t h.attempt (some b) ∧
      Spoiled s t h.attempt sh k .damage) ∧
  (∀ (s : State) (n : Nat), s.writer.state = .writing → s.writer.damage = false →
    exec (.uncorrectableError (.band (bufferFor s.writer.nextBand)) .proofWriter n) s =
      .next { s.errorLogged (.band (bufferFor s.writer.nextBand)) with writer := { s.writer with damage := true } }) ∧
  (∀ (s : State) (loc : CheckLoc) (n : Nat) (a : Attempt) (sh : Sheet) (k : Ticket), s.canRead loc .composer = true →
    s.composer.attempt = some a → InHand s a sh k →
    ∃ t, exec (.uncorrectableError loc .composer n) s = .next t ∧ t.composer.attempt = none ∧ t.composer.state = .idle ∧
      t.hasEvent .sheetSpoiled = true ∧ (∀ i w, loc = .storeTile i w → (t.store.slot i w).state ≠ .ready) ∧
      BuffersEnded s t a none ∧ WriterStopped s t a ∧
      (∀ h, s.link.held = some h → h.attempt = a → LinkStopped s t h) ∧
      (s.link.held.map (·.attempt) ≠ some a → t.link = s.link ∧ t.out = s.out) ∧
      ((∀ i w, loc ≠ .storeTile i w) → (∀ i, loc ≠ .scratchTile (otherSlot a.slot) i) → Spoiled s t a sh k .damage) ∧
      (∀ i w, loc = .storeTile i w → k.retryBudget < sh.attempt → SheetEnded s t a.slot sh .spoiled .damage ∧
        ((s.store.slot i w).holders = ⟨a.slot == .a, a.slot == .b⟩ → t.store.slot i w = StoreSlot.blank)) ∧
      (sh.attempt ≤ k.retryBudget → ∃ sh', t.sheet a.slot = some sh' ∧ sh'.attempt = sh.attempt + 1 ∧
        sh'.state = (if 0 < sh'.pendingBuilds then .filling else .ready)) ∧
      (∀ i, loc = .scratchTile a.slot i → k.retryBudget < sh.attempt → t.store.pool a.slot = ScratchPool.blank) ∧
      ∀ i c src, loc = .scratchTile a.slot i → sh.attempt ≤ k.retryBudget →
        (∀ d ∈ sh.cells, ∀ j w, d.ref = some (.store j w) → (s.store.slot j w).state ≠ .condemned) →
        sh.cells.find? (fun d => d.ref = some (.scratch a.slot i)) = some c → c.source = some src →
        (t.store.pool a.slot).slots[i] = { (s.store.pool a.slot).slots[i] with state := .filling } ∧
        (t.store.pool a.slot).directory = (s.store.pool a.slot).directory ∧
        ⟨.scratch a.slot i, ⟨c.subject, c.profile, c.serial⟩, src⟩ ∈ t.builder.queue ∧
        (t.sheet a.slot).map (·.state) = some .filling) ∧
  (∀ (s : State) (g : Fin 3) (c : Code) (n : Nat) (set : GlyphSet), s.glyphs[g] = some set →
    (s.canRead (.glyph g c) .captionFitting = true →
      exec (.uncorrectableError (.glyph g c) .captionFitting n) s = .next { s.errorLogged (.glyph g c) with
        glyphs := s.glyphs.set g.val (some { set with
          map := set.map.map fun h => if h.code = c then { h with damaged := true } else h }) g.isLt }) ∧
    (s.canRead (.glyph g c) .captionPainting = true →
      (∀ z ∈ s.composer.silenced, ¬(z.set = g ∧ z.code = c)) →
      exec (.uncorrectableError (.glyph g c) .captionPainting n) s = .next { s.errorLogged (.glyph g c) with
        glyphs := s.glyphs.set g.val (some { set with
          map := set.map.map fun h => if h.code = c then { h with damaged := true } else h }) g.isLt
        composer := { s.composer with silenced := s.composer.silenced ++ [⟨g, c, s.composer.nextBand, n⟩] } }) ∧
    (s.canRead (.glyph g c) .captionPainting = true → (∃ z ∈ s.composer.silenced, z.set = g ∧ z.code = c) →
      exec (.uncorrectableError (.glyph g c) .captionPainting n) s = .next (s.errorLogged (.glyph g c))))

/-! ## The Press Link -/

/-- READY. In AWAIT_READY under LIVE its rise stops the wait timer and sends OPEN when band 0 is FULL, the accept timer
starting with its limit; its fall starts the wait timer; and the wait timer's expiry raises PRESS_STALLED and the link
goes on waiting. In any other state, and under LOOP, only the level is kept; an expiry then is no event (assumption 1).
-/
def Obligations.ReadyLevel : Prop :=
  (∀ (s : State) (h : LinkHold), s.link.state = .awaitReady → s.link.held = some h → h.mode = .live →
    s.link.ready = false →
    (s.bandFull h.attempt 0 = true → exec .readyRise s = .next { s with
      link := { s.link with
        ready := true, state := .opening, waitTimer := none, acceptTimer := some s.link.config.acceptLimit }
      out := { s.out with
        pressMessages := s.out.pressMessages ++ [.opened h.sheetId h.width h.height h.bands] } }) ∧
    (s.bandFull h.attempt 0 = false →
      exec .readyRise s = .next { s with link := { s.link with ready := true, waitTimer := none } })) ∧
  (∀ (s : State) (h : LinkHold), s.link.state = .awaitReady → s.link.held = some h → h.mode = .live →
    s.link.ready = true → exec .readyFall s = .next { s with link := { s.link with
      ready := false, waitTimer := some (1000 * s.link.config.waitLimit) } }) ∧
  (∀ s : State, s.link.state ≠ .awaitReady ∨ s.link.held.map (·.mode) = some .loop →
    exec .readyRise s = .next { s with link := { s.link with ready := true } } ∧
    exec .readyFall s = .next { s with link := { s.link with ready := false } }) ∧
  (∀ s : State, s.link.state = .awaitReady → s.link.waitTimer ≠ none → exec .waitTimerExpiry s = .next { s with
    link := { s.link with waitTimer := none }
    window := { s.window with events := s.window.events ||| 0x008#9 } }) ∧
  ∀ s : State, s.link.state ≠ .awaitReady ∨ s.link.waitTimer = none → exec .waitTimerExpiry s = .next s

/-- ACCEPT for the sheet that the link is OPENING brings it to STREAMING and starts the send of the next band with the
band timer; for another sheet, in another state, or under LOOP it is discarded. At the band timer's expiry the next band
is sent when it is FULL and no send is in flight, is sent after the send in flight, or is waited for with the grace
timer, a grace of 0 ending the attempt at once at the link, the buffers and the Writer; after the last band the expiry has
no effect. With no band timer running an expiry is no event (assumption 1). -/
def Obligations.StreamingGoesOn : Prop :=
  (∀ (s : State) (h : LinkHold), s.link.state = .opening → s.link.held = some h → h.mode ≠ .loop →
    s.link.abortPending = false → ∃ t, exec (.accept h.sheetId) s = .next t ∧
      t.link = { s.link with
        state := .streaming, acceptTimer := none, sending := some s.link.nextBand, due := false
        bandTimer := some s.link.config.bandPeriod, nextBand := s.link.nextBand + 1 } ∧
      t.composer.buf (bufferFor s.link.nextBand) =
        { s.composer.buf (bufferFor s.link.nextBand) with state := .sending } ∧
      t.composer.buf (bufferFor (s.link.nextBand + 1)) = s.composer.buf (bufferFor (s.link.nextBand + 1)) ∧
      t.control = s.control ∧ t.out = s.out ∧ t.window = s.window ∧ t.port = s.port) ∧
  (∀ (s : State) (id : BitVec 32), s.link.state ≠ .opening ∨ (∀ h, s.link.held = some h → h.sheetId ≠ id ∨ h.mode = .loop) →
    exec (.accept id) s = .next s) ∧
  (∀ (s : State) (h : LinkHold), s.link.state = .streaming → s.link.held = some h → s.link.bandTimer ≠ none →
    (h.bands ≤ s.link.nextBand →
      exec .bandTimerExpiry s = .next { s with link := { s.link with bandTimer := none } }) ∧
    (s.link.nextBand < h.bands → s.bandFull h.attempt s.link.nextBand = true → s.link.sending = none →
      ∃ t, exec .bandTimerExpiry s = .next t ∧
        t.link = { s.link with
          sending := some s.link.nextBand, due := false, bandTimer := some s.link.config.bandPeriod
          nextBand := s.link.nextBand + 1 } ∧
        (t.composer.buf (bufferFor s.link.nextBand)).state = .sending ∧ t.control = s.control ∧ t.out = s.out) ∧
    (s.link.nextBand < h.bands → s.bandFull h.attempt s.link.nextBand = true → s.link.sending ≠ none →
      exec .bandTimerExpiry s = .next { s with link := { s.link with bandTimer := none, due := true } }) ∧
    (s.link.nextBand < h.bands → s.bandFull h.attempt s.link.nextBand = false → 0 < s.link.config.grace →
      exec .bandTimerExpiry s = .next { s with link := { s.link with
        bandTimer := none, graceTimer := some s.link.config.grace } }) ∧
    (s.link.nextBand < h.bands → s.bandFull h.attempt s.link.nextBand = false → s.link.config.grace = 0 →
      ∀ sh k, InHand s h.attempt sh k → ∃ t, exec .bandTimerExpiry s = .next t ∧ Spoiled s t h.attempt sh k .underrun ∧
        LinkStopped s t h ∧ BuffersEnded s t h.attempt none ∧ WriterStopped s t h.attempt)) ∧
  ∀ s : State, s.link.state ≠ .streaming ∨ s.link.bandTimer = none → exec .bandTimerExpiry s = .next s

/-- The grace timer's expiry is an underrun: the attempt ends at the buffers and at the Writer and is spoiled, and ABORT
is sent at once, or, with a send in flight, is pending until its end. The accept timer's expiry in OPENING sends ABORT
and ends the sheet PRESS_SILENT ACCEPT; the result timer's expiry in CLOSING ends it PRESS_SILENT RESULT with no
message; under LOOP each does the same and no ABORT goes out; both end the attempt at its buffers, release the sheet's
holds and let a BLOCKED walker go on. Each leaves the link CLOSED. The expiry of a timer that does not run is no event
(assumption 1). -/
def Obligations.LinkTimersEndAttempts : Prop :=
  (∀ (s : State) (h : LinkHold) (sh : Sheet) (k : Ticket), s.link.state = .streaming → s.link.held = some h →
    s.link.graceTimer ≠ none → InHand s h.attempt sh k →
    (s.link.sending = none → ∃ t, exec .graceTimerExpiry s = .next t ∧ Spoiled s t h.attempt sh k .underrun ∧
      t.link = ⟨.closed, none, 0, none, false, false, none, none, none, none, none, s.link.config, s.link.ready⟩ ∧
      t.out.pressMessages = s.out.pressMessages ++ (if h.mode = .live then [.abort h.sheetId] else []) ∧
      t.composer.attempt ≠ some h.attempt ∧
      BuffersEnded s t h.attempt none ∧ WriterStopped s t h.attempt) ∧
    (s.link.sending ≠ none → ∃ t, exec .graceTimerExpiry s = .next t ∧ Spoiled s t h.attempt sh k .underrun ∧
      t.link = { s.link with abortPending := true, due := false, bandTimer := none, graceTimer := none } ∧
      t.out.pressMessages = s.out.pressMessages ∧ t.composer.attempt ≠ some h.attempt ∧
      BuffersEnded s t h.attempt none ∧ WriterStopped s t h.attempt)) ∧
  (∀ (s : State) (h : LinkHold) (sh : Sheet) (k : Ticket), s.link.state = .opening → s.link.held = some h →
    s.link.acceptTimer ≠ none → InHand s h.attempt sh k → s.writerServes h.attempt.slot = false →
    ∃ t, exec .acceptTimerExpiry s = .next t ∧ t.sheet h.attempt.slot = none ∧
      t.control.queue = queueEnded s.control.queue h.attempt.slot .pressSilent .accept ∧
      t.link = ⟨.closed, none, 0, none, false, false, none, none, none, none, none, s.link.config, s.link.ready⟩ ∧
      t.out.pressMessages = s.out.pressMessages ++ (if h.mode = .live then [.abort h.sheetId] else []) ∧
      t.composer.attempt ≠ some h.attempt ∧
      BuffersEnded s t h.attempt s.link.sending ∧ HoldsReleased s t h.attempt.slot ∧ WalkerUnblocked s t ∧
      t.writer = s.writer ∧ t.port.outstanding = s.port.outstanding) ∧
  (∀ (s : State) (h : LinkHold) (sh : Sheet) (k : Ticket), s.link.state = .closing → s.link.held = some h →
    s.link.resultTimer ≠ none → InHand s h.attempt sh k → s.writerServes h.attempt.slot = false →
    ∃ t, exec .resultTimerExpiry s = .next t ∧ t.sheet h.attempt.slot = none ∧
      t.control.queue = queueEnded s.control.queue h.attempt.slot .pressSilent .result ∧
      t.link = ⟨.closed, none, 0, none, false, false, none, none, none, none, none, s.link.config, s.link.ready⟩ ∧
      t.out.pressMessages = s.out.pressMessages ∧ BuffersEnded s t h.attempt s.link.sending ∧
      HoldsReleased s t h.attempt.slot ∧ WalkerUnblocked s t ∧ t.writer = s.writer ∧
      t.port.outstanding = s.port.outstanding) ∧
  ∀ s : State, (s.link.state ≠ .streaming ∨ s.link.graceTimer = none → exec .graceTimerExpiry s = .next s) ∧
    (s.link.state ≠ .opening ∨ s.link.acceptTimer = none → exec .acceptTimerExpiry s = .next s) ∧
    (s.link.state ≠ .closing ∨ s.link.resultTimer = none → exec .resultTimerExpiry s = .next s)

/-- A band send completes: BAND with the band's index, line count and pixels has gone to the press under LIVE (it is
recorded at the send's end, assumption 9), nothing under LOOP, and its buffer is given back EMPTY whatever follows. A
Composer that waits for it starts to paint its next band into it in the same step and takes a pending BAND poison
(assumption 11), one that waits for the other buffer while that is not EMPTY goes on waiting, and any other is left as
it is; a correctable error that stands in the buffer is found again (assumption 51). A pending ABORT is sent, closes the
link and lets go the slot of a FINISHED sheet that has an ending, a sheet in its second pass staying as it is; after the
last band CLOSE is sent and the result timer starts, or, under LOOP, the sheet is made and the link CLOSED; a band that
is due is sent. A send of a poisoned buffer does not complete (assumption 11), and with no send in flight there is none
to complete (assumption 1). -/
def Obligations.BandSent : Prop :=
  (∀ (s : State) (h : LinkHold) (b : Nat) (tag : BandTag) (sent aborted : List PressMessage),
    s.link.sending = some b → s.link.held = some h →
    (s.composer.buf (bufferFor b)).poisoned = false → (s.composer.buf (bufferFor b)).tag = some tag →
    (h.mode = .live ∧ aborted = [.abort h.sheetId] ∧
      sent = [.band b tag.lines ((List.range (3 * (h.width * tag.lines))).map (s.composer.buf (bufferFor b)).byte)]) ∨
      (h.mode = .loop ∧ sent = [] ∧ aborted = []) →
    (s.link.abortPending = false → b + 1 ≠ h.bands → s.link.due = false → ∃ t, exec .bandSendDone s = .next t ∧
      t.link = { s.link with sending := none } ∧ GivenBack s t (bufferFor b) ∧
      t.out = { s.out with pressMessages := s.out.pressMessages ++ sent } ∧ t.control = s.control ∧
      FoundAgain s t (· == .band (bufferFor b)) ∧
      (.band (bufferFor b) ∉ s.check.standing → t.window = s.window) ∧ t.port = s.port) ∧
    (s.link.abortPending = false → b + 1 ≠ h.bands → s.link.due = true → s.link.nextBand = b + 1 →
      ∃ t, exec .bandSendDone s = .next t ∧
      t.link = { s.link with
        sending := some (b + 1), due := false, bandTimer := some s.link.config.bandPeriod, nextBand := b + 2 } ∧
      (t.composer.buf (bufferFor (b + 1))).state = .sending ∧
      (s.composer.state ≠ .waiting → (t.composer.buf (bufferFor b)).state = .empty) ∧
      ((s.composer.buf (bufferFor (b + 1))).state ≠ .empty → GivenBack { s with
        composer := s.composer.setBuf (bufferFor (b + 1))
          { s.composer.buf (bufferFor (b + 1)) with state := .sending } } t (bufferFor b)) ∧
      t.out = { s.out with pressMessages := s.out.pressMessages ++ sent } ∧ t.control = s.control ∧
      FoundAgain s t (· == .band (bufferFor b)) ∧ t.port = s.port) ∧
    (s.link.abortPending = true → ∃ t, exec .bandSendDone s = .next t ∧
      t.link = ⟨.closed, none, 0, none, false, false, none, none, none, none, none, s.link.config, s.link.ready⟩ ∧
      GivenBack s t (bufferFor b) ∧ EndedLetGo s t h.attempt.slot ∧
      t.out.pressMessages = s.out.pressMessages ++ sent ++ aborted ∧ FoundAgain s t (· == .band (bufferFor b))) ∧
    (s.link.abortPending = false → b + 1 = h.bands → h.mode = .live → ∃ t, exec .bandSendDone s = .next t ∧
      t.link = { s.link with
        sending := none, state := .closing, bandTimer := none
        resultTimer := some (1000 * s.link.config.resultLimit) } ∧
      GivenBack s t (bufferFor b) ∧
      t.out = { s.out with pressMessages := s.out.pressMessages ++
        [.band b tag.lines ((List.range (3 * (h.width * tag.lines))).map (s.composer.buf (bufferFor b)).byte),
          .close h.sheetId h.bands] } ∧
      t.control = s.control ∧ FoundAgain s t (· == .band (bufferFor b)) ∧ t.port = s.port) ∧
    (s.link.abortPending = false → b + 1 = h.bands → h.mode = .loop →
      ∀ sh k, InHand s h.attempt sh k → s.writerServes h.attempt.slot = false → ∃ t, exec .bandSendDone s = .next t ∧
      t.link = ⟨.closed, none, 0, none, false, false, none, none, none, none, none, s.link.config, s.link.ready⟩ ∧
      GivenBack s t (bufferFor b) ∧ SheetMade s t h.attempt.slot sh k ∧ t.out = s.out ∧
      FoundAgain s t (· == .band (bufferFor b)))) ∧
  ∀ s : State, s.link.sending = none ∨ (∃ b, s.link.sending = some b ∧ (s.composer.buf (bufferFor b)).poisoned = true) →
    exec .bandSendDone s = .next s

/-- RESULT for the sheet that holds the link. In CLOSING, PRINTED makes the sheet; REJECTED in OPENING, STREAMING or
CLOSING ends the order REFUSED PRESS_REJECTED and releases the sheet's holds; JAMMED and MEDIA_OUT in STREAMING or
CLOSING spoil the attempt with that cause; a send in flight ends with the attempt, whose FILLING and FULL buffers are
EMPTY. Each leaves the link CLOSED, with no ABORT. A RESULT for another sheet, or one that its state gives no effect, is
discarded. -/
def Obligations.ResultTaken : Prop :=
  (∀ (s : State) (h : LinkHold) (sh : Sheet) (k : Ticket), s.link.held = some h → h.mode = .live →
    s.link.abortPending = false → InHand s h.attempt sh k → s.writerServes h.attempt.slot = false →
    (s.link.state = .closing → ∃ t, exec (.result h.sheetId .printed) s = .next t ∧
      SheetMade s t h.attempt.slot sh k ∧ t.link.state = .closed ∧ t.link.held = none ∧ t.link.config = s.link.config ∧
      t.composer = s.composer ∧ t.out = s.out ∧ t.port.outstanding = s.port.outstanding) ∧
    (s.link.state = .opening ∨ s.link.state = .streaming ∨ s.link.state = .closing →
      ∃ t, exec (.result h.sheetId .rejected) s = .next t ∧ t.sheet h.attempt.slot = none ∧
      t.control.queue = queueEnded s.control.queue h.attempt.slot .refused .pressRejected ∧ t.link.state = .closed ∧
      t.link.held = none ∧ t.composer.attempt ≠ some h.attempt ∧ BuffersEnded s t h.attempt s.link.sending ∧
      HoldsReleased s t h.attempt.slot ∧ WalkerUnblocked s t ∧ t.writer = s.writer ∧ t.out = s.out) ∧
    (s.link.state = .streaming ∨ s.link.state = .closing →
      (∃ t, exec (.result h.sheetId .jammed) s = .next t ∧ Spoiled s t h.attempt sh k .jammed ∧ t.link.state = .closed ∧
        t.link.held = none ∧ t.composer.attempt ≠ some h.attempt ∧ BuffersEnded s t h.attempt s.link.sending ∧
        t.writer = s.writer ∧ t.out = s.out) ∧
      ∃ t, exec (.result h.sheetId .mediaOut) s = .next t ∧ Spoiled s t h.attempt sh k .mediaOut ∧
        t.link.state = .closed ∧ t.link.held = none ∧ t.composer.attempt ≠ some h.attempt ∧
        BuffersEnded s t h.attempt s.link.sending ∧ t.writer = s.writer ∧ t.out = s.out)) ∧
  ∀ (s : State) (id : BitVec 32) (code : PressCode),
    (∀ h, s.link.held = some h → h.sheetId ≠ id ∨ h.mode = .loop) ∨ s.link.abortPending = true ∨
      s.link.state = .closed ∨ s.link.state = .awaitReady ∨ (s.link.state = .opening ∧ code ≠ .rejected) ∨
      (s.link.state = .streaming ∧ code = .printed) → exec (.result id code) s = .next s

/-! ## The Proof Writer and the cell report -/

/-- A band write starts with the Writer WAITING, its next band FULL and the hold FREE. It completes with every row of
the band written at its place of the proof, its buffer given back EMPTY, where a Composer that waits for it starts to
paint, and the next band wanted; after the last band the sheet is made. Bus errors end the order MEMORY_FAULT
PROOF_WRITE with every other row that was issued written, after damage too (assumption 40). A damaged read spoils the
attempt when the rows issued before it have been written (assumption 21). The attempt ends at its buffers, the written
one with them, and an order that ends releases the sheet's holds and lets a BLOCKED walker go on. With its end pending
the band write ends likewise and the Writer clears the attempt, or takes the one that waits: one that completes, or that
stopped at damage, lets go the slot of a FINISHED sheet that has an ending and leaves a sheet in its second pass as it
is; one that fails keeps the ending that the order has, and ends an order that has none MEMORY_FAULT PROOF_WRITE,
whether its second pass is FILLING or READY, or COMPOSING or CLOSING with its attempt waiting for the Writer. The rows
are recorded at the write's end (assumption 9), where a correctable error that stands in the buffer is found again
(assumption 51). A painting that begins takes a pending BAND poison with its fill; no row of a poisoned buffer is
written, so that a band write of one neither completes, nor stops at damage after a row, nor fails, and those commands
change nothing (assumption 11). With no band write in flight neither command does anything (assumption 1). -/
def Obligations.BandWrites : Prop :=
  (∀ (s : State) (a : Attempt), s.writer.attempt = some a → s.writer.state = .waiting →
    s.bandFull a s.writer.nextBand = true → s.port.hold = .free → exec .bandWriteStart s = .next { s with
      composer := s.composer.setBuf (bufferFor s.writer.nextBand)
        { s.composer.buf (bufferFor s.writer.nextBand) with state := .writing }
      writer := { s.writer with state := .writing }
      port := { s.port with outstanding := s.port.outstanding + 1 } }) ∧
  (∀ s : State, s.port.hold ≠ .free → exec .bandWriteStart s = .next s) ∧
  (∀ (s : State) (a : Attempt) (k : Ticket) (b n : Nat), s.writer.attempt = some a → s.writer.state = .writing →
    s.writer.damage = false → s.writer.endPending = false → s.writer.nextBand = b → s.ticketOf a.slot = some k →
    (s.composer.buf (bufferFor b)).poisoned = false → n = min 64 (k.height - 64 * b) →
    (∀ r < n, k.proofAddr.toNat + (64 * b + r) * k.proofPitch < 2 ^ 64) →
    ∃ t, exec (.bandWriteDone .current n) s = .next t ∧
      t.out.serverWrites = s.out.serverWrites ++ (List.range n).map (fun r =>
        ⟨k.proofAddr + BitVec.ofNat 64 ((64 * b + r) * k.proofPitch),
          (List.range (3 * k.width)).map fun j => (s.composer.buf (bufferFor b)).byte (r * (3 * k.width) + j)⟩) ∧
      FoundAgain s t (· == .band (bufferFor b)) ∧
      t.out.pressMessages = s.out.pressMessages ∧ t.port.outstanding = s.endUnit.port.outstanding ∧
      t.port.hold = s.endUnit.port.hold ∧ GivenBack s t (bufferFor b) ∧
      (b + 1 ≠ (k.height + 63) / 64 → t.control = s.control ∧
        t.writer = { s.writer with state := .waiting, nextBand := b + 1 }) ∧
      (b + 1 = (k.height + 63) / 64 → ∀ sh, InHand s a sh k → s.linkHolds a.slot = false →
        (∀ q, s.writer.queued = some q → q.slot ≠ a.slot) → SheetMade s t a.slot sh k ∧
        t.writer.attempt = s.writer.queued ∧ t.writer.nextBand = 0)) ∧
  (∀ (s : State) (a : Attempt) (sh : Sheet) (k : Ticket), s.writer.attempt = some a →
    s.writer.state = .writing → InHand s a sh k → s.linkHolds a.slot = false → s.writer.queued = none →
    (∀ rows : List Bool, RowsFailed s rows →
      ∃ t, exec (.bandWriteFail .current rows) s = .next t ∧ BandWriteFailed s t rows ∧ t.sheet a.slot = none ∧
        t.control.queue = queueEnded s.control.queue a.slot .memoryFault .proofWrite ∧
        t.writer = ⟨.idle, none, 0, false, false, none⟩ ∧ t.composer.attempt ≠ some a ∧
        BuffersEnded s t a (some s.writer.nextBand) ∧ HoldsReleased s t a.slot ∧ WalkerUnblocked s t) ∧
    (∀ rows : Nat, s.writer.damage = true → rows < s.currentRows.length →
      ((s.composer.buf (bufferFor s.writer.nextBand)).poisoned = true → rows = 0) →
      ∃ t, exec (.bandWriteDone .current rows) s = .next t ∧ Spoiled s t a sh k .damage ∧
      t.writer = ⟨.idle, none, 0, false, false, none⟩ ∧
      t.out.serverWrites = s.out.serverWrites ++ s.currentRows.take rows ∧
      FoundAgain s t (· == .band (bufferFor s.writer.nextBand)) ∧ BuffersEnded s t a (some s.writer.nextBand) ∧
      t.port.outstanding = s.endUnit.port.outstanding)) ∧
  (∀ (s : State) (a : Attempt) (next : Writer), s.writer.attempt = some a → s.writer.state = .writing →
    s.writer.endPending = true → next = (match s.writer.queued with
      | none => ⟨.idle, none, 0, false, false, none⟩
      | some q => ⟨.waiting, some q, 0, false, false, none⟩) →
    (∀ n, s.writer.damage = false → n = s.currentRows.length →
      (s.composer.buf (bufferFor s.writer.nextBand)).poisoned = false →
      ∃ t, exec (.bandWriteDone .current n) s = .next t ∧ t.writer = next ∧
        t.out.serverWrites = s.out.serverWrites ++ s.currentRows ∧
        FoundAgain s t (· == .band (bufferFor s.writer.nextBand)) ∧ GivenBack s t (bufferFor s.writer.nextBand) ∧
        EndedLetGo s t a.slot ∧ t.port.outstanding = s.endUnit.port.outstanding) ∧
    (∀ n sh, s.writer.damage = true → n < s.currentRows.length →
      ((s.composer.buf (bufferFor s.writer.nextBand)).poisoned = true → n = 0) → s.sheet a.slot = some sh →
      sh.ending ≠ none ∨ sh.attempt ≠ a.number →
      ∃ t, exec (.bandWriteDone .current n) s = .next t ∧ t.writer = next ∧
        t.out.serverWrites = s.out.serverWrites ++ s.currentRows.take n ∧
        FoundAgain s t (· == .band (bufferFor s.writer.nextBand)) ∧ BuffersEnded s t a (some s.writer.nextBand) ∧
        EndedLetGo s t a.slot ∧ t.port.outstanding = s.endUnit.port.outstanding) ∧
    ∀ rows sh, RowsFailed s rows → s.sheet a.slot = some sh →
      (sh.state = .finished → sh.ending ≠ none →
        ∃ t, exec (.bandWriteFail .current rows) s = .next t ∧ BandWriteFailed s t rows ∧ t.writer = next ∧
          BuffersEnded s t a (some s.writer.nextBand) ∧ EndedLetGo s t a.slot) ∧
      (sh.state = .filling ∨ sh.state = .ready → sh.ending = none → sh.report = .none → s.linkHolds a.slot = false →
        (∀ q, s.writer.queued = some q → q.slot ≠ a.slot) →
        ∃ t, exec (.bandWriteFail .current rows) s = .next t ∧ BandWriteFailed s t rows ∧ t.writer = next ∧
          BuffersEnded s t a (some s.writer.nextBand) ∧ t.sheet a.slot = none ∧
          t.control.queue = queueEnded s.control.queue a.slot .memoryFault .proofWrite ∧
          HoldsReleased s t a.slot ∧ WalkerUnblocked s t) ∧
      (∀ k, InHand s ⟨a.slot, sh.attempt⟩ sh k → sh.attempt ≠ a.number → s.linkHolds a.slot = false →
        s.writer.queued = some ⟨a.slot, sh.attempt⟩ →
        s.composer.attempt = none ∨ s.composer.attempt = some ⟨a.slot, sh.attempt⟩ →
        ∃ t, exec (.bandWriteFail .current rows) s = .next t ∧ BandWriteFailed s t rows ∧
          t.writer = ⟨.idle, none, 0, false, false, none⟩ ∧ t.composer.attempt = none ∧
          (s.composer.attempt ≠ none → t.composer.state = .idle) ∧
          (∀ i, i = bufferFor s.writer.nextBand ∨ (s.composer.buf i).tag.map (·.attempt) = some ⟨a.slot, sh.attempt⟩ →
            (s.composer.buf i).state = .filling ∨ (s.composer.buf i).state = .full ∨ i = bufferFor s.writer.nextBand →
            (t.composer.buf i).state = .empty ∧ (t.composer.buf i).tag = none) ∧
          t.sheet a.slot = none ∧ t.control.queue = queueEnded s.control.queue a.slot .memoryFault .proofWrite ∧
          HoldsReleased s t a.slot ∧ WalkerUnblocked s t)) ∧
  (∀ (s : State) (n : Nat) (rows : List Bool), (s.composer.buf (bufferFor s.writer.nextBand)).poisoned = true →
    (s.writer.damage = false ∨ n ≠ 0 → exec (.bandWriteDone .current n) s = .next s) ∧
    exec (.bandWriteFail .current rows) s = .next s) ∧
  ∀ (s : State) (n : Nat) (rows : List Bool), s.writer.state ≠ .writing →
    exec (.bandWriteDone .current n) s = .next s ∧ exec (.bandWriteFail .current rows) s = .next s

/-- The cell report of a finished sheet starts when the hold is FREE and the engine is not FAULTED: one entry of 32 bytes
for each cell, each field at its offset, from report address + 2048 × sheet index, recorded when it is issued (assumption
9). Its completion lets the slot go, or, for a sheet that is carry pending, is followed by the next sheet or by PARTIAL;
a bus error gives an order with no ending the ending MEMORY_FAULT REPORT_WRITE. With no cells it is complete at its
start. A BLOCKED walker whose head can be taken when the slot is FREE takes it (R14). -/
def Obligations.ReportWrites : Prop :=
  (∀ (s : State) (sl : SheetSlot) (sh : Sheet) (k : Ticket), s.sheet sl = some sh → sh.ticket = some k →
    sh.report = .due → s.port.hold = .free → s.control.engine ≠ .faulted → sh.cells ≠ [] →
    (∀ i < sh.cells.length, k.reportAddr.toNat + (sh.index * 2048 + 32 * i) < 2 ^ 64) →
    ∃ t, exec (.reportWriteStart sl) s = .next t ∧ t.sheet sl = some { sh with report := .inFlight } ∧
      t.sheet (otherSlot sl) = s.sheet (otherSlot sl) ∧ t.control.queue = s.control.queue ∧
      t.port = { s.port with outstanding := s.port.outstanding + 1 } ∧
      (∃ ws, t.out = { s.out with serverWrites := s.out.serverWrites ++ ws } ∧ ws.length = sh.cells.length ∧
        ∀ (i : Nat) (c : Cell), sh.cells[i]? = some c → ∃ w, ws[i]? = some w ∧ w.bytes = c.reportBytes ∧
          ReportEntry c w.bytes ∧ w.addr = k.reportAddr + BitVec.ofNat 64 (sh.index * 2048 + 32 * i)) ∧
      t.window = s.window ∧ t.store = s.store ∧ t.composer = s.composer ∧ t.link = s.link ∧ t.writer = s.writer) ∧
  (∀ (s : State) (sl : SheetSlot) (sh : Sheet) (k : Ticket), s.sheet sl = some sh → sh.ticket = some k →
    sh.report = .due → s.port.hold = .free → s.control.engine ≠ .faulted → sh.cells = [] → sh.state = .finished →
    s.linkHolds sl = false → s.writerServes sl = false → sh.carry = false → sh.ending = none →
    ∃ t, exec (.reportWriteStart sl) s = .next t ∧ t.sheet sl = none ∧
      t.control.queue = (s.control.queue.map fun e => if e.slot = some sl then
        { e with finished := true, slot := none, results := { e.results with
          outcome := if e.results.counts = Counts.zero then .ok else .noted, detail := .none } } else e) ∧
      WalkerUnblocked s t ∧ t.port = s.port ∧ t.out = s.out) ∧
  (∀ (s : State) (sl : SheetSlot), s.port.hold ≠ .free ∨ s.control.engine = .faulted →
    exec (.reportWriteStart sl) s = .next s) ∧
  ∀ (s : State) (sl : SheetSlot) (sh : Sheet), s.sheet sl = some sh → sh.report = .inFlight → sh.state = .finished →
    s.linkHolds sl = false → s.writerServes sl = false →
    (sh.made = true → sh.carry = false → sh.ending = none → ∃ t, exec (.reportWriteDone .current sl true) s = .next t ∧
      t.sheet sl = none ∧ t.control.queue = (s.control.queue.map fun e => if e.slot = some sl then
        { e with finished := true, slot := none, results := { e.results with
          outcome := if e.results.counts = Counts.zero then .ok else .noted, detail := .none } } else e) ∧
      WalkerUnblocked s t ∧ t.port = s.endUnit.port ∧ t.out = s.out) ∧
    (∀ o d, sh.ending = some (o, d) → ∃ t, exec (.reportWriteDone .current sl true) s = .next t ∧ t.sheet sl = none ∧
      t.control.queue = queueEnded s.control.queue sl o d ∧ WalkerUnblocked s t ∧ t.port = s.endUnit.port ∧ t.out = s.out) ∧
    (sh.ending = none → ∃ t, exec (.reportWriteDone .current sl false) s = .next t ∧ t.sheet sl = none ∧
      t.control.queue = queueEnded s.control.queue sl .memoryFault .reportWrite ∧ WalkerUnblocked s t ∧
      t.port = s.endUnit.port ∧ t.out = s.out) ∧
    ∀ k, sh.made = true → sh.carry = true → sh.ending = none → sh.ticket = some k →
      ∃ t, exec (.reportWriteDone .current sl true) s = .next t ∧ ReportFollowed s t sl sh k ∧ t.out = s.out ∧
        t.port.outstanding = s.endUnit.port.outstanding

/-! ## Units whose results are discarded -/

/-- A unit left at the port by an engine reset, an abandon, a fault or a cut build completes with no effect but its end:
it leaves the port and the outstanding count falls; of a band write the rows issued stay written, but for those whose
writes ended in a bus error (assumption 9). (Stated with the count above 1 or no hold draining; HoldEnds says what the
last unit does to a draining hold.) -/
def Obligations.DiscardedUnitsEnd : Prop :=
  (∀ (s : State) (u : DiscardedUnit) (c : Instr), u ∈ s.port.discarded → s.port.hold ≠ .draining ∨ 1 < s.port.outstanding →
    (∃ r, (c = .recordReadDone .discarded r ∧ u = .recordRead) ∨ (c = .trailerReadDone .discarded r ∧ u = .trailerRead) ∨
      (c = .profileBlockReadDone .discarded r ∧ u = .profileRead) ∨ (c = .glyphUnitDone .discarded r ∧ u = .glyphRead) ∨
      (c = .ticketReadDone .discarded r ∧ u = .ticketRead) ∨ (c = .layoutReadDone .discarded r ∧ u = .layoutRead) ∨
      (c = .rosterReadDone .discarded r ∧ u = .rosterRead) ∨ (c = .subjectReadDone .discarded r ∧ u = .subjectRead) ∨
      (c = .bannerTextReadDone .discarded r ∧ u = .textRead) ∨ (c = .sourceReadDone .discarded r true ∧ u = .build)) ∨
    (∃ ok, (c = .takenWriteDone .discarded ok ∧ u = .takenWrite) ∨ (c = .resultsWriteDone .discarded ok ∧ u = .resultsWrite) ∨
      (c = .doneWriteDone .discarded ok ∧ u = .doneWrite) ∨ (c = .spentWriteDone .discarded ok ∧ u = .spentWrite) ∨
      ∃ sl, c = .reportWriteDone .discarded sl ok ∧ u = .reportWrite) →
    exec c s = .next { s with port := { s.port with
      discarded := s.port.discarded.erase u, outstanding := s.port.outstanding - 1 } }) ∧
  ∀ (s : State) (ws : List ServerWrite) (rows : Nat) (ends : List Bool), .bandWrite ws ∈ s.port.discarded →
    (∀ ws', .bandWrite ws' ∈ s.port.discarded → ws' = ws) → s.port.hold ≠ .draining ∨ 1 < s.port.outstanding →
    exec (.bandWriteDone .discarded rows) s = .next { s with
        port := { s.port with
          discarded := s.port.discarded.erase (.bandWrite ws), outstanding := s.port.outstanding - 1 }
        out := { s.out with serverWrites := s.out.serverWrites ++ ws.take rows } } ∧
      exec (.bandWriteFail .discarded ends) s = .next { s with
        port := { s.port with
          discarded := s.port.discarded.erase (.bandWrite ws), outstanding := s.port.outstanding - 1 }
        out := { s.out with serverWrites := s.out.serverWrites ++
          ((List.range ends.length).filter fun r => ends[r]? = some true).filterMap (fun r => ws[r]?) } }

/-! ## Arithmetic of the part -/

/-- A lookup in NORMAL mode hits a READY way of the key's set, joins a FILLING one, and on a miss fills the first victim:
an EMPTY way, the way the LRU mark names when no sheet holds it, or the other way when no sheet holds that; with both
held it goes to scratch, as every miss in FROZEN and every lookup in BYPASS does. A hit in FROZEN leaves the LRU mark. A
scratch lookup answers with the slot of its key, READY or not, or fills the lowest EMPTY one. A condemned reference is
replaced by a new lookup, and a scratch slot to be rebuilt gets a build, each with the key and source of the first cell
that carries it (assumption 31). A lookup never leaves two slots of a set in FILLING or READY with one key, and keeps
every key in its own set. The release of a sheet's holds empties a FILLING slot with no holder left, its build leaving the
queue or cut, and a CONDEMNED one, keeps a READY one, and empties the sheet's scratch pool. -/
def Obligations.TileLookup : Prop :=
  (∀ (s : State) (sl : SheetSlot) (k : TileKey) (src : Source) (w : Way) (x : StoreSlot),
    s.store.sets[keySet k].search k = some w → x = s.store.slot (keySet k) w → x.state = .ready →
    s.store.mode ≠ .bypass → ∃ t, s.lookup sl k src = (t, ⟨.store (keySet k) w, x.fit⟩) ∧
      t.store.slot (keySet k) w = { x with holders := x.holders.join sl } ∧
      t.store.slot (keySet k) (otherWay w) = s.store.slot (keySet k) (otherWay w) ∧
      t.store.sets[keySet k].lru = (if s.store.mode = .normal then otherWay w else s.store.sets[keySet k].lru) ∧
      (∀ j, j ≠ keySet k → t.store.sets[j] = s.store.sets[j]) ∧ t.builder = s.builder ∧ t.control = s.control) ∧
  (∀ (s : State) (sl : SheetSlot) (k : TileKey) (src : Source) (w : Way) (x : StoreSlot) (sh : Sheet),
    s.store.sets[keySet k].search k = some w → x = s.store.slot (keySet k) w → x.state = .filling →
    s.store.mode ≠ .bypass → s.sheet sl = some sh → ∃ t, s.lookup sl k src = (t, ⟨.store (keySet k) w, none⟩) ∧
      t.store = s.store.setSlot (keySet k) w { x with holders := x.holders.join sl } ∧ t.builder = s.builder ∧
      t.sheet sl = some { sh with pendingBuilds := sh.pendingBuilds + 1 }) ∧
  (∀ (s : State) (sl : SheetSlot) (k : TileKey) (src : Source) (w : Way) (sh : Sheet) (set : TileSet),
    set = s.store.sets[keySet k] → set.search k = none → s.store.mode = .normal → s.sheet sl = some sh →
    (w = .w0 ∧ set.way0.state = .empty) ∨ (w = .w1 ∧ set.way0.state ≠ .empty ∧ set.way1.state = .empty) ∨
      (set.way0.state ≠ .empty ∧ set.way1.state ≠ .empty ∧ w = set.lru ∧ (set.way w).holders = ⟨false, false⟩) ∨
      (set.way0.state ≠ .empty ∧ set.way1.state ≠ .empty ∧ w = otherWay set.lru ∧
        (set.way set.lru).holders ≠ ⟨false, false⟩ ∧ (set.way w).holders = ⟨false, false⟩) →
    ∃ t, s.lookup sl k src = (t, ⟨.store (keySet k) w, none⟩) ∧
      t.store.slot (keySet k) w = ⟨.filling, some k, ⟨sl == .a, sl == .b⟩, [], none, false⟩ ∧
      t.store.slot (keySet k) (otherWay w) = set.way (otherWay w) ∧ t.store.sets[keySet k].lru = otherWay w ∧
      (∀ j, j ≠ keySet k → t.store.sets[j] = s.store.sets[j]) ∧
      t.builder = { s.builder with queue := s.builder.queue ++ [⟨.store (keySet k) w, k, src⟩] } ∧
      t.sheet sl = some { sh with pendingBuilds := sh.pendingBuilds + 1 }) ∧
  (∀ (s : State) (sl : SheetSlot) (k : TileKey) (src : Source) (sh : Sheet), s.sheet sl = some sh →
    s.store.mode = .bypass ∨ (s.store.sets[keySet k].search k = none ∧ (s.store.mode = .frozen ∨
      (s.store.sets[keySet k].way0.state ≠ .empty ∧ s.store.sets[keySet k].way1.state ≠ .empty ∧
        s.store.sets[keySet k].way0.holders ≠ ⟨false, false⟩ ∧ s.store.sets[keySet k].way1.holders ≠ ⟨false, false⟩))) →
    (∀ e ∈ (s.store.pool sl).directory, e.1 ≠ k) →
    ∀ i : Fin 64, (s.store.pool sl).slots[i].state = .empty →
      (∀ j < i, (s.store.pool sl).slots[j].state ≠ .empty) →
    ∃ t, s.lookup sl k src = (t, ⟨.scratch sl i, none⟩) ∧
      (t.store.pool sl).slots[i] = ⟨.filling, some k, [], none, false⟩ ∧
      (t.store.pool sl).directory = (s.store.pool sl).directory ++ [(k, i)] ∧ t.store.sets = s.store.sets ∧
      t.builder = { s.builder with queue := s.builder.queue ++ [⟨.scratch sl i, k, src⟩] } ∧
      t.sheet sl = some { sh with pendingBuilds := sh.pendingBuilds + 1 }) ∧
  (∀ (s : State) (sl : SheetSlot) (k : TileKey) (src : Source) (sh : Sheet) (before after : List (TileKey × Fin 64))
    (i : Fin 64), s.sheet sl = some sh →
    s.store.mode = .bypass ∨ (s.store.sets[keySet k].search k = none ∧ (s.store.mode = .frozen ∨
      (s.store.sets[keySet k].way0.state ≠ .empty ∧ s.store.sets[keySet k].way1.state ≠ .empty ∧
        s.store.sets[keySet k].way0.holders ≠ ⟨false, false⟩ ∧ s.store.sets[keySet k].way1.holders ≠ ⟨false, false⟩))) →
    (s.store.pool sl).directory = before ++ (k, i) :: after → (∀ e ∈ before, e.1 ≠ k) →
    ((s.store.pool sl).slots[i].state = .ready → s.lookup sl k src = (s, ⟨.scratch sl i, (s.store.pool sl).slots[i].fit⟩)) ∧
    ((s.store.pool sl).slots[i].state ≠ .ready → ∃ t, s.lookup sl k src = (t, ⟨.scratch sl i, none⟩) ∧
      t.store = s.store ∧ t.builder = s.builder ∧ t.sheet sl = some { sh with pendingBuilds := sh.pendingBuilds + 1 } ∧
      t.sheet (otherSlot sl) = s.sheet (otherSlot sl))) ∧
  (∀ (s : State) (i : Fin 128) (w : Way), (s.store.slot i w).state ≠ .condemned →
    (∀ sl sh, s.sheet sl = some sh → (s.store.slot i w).holders.has sl = true →
      sh.state = .composing ∨ sh.state = .closing ∨ sh.state = .finished) →
    s.condemn i w = { s with store := s.store.setSlot i w { s.store.slot i w with state := .condemned } }) ∧
  (∀ (s : State) (sl : SheetSlot) (i : Fin 128) (w : Way) (sh : Sheet) (c : Cell) (src : Source) (k : TileKey),
    s.store.mode = .normal → s.sheet sl = some sh → sh.state = .ready ∨ sh.state = .filling ∨ sh.state = .planning →
    sh.cells.find? (fun d => d.ref = some (.store i w)) = some c → c.source = some src →
    k = ⟨c.subject, c.profile, c.serial⟩ → keySet k = i →
    (s.store.slot i w).state ≠ .condemned → (s.store.slot i w).holders = ⟨sl == .a, sl == .b⟩ →
    (s.store.slot i (otherWay w)).state ≠ .empty → (s.store.slot i (otherWay w)).answers k = false →
    ∃ t, s.condemn i w = t ∧ t.store.slot i w = ⟨.filling, some k, ⟨sl == .a, sl == .b⟩, [], none, false⟩ ∧
      t.store.slot i (otherWay w) = s.store.slot i (otherWay w) ∧ t.store.sets[i].lru = otherWay w ∧
      t.builder = { s.builder with queue := s.builder.queue ++ [⟨.store i w, k, src⟩] } ∧
      t.sheet sl = some { sh with
        pendingBuilds := sh.pendingBuilds + 1, state := if sh.state = .ready then .filling else sh.state } ∧
      t.sheet (otherSlot sl) = s.sheet (otherSlot sl)) ∧
  (∀ (s : State) (sl : SheetSlot) (i : Fin 128) (w v : Way) (sh : Sheet) (c : Cell) (src : Source) (k : TileKey)
    (f : FitRecord), s.store.mode = .normal → s.sheet sl = some sh →
    sh.cells.find? (fun d => d.ref = some (.store i w)) = some c → c.source = some src →
    k = ⟨c.subject, c.profile, c.serial⟩ → (s.store.slot i w).state = .condemned → (keySet k ≠ i ∨ v ≠ w) →
    s.store.sets[keySet k].search k = some v → (s.store.slot (keySet k) v).state = .ready →
    (s.store.slot (keySet k) v).fit = some f → (∀ d ∈ sh.cells, d.ref ≠ some (.store (keySet k) v)) →
    ∃ t sh', s.replaceRef sl i w = t ∧ t.sheet sl = some sh' ∧ sh'.pendingBuilds = sh.pendingBuilds ∧
      sh'.cells = sh.cells.map (fun d => if d.ref = some (.store i w) then
        { d with ref := some (.store (keySet k) v), fit := some f, notes := d.notes ||| f.notes } else d) ∧
      t.builder = s.builder ∧ (t.store.slot i w).holders.has sl = false ∧
      (t.store.slot (keySet k) v).holders.has sl = true) ∧
  (∀ (s : State) (p : SheetSlot) (i : Fin 64),
    s.markRebuild p i = { s with
      store := s.store.setScratch p i { (s.store.pool p).slots[i] with state := .rebuild } }) ∧
  (∀ (s : State) (sl : SheetSlot) (i : Fin 64) (sh : Sheet) (c : Cell) (src : Source), s.sheet sl = some sh →
    sh.cells.find? (fun d => d.ref = some (.scratch sl i)) = some c → c.source = some src →
    (s.store.pool sl).slots[i].state = .rebuild → ∃ t, s.renewRef sl (.scratch sl i) = t ∧
      t.store = s.store.setScratch sl i { (s.store.pool sl).slots[i] with state := .filling } ∧
      t.builder = { s.builder with
        queue := s.builder.queue ++ [⟨.scratch sl i, ⟨c.subject, c.profile, c.serial⟩, src⟩] } ∧
      t.sheet sl = some { sh with pendingBuilds := sh.pendingBuilds + 1 }) ∧
  (∀ (s : State) (sl p : SheetSlot) (i : Fin 128) (w : Way) (j : Fin 64),
    ((s.store.slot i w).state = .condemned → s.renewRef sl (.store i w) = s.replaceRef sl i w) ∧
    ((s.store.slot i w).state ≠ .condemned → s.renewRef sl (.store i w) = s) ∧
    ((s.store.pool p).slots[j].state ≠ .rebuild → s.renewRef sl (.scratch p j) = s)) ∧
  (∀ (s : State) (sl : SheetSlot), HoldsReleased s (s.releaseSheet sl) sl) ∧
  ∀ (s : State) (sl : SheetSlot) (k : TileKey) (src : Source),
    (∀ (i : Fin 128) (q : TileKey), ¬((s.store.slot i .w0).answers q = true ∧ (s.store.slot i .w1).answers q = true)) →
    (∀ (i : Fin 128) (w : Way) (q : TileKey), (s.store.slot i w).key = some q → keySet q = i) →
    (∀ (i : Fin 128) (q : TileKey), ¬(((s.lookup sl k src).1.store.slot i .w0).answers q = true ∧
      ((s.lookup sl k src).1.store.slot i .w1).answers q = true)) ∧
    ∀ (i : Fin 128) (w : Way) (q : TileKey), ((s.lookup sl k src).1.store.slot i w).key = some q → keySet q = i

/-- The fit of a portrait whose raster, marks and profile are in range. The scale lies in [1024, Smax]; the reduction
count is the least that brings it to 32768 or more, and at most 131072; the step is round(16777216 / S′) and lies in
[128, 512], the offset lies in [−64, 128]; the reduced raster is at least 2 × 2; the origin before the edge policy is the
reduced mark point less the rounded target in steps. Under SHIFT, where some origin keeps every column of the window in
range, or every row, the final origin does, and is the nearest such to the computed one; where none does, it centres the
window on the raster. The record is PADDED exactly when some sample of the tile is out of range,
SHIFTED exactly when an origin moved, which PAD never does, and SCALE_CLAMPED exactly when the raw scale is out of range.
-/
def Obligations.FitInRange : Prop :=
  ∀ (src : Source) (p : Profile) (f : Fit) (raw : Nat), 64 ≤ src.width → src.width ≤ 8192 → 64 ≤ src.height →
    src.height ≤ 8192 → 32 ≤ p.cellWidth → p.cellWidth ≤ 512 → 32 ≤ p.cellHeight → p.cellHeight ≤ 640 →
    16 ≤ p.headTarget → p.headTarget ≤ p.cellHeight → p.eyeLine < p.cellHeight → p.centreColumn < p.cellWidth →
    1024 ≤ p.maxScale → p.maxScale ≤ 131072 →
    (match src.marks with
      | .full crown chin eye centre => crown < eye ∧ eye < chin ∧ crown + 16 ≤ chin ∧ chin < src.height ∧ centre < src.width
      | .eyes eye left right => left + 8 ≤ right ∧ right < src.width ∧ eye < src.height
      | .none => True) → f = computeFit src p → raw = rawScale src p →
    (match src.marks with
      | .full crown chin _ _ => 2 * raw * (chin - crown) ≤ 2 * (p.headTarget * 65536) + (chin - crown) ∧
          2 * (p.headTarget * 65536) + (chin - crown) < 2 * (raw + 1) * (chin - crown)
      | .eyes _ left right => raw = (2 * (p.headTarget * 65536) + (right - left) * 5 / 2) / (2 * ((right - left) * 5 / 2))
      | .none => raw = (2 * (p.cellWidth * 65536) + src.width) / (2 * src.width)) ∧
    f.record.s = max 1024 (min p.maxScale raw) ∧ f.record.k ≤ 5 ∧ 32768 ≤ f.record.s * 2 ^ f.record.k ∧
    f.record.s * 2 ^ f.record.k ≤ 131072 ∧ (∀ k < f.record.k, f.record.s * 2 ^ k < 32768) ∧
    f.reducedW = src.width / 2 ^ f.record.k ∧ f.reducedH = src.height / 2 ^ f.record.k ∧ 2 ≤ f.reducedW ∧
    2 ≤ f.reducedH ∧ 128 ≤ f.step ∧ f.step ≤ 512 ∧ f.offset = (f.step / 2 : Nat) - 128 ∧
    f.step = (2 * 16777216 + f.record.s * 2 ^ f.record.k) / (2 * (f.record.s * 2 ^ f.record.k)) ∧
    (∀ xm ym : Nat, (match src.marks with
      | .full _ _ eye centre => xm = centre ∧ ym = eye
      | .eyes eye left right => xm = (left + right) / 2 ∧ ym = eye
      | .none => xm = src.width / 2 ∧ ym = 2 * src.height / 5) →
      f.record.x0 - f.record.shiftX =
        (xm / 2 ^ f.record.k : Nat) - (((2 * (p.centreColumn * f.step) + 256) / 512 : Nat) : Int) ∧
      f.record.y0 - f.record.shiftY =
        (ym / 2 ^ f.record.k : Nat) - (((2 * (p.eyeLine * f.step) + 256) / 512 : Nat) : Int)) ∧
    (p.edge = .pad → f.record.shiftX = 0 ∧ f.record.shiftY = 0) ∧
    (p.edge = .shift → (∃ x : Int, ∀ u < p.cellWidth, -128 ≤ 256 * x + f.offset + u * f.step ∧
        256 * x + f.offset + u * f.step ≤ ((f.reducedW : Int) - 1) * 256 + 128) →
      ∀ u < p.cellWidth, -128 ≤ 256 * f.record.x0 + f.offset + u * f.step ∧
        256 * f.record.x0 + f.offset + u * f.step ≤ ((f.reducedW : Int) - 1) * 256 + 128) ∧
    (p.edge = .shift → (∃ y : Int, ∀ v < p.cellHeight, -128 ≤ 256 * y + f.offset + v * f.step ∧
        256 * y + f.offset + v * f.step ≤ ((f.reducedH : Int) - 1) * 256 + 128) →
      ∀ v < p.cellHeight, -128 ≤ 256 * f.record.y0 + f.offset + v * f.step ∧
        256 * f.record.y0 + f.offset + v * f.step ≤ ((f.reducedH : Int) - 1) * 256 + 128) ∧
    (p.edge = .shift → OriginShifted f.reducedW p.cellWidth f.step f.offset (f.record.x0 - f.record.shiftX) f.record.x0 ∧
      OriginShifted f.reducedH p.cellHeight f.step f.offset (f.record.y0 - f.record.shiftY) f.record.y0) ∧
    (hasNote f.record.notes .padded = true ↔
      (∃ u < p.cellWidth, ¬(-128 ≤ 256 * f.record.x0 + f.offset + u * f.step ∧
        256 * f.record.x0 + f.offset + u * f.step ≤ ((f.reducedW : Int) - 1) * 256 + 128)) ∨
      ∃ v < p.cellHeight, ¬(-128 ≤ 256 * f.record.y0 + f.offset + v * f.step ∧
        256 * f.record.y0 + f.offset + v * f.step ≤ ((f.reducedH : Int) - 1) * 256 + 128)) ∧
    (hasNote f.record.notes .shifted = true ↔ f.record.shiftX ≠ 0 ∨ f.record.shiftY ≠ 0) ∧
    (hasNote f.record.notes .scaleClamped = true ↔ raw < 1024 ∨ p.maxScale < raw)

/-- Painting. A RULE sets each pixel of the meeting of its rectangle, its clip and the band to its colour and leaves
every other pixel of the band; one of width or height 0, or that does not meet its clip, paints nothing. A cell's tile
area, where its clip and the band meet it, takes the background for EMPTY, the profile's placeholder colour for
PLACEHOLDER and the tile's bytes for PORTRAIT; the caption follows. A GRID paints its cells in order, an INSET its one
cell. Captions and banners paint line by line and glyph by glyph, the pen moving by each advance, each alpha by floor((fg
× a + bg × (255 − a) + 127) / 255), 0 leaving the pixel and 255 giving the foreground. Frame placements paint in order,
less a damaged glyph's rows. A tile's blend of two equal values, or at fraction 0, is the value itself. A band holds its
rows whole, three bytes for each pixel. -/
def Obligations.PixelsPainted : Prop :=
  (∀ (s : State) (k : Ticket) (b : Nat) (cells : List Cell) (r : RuleFrame) (x y : Int) (bg : Colour),
    rectHas (bandRect k b) x y = true →
    painted (s.frameOps k (bandRect k b) cells (.rule r)) x y bg =
      if r.rect.x ≤ x ∧ x < r.rect.x + r.rect.w ∧ r.rect.y ≤ y ∧ y < r.rect.y + r.rect.h ∧
        r.clip.x ≤ x ∧ x < r.clip.x + r.clip.w ∧ r.clip.y ≤ y ∧ y < r.clip.y + r.clip.h then r.colour else bg) ∧
  (∀ (s : State) (k : Ticket) (band : Rect) (c : Cell) (p : Profile) (x y : Int) (bg : Colour), p = s.profileOf c.profile →
    rectHas band x y = true →
    (¬(c.rect.x ≤ x ∧ x < c.rect.x + p.cellWidth ∧ c.rect.y ≤ y ∧ y < c.rect.y + p.cellHeight ∧
        rectHas c.clip x y = true) → painted (s.cellOps k band c) x y bg =
      if c.kind = .empty then bg else painted (s.captionOps band c) x y bg) ∧
    (c.rect.x ≤ x → x < c.rect.x + p.cellWidth → c.rect.y ≤ y → y < c.rect.y + p.cellHeight →
        rectHas c.clip x y = true →
      (c.kind = .empty → painted (s.cellOps k band c) x y bg = k.background) ∧
      (c.kind = .placeholder →
        painted (s.cellOps k band c) x y bg = painted (s.captionOps band c) x y p.placeholder) ∧
      ∀ r, c.kind = .portrait → c.ref = some r → painted (s.cellOps k band c) x y bg =
        painted (s.captionOps band c) x y (colourAt (match r with
          | .store i w => (s.store.slot i w).tile
          | .scratch q i => (s.store.pool q).slots[i].tile)
          (3 * ((y - c.rect.y).toNat * p.cellWidth + (x - c.rect.x).toNat))))) ∧
  (∀ (s : State) (k : Ticket) (band : Rect) (cells : List Cell) (g : GridFrame) (i : InsetFrame) (x y : Int) (bg : Colour),
    painted (s.frameOps k band cells (.grid g)) x y bg = ((cells.drop g.firstCell).take g.cellCount).foldl
      (fun c d => painted (s.cellOps k band d) x y c) bg ∧
    ∀ d, cells[i.cell]? = some d →
      painted (s.frameOps k band cells (.inset i)) x y bg = painted (s.cellOps k band d) x y bg) ∧
  (∀ (s : State) (band : Rect) (c : Cell) (p : Profile) (set : GlyphSet) (top : Int), p = s.profileOf c.profile →
    set = s.glyphSetOf p.glyphSet → top = c.rect.y + p.cellHeight + p.captionGap →
    ∃ area : Rect, (∀ x y, rectHas area x y = true ↔ c.rect.x ≤ x ∧ x < c.rect.x + p.cellWidth ∧ top ≤ y ∧
        y < top + (p.lines * set.lineHeight : Nat) ∧ rectHas c.clip x y = true ∧ rectHas band x y = true) ∧
      (c.caption = [] → s.captionOps band c = []) ∧
      (∀ l, c.caption = [l] → s.captionOps band c = lineOps area set.map set.lineHeight p.glyphSet (c.rect.x + l.offset) top
        p.captionColour l.glyphs) ∧
      ∀ l m, c.caption = [l, m] → s.captionOps band c =
        lineOps area set.map set.lineHeight p.glyphSet (c.rect.x + l.offset) top p.captionColour l.glyphs ++
        lineOps area set.map set.lineHeight p.glyphSet (c.rect.x + m.offset) (top + set.lineHeight) p.captionColour
          m.glyphs) ∧
  (∀ (s : State) (k : Ticket) (band : Rect) (cells : List Cell) (f : BannerFrame) (set : GlyphSet),
    set = s.glyphSetOf f.set → ∃ area : Rect, (∀ x y, rectHas area x y = true ↔ f.x ≤ x ∧ x < f.x + f.boxWidth ∧ f.y ≤ y ∧
        y < f.y + set.lineHeight ∧ rectHas f.clip x y = true ∧ rectHas band x y = true) ∧
      (f.line = none → s.frameOps k band cells (.banner f) = []) ∧
      ∀ l, f.line = some l → s.frameOps k band cells (.banner f) =
        lineOps area set.map set.lineHeight f.set (f.x + l.offset) f.y f.colour l.glyphs) ∧
  (∀ (area : Rect) (map : List Glyph) (height : Nat) (set : Fin 3) (pen top : Int) (colour : Colour) (g : DrawnGlyph)
    (rest : List DrawnGlyph) (x y : Int) (bg : Colour),
    (painted (lineOps area map height set pen top colour []) x y bg = bg) ∧
    ((∀ h ∈ map, h.code ≠ g.code) → painted (lineOps area map height set pen top colour (g :: rest)) x y bg =
      painted (lineOps area map height set (pen + g.advance) top colour rest) x y bg) ∧
    ∀ h, map.find? (fun h => h.code == g.code) = some h → h.alpha.length = h.width * height →
      painted (lineOps area map height set pen top colour (g :: rest)) x y bg =
        painted (lineOps area map height set (pen + g.advance) top colour rest) x y
          (if rectHas area x y = true ∧ top ≤ y ∧ y < top + height ∧ pen ≤ x ∧ x < pen + h.width then
            blendColour colour bg (byteAt h.alpha ((y - top).toNat * h.width + (x - pen).toNat)).toNat else bg)) ∧
  (∀ (s : State) (sh : Sheet) (k : Ticket) (b : Nat) (x y : Int) (bg : Colour),
    (s.composer.silenced = [] → painted (s.bandOps sh k b) x y bg = sh.frames.foldl
      (fun c f => painted (s.frameOps k (bandRect k b) sh.cells f) x y c) bg) ∧
    ∀ z, s.composer.silenced = [z] → z.band < b → s.bandOps sh k b =
      (sh.frames.flatMap (s.frameOps k (bandRect k b) sh.cells)).filter fun op => !op.isRowOf z.set z.code) ∧
  (∀ (fg bg : Colour) (a : Nat),
    blendColour fg bg a = ⟨blendAlpha fg.r bg.r a, blendAlpha fg.g bg.g a, blendAlpha fg.b bg.b a⟩) ∧
  (∀ (fg bg : Byte) (a : Nat), a ≤ 255 →
    (blendAlpha fg bg a).toNat = (fg.toNat * a + bg.toNat * (255 - a) + 127) / 255) ∧
  (∀ fg bg : Byte, blendAlpha fg bg 0 = bg ∧ blendAlpha fg bg 255 = fg) ∧
  (∀ (p q : Byte) (f : Nat), f ≤ 255 → (blendStep p q f).toNat = (p.toNat * (256 - f) + q.toNat * f + 128) / 256 ∧
    blendStep p p f = p ∧ blendStep p q 0 = p) ∧
  ∀ (k : Ticket) (b : Nat) (ops : List PaintOp),
    (bandPixels k b ops).length = 3 * (k.width * bandLines k.height b) ∧
    ∀ x r, x < k.width → r < bandLines k.height b →
      colourAt (bandPixels k b ops) (3 * (r * k.width + x)) =
        painted ops x ((64 * b + r : Nat) : Int) k.background
end

