-- ==== Sys2Proof/Laws/State.lean ====
section
/-! SUPPORT. One lemma per field per block update of State, each true by rfl. -/

namespace Sys2Proof.Machine

/-! ### State.setPending -/

@[simp] theorem State.setPending_pending (s : State) (x : List Instr) : (s.setPending x).pending = x := rfl
@[simp] theorem State.setPending_window (s : State) (x : List Instr) : (s.setPending x).window = s.window := rfl
@[simp] theorem State.setPending_port (s : State) (x : List Instr) : (s.setPending x).port = s.port := rfl
@[simp] theorem State.setPending_walker (s : State) (x : List Instr) : (s.setPending x).walker = s.walker := rfl
@[simp] theorem State.setPending_control (s : State) (x : List Instr) : (s.setPending x).control = s.control := rfl
@[simp] theorem State.setPending_planner (s : State) (x : List Instr) : (s.setPending x).planner = s.planner := rfl
@[simp] theorem State.setPending_profiles (s : State) (x : List Instr) : (s.setPending x).profiles = s.profiles := rfl
@[simp] theorem State.setPending_store (s : State) (x : List Instr) : (s.setPending x).store = s.store := rfl
@[simp] theorem State.setPending_builder (s : State) (x : List Instr) : (s.setPending x).builder = s.builder := rfl
@[simp] theorem State.setPending_glyphs (s : State) (x : List Instr) : (s.setPending x).glyphs = s.glyphs := rfl
@[simp] theorem State.setPending_composer (s : State) (x : List Instr) : (s.setPending x).composer = s.composer := rfl
@[simp] theorem State.setPending_link (s : State) (x : List Instr) : (s.setPending x).link = s.link := rfl
@[simp] theorem State.setPending_writer (s : State) (x : List Instr) : (s.setPending x).writer = s.writer := rfl
@[simp] theorem State.setPending_check (s : State) (x : List Instr) : (s.setPending x).check = s.check := rfl
@[simp] theorem State.setPending_out (s : State) (x : List Instr) : (s.setPending x).out = s.out := rfl

/-! ### State.setWindow -/

@[simp] theorem State.setWindow_pending (s : State) (x : Window) : (s.setWindow x).pending = s.pending := rfl
@[simp] theorem State.setWindow_window (s : State) (x : Window) : (s.setWindow x).window = x := rfl
@[simp] theorem State.setWindow_port (s : State) (x : Window) : (s.setWindow x).port = s.port := rfl
@[simp] theorem State.setWindow_walker (s : State) (x : Window) : (s.setWindow x).walker = s.walker := rfl
@[simp] theorem State.setWindow_control (s : State) (x : Window) : (s.setWindow x).control = s.control := rfl
@[simp] theorem State.setWindow_planner (s : State) (x : Window) : (s.setWindow x).planner = s.planner := rfl
@[simp] theorem State.setWindow_profiles (s : State) (x : Window) : (s.setWindow x).profiles = s.profiles := rfl
@[simp] theorem State.setWindow_store (s : State) (x : Window) : (s.setWindow x).store = s.store := rfl
@[simp] theorem State.setWindow_builder (s : State) (x : Window) : (s.setWindow x).builder = s.builder := rfl
@[simp] theorem State.setWindow_glyphs (s : State) (x : Window) : (s.setWindow x).glyphs = s.glyphs := rfl
@[simp] theorem State.setWindow_composer (s : State) (x : Window) : (s.setWindow x).composer = s.composer := rfl
@[simp] theorem State.setWindow_link (s : State) (x : Window) : (s.setWindow x).link = s.link := rfl
@[simp] theorem State.setWindow_writer (s : State) (x : Window) : (s.setWindow x).writer = s.writer := rfl
@[simp] theorem State.setWindow_check (s : State) (x : Window) : (s.setWindow x).check = s.check := rfl
@[simp] theorem State.setWindow_out (s : State) (x : Window) : (s.setWindow x).out = s.out := rfl

/-! ### State.setPort -/

@[simp] theorem State.setPort_pending (s : State) (x : Port) : (s.setPort x).pending = s.pending := rfl
@[simp] theorem State.setPort_window (s : State) (x : Port) : (s.setPort x).window = s.window := rfl
@[simp] theorem State.setPort_port (s : State) (x : Port) : (s.setPort x).port = x := rfl
@[simp] theorem State.setPort_walker (s : State) (x : Port) : (s.setPort x).walker = s.walker := rfl
@[simp] theorem State.setPort_control (s : State) (x : Port) : (s.setPort x).control = s.control := rfl
@[simp] theorem State.setPort_planner (s : State) (x : Port) : (s.setPort x).planner = s.planner := rfl
@[simp] theorem State.setPort_profiles (s : State) (x : Port) : (s.setPort x).profiles = s.profiles := rfl
@[simp] theorem State.setPort_store (s : State) (x : Port) : (s.setPort x).store = s.store := rfl
@[simp] theorem State.setPort_builder (s : State) (x : Port) : (s.setPort x).builder = s.builder := rfl
@[simp] theorem State.setPort_glyphs (s : State) (x : Port) : (s.setPort x).glyphs = s.glyphs := rfl
@[simp] theorem State.setPort_composer (s : State) (x : Port) : (s.setPort x).composer = s.composer := rfl
@[simp] theorem State.setPort_link (s : State) (x : Port) : (s.setPort x).link = s.link := rfl
@[simp] theorem State.setPort_writer (s : State) (x : Port) : (s.setPort x).writer = s.writer := rfl
@[simp] theorem State.setPort_check (s : State) (x : Port) : (s.setPort x).check = s.check := rfl
@[simp] theorem State.setPort_out (s : State) (x : Port) : (s.setPort x).out = s.out := rfl

/-! ### State.setWalker -/

@[simp] theorem State.setWalker_pending (s : State) (x : Walker) : (s.setWalker x).pending = s.pending := rfl
@[simp] theorem State.setWalker_window (s : State) (x : Walker) : (s.setWalker x).window = s.window := rfl
@[simp] theorem State.setWalker_port (s : State) (x : Walker) : (s.setWalker x).port = s.port := rfl
@[simp] theorem State.setWalker_walker (s : State) (x : Walker) : (s.setWalker x).walker = x := rfl
@[simp] theorem State.setWalker_control (s : State) (x : Walker) : (s.setWalker x).control = s.control := rfl
@[simp] theorem State.setWalker_planner (s : State) (x : Walker) : (s.setWalker x).planner = s.planner := rfl
@[simp] theorem State.setWalker_profiles (s : State) (x : Walker) : (s.setWalker x).profiles = s.profiles := rfl
@[simp] theorem State.setWalker_store (s : State) (x : Walker) : (s.setWalker x).store = s.store := rfl
@[simp] theorem State.setWalker_builder (s : State) (x : Walker) : (s.setWalker x).builder = s.builder := rfl
@[simp] theorem State.setWalker_glyphs (s : State) (x : Walker) : (s.setWalker x).glyphs = s.glyphs := rfl
@[simp] theorem State.setWalker_composer (s : State) (x : Walker) : (s.setWalker x).composer = s.composer := rfl
@[simp] theorem State.setWalker_link (s : State) (x : Walker) : (s.setWalker x).link = s.link := rfl
@[simp] theorem State.setWalker_writer (s : State) (x : Walker) : (s.setWalker x).writer = s.writer := rfl
@[simp] theorem State.setWalker_check (s : State) (x : Walker) : (s.setWalker x).check = s.check := rfl
@[simp] theorem State.setWalker_out (s : State) (x : Walker) : (s.setWalker x).out = s.out := rfl

/-! ### State.setControl -/

@[simp] theorem State.setControl_pending (s : State) (x : Control) : (s.setControl x).pending = s.pending := rfl
@[simp] theorem State.setControl_window (s : State) (x : Control) : (s.setControl x).window = s.window := rfl
@[simp] theorem State.setControl_port (s : State) (x : Control) : (s.setControl x).port = s.port := rfl
@[simp] theorem State.setControl_walker (s : State) (x : Control) : (s.setControl x).walker = s.walker := rfl
@[simp] theorem State.setControl_control (s : State) (x : Control) : (s.setControl x).control = x := rfl
@[simp] theorem State.setControl_planner (s : State) (x : Control) : (s.setControl x).planner = s.planner := rfl
@[simp] theorem State.setControl_profiles (s : State) (x : Control) : (s.setControl x).profiles = s.profiles := rfl
@[simp] theorem State.setControl_store (s : State) (x : Control) : (s.setControl x).store = s.store := rfl
@[simp] theorem State.setControl_builder (s : State) (x : Control) : (s.setControl x).builder = s.builder := rfl
@[simp] theorem State.setControl_glyphs (s : State) (x : Control) : (s.setControl x).glyphs = s.glyphs := rfl
@[simp] theorem State.setControl_composer (s : State) (x : Control) : (s.setControl x).composer = s.composer := rfl
@[simp] theorem State.setControl_link (s : State) (x : Control) : (s.setControl x).link = s.link := rfl
@[simp] theorem State.setControl_writer (s : State) (x : Control) : (s.setControl x).writer = s.writer := rfl
@[simp] theorem State.setControl_check (s : State) (x : Control) : (s.setControl x).check = s.check := rfl
@[simp] theorem State.setControl_out (s : State) (x : Control) : (s.setControl x).out = s.out := rfl

/-! ### State.setPlanner -/

@[simp] theorem State.setPlanner_pending (s : State) (x : Planner) : (s.setPlanner x).pending = s.pending := rfl
@[simp] theorem State.setPlanner_window (s : State) (x : Planner) : (s.setPlanner x).window = s.window := rfl
@[simp] theorem State.setPlanner_port (s : State) (x : Planner) : (s.setPlanner x).port = s.port := rfl
@[simp] theorem State.setPlanner_walker (s : State) (x : Planner) : (s.setPlanner x).walker = s.walker := rfl
@[simp] theorem State.setPlanner_control (s : State) (x : Planner) : (s.setPlanner x).control = s.control := rfl
@[simp] theorem State.setPlanner_planner (s : State) (x : Planner) : (s.setPlanner x).planner = x := rfl
@[simp] theorem State.setPlanner_profiles (s : State) (x : Planner) : (s.setPlanner x).profiles = s.profiles := rfl
@[simp] theorem State.setPlanner_store (s : State) (x : Planner) : (s.setPlanner x).store = s.store := rfl
@[simp] theorem State.setPlanner_builder (s : State) (x : Planner) : (s.setPlanner x).builder = s.builder := rfl
@[simp] theorem State.setPlanner_glyphs (s : State) (x : Planner) : (s.setPlanner x).glyphs = s.glyphs := rfl
@[simp] theorem State.setPlanner_composer (s : State) (x : Planner) : (s.setPlanner x).composer = s.composer := rfl
@[simp] theorem State.setPlanner_link (s : State) (x : Planner) : (s.setPlanner x).link = s.link := rfl
@[simp] theorem State.setPlanner_writer (s : State) (x : Planner) : (s.setPlanner x).writer = s.writer := rfl
@[simp] theorem State.setPlanner_check (s : State) (x : Planner) : (s.setPlanner x).check = s.check := rfl
@[simp] theorem State.setPlanner_out (s : State) (x : Planner) : (s.setPlanner x).out = s.out := rfl

/-! ### State.setProfiles -/

@[simp] theorem State.setProfiles_pending (s : State) (x : Vector (Option Profile) 16) : (s.setProfiles x).pending = s.pending := rfl
@[simp] theorem State.setProfiles_window (s : State) (x : Vector (Option Profile) 16) : (s.setProfiles x).window = s.window := rfl
@[simp] theorem State.setProfiles_port (s : State) (x : Vector (Option Profile) 16) : (s.setProfiles x).port = s.port := rfl
@[simp] theorem State.setProfiles_walker (s : State) (x : Vector (Option Profile) 16) : (s.setProfiles x).walker = s.walker := rfl
@[simp] theorem State.setProfiles_control (s : State) (x : Vector (Option Profile) 16) : (s.setProfiles x).control = s.control := rfl
@[simp] theorem State.setProfiles_planner (s : State) (x : Vector (Option Profile) 16) : (s.setProfiles x).planner = s.planner := rfl
@[simp] theorem State.setProfiles_profiles (s : State) (x : Vector (Option Profile) 16) : (s.setProfiles x).profiles = x := rfl
@[simp] theorem State.setProfiles_store (s : State) (x : Vector (Option Profile) 16) : (s.setProfiles x).store = s.store := rfl
@[simp] theorem State.setProfiles_builder (s : State) (x : Vector (Option Profile) 16) : (s.setProfiles x).builder = s.builder := rfl
@[simp] theorem State.setProfiles_glyphs (s : State) (x : Vector (Option Profile) 16) : (s.setProfiles x).glyphs = s.glyphs := rfl
@[simp] theorem State.setProfiles_composer (s : State) (x : Vector (Option Profile) 16) : (s.setProfiles x).composer = s.composer := rfl
@[simp] theorem State.setProfiles_link (s : State) (x : Vector (Option Profile) 16) : (s.setProfiles x).link = s.link := rfl
@[simp] theorem State.setProfiles_writer (s : State) (x : Vector (Option Profile) 16) : (s.setProfiles x).writer = s.writer := rfl
@[simp] theorem State.setProfiles_check (s : State) (x : Vector (Option Profile) 16) : (s.setProfiles x).check = s.check := rfl
@[simp] theorem State.setProfiles_out (s : State) (x : Vector (Option Profile) 16) : (s.setProfiles x).out = s.out := rfl

/-! ### State.setStore -/

@[simp] theorem State.setStore_pending (s : State) (x : TileStore) : (s.setStore x).pending = s.pending := rfl
@[simp] theorem State.setStore_window (s : State) (x : TileStore) : (s.setStore x).window = s.window := rfl
@[simp] theorem State.setStore_port (s : State) (x : TileStore) : (s.setStore x).port = s.port := rfl
@[simp] theorem State.setStore_walker (s : State) (x : TileStore) : (s.setStore x).walker = s.walker := rfl
@[simp] theorem State.setStore_control (s : State) (x : TileStore) : (s.setStore x).control = s.control := rfl
@[simp] theorem State.setStore_planner (s : State) (x : TileStore) : (s.setStore x).planner = s.planner := rfl
@[simp] theorem State.setStore_profiles (s : State) (x : TileStore) : (s.setStore x).profiles = s.profiles := rfl
@[simp] theorem State.setStore_store (s : State) (x : TileStore) : (s.setStore x).store = x := rfl
@[simp] theorem State.setStore_builder (s : State) (x : TileStore) : (s.setStore x).builder = s.builder := rfl
@[simp] theorem State.setStore_glyphs (s : State) (x : TileStore) : (s.setStore x).glyphs = s.glyphs := rfl
@[simp] theorem State.setStore_composer (s : State) (x : TileStore) : (s.setStore x).composer = s.composer := rfl
@[simp] theorem State.setStore_link (s : State) (x : TileStore) : (s.setStore x).link = s.link := rfl
@[simp] theorem State.setStore_writer (s : State) (x : TileStore) : (s.setStore x).writer = s.writer := rfl
@[simp] theorem State.setStore_check (s : State) (x : TileStore) : (s.setStore x).check = s.check := rfl
@[simp] theorem State.setStore_out (s : State) (x : TileStore) : (s.setStore x).out = s.out := rfl

/-! ### State.setBuilder -/

@[simp] theorem State.setBuilder_pending (s : State) (x : Builder) : (s.setBuilder x).pending = s.pending := rfl
@[simp] theorem State.setBuilder_window (s : State) (x : Builder) : (s.setBuilder x).window = s.window := rfl
@[simp] theorem State.setBuilder_port (s : State) (x : Builder) : (s.setBuilder x).port = s.port := rfl
@[simp] theorem State.setBuilder_walker (s : State) (x : Builder) : (s.setBuilder x).walker = s.walker := rfl
@[simp] theorem State.setBuilder_control (s : State) (x : Builder) : (s.setBuilder x).control = s.control := rfl
@[simp] theorem State.setBuilder_planner (s : State) (x : Builder) : (s.setBuilder x).planner = s.planner := rfl
@[simp] theorem State.setBuilder_profiles (s : State) (x : Builder) : (s.setBuilder x).profiles = s.profiles := rfl
@[simp] theorem State.setBuilder_store (s : State) (x : Builder) : (s.setBuilder x).store = s.store := rfl
@[simp] theorem State.setBuilder_builder (s : State) (x : Builder) : (s.setBuilder x).builder = x := rfl
@[simp] theorem State.setBuilder_glyphs (s : State) (x : Builder) : (s.setBuilder x).glyphs = s.glyphs := rfl
@[simp] theorem State.setBuilder_composer (s : State) (x : Builder) : (s.setBuilder x).composer = s.composer := rfl
@[simp] theorem State.setBuilder_link (s : State) (x : Builder) : (s.setBuilder x).link = s.link := rfl
@[simp] theorem State.setBuilder_writer (s : State) (x : Builder) : (s.setBuilder x).writer = s.writer := rfl
@[simp] theorem State.setBuilder_check (s : State) (x : Builder) : (s.setBuilder x).check = s.check := rfl
@[simp] theorem State.setBuilder_out (s : State) (x : Builder) : (s.setBuilder x).out = s.out := rfl

/-! ### State.setGlyphs -/

@[simp] theorem State.setGlyphs_pending (s : State) (x : Vector (Option GlyphSet) 3) : (s.setGlyphs x).pending = s.pending := rfl
@[simp] theorem State.setGlyphs_window (s : State) (x : Vector (Option GlyphSet) 3) : (s.setGlyphs x).window = s.window := rfl
@[simp] theorem State.setGlyphs_port (s : State) (x : Vector (Option GlyphSet) 3) : (s.setGlyphs x).port = s.port := rfl
@[simp] theorem State.setGlyphs_walker (s : State) (x : Vector (Option GlyphSet) 3) : (s.setGlyphs x).walker = s.walker := rfl
@[simp] theorem State.setGlyphs_control (s : State) (x : Vector (Option GlyphSet) 3) : (s.setGlyphs x).control = s.control := rfl
@[simp] theorem State.setGlyphs_planner (s : State) (x : Vector (Option GlyphSet) 3) : (s.setGlyphs x).planner = s.planner := rfl
@[simp] theorem State.setGlyphs_profiles (s : State) (x : Vector (Option GlyphSet) 3) : (s.setGlyphs x).profiles = s.profiles := rfl
@[simp] theorem State.setGlyphs_store (s : State) (x : Vector (Option GlyphSet) 3) : (s.setGlyphs x).store = s.store := rfl
@[simp] theorem State.setGlyphs_builder (s : State) (x : Vector (Option GlyphSet) 3) : (s.setGlyphs x).builder = s.builder := rfl
@[simp] theorem State.setGlyphs_glyphs (s : State) (x : Vector (Option GlyphSet) 3) : (s.setGlyphs x).glyphs = x := rfl
@[simp] theorem State.setGlyphs_composer (s : State) (x : Vector (Option GlyphSet) 3) : (s.setGlyphs x).composer = s.composer := rfl
@[simp] theorem State.setGlyphs_link (s : State) (x : Vector (Option GlyphSet) 3) : (s.setGlyphs x).link = s.link := rfl
@[simp] theorem State.setGlyphs_writer (s : State) (x : Vector (Option GlyphSet) 3) : (s.setGlyphs x).writer = s.writer := rfl
@[simp] theorem State.setGlyphs_check (s : State) (x : Vector (Option GlyphSet) 3) : (s.setGlyphs x).check = s.check := rfl
@[simp] theorem State.setGlyphs_out (s : State) (x : Vector (Option GlyphSet) 3) : (s.setGlyphs x).out = s.out := rfl

/-! ### State.setComposer -/

@[simp] theorem State.setComposer_pending (s : State) (x : Composer) : (s.setComposer x).pending = s.pending := rfl
@[simp] theorem State.setComposer_window (s : State) (x : Composer) : (s.setComposer x).window = s.window := rfl
@[simp] theorem State.setComposer_port (s : State) (x : Composer) : (s.setComposer x).port = s.port := rfl
@[simp] theorem State.setComposer_walker (s : State) (x : Composer) : (s.setComposer x).walker = s.walker := rfl
@[simp] theorem State.setComposer_control (s : State) (x : Composer) : (s.setComposer x).control = s.control := rfl
@[simp] theorem State.setComposer_planner (s : State) (x : Composer) : (s.setComposer x).planner = s.planner := rfl
@[simp] theorem State.setComposer_profiles (s : State) (x : Composer) : (s.setComposer x).profiles = s.profiles := rfl
@[simp] theorem State.setComposer_store (s : State) (x : Composer) : (s.setComposer x).store = s.store := rfl
@[simp] theorem State.setComposer_builder (s : State) (x : Composer) : (s.setComposer x).builder = s.builder := rfl
@[simp] theorem State.setComposer_glyphs (s : State) (x : Composer) : (s.setComposer x).glyphs = s.glyphs := rfl
@[simp] theorem State.setComposer_composer (s : State) (x : Composer) : (s.setComposer x).composer = x := rfl
@[simp] theorem State.setComposer_link (s : State) (x : Composer) : (s.setComposer x).link = s.link := rfl
@[simp] theorem State.setComposer_writer (s : State) (x : Composer) : (s.setComposer x).writer = s.writer := rfl
@[simp] theorem State.setComposer_check (s : State) (x : Composer) : (s.setComposer x).check = s.check := rfl
@[simp] theorem State.setComposer_out (s : State) (x : Composer) : (s.setComposer x).out = s.out := rfl

/-! ### State.setLink -/

@[simp] theorem State.setLink_pending (s : State) (x : Link) : (s.setLink x).pending = s.pending := rfl
@[simp] theorem State.setLink_window (s : State) (x : Link) : (s.setLink x).window = s.window := rfl
@[simp] theorem State.setLink_port (s : State) (x : Link) : (s.setLink x).port = s.port := rfl
@[simp] theorem State.setLink_walker (s : State) (x : Link) : (s.setLink x).walker = s.walker := rfl
@[simp] theorem State.setLink_control (s : State) (x : Link) : (s.setLink x).control = s.control := rfl
@[simp] theorem State.setLink_planner (s : State) (x : Link) : (s.setLink x).planner = s.planner := rfl
@[simp] theorem State.setLink_profiles (s : State) (x : Link) : (s.setLink x).profiles = s.profiles := rfl
@[simp] theorem State.setLink_store (s : State) (x : Link) : (s.setLink x).store = s.store := rfl
@[simp] theorem State.setLink_builder (s : State) (x : Link) : (s.setLink x).builder = s.builder := rfl
@[simp] theorem State.setLink_glyphs (s : State) (x : Link) : (s.setLink x).glyphs = s.glyphs := rfl
@[simp] theorem State.setLink_composer (s : State) (x : Link) : (s.setLink x).composer = s.composer := rfl
@[simp] theorem State.setLink_link (s : State) (x : Link) : (s.setLink x).link = x := rfl
@[simp] theorem State.setLink_writer (s : State) (x : Link) : (s.setLink x).writer = s.writer := rfl
@[simp] theorem State.setLink_check (s : State) (x : Link) : (s.setLink x).check = s.check := rfl
@[simp] theorem State.setLink_out (s : State) (x : Link) : (s.setLink x).out = s.out := rfl

/-! ### State.setWriter -/

@[simp] theorem State.setWriter_pending (s : State) (x : Writer) : (s.setWriter x).pending = s.pending := rfl
@[simp] theorem State.setWriter_window (s : State) (x : Writer) : (s.setWriter x).window = s.window := rfl
@[simp] theorem State.setWriter_port (s : State) (x : Writer) : (s.setWriter x).port = s.port := rfl
@[simp] theorem State.setWriter_walker (s : State) (x : Writer) : (s.setWriter x).walker = s.walker := rfl
@[simp] theorem State.setWriter_control (s : State) (x : Writer) : (s.setWriter x).control = s.control := rfl
@[simp] theorem State.setWriter_planner (s : State) (x : Writer) : (s.setWriter x).planner = s.planner := rfl
@[simp] theorem State.setWriter_profiles (s : State) (x : Writer) : (s.setWriter x).profiles = s.profiles := rfl
@[simp] theorem State.setWriter_store (s : State) (x : Writer) : (s.setWriter x).store = s.store := rfl
@[simp] theorem State.setWriter_builder (s : State) (x : Writer) : (s.setWriter x).builder = s.builder := rfl
@[simp] theorem State.setWriter_glyphs (s : State) (x : Writer) : (s.setWriter x).glyphs = s.glyphs := rfl
@[simp] theorem State.setWriter_composer (s : State) (x : Writer) : (s.setWriter x).composer = s.composer := rfl
@[simp] theorem State.setWriter_link (s : State) (x : Writer) : (s.setWriter x).link = s.link := rfl
@[simp] theorem State.setWriter_writer (s : State) (x : Writer) : (s.setWriter x).writer = x := rfl
@[simp] theorem State.setWriter_check (s : State) (x : Writer) : (s.setWriter x).check = s.check := rfl
@[simp] theorem State.setWriter_out (s : State) (x : Writer) : (s.setWriter x).out = s.out := rfl

/-! ### State.setCheck -/

@[simp] theorem State.setCheck_pending (s : State) (x : Check) : (s.setCheck x).pending = s.pending := rfl
@[simp] theorem State.setCheck_window (s : State) (x : Check) : (s.setCheck x).window = s.window := rfl
@[simp] theorem State.setCheck_port (s : State) (x : Check) : (s.setCheck x).port = s.port := rfl
@[simp] theorem State.setCheck_walker (s : State) (x : Check) : (s.setCheck x).walker = s.walker := rfl
@[simp] theorem State.setCheck_control (s : State) (x : Check) : (s.setCheck x).control = s.control := rfl
@[simp] theorem State.setCheck_planner (s : State) (x : Check) : (s.setCheck x).planner = s.planner := rfl
@[simp] theorem State.setCheck_profiles (s : State) (x : Check) : (s.setCheck x).profiles = s.profiles := rfl
@[simp] theorem State.setCheck_store (s : State) (x : Check) : (s.setCheck x).store = s.store := rfl
@[simp] theorem State.setCheck_builder (s : State) (x : Check) : (s.setCheck x).builder = s.builder := rfl
@[simp] theorem State.setCheck_glyphs (s : State) (x : Check) : (s.setCheck x).glyphs = s.glyphs := rfl
@[simp] theorem State.setCheck_composer (s : State) (x : Check) : (s.setCheck x).composer = s.composer := rfl
@[simp] theorem State.setCheck_link (s : State) (x : Check) : (s.setCheck x).link = s.link := rfl
@[simp] theorem State.setCheck_writer (s : State) (x : Check) : (s.setCheck x).writer = s.writer := rfl
@[simp] theorem State.setCheck_check (s : State) (x : Check) : (s.setCheck x).check = x := rfl
@[simp] theorem State.setCheck_out (s : State) (x : Check) : (s.setCheck x).out = s.out := rfl

/-! ### State.setOut -/

@[simp] theorem State.setOut_pending (s : State) (x : Outputs) : (s.setOut x).pending = s.pending := rfl
@[simp] theorem State.setOut_window (s : State) (x : Outputs) : (s.setOut x).window = s.window := rfl
@[simp] theorem State.setOut_port (s : State) (x : Outputs) : (s.setOut x).port = s.port := rfl
@[simp] theorem State.setOut_walker (s : State) (x : Outputs) : (s.setOut x).walker = s.walker := rfl
@[simp] theorem State.setOut_control (s : State) (x : Outputs) : (s.setOut x).control = s.control := rfl
@[simp] theorem State.setOut_planner (s : State) (x : Outputs) : (s.setOut x).planner = s.planner := rfl
@[simp] theorem State.setOut_profiles (s : State) (x : Outputs) : (s.setOut x).profiles = s.profiles := rfl
@[simp] theorem State.setOut_store (s : State) (x : Outputs) : (s.setOut x).store = s.store := rfl
@[simp] theorem State.setOut_builder (s : State) (x : Outputs) : (s.setOut x).builder = s.builder := rfl
@[simp] theorem State.setOut_glyphs (s : State) (x : Outputs) : (s.setOut x).glyphs = s.glyphs := rfl
@[simp] theorem State.setOut_composer (s : State) (x : Outputs) : (s.setOut x).composer = s.composer := rfl
@[simp] theorem State.setOut_link (s : State) (x : Outputs) : (s.setOut x).link = s.link := rfl
@[simp] theorem State.setOut_writer (s : State) (x : Outputs) : (s.setOut x).writer = s.writer := rfl
@[simp] theorem State.setOut_check (s : State) (x : Outputs) : (s.setOut x).check = s.check := rfl
@[simp] theorem State.setOut_out (s : State) (x : Outputs) : (s.setOut x).out = x := rfl

end Sys2Proof.Machine
end

