-- ==== Sys2Proof/Laws/OpsFrames.lean ====
section
/-! SUPPORT. What the shared operations of Machine/Ops.lean and Machine/Flags.lean leave unchanged: one lemma per
operation, every part of the state that it cannot change. -/

namespace Sys2Proof.Machine

@[simp] theorem State.raise_frame (s : State) (e : Event) :
    (s.raise e).pending = s.pending ∧
    (s.raise e).window.chainHead = s.window.chainHead ∧
    (s.raise e).window.run = s.window.run ∧
    (s.raise e).window.abandon = s.window.abandon ∧
    (s.raise e).window.depth = s.window.depth ∧
    (s.raise e).window.pressMode = s.window.pressMode ∧
    (s.raise e).window.sweepPreset = s.window.sweepPreset ∧
    (s.raise e).window.enables = s.window.enables ∧
    (s.raise e).port = s.port ∧
    (s.raise e).walker = s.walker ∧
    (s.raise e).control = s.control ∧
    (s.raise e).planner = s.planner ∧
    (s.raise e).profiles = s.profiles ∧
    (s.raise e).store = s.store ∧
    (s.raise e).builder = s.builder ∧
    (s.raise e).glyphs = s.glyphs ∧
    (s.raise e).composer = s.composer ∧
    (s.raise e).link = s.link ∧
    (s.raise e).writer = s.writer ∧
    (s.raise e).check = s.check ∧
    (s.raise e).out = s.out := by
  repeat' apply And.intro
  all_goals rfl

@[simp] theorem State.setSheet_frame (s : State) (sl : SheetSlot) (x : Option Sheet) :
    (s.setSheet sl x).pending = s.pending ∧
    (s.setSheet sl x).window = s.window ∧
    (s.setSheet sl x).port = s.port ∧
    (s.setSheet sl x).walker = s.walker ∧
    (s.setSheet sl x).control.engine = s.control.engine ∧
    (s.setSheet sl x).control.cause = s.control.cause ∧
    (s.setSheet sl x).control.faultAddr = s.control.faultAddr ∧
    (s.setSheet sl x).control.queue = s.control.queue ∧
    (s.setSheet sl x).control.retire = s.control.retire ∧
    (s.setSheet sl x).control.barrier = s.control.barrier ∧
    (s.setSheet sl x).planner = s.planner ∧
    (s.setSheet sl x).profiles = s.profiles ∧
    (s.setSheet sl x).store = s.store ∧
    (s.setSheet sl x).builder = s.builder ∧
    (s.setSheet sl x).glyphs = s.glyphs ∧
    (s.setSheet sl x).composer = s.composer ∧
    (s.setSheet sl x).link = s.link ∧
    (s.setSheet sl x).writer = s.writer ∧
    (s.setSheet sl x).check = s.check ∧
    (s.setSheet sl x).out = s.out := by
  repeat' apply And.intro
  all_goals first | rfl | (unfold State.setSheet; (repeat' split) <;> simp)

@[simp] theorem State.mapSheet_frame (s : State) (sl : SheetSlot) (f : Sheet → Sheet) :
    (s.mapSheet sl f).pending = s.pending ∧
    (s.mapSheet sl f).window = s.window ∧
    (s.mapSheet sl f).port = s.port ∧
    (s.mapSheet sl f).walker = s.walker ∧
    (s.mapSheet sl f).control.engine = s.control.engine ∧
    (s.mapSheet sl f).control.cause = s.control.cause ∧
    (s.mapSheet sl f).control.faultAddr = s.control.faultAddr ∧
    (s.mapSheet sl f).control.queue = s.control.queue ∧
    (s.mapSheet sl f).control.retire = s.control.retire ∧
    (s.mapSheet sl f).control.barrier = s.control.barrier ∧
    (s.mapSheet sl f).planner = s.planner ∧
    (s.mapSheet sl f).profiles = s.profiles ∧
    (s.mapSheet sl f).store = s.store ∧
    (s.mapSheet sl f).builder = s.builder ∧
    (s.mapSheet sl f).glyphs = s.glyphs ∧
    (s.mapSheet sl f).composer = s.composer ∧
    (s.mapSheet sl f).link = s.link ∧
    (s.mapSheet sl f).writer = s.writer ∧
    (s.mapSheet sl f).check = s.check ∧
    (s.mapSheet sl f).out = s.out := by
  repeat' apply And.intro
  all_goals first | rfl | (simp [State.mapSheet])

@[simp] theorem State.mapQueue_frame (s : State) (f : QueueEntry → QueueEntry) :
    (s.mapQueue f).pending = s.pending ∧
    (s.mapQueue f).window = s.window ∧
    (s.mapQueue f).port = s.port ∧
    (s.mapQueue f).walker = s.walker ∧
    (s.mapQueue f).control.engine = s.control.engine ∧
    (s.mapQueue f).control.cause = s.control.cause ∧
    (s.mapQueue f).control.faultAddr = s.control.faultAddr ∧
    (s.mapQueue f).control.slotA = s.control.slotA ∧
    (s.mapQueue f).control.slotB = s.control.slotB ∧
    (s.mapQueue f).control.retire = s.control.retire ∧
    (s.mapQueue f).control.barrier = s.control.barrier ∧
    (s.mapQueue f).planner = s.planner ∧
    (s.mapQueue f).profiles = s.profiles ∧
    (s.mapQueue f).store = s.store ∧
    (s.mapQueue f).builder = s.builder ∧
    (s.mapQueue f).glyphs = s.glyphs ∧
    (s.mapQueue f).composer = s.composer ∧
    (s.mapQueue f).link = s.link ∧
    (s.mapQueue f).writer = s.writer ∧
    (s.mapQueue f).check = s.check ∧
    (s.mapQueue f).out = s.out := by
  repeat' apply And.intro
  all_goals rfl

@[simp] theorem State.mapResults_frame (s : State) (sl : SheetSlot) (f : Results → Results) :
    (s.mapResults sl f).pending = s.pending ∧
    (s.mapResults sl f).window = s.window ∧
    (s.mapResults sl f).port = s.port ∧
    (s.mapResults sl f).walker = s.walker ∧
    (s.mapResults sl f).control.engine = s.control.engine ∧
    (s.mapResults sl f).control.cause = s.control.cause ∧
    (s.mapResults sl f).control.faultAddr = s.control.faultAddr ∧
    (s.mapResults sl f).control.slotA = s.control.slotA ∧
    (s.mapResults sl f).control.slotB = s.control.slotB ∧
    (s.mapResults sl f).control.retire = s.control.retire ∧
    (s.mapResults sl f).control.barrier = s.control.barrier ∧
    (s.mapResults sl f).planner = s.planner ∧
    (s.mapResults sl f).profiles = s.profiles ∧
    (s.mapResults sl f).store = s.store ∧
    (s.mapResults sl f).builder = s.builder ∧
    (s.mapResults sl f).glyphs = s.glyphs ∧
    (s.mapResults sl f).composer = s.composer ∧
    (s.mapResults sl f).link = s.link ∧
    (s.mapResults sl f).writer = s.writer ∧
    (s.mapResults sl f).check = s.check ∧
    (s.mapResults sl f).out = s.out := by
  repeat' apply And.intro
  all_goals rfl

@[simp] theorem State.addCounts_frame (s : State) (sl : SheetSlot) (c : Counts) :
    (s.addCounts sl c).pending = s.pending ∧
    (s.addCounts sl c).window = s.window ∧
    (s.addCounts sl c).port = s.port ∧
    (s.addCounts sl c).walker = s.walker ∧
    (s.addCounts sl c).control.engine = s.control.engine ∧
    (s.addCounts sl c).control.cause = s.control.cause ∧
    (s.addCounts sl c).control.faultAddr = s.control.faultAddr ∧
    (s.addCounts sl c).control.slotA = s.control.slotA ∧
    (s.addCounts sl c).control.slotB = s.control.slotB ∧
    (s.addCounts sl c).control.retire = s.control.retire ∧
    (s.addCounts sl c).control.barrier = s.control.barrier ∧
    (s.addCounts sl c).planner = s.planner ∧
    (s.addCounts sl c).profiles = s.profiles ∧
    (s.addCounts sl c).store = s.store ∧
    (s.addCounts sl c).builder = s.builder ∧
    (s.addCounts sl c).glyphs = s.glyphs ∧
    (s.addCounts sl c).composer = s.composer ∧
    (s.addCounts sl c).link = s.link ∧
    (s.addCounts sl c).writer = s.writer ∧
    (s.addCounts sl c).check = s.check ∧
    (s.addCounts sl c).out = s.out := by
  repeat' apply And.intro
  all_goals rfl

@[simp] theorem State.writeServer_frame (s : State) (addr : Addr) (bytes : List Byte) :
    (s.writeServer addr bytes).pending = s.pending ∧
    (s.writeServer addr bytes).window = s.window ∧
    (s.writeServer addr bytes).port = s.port ∧
    (s.writeServer addr bytes).walker = s.walker ∧
    (s.writeServer addr bytes).control = s.control ∧
    (s.writeServer addr bytes).planner = s.planner ∧
    (s.writeServer addr bytes).profiles = s.profiles ∧
    (s.writeServer addr bytes).store = s.store ∧
    (s.writeServer addr bytes).builder = s.builder ∧
    (s.writeServer addr bytes).glyphs = s.glyphs ∧
    (s.writeServer addr bytes).composer = s.composer ∧
    (s.writeServer addr bytes).link = s.link ∧
    (s.writeServer addr bytes).writer = s.writer ∧
    (s.writeServer addr bytes).check = s.check ∧
    (s.writeServer addr bytes).out.pressMessages = s.out.pressMessages := by
  repeat' apply And.intro
  all_goals rfl

@[simp] theorem State.writeServerAll_frame (s : State) (ws : List ServerWrite) :
    (s.writeServerAll ws).pending = s.pending ∧
    (s.writeServerAll ws).window = s.window ∧
    (s.writeServerAll ws).port = s.port ∧
    (s.writeServerAll ws).walker = s.walker ∧
    (s.writeServerAll ws).control = s.control ∧
    (s.writeServerAll ws).planner = s.planner ∧
    (s.writeServerAll ws).profiles = s.profiles ∧
    (s.writeServerAll ws).store = s.store ∧
    (s.writeServerAll ws).builder = s.builder ∧
    (s.writeServerAll ws).glyphs = s.glyphs ∧
    (s.writeServerAll ws).composer = s.composer ∧
    (s.writeServerAll ws).link = s.link ∧
    (s.writeServerAll ws).writer = s.writer ∧
    (s.writeServerAll ws).check = s.check ∧
    (s.writeServerAll ws).out.pressMessages = s.out.pressMessages := by
  repeat' apply And.intro
  all_goals rfl

@[simp] theorem State.tellPress_frame (s : State) (m : PressMessage) :
    (s.tellPress m).pending = s.pending ∧
    (s.tellPress m).window = s.window ∧
    (s.tellPress m).port = s.port ∧
    (s.tellPress m).walker = s.walker ∧
    (s.tellPress m).control = s.control ∧
    (s.tellPress m).planner = s.planner ∧
    (s.tellPress m).profiles = s.profiles ∧
    (s.tellPress m).store = s.store ∧
    (s.tellPress m).builder = s.builder ∧
    (s.tellPress m).glyphs = s.glyphs ∧
    (s.tellPress m).composer = s.composer ∧
    (s.tellPress m).link = s.link ∧
    (s.tellPress m).writer = s.writer ∧
    (s.tellPress m).check = s.check ∧
    (s.tellPress m).out.serverWrites = s.out.serverWrites := by
  repeat' apply And.intro
  all_goals rfl

@[simp] theorem State.beginUnit_frame (s : State) :
    (s.beginUnit).pending = s.pending ∧
    (s.beginUnit).window = s.window ∧
    (s.beginUnit).port.hold = s.port.hold ∧
    (s.beginUnit).port.windowCode = s.port.windowCode ∧
    (s.beginUnit).port.pressFirst = s.port.pressFirst ∧
    (s.beginUnit).port.lastResult = s.port.lastResult ∧
    (s.beginUnit).port.windowTimer = s.port.windowTimer ∧
    (s.beginUnit).port.discarded = s.port.discarded ∧
    (s.beginUnit).walker = s.walker ∧
    (s.beginUnit).control = s.control ∧
    (s.beginUnit).planner = s.planner ∧
    (s.beginUnit).profiles = s.profiles ∧
    (s.beginUnit).store = s.store ∧
    (s.beginUnit).builder = s.builder ∧
    (s.beginUnit).glyphs = s.glyphs ∧
    (s.beginUnit).composer = s.composer ∧
    (s.beginUnit).link = s.link ∧
    (s.beginUnit).writer = s.writer ∧
    (s.beginUnit).check = s.check ∧
    (s.beginUnit).out = s.out := by
  repeat' apply And.intro
  all_goals rfl

@[simp] theorem State.endUnit_frame (s : State) :
    (s.endUnit).pending = s.pending ∧
    (s.endUnit).window.chainHead = s.window.chainHead ∧
    (s.endUnit).window.run = s.window.run ∧
    (s.endUnit).window.abandon = s.window.abandon ∧
    (s.endUnit).window.depth = s.window.depth ∧
    (s.endUnit).window.pressMode = s.window.pressMode ∧
    (s.endUnit).window.sweepPreset = s.window.sweepPreset ∧
    (s.endUnit).window.enables = s.window.enables ∧
    (s.endUnit).port.windowCode = s.port.windowCode ∧
    (s.endUnit).port.pressFirst = s.port.pressFirst ∧
    (s.endUnit).port.discarded = s.port.discarded ∧
    (s.endUnit).walker = s.walker ∧
    (s.endUnit).control = s.control ∧
    (s.endUnit).planner = s.planner ∧
    (s.endUnit).profiles = s.profiles ∧
    (s.endUnit).store = s.store ∧
    (s.endUnit).builder = s.builder ∧
    (s.endUnit).glyphs = s.glyphs ∧
    (s.endUnit).composer = s.composer ∧
    (s.endUnit).link = s.link ∧
    (s.endUnit).writer = s.writer ∧
    (s.endUnit).check = s.check ∧
    (s.endUnit).out = s.out := by
  repeat' apply And.intro
  all_goals first | rfl | (unfold State.endUnit; dsimp only; (repeat' split) <;> simp_all)

@[simp] theorem State.discardUnit_frame (s : State) (u : DiscardedUnit) :
    (s.discardUnit u).pending = s.pending ∧
    (s.discardUnit u).window = s.window ∧
    (s.discardUnit u).port.outstanding = s.port.outstanding ∧
    (s.discardUnit u).port.hold = s.port.hold ∧
    (s.discardUnit u).port.windowCode = s.port.windowCode ∧
    (s.discardUnit u).port.pressFirst = s.port.pressFirst ∧
    (s.discardUnit u).port.lastResult = s.port.lastResult ∧
    (s.discardUnit u).port.windowTimer = s.port.windowTimer ∧
    (s.discardUnit u).walker = s.walker ∧
    (s.discardUnit u).control = s.control ∧
    (s.discardUnit u).planner = s.planner ∧
    (s.discardUnit u).profiles = s.profiles ∧
    (s.discardUnit u).store = s.store ∧
    (s.discardUnit u).builder = s.builder ∧
    (s.discardUnit u).glyphs = s.glyphs ∧
    (s.discardUnit u).composer = s.composer ∧
    (s.discardUnit u).link = s.link ∧
    (s.discardUnit u).writer = s.writer ∧
    (s.discardUnit u).check = s.check ∧
    (s.discardUnit u).out = s.out := by
  repeat' apply And.intro
  all_goals rfl

@[simp] theorem State.finishDiscarded_frame (s : State) (u : DiscardedUnit) :
    (s.finishDiscarded u).pending = s.pending ∧
    (s.finishDiscarded u).window.chainHead = s.window.chainHead ∧
    (s.finishDiscarded u).window.run = s.window.run ∧
    (s.finishDiscarded u).window.abandon = s.window.abandon ∧
    (s.finishDiscarded u).window.depth = s.window.depth ∧
    (s.finishDiscarded u).window.pressMode = s.window.pressMode ∧
    (s.finishDiscarded u).window.sweepPreset = s.window.sweepPreset ∧
    (s.finishDiscarded u).window.enables = s.window.enables ∧
    (s.finishDiscarded u).port.windowCode = s.port.windowCode ∧
    (s.finishDiscarded u).port.pressFirst = s.port.pressFirst ∧
    (s.finishDiscarded u).walker = s.walker ∧
    (s.finishDiscarded u).control = s.control ∧
    (s.finishDiscarded u).planner = s.planner ∧
    (s.finishDiscarded u).profiles = s.profiles ∧
    (s.finishDiscarded u).store = s.store ∧
    (s.finishDiscarded u).builder = s.builder ∧
    (s.finishDiscarded u).glyphs = s.glyphs ∧
    (s.finishDiscarded u).composer = s.composer ∧
    (s.finishDiscarded u).link = s.link ∧
    (s.finishDiscarded u).writer = s.writer ∧
    (s.finishDiscarded u).check = s.check ∧
    (s.finishDiscarded u).out = s.out := by
  repeat' apply And.intro
  all_goals first | rfl | (unfold State.finishDiscarded; (repeat' split) <;> simp)

@[simp] theorem State.walkOn_frame (s : State) :
    (s.walkOn).pending = s.pending ∧
    (s.walkOn).window = s.window ∧
    (s.walkOn).port = s.port ∧
    (s.walkOn).walker.cursor = s.walker.cursor ∧
    (s.walkOn).walker.window = s.walker.window ∧
    (s.walkOn).walker.pendingWake = s.walker.pendingWake ∧
    (s.walkOn).walker.sweepTimer = s.walker.sweepTimer ∧
    (s.walkOn).walker.sweepRunning = s.walker.sweepRunning ∧
    (s.walkOn).walker.unit = s.walker.unit ∧
    (s.walkOn).walker.pendingSpent = s.walker.pendingSpent ∧
    (s.walkOn).walker.spentDue = s.walker.spentDue ∧
    (s.walkOn).walker.spentInFlight = s.walker.spentInFlight ∧
    (s.walkOn).walker.readLimit = s.walker.readLimit ∧
    (s.walkOn).control = s.control ∧
    (s.walkOn).planner = s.planner ∧
    (s.walkOn).profiles = s.profiles ∧
    (s.walkOn).store = s.store ∧
    (s.walkOn).builder = s.builder ∧
    (s.walkOn).glyphs = s.glyphs ∧
    (s.walkOn).composer = s.composer ∧
    (s.walkOn).link = s.link ∧
    (s.walkOn).writer = s.writer ∧
    (s.walkOn).check = s.check ∧
    (s.walkOn).out = s.out := by
  repeat' apply And.intro
  all_goals rfl

@[simp] theorem State.unblock_frame (s : State) :
    (s.unblock).pending = s.pending ∧
    (s.unblock).window = s.window ∧
    (s.unblock).port = s.port ∧
    (s.unblock).walker.cursor = s.walker.cursor ∧
    (s.unblock).walker.window = s.walker.window ∧
    (s.unblock).walker.pendingWake = s.walker.pendingWake ∧
    (s.unblock).walker.sweepTimer = s.walker.sweepTimer ∧
    (s.unblock).walker.sweepRunning = s.walker.sweepRunning ∧
    (s.unblock).walker.unit = s.walker.unit ∧
    (s.unblock).walker.pendingSpent = s.walker.pendingSpent ∧
    (s.unblock).walker.spentDue = s.walker.spentDue ∧
    (s.unblock).walker.spentInFlight = s.walker.spentInFlight ∧
    (s.unblock).walker.readLimit = s.walker.readLimit ∧
    (s.unblock).control = s.control ∧
    (s.unblock).planner = s.planner ∧
    (s.unblock).profiles = s.profiles ∧
    (s.unblock).store = s.store ∧
    (s.unblock).builder = s.builder ∧
    (s.unblock).glyphs = s.glyphs ∧
    (s.unblock).composer = s.composer ∧
    (s.unblock).link = s.link ∧
    (s.unblock).writer = s.writer ∧
    (s.unblock).check = s.check ∧
    (s.unblock).out = s.out := by
  repeat' apply And.intro
  all_goals first | rfl | (unfold State.unblock; (repeat' split) <;> simp)

@[simp] theorem State.enterIdle_frame (s : State) :
    (s.enterIdle).pending = s.pending ∧
    (s.enterIdle).window.chainHead = s.window.chainHead ∧
    (s.enterIdle).window.run = s.window.run ∧
    (s.enterIdle).window.abandon = s.window.abandon ∧
    (s.enterIdle).window.depth = s.window.depth ∧
    (s.enterIdle).window.pressMode = s.window.pressMode ∧
    (s.enterIdle).window.sweepPreset = s.window.sweepPreset ∧
    (s.enterIdle).window.enables = s.window.enables ∧
    (s.enterIdle).port = s.port ∧
    (s.enterIdle).walker.cursor = s.walker.cursor ∧
    (s.enterIdle).walker.window = s.walker.window ∧
    (s.enterIdle).walker.pendingWake = s.walker.pendingWake ∧
    (s.enterIdle).walker.unit = s.walker.unit ∧
    (s.enterIdle).walker.pendingSpent = s.walker.pendingSpent ∧
    (s.enterIdle).walker.spentDue = s.walker.spentDue ∧
    (s.enterIdle).walker.spentInFlight = s.walker.spentInFlight ∧
    (s.enterIdle).walker.readLimit = s.walker.readLimit ∧
    (s.enterIdle).control = s.control ∧
    (s.enterIdle).planner = s.planner ∧
    (s.enterIdle).profiles = s.profiles ∧
    (s.enterIdle).store = s.store ∧
    (s.enterIdle).builder = s.builder ∧
    (s.enterIdle).glyphs = s.glyphs ∧
    (s.enterIdle).composer = s.composer ∧
    (s.enterIdle).link = s.link ∧
    (s.enterIdle).writer = s.writer ∧
    (s.enterIdle).check = s.check ∧
    (s.enterIdle).out = s.out := by
  repeat' apply And.intro
  all_goals first | rfl | (unfold State.enterIdle; (repeat' split) <;> simp)

@[simp] theorem State.arriveIdle_frame (s : State) :
    (s.arriveIdle).pending = s.pending ∧
    (s.arriveIdle).window.chainHead = s.window.chainHead ∧
    (s.arriveIdle).window.run = s.window.run ∧
    (s.arriveIdle).window.abandon = s.window.abandon ∧
    (s.arriveIdle).window.depth = s.window.depth ∧
    (s.arriveIdle).window.pressMode = s.window.pressMode ∧
    (s.arriveIdle).window.sweepPreset = s.window.sweepPreset ∧
    (s.arriveIdle).window.enables = s.window.enables ∧
    (s.arriveIdle).port = s.port ∧
    (s.arriveIdle).walker.cursor = s.walker.cursor ∧
    (s.arriveIdle).walker.window = s.walker.window ∧
    (s.arriveIdle).walker.unit = s.walker.unit ∧
    (s.arriveIdle).walker.pendingSpent = s.walker.pendingSpent ∧
    (s.arriveIdle).walker.spentDue = s.walker.spentDue ∧
    (s.arriveIdle).walker.spentInFlight = s.walker.spentInFlight ∧
    (s.arriveIdle).walker.readLimit = s.walker.readLimit ∧
    (s.arriveIdle).control = s.control ∧
    (s.arriveIdle).planner = s.planner ∧
    (s.arriveIdle).profiles = s.profiles ∧
    (s.arriveIdle).store = s.store ∧
    (s.arriveIdle).builder = s.builder ∧
    (s.arriveIdle).glyphs = s.glyphs ∧
    (s.arriveIdle).composer = s.composer ∧
    (s.arriveIdle).link = s.link ∧
    (s.arriveIdle).writer = s.writer ∧
    (s.arriveIdle).check = s.check ∧
    (s.arriveIdle).out = s.out := by
  repeat' apply And.intro
  all_goals first | rfl | (unfold State.arriveIdle; (repeat' split) <;> simp)

@[simp] theorem State.seekFromIdle_frame (s : State) :
    (s.seekFromIdle).pending = s.pending ∧
    (s.seekFromIdle).window.chainHead = s.window.chainHead ∧
    (s.seekFromIdle).window.run = s.window.run ∧
    (s.seekFromIdle).window.abandon = s.window.abandon ∧
    (s.seekFromIdle).window.depth = s.window.depth ∧
    (s.seekFromIdle).window.pressMode = s.window.pressMode ∧
    (s.seekFromIdle).window.sweepPreset = s.window.sweepPreset ∧
    (s.seekFromIdle).window.enables = s.window.enables ∧
    (s.seekFromIdle).port = s.port ∧
    (s.seekFromIdle).walker.cursor = s.walker.cursor ∧
    (s.seekFromIdle).walker.window = s.walker.window ∧
    (s.seekFromIdle).walker.unit = s.walker.unit ∧
    (s.seekFromIdle).walker.pendingSpent = s.walker.pendingSpent ∧
    (s.seekFromIdle).walker.spentDue = s.walker.spentDue ∧
    (s.seekFromIdle).walker.spentInFlight = s.walker.spentInFlight ∧
    (s.seekFromIdle).walker.readLimit = s.walker.readLimit ∧
    (s.seekFromIdle).control = s.control ∧
    (s.seekFromIdle).planner = s.planner ∧
    (s.seekFromIdle).profiles = s.profiles ∧
    (s.seekFromIdle).store = s.store ∧
    (s.seekFromIdle).builder = s.builder ∧
    (s.seekFromIdle).glyphs = s.glyphs ∧
    (s.seekFromIdle).composer = s.composer ∧
    (s.seekFromIdle).link = s.link ∧
    (s.seekFromIdle).writer = s.writer ∧
    (s.seekFromIdle).check = s.check ∧
    (s.seekFromIdle).out = s.out := by
  repeat' apply And.intro
  all_goals first | rfl | (unfold State.seekFromIdle; (repeat' split) <;> simp)

@[simp] theorem State.startEngine_frame (s : State) :
    (s.startEngine).pending = s.pending ∧
    (s.startEngine).window.chainHead = s.window.chainHead ∧
    (s.startEngine).window.run = s.window.run ∧
    (s.startEngine).window.abandon = s.window.abandon ∧
    (s.startEngine).window.depth = s.window.depth ∧
    (s.startEngine).window.pressMode = s.window.pressMode ∧
    (s.startEngine).window.sweepPreset = s.window.sweepPreset ∧
    (s.startEngine).window.enables = s.window.enables ∧
    (s.startEngine).port = s.port ∧
    (s.startEngine).walker.window = s.walker.window ∧
    (s.startEngine).walker.unit = s.walker.unit ∧
    (s.startEngine).walker.pendingSpent = s.walker.pendingSpent ∧
    (s.startEngine).walker.spentDue = s.walker.spentDue ∧
    (s.startEngine).walker.spentInFlight = s.walker.spentInFlight ∧
    (s.startEngine).walker.readLimit = s.walker.readLimit ∧
    (s.startEngine).control.cause = s.control.cause ∧
    (s.startEngine).control.faultAddr = s.control.faultAddr ∧
    (s.startEngine).control.slotA = s.control.slotA ∧
    (s.startEngine).control.slotB = s.control.slotB ∧
    (s.startEngine).control.queue = s.control.queue ∧
    (s.startEngine).control.retire = s.control.retire ∧
    (s.startEngine).control.barrier = s.control.barrier ∧
    (s.startEngine).planner = s.planner ∧
    (s.startEngine).profiles = s.profiles ∧
    (s.startEngine).store = s.store ∧
    (s.startEngine).builder = s.builder ∧
    (s.startEngine).glyphs = s.glyphs ∧
    (s.startEngine).composer = s.composer ∧
    (s.startEngine).link = s.link ∧
    (s.startEngine).writer = s.writer ∧
    (s.startEngine).check = s.check ∧
    (s.startEngine).out = s.out := by
  repeat' apply And.intro
  all_goals first | rfl | (unfold State.startEngine; (repeat' split) <;> simp)

@[simp] theorem State.engineStops_frame (s : State) :
    (s.engineStops).pending = s.pending ∧
    (s.engineStops).window.chainHead = s.window.chainHead ∧
    (s.engineStops).window.run = s.window.run ∧
    (s.engineStops).window.depth = s.window.depth ∧
    (s.engineStops).window.pressMode = s.window.pressMode ∧
    (s.engineStops).window.sweepPreset = s.window.sweepPreset ∧
    (s.engineStops).window.enables = s.window.enables ∧
    (s.engineStops).port = s.port ∧
    (s.engineStops).walker.window = s.walker.window ∧
    (s.engineStops).walker.unit = s.walker.unit ∧
    (s.engineStops).walker.pendingSpent = s.walker.pendingSpent ∧
    (s.engineStops).walker.spentDue = s.walker.spentDue ∧
    (s.engineStops).walker.spentInFlight = s.walker.spentInFlight ∧
    (s.engineStops).walker.readLimit = s.walker.readLimit ∧
    (s.engineStops).control.cause = s.control.cause ∧
    (s.engineStops).control.faultAddr = s.control.faultAddr ∧
    (s.engineStops).control.slotA = s.control.slotA ∧
    (s.engineStops).control.slotB = s.control.slotB ∧
    (s.engineStops).control.queue = s.control.queue ∧
    (s.engineStops).control.retire = s.control.retire ∧
    (s.engineStops).control.barrier = s.control.barrier ∧
    (s.engineStops).planner = s.planner ∧
    (s.engineStops).profiles = s.profiles ∧
    (s.engineStops).store = s.store ∧
    (s.engineStops).builder = s.builder ∧
    (s.engineStops).glyphs = s.glyphs ∧
    (s.engineStops).composer = s.composer ∧
    (s.engineStops).link = s.link ∧
    (s.engineStops).writer = s.writer ∧
    (s.engineStops).check = s.check ∧
    (s.engineStops).out = s.out := by
  repeat' apply And.intro
  all_goals first | rfl | (unfold State.engineStops; (repeat' split) <;> simp)

@[simp] theorem State.stopIfDrained_frame (s : State) :
    (s.stopIfDrained).pending = s.pending ∧
    (s.stopIfDrained).window.chainHead = s.window.chainHead ∧
    (s.stopIfDrained).window.run = s.window.run ∧
    (s.stopIfDrained).window.depth = s.window.depth ∧
    (s.stopIfDrained).window.pressMode = s.window.pressMode ∧
    (s.stopIfDrained).window.sweepPreset = s.window.sweepPreset ∧
    (s.stopIfDrained).window.enables = s.window.enables ∧
    (s.stopIfDrained).port = s.port ∧
    (s.stopIfDrained).walker.window = s.walker.window ∧
    (s.stopIfDrained).walker.unit = s.walker.unit ∧
    (s.stopIfDrained).walker.pendingSpent = s.walker.pendingSpent ∧
    (s.stopIfDrained).walker.spentDue = s.walker.spentDue ∧
    (s.stopIfDrained).walker.spentInFlight = s.walker.spentInFlight ∧
    (s.stopIfDrained).walker.readLimit = s.walker.readLimit ∧
    (s.stopIfDrained).control.cause = s.control.cause ∧
    (s.stopIfDrained).control.faultAddr = s.control.faultAddr ∧
    (s.stopIfDrained).control.slotA = s.control.slotA ∧
    (s.stopIfDrained).control.slotB = s.control.slotB ∧
    (s.stopIfDrained).control.queue = s.control.queue ∧
    (s.stopIfDrained).control.retire = s.control.retire ∧
    (s.stopIfDrained).control.barrier = s.control.barrier ∧
    (s.stopIfDrained).planner = s.planner ∧
    (s.stopIfDrained).profiles = s.profiles ∧
    (s.stopIfDrained).store = s.store ∧
    (s.stopIfDrained).builder = s.builder ∧
    (s.stopIfDrained).glyphs = s.glyphs ∧
    (s.stopIfDrained).composer = s.composer ∧
    (s.stopIfDrained).link = s.link ∧
    (s.stopIfDrained).writer = s.writer ∧
    (s.stopIfDrained).check = s.check ∧
    (s.stopIfDrained).out = s.out := by
  repeat' apply And.intro
  all_goals first | rfl | (unfold State.stopIfDrained; (repeat' split) <;> simp)

@[simp] theorem State.drainWalker_frame (s : State) :
    (s.drainWalker).pending = s.pending ∧
    (s.drainWalker).window = s.window ∧
    (s.drainWalker).port = s.port ∧
    (s.drainWalker).walker.pendingWake = s.walker.pendingWake ∧
    (s.drainWalker).walker.sweepTimer = s.walker.sweepTimer ∧
    (s.drainWalker).walker.pendingSpent = s.walker.pendingSpent ∧
    (s.drainWalker).walker.spentDue = s.walker.spentDue ∧
    (s.drainWalker).walker.spentInFlight = s.walker.spentInFlight ∧
    (s.drainWalker).walker.readLimit = s.walker.readLimit ∧
    (s.drainWalker).control = s.control ∧
    (s.drainWalker).planner = s.planner ∧
    (s.drainWalker).profiles = s.profiles ∧
    (s.drainWalker).store = s.store ∧
    (s.drainWalker).builder = s.builder ∧
    (s.drainWalker).glyphs = s.glyphs ∧
    (s.drainWalker).composer = s.composer ∧
    (s.drainWalker).link = s.link ∧
    (s.drainWalker).writer = s.writer ∧
    (s.drainWalker).check = s.check ∧
    (s.drainWalker).out = s.out := by
  repeat' apply And.intro
  all_goals rfl

@[simp] theorem State.markHead_frame (s : State) :
    (s.markHead).pending = s.pending ∧
    (s.markHead).window = s.window ∧
    (s.markHead).port = s.port ∧
    (s.markHead).walker = s.walker ∧
    (s.markHead).control.engine = s.control.engine ∧
    (s.markHead).control.cause = s.control.cause ∧
    (s.markHead).control.faultAddr = s.control.faultAddr ∧
    (s.markHead).control.slotA = s.control.slotA ∧
    (s.markHead).control.slotB = s.control.slotB ∧
    (s.markHead).control.retire = s.control.retire ∧
    (s.markHead).control.barrier = s.control.barrier ∧
    (s.markHead).planner = s.planner ∧
    (s.markHead).profiles = s.profiles ∧
    (s.markHead).store = s.store ∧
    (s.markHead).builder = s.builder ∧
    (s.markHead).glyphs = s.glyphs ∧
    (s.markHead).composer = s.composer ∧
    (s.markHead).link = s.link ∧
    (s.markHead).writer = s.writer ∧
    (s.markHead).check = s.check ∧
    (s.markHead).out = s.out := by
  repeat' apply And.intro
  all_goals first | rfl | (unfold State.markHead; (repeat' split) <;> simp)

@[simp] theorem State.freeSlot_frame (s : State) (sl : SheetSlot) :
    (s.freeSlot sl).pending = s.pending ∧
    (s.freeSlot sl).window = s.window ∧
    (s.freeSlot sl).port = s.port ∧
    (s.freeSlot sl).walker.cursor = s.walker.cursor ∧
    (s.freeSlot sl).walker.window = s.walker.window ∧
    (s.freeSlot sl).walker.pendingWake = s.walker.pendingWake ∧
    (s.freeSlot sl).walker.sweepTimer = s.walker.sweepTimer ∧
    (s.freeSlot sl).walker.sweepRunning = s.walker.sweepRunning ∧
    (s.freeSlot sl).walker.unit = s.walker.unit ∧
    (s.freeSlot sl).walker.pendingSpent = s.walker.pendingSpent ∧
    (s.freeSlot sl).walker.spentDue = s.walker.spentDue ∧
    (s.freeSlot sl).walker.spentInFlight = s.walker.spentInFlight ∧
    (s.freeSlot sl).walker.readLimit = s.walker.readLimit ∧
    (s.freeSlot sl).control.engine = s.control.engine ∧
    (s.freeSlot sl).control.cause = s.control.cause ∧
    (s.freeSlot sl).control.faultAddr = s.control.faultAddr ∧
    (s.freeSlot sl).control.retire = s.control.retire ∧
    (s.freeSlot sl).control.barrier = s.control.barrier ∧
    (s.freeSlot sl).planner = s.planner ∧
    (s.freeSlot sl).profiles = s.profiles ∧
    (s.freeSlot sl).store = s.store ∧
    (s.freeSlot sl).builder = s.builder ∧
    (s.freeSlot sl).glyphs = s.glyphs ∧
    (s.freeSlot sl).composer = s.composer ∧
    (s.freeSlot sl).link = s.link ∧
    (s.freeSlot sl).writer = s.writer ∧
    (s.freeSlot sl).check = s.check ∧
    (s.freeSlot sl).out = s.out := by
  repeat' apply And.intro
  all_goals first | rfl | (unfold State.freeSlot; (repeat' split) <;> simp)

@[simp] theorem State.finishBarrier_frame (s : State) (r : Results) :
    (s.finishBarrier r).pending = s.pending ∧
    (s.finishBarrier r).window = s.window ∧
    (s.finishBarrier r).port = s.port ∧
    (s.finishBarrier r).walker.cursor = s.walker.cursor ∧
    (s.finishBarrier r).walker.window = s.walker.window ∧
    (s.finishBarrier r).walker.pendingWake = s.walker.pendingWake ∧
    (s.finishBarrier r).walker.sweepTimer = s.walker.sweepTimer ∧
    (s.finishBarrier r).walker.sweepRunning = s.walker.sweepRunning ∧
    (s.finishBarrier r).walker.unit = s.walker.unit ∧
    (s.finishBarrier r).walker.pendingSpent = s.walker.pendingSpent ∧
    (s.finishBarrier r).walker.spentDue = s.walker.spentDue ∧
    (s.finishBarrier r).walker.spentInFlight = s.walker.spentInFlight ∧
    (s.finishBarrier r).walker.readLimit = s.walker.readLimit ∧
    (s.finishBarrier r).control.engine = s.control.engine ∧
    (s.finishBarrier r).control.cause = s.control.cause ∧
    (s.finishBarrier r).control.faultAddr = s.control.faultAddr ∧
    (s.finishBarrier r).control.slotA = s.control.slotA ∧
    (s.finishBarrier r).control.slotB = s.control.slotB ∧
    (s.finishBarrier r).control.retire = s.control.retire ∧
    (s.finishBarrier r).planner = s.planner ∧
    (s.finishBarrier r).profiles = s.profiles ∧
    (s.finishBarrier r).store = s.store ∧
    (s.finishBarrier r).builder = s.builder ∧
    (s.finishBarrier r).glyphs = s.glyphs ∧
    (s.finishBarrier r).composer = s.composer ∧
    (s.finishBarrier r).link = s.link ∧
    (s.finishBarrier r).writer = s.writer ∧
    (s.finishBarrier r).check = s.check ∧
    (s.finishBarrier r).out = s.out := by
  repeat' apply And.intro
  all_goals first | rfl | (simp [State.finishBarrier])

@[simp] theorem State.logUncorrectable_frame (s : State) (loc : CheckLoc) :
    (s.logUncorrectable loc).pending = s.pending ∧
    (s.logUncorrectable loc).window.chainHead = s.window.chainHead ∧
    (s.logUncorrectable loc).window.run = s.window.run ∧
    (s.logUncorrectable loc).window.abandon = s.window.abandon ∧
    (s.logUncorrectable loc).window.depth = s.window.depth ∧
    (s.logUncorrectable loc).window.pressMode = s.window.pressMode ∧
    (s.logUncorrectable loc).window.sweepPreset = s.window.sweepPreset ∧
    (s.logUncorrectable loc).window.enables = s.window.enables ∧
    (s.logUncorrectable loc).port = s.port ∧
    (s.logUncorrectable loc).walker = s.walker ∧
    (s.logUncorrectable loc).control = s.control ∧
    (s.logUncorrectable loc).planner = s.planner ∧
    (s.logUncorrectable loc).profiles = s.profiles ∧
    (s.logUncorrectable loc).store = s.store ∧
    (s.logUncorrectable loc).builder = s.builder ∧
    (s.logUncorrectable loc).glyphs = s.glyphs ∧
    (s.logUncorrectable loc).composer = s.composer ∧
    (s.logUncorrectable loc).link = s.link ∧
    (s.logUncorrectable loc).writer = s.writer ∧
    (s.logUncorrectable loc).check.correctable = s.check.correctable ∧
    (s.logUncorrectable loc).check.count = s.check.count ∧
    (s.logUncorrectable loc).check.poison = s.check.poison ∧
    (s.logUncorrectable loc).check.standing = s.check.standing ∧
    (s.logUncorrectable loc).check.finds = s.check.finds ∧
    (s.logUncorrectable loc).out = s.out := by
  repeat' apply And.intro
  all_goals first | rfl | (unfold State.logUncorrectable; (repeat' split) <;> simp)

@[simp] theorem State.logCorrectable_frame (s : State) (loc : CheckLoc) :
    (s.logCorrectable loc).pending = s.pending ∧
    (s.logCorrectable loc).window.chainHead = s.window.chainHead ∧
    (s.logCorrectable loc).window.run = s.window.run ∧
    (s.logCorrectable loc).window.abandon = s.window.abandon ∧
    (s.logCorrectable loc).window.depth = s.window.depth ∧
    (s.logCorrectable loc).window.pressMode = s.window.pressMode ∧
    (s.logCorrectable loc).window.sweepPreset = s.window.sweepPreset ∧
    (s.logCorrectable loc).window.enables = s.window.enables ∧
    (s.logCorrectable loc).port = s.port ∧
    (s.logCorrectable loc).walker = s.walker ∧
    (s.logCorrectable loc).control = s.control ∧
    (s.logCorrectable loc).planner = s.planner ∧
    (s.logCorrectable loc).profiles = s.profiles ∧
    (s.logCorrectable loc).store = s.store ∧
    (s.logCorrectable loc).builder = s.builder ∧
    (s.logCorrectable loc).glyphs = s.glyphs ∧
    (s.logCorrectable loc).composer = s.composer ∧
    (s.logCorrectable loc).link = s.link ∧
    (s.logCorrectable loc).writer = s.writer ∧
    (s.logCorrectable loc).check.uncorrectable = s.check.uncorrectable ∧
    (s.logCorrectable loc).check.locked = s.check.locked ∧
    (s.logCorrectable loc).check.poison = s.check.poison ∧
    (s.logCorrectable loc).check.standing = s.check.standing ∧
    (s.logCorrectable loc).check.finds = s.check.finds ∧
    (s.logCorrectable loc).out = s.out := by
  repeat' apply And.intro
  all_goals first | rfl | (unfold State.logCorrectable; (repeat' split) <;> simp)

/-! ## Standing correctable errors (R197) -/

@[simp] theorem State.rewritten_frame (s : State) (area : CheckLoc → Bool) :
    (s.rewritten area).pending = s.pending ∧
    (s.rewritten area).window = s.window ∧
    (s.rewritten area).port = s.port ∧
    (s.rewritten area).walker = s.walker ∧
    (s.rewritten area).control = s.control ∧
    (s.rewritten area).planner = s.planner ∧
    (s.rewritten area).profiles = s.profiles ∧
    (s.rewritten area).store = s.store ∧
    (s.rewritten area).builder = s.builder ∧
    (s.rewritten area).glyphs = s.glyphs ∧
    (s.rewritten area).composer = s.composer ∧
    (s.rewritten area).link = s.link ∧
    (s.rewritten area).writer = s.writer ∧
    (s.rewritten area).check.correctable = s.check.correctable ∧
    (s.rewritten area).check.count = s.check.count ∧
    (s.rewritten area).check.uncorrectable = s.check.uncorrectable ∧
    (s.rewritten area).check.locked = s.check.locked ∧
    (s.rewritten area).check.poison = s.check.poison ∧
    (s.rewritten area).check.finds = s.check.finds ∧
    (s.rewritten area).out = s.out := by
  repeat' apply And.intro
  all_goals rfl

/-- What a rewriting leaves of the errors that stand (R197). -/
@[simp] theorem State.rewritten_standing (s : State) (area : CheckLoc → Bool) :
    (s.rewritten area).check.standing = s.check.standing.filter fun l => !area l := rfl

@[simp] theorem State.keepStanding_frame (s : State) (loc : CheckLoc) :
    (s.keepStanding loc).pending = s.pending ∧
    (s.keepStanding loc).window = s.window ∧
    (s.keepStanding loc).port = s.port ∧
    (s.keepStanding loc).walker = s.walker ∧
    (s.keepStanding loc).control = s.control ∧
    (s.keepStanding loc).planner = s.planner ∧
    (s.keepStanding loc).profiles = s.profiles ∧
    (s.keepStanding loc).store = s.store ∧
    (s.keepStanding loc).builder = s.builder ∧
    (s.keepStanding loc).glyphs = s.glyphs ∧
    (s.keepStanding loc).composer = s.composer ∧
    (s.keepStanding loc).link = s.link ∧
    (s.keepStanding loc).writer = s.writer ∧
    (s.keepStanding loc).check.correctable = s.check.correctable ∧
    (s.keepStanding loc).check.count = s.check.count ∧
    (s.keepStanding loc).check.uncorrectable = s.check.uncorrectable ∧
    (s.keepStanding loc).check.locked = s.check.locked ∧
    (s.keepStanding loc).check.poison = s.check.poison ∧
    (s.keepStanding loc).check.finds = s.check.finds ∧
    (s.keepStanding loc).out = s.out := by
  repeat' apply And.intro
  all_goals first | rfl | (unfold State.keepStanding; split <;> rfl)

/-- An error that is kept stands, and every other that stood does (R197). -/
@[simp] theorem State.mem_keepStanding (s : State) (loc l : CheckLoc) :
    l ∈ (s.keepStanding loc).check.standing ↔ l ∈ s.check.standing ∨ l = loc := by
  unfold State.keepStanding
  split
  · constructor
    · exact .inl
    · rintro (h | rfl) <;> assumption
  · simp

@[simp] theorem State.logCorrectableTimes_frame (s : State) (loc : CheckLoc) (n : Nat) :
    (s.logCorrectableTimes loc n).pending = s.pending ∧
    (s.logCorrectableTimes loc n).window.chainHead = s.window.chainHead ∧
    (s.logCorrectableTimes loc n).window.run = s.window.run ∧
    (s.logCorrectableTimes loc n).window.abandon = s.window.abandon ∧
    (s.logCorrectableTimes loc n).window.depth = s.window.depth ∧
    (s.logCorrectableTimes loc n).window.pressMode = s.window.pressMode ∧
    (s.logCorrectableTimes loc n).window.sweepPreset = s.window.sweepPreset ∧
    (s.logCorrectableTimes loc n).window.enables = s.window.enables ∧
    (s.logCorrectableTimes loc n).port = s.port ∧
    (s.logCorrectableTimes loc n).walker = s.walker ∧
    (s.logCorrectableTimes loc n).control = s.control ∧
    (s.logCorrectableTimes loc n).planner = s.planner ∧
    (s.logCorrectableTimes loc n).profiles = s.profiles ∧
    (s.logCorrectableTimes loc n).store = s.store ∧
    (s.logCorrectableTimes loc n).builder = s.builder ∧
    (s.logCorrectableTimes loc n).glyphs = s.glyphs ∧
    (s.logCorrectableTimes loc n).composer = s.composer ∧
    (s.logCorrectableTimes loc n).link = s.link ∧
    (s.logCorrectableTimes loc n).writer = s.writer ∧
    (s.logCorrectableTimes loc n).check.uncorrectable = s.check.uncorrectable ∧
    (s.logCorrectableTimes loc n).check.locked = s.check.locked ∧
    (s.logCorrectableTimes loc n).check.poison = s.check.poison ∧
    (s.logCorrectableTimes loc n).check.standing = s.check.standing ∧
    (s.logCorrectableTimes loc n).check.finds = s.check.finds ∧
    (s.logCorrectableTimes loc n).out = s.out := by
  induction n generalizing s with
  | zero => simp [State.logCorrectableTimes]
  | succ n ih => simp [State.logCorrectableTimes, ih]

@[simp] theorem State.findOne_frame (s : State) (loc : CheckLoc) :
    (s.findOne loc).pending = s.pending ∧
    (s.findOne loc).window.chainHead = s.window.chainHead ∧
    (s.findOne loc).window.run = s.window.run ∧
    (s.findOne loc).window.abandon = s.window.abandon ∧
    (s.findOne loc).window.depth = s.window.depth ∧
    (s.findOne loc).window.pressMode = s.window.pressMode ∧
    (s.findOne loc).window.sweepPreset = s.window.sweepPreset ∧
    (s.findOne loc).window.enables = s.window.enables ∧
    (s.findOne loc).port = s.port ∧
    (s.findOne loc).walker = s.walker ∧
    (s.findOne loc).control = s.control ∧
    (s.findOne loc).planner = s.planner ∧
    (s.findOne loc).profiles = s.profiles ∧
    (s.findOne loc).store = s.store ∧
    (s.findOne loc).builder = s.builder ∧
    (s.findOne loc).glyphs = s.glyphs ∧
    (s.findOne loc).composer = s.composer ∧
    (s.findOne loc).link = s.link ∧
    (s.findOne loc).writer = s.writer ∧
    (s.findOne loc).check.uncorrectable = s.check.uncorrectable ∧
    (s.findOne loc).check.locked = s.check.locked ∧
    (s.findOne loc).check.poison = s.check.poison ∧
    (s.findOne loc).check.standing = s.check.standing ∧
    (s.findOne loc).out = s.out := by
  repeat' apply And.intro
  all_goals first | rfl | simp [State.findOne]

/-- A run of finds changes nothing outside the log and its event. -/
theorem State.findAll_frame (ls : List CheckLoc) (s : State) :
    (ls.foldl State.findOne s).pending = s.pending ∧
    (ls.foldl State.findOne s).window.chainHead = s.window.chainHead ∧
    (ls.foldl State.findOne s).window.run = s.window.run ∧
    (ls.foldl State.findOne s).window.abandon = s.window.abandon ∧
    (ls.foldl State.findOne s).window.depth = s.window.depth ∧
    (ls.foldl State.findOne s).window.pressMode = s.window.pressMode ∧
    (ls.foldl State.findOne s).window.sweepPreset = s.window.sweepPreset ∧
    (ls.foldl State.findOne s).window.enables = s.window.enables ∧
    (ls.foldl State.findOne s).port = s.port ∧
    (ls.foldl State.findOne s).walker = s.walker ∧
    (ls.foldl State.findOne s).control = s.control ∧
    (ls.foldl State.findOne s).planner = s.planner ∧
    (ls.foldl State.findOne s).profiles = s.profiles ∧
    (ls.foldl State.findOne s).store = s.store ∧
    (ls.foldl State.findOne s).builder = s.builder ∧
    (ls.foldl State.findOne s).glyphs = s.glyphs ∧
    (ls.foldl State.findOne s).composer = s.composer ∧
    (ls.foldl State.findOne s).link = s.link ∧
    (ls.foldl State.findOne s).writer = s.writer ∧
    (ls.foldl State.findOne s).check.uncorrectable = s.check.uncorrectable ∧
    (ls.foldl State.findOne s).check.locked = s.check.locked ∧
    (ls.foldl State.findOne s).check.poison = s.check.poison ∧
    (ls.foldl State.findOne s).check.standing = s.check.standing ∧
    (ls.foldl State.findOne s).out = s.out := by
  induction ls generalizing s with
  | nil => simp
  | cons l rest ih => simpa using ih (s.findOne l)

@[simp] theorem State.findAgain_frame (s : State) (reads : CheckLoc → Bool) :
    (s.findAgain reads).pending = s.pending ∧
    (s.findAgain reads).window.chainHead = s.window.chainHead ∧
    (s.findAgain reads).window.run = s.window.run ∧
    (s.findAgain reads).window.abandon = s.window.abandon ∧
    (s.findAgain reads).window.depth = s.window.depth ∧
    (s.findAgain reads).window.pressMode = s.window.pressMode ∧
    (s.findAgain reads).window.sweepPreset = s.window.sweepPreset ∧
    (s.findAgain reads).window.enables = s.window.enables ∧
    (s.findAgain reads).port = s.port ∧
    (s.findAgain reads).walker = s.walker ∧
    (s.findAgain reads).control = s.control ∧
    (s.findAgain reads).planner = s.planner ∧
    (s.findAgain reads).profiles = s.profiles ∧
    (s.findAgain reads).store = s.store ∧
    (s.findAgain reads).builder = s.builder ∧
    (s.findAgain reads).glyphs = s.glyphs ∧
    (s.findAgain reads).composer = s.composer ∧
    (s.findAgain reads).link = s.link ∧
    (s.findAgain reads).writer = s.writer ∧
    (s.findAgain reads).check.uncorrectable = s.check.uncorrectable ∧
    (s.findAgain reads).check.locked = s.check.locked ∧
    (s.findAgain reads).check.poison = s.check.poison ∧
    (s.findAgain reads).check.standing = s.check.standing ∧
    (s.findAgain reads).out = s.out := by
  exact State.findAll_frame _ s

/-- With no standing error where it reads, a work finds none again (R197). -/
theorem State.findAgain_none (s : State) (reads : CheckLoc → Bool) (h : ∀ l ∈ s.check.standing, reads l = false) :
    s.findAgain reads = s := by
  have : s.check.standing.filter reads = [] := by simpa using h
  simp [State.findAgain, this]

/-- Errors of a locked log are not logged: the log and the events stay (R197, R198). -/
theorem State.logCorrectableTimes_locked (s : State) (loc : CheckLoc) (n : Nat) (h : s.check.locked = true) :
    s.logCorrectableTimes loc n = s := by
  induction n with
  | zero => rfl
  | succ n ih => rw [State.logCorrectableTimes, show s.logCorrectable loc = s by simp [State.logCorrectable, h], ih]

/-- Errors of one place, read a number of times while the log is unlocked: the record is taken once, the count rises by the
number up to 255, and INTEGRITY is raised where there is one (R197). -/
theorem State.logCorrectableTimes_unlocked (s : State) (loc : CheckLoc) (n : Nat) (h : s.check.locked = false) :
    s.logCorrectableTimes loc n = if n = 0 then s else
      (s.setCheck { s.check with
        correctable := some (s.check.correctable.getD loc)
        count := BitVec.ofNat 8 (min 255 (s.check.count.toNat + n)) }).raise .integrity := by
  induction n generalizing s with
  | zero => simp [State.logCorrectableTimes]
  | succ n ih =>
    rw [State.logCorrectableTimes, ih _ (by simpa using h)]
    have hc : (if s.check.count = 255#8 then 255#8 else s.check.count + 1#8) =
        BitVec.ofNat 8 (min 255 (s.check.count.toNat + 1)) := by
      split
      · simp [*]
      · have : s.check.count.toNat ≠ 255 := fun h => ‹¬_› (BitVec.eq_of_toNat_eq h)
        apply BitVec.eq_of_toNat_eq
        simp
        omega
    have hm : min 255 ((BitVec.ofNat 8 (min 255 (s.check.count.toNat + 1))).toNat + n) =
        min 255 (s.check.count.toNat + (n + 1)) := by
      simp only [BitVec.toNat_ofNat]
      omega
    have hl : s.logCorrectable loc = (s.setCheck { s.check with
        correctable := some (s.check.correctable.getD loc)
        count := BitVec.ofNat 8 (min 255 (s.check.count.toNat + 1)) }).raise .integrity := by
      unfold State.logCorrectable
      rw [if_neg (by simp [h]), hc]
      cases s.check.correctable <;> simp
    rw [hl]
    split
    · subst n; simp
    · simp only [State.raise, State.setCheck, State.setWindow, hm, Option.getD_some, BitVec.or_assoc, BitVec.or_self]
      simp

end Sys2Proof.Machine
end

