-- ==== Sys2Proof/Laws/StoreFrames.lean ====
section
/-! SUPPORT. What the Tile Store's operations leave unchanged: one lemma per
operation, every part of the state that it cannot change. -/

namespace Sys2Proof.Machine

/-- Replacing a set keeps the mode and both scratch pools. -/
@[simp] theorem TileStore.setSet_frame (t : TileStore) (i : Fin 128) (x : TileSet) :
    (t.setSet i x).mode = t.mode ∧ (t.setSet i x).poolA = t.poolA ∧ (t.setSet i x).poolB = t.poolB := ⟨rfl, rfl, rfl⟩

/-- Replacing a slot keeps the mode and both scratch pools. -/
@[simp] theorem TileStore.setSlot_frame (t : TileStore) (i : Fin 128) (w : Way) (x : StoreSlot) :
    (t.setSlot i w x).mode = t.mode ∧ (t.setSlot i w x).poolA = t.poolA ∧ (t.setSlot i w x).poolB = t.poolB :=
  ⟨rfl, rfl, rfl⟩

/-- Replacing a scratch pool keeps the sets and the mode. -/
@[simp] theorem TileStore.setPool_frame (t : TileStore) (p : SheetSlot) (x : ScratchPool) :
    (t.setPool p x).sets = t.sets ∧ (t.setPool p x).mode = t.mode := by cases p <;> exact ⟨rfl, rfl⟩

/-- Replacing a scratch slot keeps the sets and the mode. -/
@[simp] theorem TileStore.setScratch_frame (t : TileStore) (p : SheetSlot) (i : Fin 64) (x : ScratchSlot) :
    (t.setScratch p i x).sets = t.sets ∧ (t.setScratch p i x).mode = t.mode := by simp [TileStore.setScratch]

/-- What every step of a fold keeps, the fold keeps. -/
theorem foldl_keep {α β γ : Type} (f : α → β → α) (g : α → γ) (h : ∀ a b, g (f a b) = g a) (l : List β) (a : α) :
    g (l.foldl f a) = g a := by
  induction l generalizing a with
  | nil => rfl
  | cons b l ih => simp [ih, h]

@[simp] theorem State.mapSlot_frame (s : State) (i : Fin 128) (w : Way) (f : StoreSlot → StoreSlot) :
    (s.mapSlot i w f).pending = s.pending ∧
    (s.mapSlot i w f).window = s.window ∧
    (s.mapSlot i w f).port = s.port ∧
    (s.mapSlot i w f).walker = s.walker ∧
    (s.mapSlot i w f).control = s.control ∧
    (s.mapSlot i w f).planner = s.planner ∧
    (s.mapSlot i w f).profiles = s.profiles ∧
    (s.mapSlot i w f).store.mode = s.store.mode ∧
    (s.mapSlot i w f).store.poolA = s.store.poolA ∧
    (s.mapSlot i w f).store.poolB = s.store.poolB ∧
    (s.mapSlot i w f).builder = s.builder ∧
    (s.mapSlot i w f).glyphs = s.glyphs ∧
    (s.mapSlot i w f).composer = s.composer ∧
    (s.mapSlot i w f).link = s.link ∧
    (s.mapSlot i w f).writer = s.writer ∧
    (s.mapSlot i w f).check = s.check ∧
    (s.mapSlot i w f).out = s.out := by
  repeat' apply And.intro
  all_goals rfl

@[simp] theorem State.mapScratch_frame (s : State) (p : SheetSlot) (i : Fin 64) (f : ScratchSlot → ScratchSlot) :
    (s.mapScratch p i f).pending = s.pending ∧
    (s.mapScratch p i f).window = s.window ∧
    (s.mapScratch p i f).port = s.port ∧
    (s.mapScratch p i f).walker = s.walker ∧
    (s.mapScratch p i f).control = s.control ∧
    (s.mapScratch p i f).planner = s.planner ∧
    (s.mapScratch p i f).profiles = s.profiles ∧
    (s.mapScratch p i f).store.sets = s.store.sets ∧
    (s.mapScratch p i f).store.mode = s.store.mode ∧
    (s.mapScratch p i f).builder = s.builder ∧
    (s.mapScratch p i f).glyphs = s.glyphs ∧
    (s.mapScratch p i f).composer = s.composer ∧
    (s.mapScratch p i f).link = s.link ∧
    (s.mapScratch p i f).writer = s.writer ∧
    (s.mapScratch p i f).check = s.check ∧
    (s.mapScratch p i f).out = s.out := by
  repeat' apply And.intro
  all_goals first | rfl | (simp [State.mapScratch])

@[simp] theorem State.appendBuild_frame (s : State) (ref : TileRef) (k : TileKey) (src : Source) :
    (s.appendBuild ref k src).pending = s.pending ∧
    (s.appendBuild ref k src).window = s.window ∧
    (s.appendBuild ref k src).port = s.port ∧
    (s.appendBuild ref k src).walker = s.walker ∧
    (s.appendBuild ref k src).control = s.control ∧
    (s.appendBuild ref k src).planner = s.planner ∧
    (s.appendBuild ref k src).profiles = s.profiles ∧
    (s.appendBuild ref k src).store = s.store ∧
    (s.appendBuild ref k src).builder.current = s.builder.current ∧
    (s.appendBuild ref k src).glyphs = s.glyphs ∧
    (s.appendBuild ref k src).composer = s.composer ∧
    (s.appendBuild ref k src).link = s.link ∧
    (s.appendBuild ref k src).writer = s.writer ∧
    (s.appendBuild ref k src).check = s.check ∧
    (s.appendBuild ref k src).out = s.out := by
  repeat' apply And.intro
  all_goals rfl

@[simp] theorem State.raisePending_frame (s : State) (sl : SheetSlot) :
    (s.raisePending sl).pending = s.pending ∧
    (s.raisePending sl).window = s.window ∧
    (s.raisePending sl).port = s.port ∧
    (s.raisePending sl).walker = s.walker ∧
    (s.raisePending sl).control.engine = s.control.engine ∧
    (s.raisePending sl).control.cause = s.control.cause ∧
    (s.raisePending sl).control.faultAddr = s.control.faultAddr ∧
    (s.raisePending sl).control.queue = s.control.queue ∧
    (s.raisePending sl).control.retire = s.control.retire ∧
    (s.raisePending sl).control.barrier = s.control.barrier ∧
    (s.raisePending sl).planner = s.planner ∧
    (s.raisePending sl).profiles = s.profiles ∧
    (s.raisePending sl).store = s.store ∧
    (s.raisePending sl).builder = s.builder ∧
    (s.raisePending sl).glyphs = s.glyphs ∧
    (s.raisePending sl).composer = s.composer ∧
    (s.raisePending sl).link = s.link ∧
    (s.raisePending sl).writer = s.writer ∧
    (s.raisePending sl).check = s.check ∧
    (s.raisePending sl).out = s.out := by
  repeat' apply And.intro
  all_goals first | rfl | (simp [State.raisePending])

@[simp] theorem State.scratchLookup_frame (s : State) (sl : SheetSlot) (k : TileKey) (src : Source) :
    (s.scratchLookup sl k src).1.pending = s.pending ∧
    (s.scratchLookup sl k src).1.window = s.window ∧
    (s.scratchLookup sl k src).1.port = s.port ∧
    (s.scratchLookup sl k src).1.walker = s.walker ∧
    (s.scratchLookup sl k src).1.control.engine = s.control.engine ∧
    (s.scratchLookup sl k src).1.control.cause = s.control.cause ∧
    (s.scratchLookup sl k src).1.control.faultAddr = s.control.faultAddr ∧
    (s.scratchLookup sl k src).1.control.queue = s.control.queue ∧
    (s.scratchLookup sl k src).1.control.retire = s.control.retire ∧
    (s.scratchLookup sl k src).1.control.barrier = s.control.barrier ∧
    (s.scratchLookup sl k src).1.planner = s.planner ∧
    (s.scratchLookup sl k src).1.profiles = s.profiles ∧
    (s.scratchLookup sl k src).1.store.sets = s.store.sets ∧
    (s.scratchLookup sl k src).1.store.mode = s.store.mode ∧
    (s.scratchLookup sl k src).1.builder.current = s.builder.current ∧
    (s.scratchLookup sl k src).1.glyphs = s.glyphs ∧
    (s.scratchLookup sl k src).1.composer = s.composer ∧
    (s.scratchLookup sl k src).1.link = s.link ∧
    (s.scratchLookup sl k src).1.writer = s.writer ∧
    (s.scratchLookup sl k src).1.check = s.check ∧
    (s.scratchLookup sl k src).1.out = s.out := by
  repeat' apply And.intro
  all_goals first | rfl | (unfold State.scratchLookup; dsimp only; (repeat' split) <;> simp)

@[simp] theorem State.hitOrJoin_frame (s : State) (sl : SheetSlot) (k : TileKey) (w : Way) :
    (s.hitOrJoin sl k w).1.pending = s.pending ∧
    (s.hitOrJoin sl k w).1.window = s.window ∧
    (s.hitOrJoin sl k w).1.port = s.port ∧
    (s.hitOrJoin sl k w).1.walker = s.walker ∧
    (s.hitOrJoin sl k w).1.control.engine = s.control.engine ∧
    (s.hitOrJoin sl k w).1.control.cause = s.control.cause ∧
    (s.hitOrJoin sl k w).1.control.faultAddr = s.control.faultAddr ∧
    (s.hitOrJoin sl k w).1.control.queue = s.control.queue ∧
    (s.hitOrJoin sl k w).1.control.retire = s.control.retire ∧
    (s.hitOrJoin sl k w).1.control.barrier = s.control.barrier ∧
    (s.hitOrJoin sl k w).1.planner = s.planner ∧
    (s.hitOrJoin sl k w).1.profiles = s.profiles ∧
    (s.hitOrJoin sl k w).1.store.mode = s.store.mode ∧
    (s.hitOrJoin sl k w).1.store.poolA = s.store.poolA ∧
    (s.hitOrJoin sl k w).1.store.poolB = s.store.poolB ∧
    (s.hitOrJoin sl k w).1.builder = s.builder ∧
    (s.hitOrJoin sl k w).1.glyphs = s.glyphs ∧
    (s.hitOrJoin sl k w).1.composer = s.composer ∧
    (s.hitOrJoin sl k w).1.link = s.link ∧
    (s.hitOrJoin sl k w).1.writer = s.writer ∧
    (s.hitOrJoin sl k w).1.check = s.check ∧
    (s.hitOrJoin sl k w).1.out = s.out := by
  repeat' apply And.intro
  all_goals unfold State.hitOrJoin; dsimp only; split <;> (try split) <;> simp

@[simp] theorem State.fillWay_frame (s : State) (sl : SheetSlot) (k : TileKey) (src : Source) (w : Way) :
    (s.fillWay sl k src w).1.pending = s.pending ∧
    (s.fillWay sl k src w).1.window = s.window ∧
    (s.fillWay sl k src w).1.port = s.port ∧
    (s.fillWay sl k src w).1.walker = s.walker ∧
    (s.fillWay sl k src w).1.control.engine = s.control.engine ∧
    (s.fillWay sl k src w).1.control.cause = s.control.cause ∧
    (s.fillWay sl k src w).1.control.faultAddr = s.control.faultAddr ∧
    (s.fillWay sl k src w).1.control.queue = s.control.queue ∧
    (s.fillWay sl k src w).1.control.retire = s.control.retire ∧
    (s.fillWay sl k src w).1.control.barrier = s.control.barrier ∧
    (s.fillWay sl k src w).1.planner = s.planner ∧
    (s.fillWay sl k src w).1.profiles = s.profiles ∧
    (s.fillWay sl k src w).1.store.mode = s.store.mode ∧
    (s.fillWay sl k src w).1.store.poolA = s.store.poolA ∧
    (s.fillWay sl k src w).1.store.poolB = s.store.poolB ∧
    (s.fillWay sl k src w).1.builder.current = s.builder.current ∧
    (s.fillWay sl k src w).1.glyphs = s.glyphs ∧
    (s.fillWay sl k src w).1.composer = s.composer ∧
    (s.fillWay sl k src w).1.link = s.link ∧
    (s.fillWay sl k src w).1.writer = s.writer ∧
    (s.fillWay sl k src w).1.check = s.check ∧
    (s.fillWay sl k src w).1.out = s.out := by
  repeat' apply And.intro
  all_goals first | rfl | (simp [State.fillWay])

@[simp] theorem State.lookup_frame (s : State) (sl : SheetSlot) (k : TileKey) (src : Source) :
    (s.lookup sl k src).1.pending = s.pending ∧
    (s.lookup sl k src).1.window = s.window ∧
    (s.lookup sl k src).1.port = s.port ∧
    (s.lookup sl k src).1.walker = s.walker ∧
    (s.lookup sl k src).1.control.engine = s.control.engine ∧
    (s.lookup sl k src).1.control.cause = s.control.cause ∧
    (s.lookup sl k src).1.control.faultAddr = s.control.faultAddr ∧
    (s.lookup sl k src).1.control.queue = s.control.queue ∧
    (s.lookup sl k src).1.control.retire = s.control.retire ∧
    (s.lookup sl k src).1.control.barrier = s.control.barrier ∧
    (s.lookup sl k src).1.planner = s.planner ∧
    (s.lookup sl k src).1.profiles = s.profiles ∧
    (s.lookup sl k src).1.store.mode = s.store.mode ∧
    (s.lookup sl k src).1.builder.current = s.builder.current ∧
    (s.lookup sl k src).1.glyphs = s.glyphs ∧
    (s.lookup sl k src).1.composer = s.composer ∧
    (s.lookup sl k src).1.link = s.link ∧
    (s.lookup sl k src).1.writer = s.writer ∧
    (s.lookup sl k src).1.check = s.check ∧
    (s.lookup sl k src).1.out = s.out := by
  repeat' apply And.intro
  all_goals first | rfl | (unfold State.lookup; (repeat' split) <;> simp)

@[simp] theorem State.deliverFit_frame (s : State) (sl : SheetSlot) (ref : TileRef) (f : FitRecord) :
    (s.deliverFit sl ref f).pending = s.pending ∧
    (s.deliverFit sl ref f).window = s.window ∧
    (s.deliverFit sl ref f).port = s.port ∧
    (s.deliverFit sl ref f).walker = s.walker ∧
    (s.deliverFit sl ref f).control.engine = s.control.engine ∧
    (s.deliverFit sl ref f).control.cause = s.control.cause ∧
    (s.deliverFit sl ref f).control.faultAddr = s.control.faultAddr ∧
    (s.deliverFit sl ref f).control.retire = s.control.retire ∧
    (s.deliverFit sl ref f).control.barrier = s.control.barrier ∧
    (s.deliverFit sl ref f).planner = s.planner ∧
    (s.deliverFit sl ref f).profiles = s.profiles ∧
    (s.deliverFit sl ref f).store = s.store ∧
    (s.deliverFit sl ref f).builder = s.builder ∧
    (s.deliverFit sl ref f).glyphs = s.glyphs ∧
    (s.deliverFit sl ref f).composer = s.composer ∧
    (s.deliverFit sl ref f).link = s.link ∧
    (s.deliverFit sl ref f).writer = s.writer ∧
    (s.deliverFit sl ref f).check = s.check ∧
    (s.deliverFit sl ref f).out = s.out := by
  repeat' apply And.intro
  all_goals first | rfl | (unfold State.deliverFit; (repeat' split) <;> simp)

@[simp] theorem State.cutCurrent_frame (s : State) :
    (s.cutCurrent).pending = s.pending ∧
    (s.cutCurrent).window = s.window ∧
    (s.cutCurrent).port.outstanding = s.port.outstanding ∧
    (s.cutCurrent).port.hold = s.port.hold ∧
    (s.cutCurrent).port.windowCode = s.port.windowCode ∧
    (s.cutCurrent).port.pressFirst = s.port.pressFirst ∧
    (s.cutCurrent).port.lastResult = s.port.lastResult ∧
    (s.cutCurrent).port.windowTimer = s.port.windowTimer ∧
    (s.cutCurrent).walker = s.walker ∧
    (s.cutCurrent).control = s.control ∧
    (s.cutCurrent).planner = s.planner ∧
    (s.cutCurrent).profiles = s.profiles ∧
    (s.cutCurrent).store = s.store ∧
    (s.cutCurrent).builder.queue = s.builder.queue ∧
    (s.cutCurrent).glyphs = s.glyphs ∧
    (s.cutCurrent).composer = s.composer ∧
    (s.cutCurrent).link = s.link ∧
    (s.cutCurrent).writer = s.writer ∧
    (s.cutCurrent).check = s.check ∧
    (s.cutCurrent).out = s.out := by
  repeat' apply And.intro
  all_goals first | rfl | (unfold State.cutCurrent; (repeat' split) <;> simp)

@[simp] theorem State.releaseSheet_frame (s : State) (sl : SheetSlot) :
    (s.releaseSheet sl).pending = s.pending ∧
    (s.releaseSheet sl).window = s.window ∧
    (s.releaseSheet sl).port.outstanding = s.port.outstanding ∧
    (s.releaseSheet sl).port.hold = s.port.hold ∧
    (s.releaseSheet sl).port.windowCode = s.port.windowCode ∧
    (s.releaseSheet sl).port.pressFirst = s.port.pressFirst ∧
    (s.releaseSheet sl).port.lastResult = s.port.lastResult ∧
    (s.releaseSheet sl).port.windowTimer = s.port.windowTimer ∧
    (s.releaseSheet sl).walker = s.walker ∧
    (s.releaseSheet sl).control.engine = s.control.engine ∧
    (s.releaseSheet sl).control.cause = s.control.cause ∧
    (s.releaseSheet sl).control.faultAddr = s.control.faultAddr ∧
    (s.releaseSheet sl).control.queue = s.control.queue ∧
    (s.releaseSheet sl).control.retire = s.control.retire ∧
    (s.releaseSheet sl).control.barrier = s.control.barrier ∧
    (s.releaseSheet sl).planner = s.planner ∧
    (s.releaseSheet sl).profiles = s.profiles ∧
    (s.releaseSheet sl).store.mode = s.store.mode ∧
    (s.releaseSheet sl).glyphs = s.glyphs ∧
    (s.releaseSheet sl).composer = s.composer ∧
    (s.releaseSheet sl).link = s.link ∧
    (s.releaseSheet sl).writer = s.writer ∧
    (s.releaseSheet sl).check = s.check ∧
    (s.releaseSheet sl).out = s.out := by
  repeat' apply And.intro
  all_goals first | rfl | (unfold State.releaseSheet; dsimp only; (repeat' split) <;> simp)

@[simp] theorem State.finishBuild_frame (s : State) (e : BuildEntry) (f : FitRecord) (tile : List Byte) (p : Bool) :
    (s.finishBuild e f tile p).pending = s.pending ∧
    (s.finishBuild e f tile p).window = s.window ∧
    (s.finishBuild e f tile p).port = s.port ∧
    (s.finishBuild e f tile p).walker = s.walker ∧
    (s.finishBuild e f tile p).control.engine = s.control.engine ∧
    (s.finishBuild e f tile p).control.cause = s.control.cause ∧
    (s.finishBuild e f tile p).control.faultAddr = s.control.faultAddr ∧
    (s.finishBuild e f tile p).control.retire = s.control.retire ∧
    (s.finishBuild e f tile p).control.barrier = s.control.barrier ∧
    (s.finishBuild e f tile p).planner = s.planner ∧
    (s.finishBuild e f tile p).profiles = s.profiles ∧
    (s.finishBuild e f tile p).store.mode = s.store.mode ∧
    (s.finishBuild e f tile p).builder = s.builder ∧
    (s.finishBuild e f tile p).glyphs = s.glyphs ∧
    (s.finishBuild e f tile p).composer = s.composer ∧
    (s.finishBuild e f tile p).link = s.link ∧
    (s.finishBuild e f tile p).writer = s.writer ∧
    (s.finishBuild e f tile p).check = s.check ∧
    (s.finishBuild e f tile p).out = s.out := by
  refine ⟨?_, ?_, ?_, ?_, ?_, ?_, ?_, ?_, ?_, ?_, ?_, ?_, ?_, ?_, ?_, ?_, ?_, ?_, ?_⟩
  · unfold State.finishBuild; dsimp only; refine (foldl_keep _ (fun x : State => x.pending) (by intros; simp) _ _).trans ?_; split <;> simp
  · unfold State.finishBuild; dsimp only; refine (foldl_keep _ (fun x : State => x.window) (by intros; simp) _ _).trans ?_; split <;> simp
  · unfold State.finishBuild; dsimp only; refine (foldl_keep _ (fun x : State => x.port) (by intros; simp) _ _).trans ?_; split <;> simp
  · unfold State.finishBuild; dsimp only; refine (foldl_keep _ (fun x : State => x.walker) (by intros; simp) _ _).trans ?_; split <;> simp
  · unfold State.finishBuild; dsimp only; refine (foldl_keep _ (fun x : State => x.control.engine) (by intros; simp) _ _).trans ?_; split <;> simp
  · unfold State.finishBuild; dsimp only; refine (foldl_keep _ (fun x : State => x.control.cause) (by intros; simp) _ _).trans ?_; split <;> simp
  · unfold State.finishBuild; dsimp only; refine (foldl_keep _ (fun x : State => x.control.faultAddr) (by intros; simp) _ _).trans ?_; split <;> simp
  · unfold State.finishBuild; dsimp only; refine (foldl_keep _ (fun x : State => x.control.retire) (by intros; simp) _ _).trans ?_; split <;> simp
  · unfold State.finishBuild; dsimp only; refine (foldl_keep _ (fun x : State => x.control.barrier) (by intros; simp) _ _).trans ?_; split <;> simp
  · unfold State.finishBuild; dsimp only; refine (foldl_keep _ (fun x : State => x.planner) (by intros; simp) _ _).trans ?_; split <;> simp
  · unfold State.finishBuild; dsimp only; refine (foldl_keep _ (fun x : State => x.profiles) (by intros; simp) _ _).trans ?_; split <;> simp
  · unfold State.finishBuild; dsimp only; refine (foldl_keep _ (fun x : State => x.store.mode) (by intros; simp) _ _).trans ?_; split <;> simp
  · unfold State.finishBuild; dsimp only; refine (foldl_keep _ (fun x : State => x.builder) (by intros; simp) _ _).trans ?_; split <;> simp
  · unfold State.finishBuild; dsimp only; refine (foldl_keep _ (fun x : State => x.glyphs) (by intros; simp) _ _).trans ?_; split <;> simp
  · unfold State.finishBuild; dsimp only; refine (foldl_keep _ (fun x : State => x.composer) (by intros; simp) _ _).trans ?_; split <;> simp
  · unfold State.finishBuild; dsimp only; refine (foldl_keep _ (fun x : State => x.link) (by intros; simp) _ _).trans ?_; split <;> simp
  · unfold State.finishBuild; dsimp only; refine (foldl_keep _ (fun x : State => x.writer) (by intros; simp) _ _).trans ?_; split <;> simp
  · unfold State.finishBuild; dsimp only; refine (foldl_keep _ (fun x : State => x.check) (by intros; simp) _ _).trans ?_; split <;> simp
  · unfold State.finishBuild; dsimp only; refine (foldl_keep _ (fun x : State => x.out) (by intros; simp) _ _).trans ?_; split <;> simp

@[simp] theorem State.failCells_frame (s : State) (sl : SheetSlot) (ref : TileRef) :
    (s.failCells sl ref).pending = s.pending ∧
    (s.failCells sl ref).window = s.window ∧
    (s.failCells sl ref).port = s.port ∧
    (s.failCells sl ref).walker = s.walker ∧
    (s.failCells sl ref).control.engine = s.control.engine ∧
    (s.failCells sl ref).control.cause = s.control.cause ∧
    (s.failCells sl ref).control.faultAddr = s.control.faultAddr ∧
    (s.failCells sl ref).control.retire = s.control.retire ∧
    (s.failCells sl ref).control.barrier = s.control.barrier ∧
    (s.failCells sl ref).planner = s.planner ∧
    (s.failCells sl ref).profiles = s.profiles ∧
    (s.failCells sl ref).store = s.store ∧
    (s.failCells sl ref).builder = s.builder ∧
    (s.failCells sl ref).glyphs = s.glyphs ∧
    (s.failCells sl ref).composer = s.composer ∧
    (s.failCells sl ref).link = s.link ∧
    (s.failCells sl ref).writer = s.writer ∧
    (s.failCells sl ref).check = s.check ∧
    (s.failCells sl ref).out = s.out := by
  repeat' apply And.intro
  all_goals first | rfl | (unfold State.failCells; (repeat' split) <;> simp)

@[simp] theorem State.failBuild_frame (s : State) (e : BuildEntry) :
    (s.failBuild e).pending = s.pending ∧
    (s.failBuild e).window = s.window ∧
    (s.failBuild e).port = s.port ∧
    (s.failBuild e).walker = s.walker ∧
    (s.failBuild e).control.engine = s.control.engine ∧
    (s.failBuild e).control.cause = s.control.cause ∧
    (s.failBuild e).control.faultAddr = s.control.faultAddr ∧
    (s.failBuild e).control.retire = s.control.retire ∧
    (s.failBuild e).control.barrier = s.control.barrier ∧
    (s.failBuild e).planner = s.planner ∧
    (s.failBuild e).profiles = s.profiles ∧
    (s.failBuild e).store.mode = s.store.mode ∧
    (s.failBuild e).builder = s.builder ∧
    (s.failBuild e).glyphs = s.glyphs ∧
    (s.failBuild e).composer = s.composer ∧
    (s.failBuild e).link = s.link ∧
    (s.failBuild e).writer = s.writer ∧
    (s.failBuild e).check = s.check ∧
    (s.failBuild e).out = s.out := by
  refine ⟨?_, ?_, ?_, ?_, ?_, ?_, ?_, ?_, ?_, ?_, ?_, ?_, ?_, ?_, ?_, ?_, ?_, ?_, ?_⟩
  · unfold State.failBuild; dsimp only; refine (foldl_keep _ (fun x : State => x.pending) (by intros; simp) _ _).trans ?_; split <;> simp
  · unfold State.failBuild; dsimp only; refine (foldl_keep _ (fun x : State => x.window) (by intros; simp) _ _).trans ?_; split <;> simp
  · unfold State.failBuild; dsimp only; refine (foldl_keep _ (fun x : State => x.port) (by intros; simp) _ _).trans ?_; split <;> simp
  · unfold State.failBuild; dsimp only; refine (foldl_keep _ (fun x : State => x.walker) (by intros; simp) _ _).trans ?_; split <;> simp
  · unfold State.failBuild; dsimp only; refine (foldl_keep _ (fun x : State => x.control.engine) (by intros; simp) _ _).trans ?_; split <;> simp
  · unfold State.failBuild; dsimp only; refine (foldl_keep _ (fun x : State => x.control.cause) (by intros; simp) _ _).trans ?_; split <;> simp
  · unfold State.failBuild; dsimp only; refine (foldl_keep _ (fun x : State => x.control.faultAddr) (by intros; simp) _ _).trans ?_; split <;> simp
  · unfold State.failBuild; dsimp only; refine (foldl_keep _ (fun x : State => x.control.retire) (by intros; simp) _ _).trans ?_; split <;> simp
  · unfold State.failBuild; dsimp only; refine (foldl_keep _ (fun x : State => x.control.barrier) (by intros; simp) _ _).trans ?_; split <;> simp
  · unfold State.failBuild; dsimp only; refine (foldl_keep _ (fun x : State => x.planner) (by intros; simp) _ _).trans ?_; split <;> simp
  · unfold State.failBuild; dsimp only; refine (foldl_keep _ (fun x : State => x.profiles) (by intros; simp) _ _).trans ?_; split <;> simp
  · unfold State.failBuild; dsimp only; refine (foldl_keep _ (fun x : State => x.store.mode) (by intros; simp) _ _).trans ?_; split <;> simp
  · unfold State.failBuild; dsimp only; refine (foldl_keep _ (fun x : State => x.builder) (by intros; simp) _ _).trans ?_; split <;> simp
  · unfold State.failBuild; dsimp only; refine (foldl_keep _ (fun x : State => x.glyphs) (by intros; simp) _ _).trans ?_; split <;> simp
  · unfold State.failBuild; dsimp only; refine (foldl_keep _ (fun x : State => x.composer) (by intros; simp) _ _).trans ?_; split <;> simp
  · unfold State.failBuild; dsimp only; refine (foldl_keep _ (fun x : State => x.link) (by intros; simp) _ _).trans ?_; split <;> simp
  · unfold State.failBuild; dsimp only; refine (foldl_keep _ (fun x : State => x.writer) (by intros; simp) _ _).trans ?_; split <;> simp
  · unfold State.failBuild; dsimp only; refine (foldl_keep _ (fun x : State => x.check) (by intros; simp) _ _).trans ?_; split <;> simp
  · unfold State.failBuild; dsimp only; refine (foldl_keep _ (fun x : State => x.out) (by intros; simp) _ _).trans ?_; split <;> simp

@[simp] theorem State.replaceRef_frame (s : State) (sl : SheetSlot) (i : Fin 128) (w : Way) :
    (s.replaceRef sl i w).pending = s.pending ∧
    (s.replaceRef sl i w).window = s.window ∧
    (s.replaceRef sl i w).port = s.port ∧
    (s.replaceRef sl i w).walker = s.walker ∧
    (s.replaceRef sl i w).control.engine = s.control.engine ∧
    (s.replaceRef sl i w).control.cause = s.control.cause ∧
    (s.replaceRef sl i w).control.faultAddr = s.control.faultAddr ∧
    (s.replaceRef sl i w).control.retire = s.control.retire ∧
    (s.replaceRef sl i w).control.barrier = s.control.barrier ∧
    (s.replaceRef sl i w).planner = s.planner ∧
    (s.replaceRef sl i w).profiles = s.profiles ∧
    (s.replaceRef sl i w).store.mode = s.store.mode ∧
    (s.replaceRef sl i w).builder.current = s.builder.current ∧
    (s.replaceRef sl i w).glyphs = s.glyphs ∧
    (s.replaceRef sl i w).composer = s.composer ∧
    (s.replaceRef sl i w).link = s.link ∧
    (s.replaceRef sl i w).writer = s.writer ∧
    (s.replaceRef sl i w).check = s.check ∧
    (s.replaceRef sl i w).out = s.out := by
  refine ⟨?_, ?_, ?_, ?_, ?_, ?_, ?_, ?_, ?_, ?_, ?_, ?_, ?_, ?_, ?_, ?_, ?_, ?_, ?_⟩
  · unfold State.replaceRef; split; · rfl
    split; · rfl
    dsimp only; split <;> simp
  · unfold State.replaceRef; split; · rfl
    split; · rfl
    dsimp only; split <;> simp
  · unfold State.replaceRef; split; · rfl
    split; · rfl
    dsimp only; split <;> simp
  · unfold State.replaceRef; split; · rfl
    split; · rfl
    dsimp only; split <;> simp
  · unfold State.replaceRef; split; · rfl
    split; · rfl
    dsimp only; split <;> simp
  · unfold State.replaceRef; split; · rfl
    split; · rfl
    dsimp only; split <;> simp
  · unfold State.replaceRef; split; · rfl
    split; · rfl
    dsimp only; split <;> simp
  · unfold State.replaceRef; split; · rfl
    split; · rfl
    dsimp only; split <;> simp
  · unfold State.replaceRef; split; · rfl
    split; · rfl
    dsimp only; split <;> simp
  · unfold State.replaceRef; split; · rfl
    split; · rfl
    dsimp only; split <;> simp
  · unfold State.replaceRef; split; · rfl
    split; · rfl
    dsimp only; split <;> simp
  · unfold State.replaceRef; split; · rfl
    split; · rfl
    dsimp only; split <;> simp
  · unfold State.replaceRef; split; · rfl
    split; · rfl
    dsimp only; split <;> simp
  · unfold State.replaceRef; split; · rfl
    split; · rfl
    dsimp only; split <;> simp
  · unfold State.replaceRef; split; · rfl
    split; · rfl
    dsimp only; split <;> simp
  · unfold State.replaceRef; split; · rfl
    split; · rfl
    dsimp only; split <;> simp
  · unfold State.replaceRef; split; · rfl
    split; · rfl
    dsimp only; split <;> simp
  · unfold State.replaceRef; split; · rfl
    split; · rfl
    dsimp only; split <;> simp
  · unfold State.replaceRef; split; · rfl
    split; · rfl
    dsimp only; split <;> simp

@[simp] theorem State.condemn_frame (s : State) (i : Fin 128) (w : Way) :
    (s.condemn i w).pending = s.pending ∧
    (s.condemn i w).window = s.window ∧
    (s.condemn i w).port = s.port ∧
    (s.condemn i w).walker = s.walker ∧
    (s.condemn i w).control.engine = s.control.engine ∧
    (s.condemn i w).control.cause = s.control.cause ∧
    (s.condemn i w).control.faultAddr = s.control.faultAddr ∧
    (s.condemn i w).control.retire = s.control.retire ∧
    (s.condemn i w).control.barrier = s.control.barrier ∧
    (s.condemn i w).planner = s.planner ∧
    (s.condemn i w).profiles = s.profiles ∧
    (s.condemn i w).store.mode = s.store.mode ∧
    (s.condemn i w).builder.current = s.builder.current ∧
    (s.condemn i w).glyphs = s.glyphs ∧
    (s.condemn i w).composer = s.composer ∧
    (s.condemn i w).link = s.link ∧
    (s.condemn i w).writer = s.writer ∧
    (s.condemn i w).check = s.check ∧
    (s.condemn i w).out = s.out := by
  refine ⟨?_, ?_, ?_, ?_, ?_, ?_, ?_, ?_, ?_, ?_, ?_, ?_, ?_, ?_, ?_, ?_, ?_, ?_, ?_⟩
  · unfold State.condemn; split; · rfl
    dsimp only; refine (foldl_keep _ (fun x : State => x.pending) (by intros; split <;> simp) _ _).trans ?_; simp
  · unfold State.condemn; split; · rfl
    dsimp only; refine (foldl_keep _ (fun x : State => x.window) (by intros; split <;> simp) _ _).trans ?_; simp
  · unfold State.condemn; split; · rfl
    dsimp only; refine (foldl_keep _ (fun x : State => x.port) (by intros; split <;> simp) _ _).trans ?_; simp
  · unfold State.condemn; split; · rfl
    dsimp only; refine (foldl_keep _ (fun x : State => x.walker) (by intros; split <;> simp) _ _).trans ?_; simp
  · unfold State.condemn; split; · rfl
    dsimp only; refine (foldl_keep _ (fun x : State => x.control.engine) (by intros; split <;> simp) _ _).trans ?_; simp
  · unfold State.condemn; split; · rfl
    dsimp only; refine (foldl_keep _ (fun x : State => x.control.cause) (by intros; split <;> simp) _ _).trans ?_; simp
  · unfold State.condemn; split; · rfl
    dsimp only; refine (foldl_keep _ (fun x : State => x.control.faultAddr) (by intros; split <;> simp) _ _).trans ?_; simp
  · unfold State.condemn; split; · rfl
    dsimp only; refine (foldl_keep _ (fun x : State => x.control.retire) (by intros; split <;> simp) _ _).trans ?_; simp
  · unfold State.condemn; split; · rfl
    dsimp only; refine (foldl_keep _ (fun x : State => x.control.barrier) (by intros; split <;> simp) _ _).trans ?_; simp
  · unfold State.condemn; split; · rfl
    dsimp only; refine (foldl_keep _ (fun x : State => x.planner) (by intros; split <;> simp) _ _).trans ?_; simp
  · unfold State.condemn; split; · rfl
    dsimp only; refine (foldl_keep _ (fun x : State => x.profiles) (by intros; split <;> simp) _ _).trans ?_; simp
  · unfold State.condemn; split; · rfl
    dsimp only; refine (foldl_keep _ (fun x : State => x.store.mode) (by intros; split <;> simp) _ _).trans ?_; simp
  · unfold State.condemn; split; · rfl
    dsimp only; refine (foldl_keep _ (fun x : State => x.builder.current) (by intros; split <;> simp) _ _).trans ?_; simp
  · unfold State.condemn; split; · rfl
    dsimp only; refine (foldl_keep _ (fun x : State => x.glyphs) (by intros; split <;> simp) _ _).trans ?_; simp
  · unfold State.condemn; split; · rfl
    dsimp only; refine (foldl_keep _ (fun x : State => x.composer) (by intros; split <;> simp) _ _).trans ?_; simp
  · unfold State.condemn; split; · rfl
    dsimp only; refine (foldl_keep _ (fun x : State => x.link) (by intros; split <;> simp) _ _).trans ?_; simp
  · unfold State.condemn; split; · rfl
    dsimp only; refine (foldl_keep _ (fun x : State => x.writer) (by intros; split <;> simp) _ _).trans ?_; simp
  · unfold State.condemn; split; · rfl
    dsimp only; refine (foldl_keep _ (fun x : State => x.check) (by intros; split <;> simp) _ _).trans ?_; simp
  · unfold State.condemn; split; · rfl
    dsimp only; refine (foldl_keep _ (fun x : State => x.out) (by intros; split <;> simp) _ _).trans ?_; simp

@[simp] theorem State.markRebuild_frame (s : State) (p : SheetSlot) (i : Fin 64) :
    (s.markRebuild p i).pending = s.pending ∧
    (s.markRebuild p i).window = s.window ∧
    (s.markRebuild p i).port = s.port ∧
    (s.markRebuild p i).walker = s.walker ∧
    (s.markRebuild p i).control = s.control ∧
    (s.markRebuild p i).planner = s.planner ∧
    (s.markRebuild p i).profiles = s.profiles ∧
    (s.markRebuild p i).store.sets = s.store.sets ∧
    (s.markRebuild p i).store.mode = s.store.mode ∧
    (s.markRebuild p i).builder = s.builder ∧
    (s.markRebuild p i).glyphs = s.glyphs ∧
    (s.markRebuild p i).composer = s.composer ∧
    (s.markRebuild p i).link = s.link ∧
    (s.markRebuild p i).writer = s.writer ∧
    (s.markRebuild p i).check = s.check ∧
    (s.markRebuild p i).out = s.out := by
  repeat' apply And.intro
  all_goals first | rfl | (simp [State.markRebuild])

@[simp] theorem State.rebuildScratch_frame (s : State) (sl p : SheetSlot) (i : Fin 64) :
    (s.rebuildScratch sl p i).pending = s.pending ∧
    (s.rebuildScratch sl p i).window = s.window ∧
    (s.rebuildScratch sl p i).port = s.port ∧
    (s.rebuildScratch sl p i).walker = s.walker ∧
    (s.rebuildScratch sl p i).control.engine = s.control.engine ∧
    (s.rebuildScratch sl p i).control.cause = s.control.cause ∧
    (s.rebuildScratch sl p i).control.faultAddr = s.control.faultAddr ∧
    (s.rebuildScratch sl p i).control.queue = s.control.queue ∧
    (s.rebuildScratch sl p i).control.retire = s.control.retire ∧
    (s.rebuildScratch sl p i).control.barrier = s.control.barrier ∧
    (s.rebuildScratch sl p i).planner = s.planner ∧
    (s.rebuildScratch sl p i).profiles = s.profiles ∧
    (s.rebuildScratch sl p i).store.sets = s.store.sets ∧
    (s.rebuildScratch sl p i).store.mode = s.store.mode ∧
    (s.rebuildScratch sl p i).builder.current = s.builder.current ∧
    (s.rebuildScratch sl p i).glyphs = s.glyphs ∧
    (s.rebuildScratch sl p i).composer = s.composer ∧
    (s.rebuildScratch sl p i).link = s.link ∧
    (s.rebuildScratch sl p i).writer = s.writer ∧
    (s.rebuildScratch sl p i).check = s.check ∧
    (s.rebuildScratch sl p i).out = s.out := by
  refine ⟨?_, ?_, ?_, ?_, ?_, ?_, ?_, ?_, ?_, ?_, ?_, ?_, ?_, ?_, ?_, ?_, ?_, ?_, ?_, ?_, ?_⟩
  · unfold State.rebuildScratch; split; · rfl
    split <;> simp
  · unfold State.rebuildScratch; split; · rfl
    split <;> simp
  · unfold State.rebuildScratch; split; · rfl
    split <;> simp
  · unfold State.rebuildScratch; split; · rfl
    split <;> simp
  · unfold State.rebuildScratch; split; · rfl
    split <;> simp
  · unfold State.rebuildScratch; split; · rfl
    split <;> simp
  · unfold State.rebuildScratch; split; · rfl
    split <;> simp
  · unfold State.rebuildScratch; split; · rfl
    split <;> simp
  · unfold State.rebuildScratch; split; · rfl
    split <;> simp
  · unfold State.rebuildScratch; split; · rfl
    split <;> simp
  · unfold State.rebuildScratch; split; · rfl
    split <;> simp
  · unfold State.rebuildScratch; split; · rfl
    split <;> simp
  · unfold State.rebuildScratch; split; · rfl
    split <;> simp
  · unfold State.rebuildScratch; split; · rfl
    split <;> simp
  · unfold State.rebuildScratch; split; · rfl
    split <;> simp
  · unfold State.rebuildScratch; split; · rfl
    split <;> simp
  · unfold State.rebuildScratch; split; · rfl
    split <;> simp
  · unfold State.rebuildScratch; split; · rfl
    split <;> simp
  · unfold State.rebuildScratch; split; · rfl
    split <;> simp
  · unfold State.rebuildScratch; split; · rfl
    split <;> simp
  · unfold State.rebuildScratch; split; · rfl
    split <;> simp

@[simp] theorem State.renewRef_frame (s : State) (sl : SheetSlot) (ref : TileRef) :
    (s.renewRef sl ref).pending = s.pending ∧
    (s.renewRef sl ref).window = s.window ∧
    (s.renewRef sl ref).port = s.port ∧
    (s.renewRef sl ref).walker = s.walker ∧
    (s.renewRef sl ref).control.engine = s.control.engine ∧
    (s.renewRef sl ref).control.cause = s.control.cause ∧
    (s.renewRef sl ref).control.faultAddr = s.control.faultAddr ∧
    (s.renewRef sl ref).control.retire = s.control.retire ∧
    (s.renewRef sl ref).control.barrier = s.control.barrier ∧
    (s.renewRef sl ref).planner = s.planner ∧
    (s.renewRef sl ref).profiles = s.profiles ∧
    (s.renewRef sl ref).store.mode = s.store.mode ∧
    (s.renewRef sl ref).builder.current = s.builder.current ∧
    (s.renewRef sl ref).glyphs = s.glyphs ∧
    (s.renewRef sl ref).composer = s.composer ∧
    (s.renewRef sl ref).link = s.link ∧
    (s.renewRef sl ref).writer = s.writer ∧
    (s.renewRef sl ref).check = s.check ∧
    (s.renewRef sl ref).out = s.out := by
  repeat' apply And.intro
  all_goals first | rfl | (unfold State.renewRef; (repeat' split) <;> simp)

@[simp] theorem State.renewRefs_frame (s : State) (sl : SheetSlot) :
    (s.renewRefs sl).pending = s.pending ∧
    (s.renewRefs sl).window = s.window ∧
    (s.renewRefs sl).port = s.port ∧
    (s.renewRefs sl).walker = s.walker ∧
    (s.renewRefs sl).control.engine = s.control.engine ∧
    (s.renewRefs sl).control.cause = s.control.cause ∧
    (s.renewRefs sl).control.faultAddr = s.control.faultAddr ∧
    (s.renewRefs sl).control.retire = s.control.retire ∧
    (s.renewRefs sl).control.barrier = s.control.barrier ∧
    (s.renewRefs sl).planner = s.planner ∧
    (s.renewRefs sl).profiles = s.profiles ∧
    (s.renewRefs sl).store.mode = s.store.mode ∧
    (s.renewRefs sl).builder.current = s.builder.current ∧
    (s.renewRefs sl).glyphs = s.glyphs ∧
    (s.renewRefs sl).composer = s.composer ∧
    (s.renewRefs sl).link = s.link ∧
    (s.renewRefs sl).writer = s.writer ∧
    (s.renewRefs sl).check = s.check ∧
    (s.renewRefs sl).out = s.out := by
  refine ⟨?_, ?_, ?_, ?_, ?_, ?_, ?_, ?_, ?_, ?_, ?_, ?_, ?_, ?_, ?_, ?_, ?_, ?_, ?_⟩
  · unfold State.renewRefs; split; · rfl
    exact foldl_keep _ (fun x : State => x.pending) (by intros; simp) _ _
  · unfold State.renewRefs; split; · rfl
    exact foldl_keep _ (fun x : State => x.window) (by intros; simp) _ _
  · unfold State.renewRefs; split; · rfl
    exact foldl_keep _ (fun x : State => x.port) (by intros; simp) _ _
  · unfold State.renewRefs; split; · rfl
    exact foldl_keep _ (fun x : State => x.walker) (by intros; simp) _ _
  · unfold State.renewRefs; split; · rfl
    exact foldl_keep _ (fun x : State => x.control.engine) (by intros; simp) _ _
  · unfold State.renewRefs; split; · rfl
    exact foldl_keep _ (fun x : State => x.control.cause) (by intros; simp) _ _
  · unfold State.renewRefs; split; · rfl
    exact foldl_keep _ (fun x : State => x.control.faultAddr) (by intros; simp) _ _
  · unfold State.renewRefs; split; · rfl
    exact foldl_keep _ (fun x : State => x.control.retire) (by intros; simp) _ _
  · unfold State.renewRefs; split; · rfl
    exact foldl_keep _ (fun x : State => x.control.barrier) (by intros; simp) _ _
  · unfold State.renewRefs; split; · rfl
    exact foldl_keep _ (fun x : State => x.planner) (by intros; simp) _ _
  · unfold State.renewRefs; split; · rfl
    exact foldl_keep _ (fun x : State => x.profiles) (by intros; simp) _ _
  · unfold State.renewRefs; split; · rfl
    exact foldl_keep _ (fun x : State => x.store.mode) (by intros; simp) _ _
  · unfold State.renewRefs; split; · rfl
    exact foldl_keep _ (fun x : State => x.builder.current) (by intros; simp) _ _
  · unfold State.renewRefs; split; · rfl
    exact foldl_keep _ (fun x : State => x.glyphs) (by intros; simp) _ _
  · unfold State.renewRefs; split; · rfl
    exact foldl_keep _ (fun x : State => x.composer) (by intros; simp) _ _
  · unfold State.renewRefs; split; · rfl
    exact foldl_keep _ (fun x : State => x.link) (by intros; simp) _ _
  · unfold State.renewRefs; split; · rfl
    exact foldl_keep _ (fun x : State => x.writer) (by intros; simp) _ _
  · unfold State.renewRefs; split; · rfl
    exact foldl_keep _ (fun x : State => x.check) (by intros; simp) _ _
  · unfold State.renewRefs; split; · rfl
    exact foldl_keep _ (fun x : State => x.out) (by intros; simp) _ _

end Sys2Proof.Machine
end

