-- ==== Sys2Proof/Laws/CaptionsFrames.lean ====
section
/-! SUPPORT. What the caption and banner fits leave unchanged: one lemma per
operation, every part of the state that it cannot change. -/

namespace Sys2Proof.Machine

@[simp] theorem State.damageGlyph_frame (s : State) (g : Fin 3) (code : Code) :
    (s.damageGlyph g code).pending = s.pending ∧
    (s.damageGlyph g code).window = s.window ∧
    (s.damageGlyph g code).port = s.port ∧
    (s.damageGlyph g code).walker = s.walker ∧
    (s.damageGlyph g code).control = s.control ∧
    (s.damageGlyph g code).planner = s.planner ∧
    (s.damageGlyph g code).profiles = s.profiles ∧
    (s.damageGlyph g code).store = s.store ∧
    (s.damageGlyph g code).builder = s.builder ∧
    (s.damageGlyph g code).composer = s.composer ∧
    (s.damageGlyph g code).link = s.link ∧
    (s.damageGlyph g code).writer = s.writer ∧
    (s.damageGlyph g code).check = s.check ∧
    (s.damageGlyph g code).out = s.out := by
  repeat' apply And.intro
  all_goals first | rfl | (unfold State.damageGlyph; (repeat' split) <;> simp)

@[simp] theorem State.readGlyph_frame (s : State) (g : Fin 3) (code : Code) :
    (s.readGlyph g code).1.pending = s.pending ∧
    (s.readGlyph g code).1.window.chainHead = s.window.chainHead ∧
    (s.readGlyph g code).1.window.run = s.window.run ∧
    (s.readGlyph g code).1.window.abandon = s.window.abandon ∧
    (s.readGlyph g code).1.window.depth = s.window.depth ∧
    (s.readGlyph g code).1.window.pressMode = s.window.pressMode ∧
    (s.readGlyph g code).1.window.sweepPreset = s.window.sweepPreset ∧
    (s.readGlyph g code).1.window.enables = s.window.enables ∧
    (s.readGlyph g code).1.port = s.port ∧
    (s.readGlyph g code).1.walker = s.walker ∧
    (s.readGlyph g code).1.control = s.control ∧
    (s.readGlyph g code).1.planner = s.planner ∧
    (s.readGlyph g code).1.profiles = s.profiles ∧
    (s.readGlyph g code).1.store = s.store ∧
    (s.readGlyph g code).1.builder = s.builder ∧
    (s.readGlyph g code).1.composer = s.composer ∧
    (s.readGlyph g code).1.link = s.link ∧
    (s.readGlyph g code).1.writer = s.writer ∧
    (s.readGlyph g code).1.check.correctable = s.check.correctable ∧
    (s.readGlyph g code).1.check.count = s.check.count ∧
    (s.readGlyph g code).1.check.poison = s.check.poison ∧
    (s.readGlyph g code).1.check.standing = s.check.standing ∧
    (s.readGlyph g code).1.check.finds = s.check.finds ∧
    (s.readGlyph g code).1.out = s.out := by
  repeat' apply And.intro
  all_goals first | rfl | (unfold State.readGlyph; (repeat' split) <;> simp)

@[simp] theorem State.lookupGlyph_frame (s : State) (g : Fin 3) (code : Code) :
    (s.lookupGlyph g code).1.pending = s.pending ∧
    (s.lookupGlyph g code).1.window.chainHead = s.window.chainHead ∧
    (s.lookupGlyph g code).1.window.run = s.window.run ∧
    (s.lookupGlyph g code).1.window.abandon = s.window.abandon ∧
    (s.lookupGlyph g code).1.window.depth = s.window.depth ∧
    (s.lookupGlyph g code).1.window.pressMode = s.window.pressMode ∧
    (s.lookupGlyph g code).1.window.sweepPreset = s.window.sweepPreset ∧
    (s.lookupGlyph g code).1.window.enables = s.window.enables ∧
    (s.lookupGlyph g code).1.port = s.port ∧
    (s.lookupGlyph g code).1.walker = s.walker ∧
    (s.lookupGlyph g code).1.control = s.control ∧
    (s.lookupGlyph g code).1.planner = s.planner ∧
    (s.lookupGlyph g code).1.profiles = s.profiles ∧
    (s.lookupGlyph g code).1.store = s.store ∧
    (s.lookupGlyph g code).1.builder = s.builder ∧
    (s.lookupGlyph g code).1.composer = s.composer ∧
    (s.lookupGlyph g code).1.link = s.link ∧
    (s.lookupGlyph g code).1.writer = s.writer ∧
    (s.lookupGlyph g code).1.check.correctable = s.check.correctable ∧
    (s.lookupGlyph g code).1.check.count = s.check.count ∧
    (s.lookupGlyph g code).1.check.poison = s.check.poison ∧
    (s.lookupGlyph g code).1.check.standing = s.check.standing ∧
    (s.lookupGlyph g code).1.check.finds = s.check.finds ∧
    (s.lookupGlyph g code).1.out = s.out := by
  unfold State.lookupGlyph
  rcases hr : s.readGlyph g code with ⟨s1, _ | h⟩ <;>
    obtain rfl : s1 = (s.readGlyph g code).1 := by rw [hr]
  · dsimp only
    split <;> rename_i s2 _ hr2 <;>
      (obtain rfl := congrArg Prod.fst hr2; simp)
  · simp

@[simp] theorem State.lookupRun_frame (codes : List Code) (s : State) (g : Fin 3) :
    (s.lookupRun g codes).1.pending = s.pending ∧
    (s.lookupRun g codes).1.window.chainHead = s.window.chainHead ∧
    (s.lookupRun g codes).1.window.run = s.window.run ∧
    (s.lookupRun g codes).1.window.abandon = s.window.abandon ∧
    (s.lookupRun g codes).1.window.depth = s.window.depth ∧
    (s.lookupRun g codes).1.window.pressMode = s.window.pressMode ∧
    (s.lookupRun g codes).1.window.sweepPreset = s.window.sweepPreset ∧
    (s.lookupRun g codes).1.window.enables = s.window.enables ∧
    (s.lookupRun g codes).1.port = s.port ∧
    (s.lookupRun g codes).1.walker = s.walker ∧
    (s.lookupRun g codes).1.control = s.control ∧
    (s.lookupRun g codes).1.planner = s.planner ∧
    (s.lookupRun g codes).1.profiles = s.profiles ∧
    (s.lookupRun g codes).1.store = s.store ∧
    (s.lookupRun g codes).1.builder = s.builder ∧
    (s.lookupRun g codes).1.composer = s.composer ∧
    (s.lookupRun g codes).1.link = s.link ∧
    (s.lookupRun g codes).1.writer = s.writer ∧
    (s.lookupRun g codes).1.check.correctable = s.check.correctable ∧
    (s.lookupRun g codes).1.check.count = s.check.count ∧
    (s.lookupRun g codes).1.check.poison = s.check.poison ∧
    (s.lookupRun g codes).1.check.standing = s.check.standing ∧
    (s.lookupRun g codes).1.check.finds = s.check.finds ∧
    (s.lookupRun g codes).1.out = s.out := by
  induction codes generalizing s with
  | nil => simp [State.lookupRun]
  | cons c rest ih => simp [State.lookupRun, ih]

@[simp] theorem State.clipLine_frame (s : State) (g : Fin 3) (gs : List DrawnGlyph) (limit : Nat) :
    (s.clipLine g gs limit).1.pending = s.pending ∧
    (s.clipLine g gs limit).1.window.chainHead = s.window.chainHead ∧
    (s.clipLine g gs limit).1.window.run = s.window.run ∧
    (s.clipLine g gs limit).1.window.abandon = s.window.abandon ∧
    (s.clipLine g gs limit).1.window.depth = s.window.depth ∧
    (s.clipLine g gs limit).1.window.pressMode = s.window.pressMode ∧
    (s.clipLine g gs limit).1.window.sweepPreset = s.window.sweepPreset ∧
    (s.clipLine g gs limit).1.window.enables = s.window.enables ∧
    (s.clipLine g gs limit).1.port = s.port ∧
    (s.clipLine g gs limit).1.walker = s.walker ∧
    (s.clipLine g gs limit).1.control = s.control ∧
    (s.clipLine g gs limit).1.planner = s.planner ∧
    (s.clipLine g gs limit).1.profiles = s.profiles ∧
    (s.clipLine g gs limit).1.store = s.store ∧
    (s.clipLine g gs limit).1.builder = s.builder ∧
    (s.clipLine g gs limit).1.composer = s.composer ∧
    (s.clipLine g gs limit).1.link = s.link ∧
    (s.clipLine g gs limit).1.writer = s.writer ∧
    (s.clipLine g gs limit).1.check.correctable = s.check.correctable ∧
    (s.clipLine g gs limit).1.check.count = s.check.count ∧
    (s.clipLine g gs limit).1.check.poison = s.check.poison ∧
    (s.clipLine g gs limit).1.check.standing = s.check.standing ∧
    (s.clipLine g gs limit).1.check.finds = s.check.finds ∧
    (s.clipLine g gs limit).1.out = s.out := by
  repeat' apply And.intro
  all_goals first | rfl | (unfold State.clipLine; dsimp only; (repeat' split) <;> simp)

@[simp] theorem State.fitCaption_frame (s : State) (c : Cell) :
    (s.fitCaption c).1.pending = s.pending ∧
    (s.fitCaption c).1.window.chainHead = s.window.chainHead ∧
    (s.fitCaption c).1.window.run = s.window.run ∧
    (s.fitCaption c).1.window.abandon = s.window.abandon ∧
    (s.fitCaption c).1.window.depth = s.window.depth ∧
    (s.fitCaption c).1.window.pressMode = s.window.pressMode ∧
    (s.fitCaption c).1.window.sweepPreset = s.window.sweepPreset ∧
    (s.fitCaption c).1.window.enables = s.window.enables ∧
    (s.fitCaption c).1.port = s.port ∧
    (s.fitCaption c).1.walker = s.walker ∧
    (s.fitCaption c).1.control = s.control ∧
    (s.fitCaption c).1.planner = s.planner ∧
    (s.fitCaption c).1.profiles = s.profiles ∧
    (s.fitCaption c).1.store = s.store ∧
    (s.fitCaption c).1.builder = s.builder ∧
    (s.fitCaption c).1.composer = s.composer ∧
    (s.fitCaption c).1.link = s.link ∧
    (s.fitCaption c).1.writer = s.writer ∧
    (s.fitCaption c).1.check.correctable = s.check.correctable ∧
    (s.fitCaption c).1.check.count = s.check.count ∧
    (s.fitCaption c).1.check.poison = s.check.poison ∧
    (s.fitCaption c).1.check.standing = s.check.standing ∧
    (s.fitCaption c).1.check.finds = s.check.finds ∧
    (s.fitCaption c).1.out = s.out := by
  repeat' apply And.intro
  all_goals first | rfl | (unfold State.fitCaption; dsimp only; (repeat' split) <;> simp)

@[simp] theorem State.fitBanner_frame (s : State) (f : BannerFrame) :
    (s.fitBanner f).1.pending = s.pending ∧
    (s.fitBanner f).1.window.chainHead = s.window.chainHead ∧
    (s.fitBanner f).1.window.run = s.window.run ∧
    (s.fitBanner f).1.window.abandon = s.window.abandon ∧
    (s.fitBanner f).1.window.depth = s.window.depth ∧
    (s.fitBanner f).1.window.pressMode = s.window.pressMode ∧
    (s.fitBanner f).1.window.sweepPreset = s.window.sweepPreset ∧
    (s.fitBanner f).1.window.enables = s.window.enables ∧
    (s.fitBanner f).1.port = s.port ∧
    (s.fitBanner f).1.walker = s.walker ∧
    (s.fitBanner f).1.control = s.control ∧
    (s.fitBanner f).1.planner = s.planner ∧
    (s.fitBanner f).1.profiles = s.profiles ∧
    (s.fitBanner f).1.store = s.store ∧
    (s.fitBanner f).1.builder = s.builder ∧
    (s.fitBanner f).1.composer = s.composer ∧
    (s.fitBanner f).1.link = s.link ∧
    (s.fitBanner f).1.writer = s.writer ∧
    (s.fitBanner f).1.check.correctable = s.check.correctable ∧
    (s.fitBanner f).1.check.count = s.check.count ∧
    (s.fitBanner f).1.check.poison = s.check.poison ∧
    (s.fitBanner f).1.check.standing = s.check.standing ∧
    (s.fitBanner f).1.check.finds = s.check.finds ∧
    (s.fitBanner f).1.out = s.out := by
  repeat' apply And.intro
  all_goals first | rfl | (unfold State.fitBanner; (repeat' split) <;> simp)

@[simp] theorem State.fitCells_frame (cells : List Cell) (s : State) :
    (s.fitCells cells).1.pending = s.pending ∧
    (s.fitCells cells).1.window.chainHead = s.window.chainHead ∧
    (s.fitCells cells).1.window.run = s.window.run ∧
    (s.fitCells cells).1.window.abandon = s.window.abandon ∧
    (s.fitCells cells).1.window.depth = s.window.depth ∧
    (s.fitCells cells).1.window.pressMode = s.window.pressMode ∧
    (s.fitCells cells).1.window.sweepPreset = s.window.sweepPreset ∧
    (s.fitCells cells).1.window.enables = s.window.enables ∧
    (s.fitCells cells).1.port = s.port ∧
    (s.fitCells cells).1.walker = s.walker ∧
    (s.fitCells cells).1.control = s.control ∧
    (s.fitCells cells).1.planner = s.planner ∧
    (s.fitCells cells).1.profiles = s.profiles ∧
    (s.fitCells cells).1.store = s.store ∧
    (s.fitCells cells).1.builder = s.builder ∧
    (s.fitCells cells).1.composer = s.composer ∧
    (s.fitCells cells).1.link = s.link ∧
    (s.fitCells cells).1.writer = s.writer ∧
    (s.fitCells cells).1.check.correctable = s.check.correctable ∧
    (s.fitCells cells).1.check.count = s.check.count ∧
    (s.fitCells cells).1.check.poison = s.check.poison ∧
    (s.fitCells cells).1.check.standing = s.check.standing ∧
    (s.fitCells cells).1.check.finds = s.check.finds ∧
    (s.fitCells cells).1.out = s.out := by
  induction cells generalizing s with
  | nil => simp [State.fitCells]
  | cons c rest ih => unfold State.fitCells; split <;> simp [ih]

@[simp] theorem State.fitFrames_frame (frames : List Frame) (s : State) :
    (s.fitFrames frames).1.pending = s.pending ∧
    (s.fitFrames frames).1.window.chainHead = s.window.chainHead ∧
    (s.fitFrames frames).1.window.run = s.window.run ∧
    (s.fitFrames frames).1.window.abandon = s.window.abandon ∧
    (s.fitFrames frames).1.window.depth = s.window.depth ∧
    (s.fitFrames frames).1.window.pressMode = s.window.pressMode ∧
    (s.fitFrames frames).1.window.sweepPreset = s.window.sweepPreset ∧
    (s.fitFrames frames).1.window.enables = s.window.enables ∧
    (s.fitFrames frames).1.port = s.port ∧
    (s.fitFrames frames).1.walker = s.walker ∧
    (s.fitFrames frames).1.control = s.control ∧
    (s.fitFrames frames).1.planner = s.planner ∧
    (s.fitFrames frames).1.profiles = s.profiles ∧
    (s.fitFrames frames).1.store = s.store ∧
    (s.fitFrames frames).1.builder = s.builder ∧
    (s.fitFrames frames).1.composer = s.composer ∧
    (s.fitFrames frames).1.link = s.link ∧
    (s.fitFrames frames).1.writer = s.writer ∧
    (s.fitFrames frames).1.check.correctable = s.check.correctable ∧
    (s.fitFrames frames).1.check.count = s.check.count ∧
    (s.fitFrames frames).1.check.poison = s.check.poison ∧
    (s.fitFrames frames).1.check.standing = s.check.standing ∧
    (s.fitFrames frames).1.check.finds = s.check.finds ∧
    (s.fitFrames frames).1.out = s.out := by
  induction frames generalizing s with
  | nil => simp [State.fitFrames]
  | cons f rest ih => cases f <;> simp [State.fitFrames, ih]

@[simp] theorem State.fitSheet_frame (s : State) (sl : SheetSlot) :
    (s.fitSheet sl).pending = s.pending ∧
    (s.fitSheet sl).window.chainHead = s.window.chainHead ∧
    (s.fitSheet sl).window.run = s.window.run ∧
    (s.fitSheet sl).window.abandon = s.window.abandon ∧
    (s.fitSheet sl).window.depth = s.window.depth ∧
    (s.fitSheet sl).window.pressMode = s.window.pressMode ∧
    (s.fitSheet sl).window.sweepPreset = s.window.sweepPreset ∧
    (s.fitSheet sl).window.enables = s.window.enables ∧
    (s.fitSheet sl).port = s.port ∧
    (s.fitSheet sl).walker = s.walker ∧
    (s.fitSheet sl).control.engine = s.control.engine ∧
    (s.fitSheet sl).control.cause = s.control.cause ∧
    (s.fitSheet sl).control.faultAddr = s.control.faultAddr ∧
    (s.fitSheet sl).control.retire = s.control.retire ∧
    (s.fitSheet sl).control.barrier = s.control.barrier ∧
    (s.fitSheet sl).planner = s.planner ∧
    (s.fitSheet sl).profiles = s.profiles ∧
    (s.fitSheet sl).store = s.store ∧
    (s.fitSheet sl).builder = s.builder ∧
    (s.fitSheet sl).composer = s.composer ∧
    (s.fitSheet sl).link = s.link ∧
    (s.fitSheet sl).writer = s.writer ∧
    (s.fitSheet sl).check.correctable = s.check.correctable ∧
    (s.fitSheet sl).check.count = s.check.count ∧
    (s.fitSheet sl).check.poison = s.check.poison ∧
    (s.fitSheet sl).check.standing = s.check.standing ∧
    (s.fitSheet sl).check.finds = s.check.finds ∧
    (s.fitSheet sl).out = s.out := by
  repeat' apply And.intro
  all_goals first | rfl | (unfold State.fitSheet; (repeat' split) <;> simp)

end Sys2Proof.Machine
end

