-- ==== Sys2Proof/Laws/OutputFrames.lean ====
section
/-! SUPPORT. What the operations of the Composer, the Press Link and the Proof Writer leave unchanged: one lemma per
operation, every part of the state that it cannot change. -/

namespace Sys2Proof.Machine

/-- Replacing a buffer keeps the rest of the Composer. -/
@[simp] theorem Composer.setBuf_frame (c : Composer) (i : BufferId) (x : Buffer) :
    (c.setBuf i x).state = c.state ∧ (c.setBuf i x).attempt = c.attempt ∧ (c.setBuf i x).nextBand = c.nextBand ∧
    (c.setBuf i x).silenced = c.silenced := by cases i <;> exact ⟨rfl, rfl, rfl, rfl⟩

/-- A buffer read after a replacement. -/
@[simp] theorem Composer.buf_setBuf (c : Composer) (i j : BufferId) (x : Buffer) :
    (c.setBuf i x).buf j = if j = i then x else c.buf j := by cases i <;> cases j <;> rfl

@[simp] theorem State.mapBuf_frame (s : State) (i : BufferId) (f : Buffer → Buffer) :
    (s.mapBuf i f).pending = s.pending ∧
    (s.mapBuf i f).window = s.window ∧
    (s.mapBuf i f).port = s.port ∧
    (s.mapBuf i f).walker = s.walker ∧
    (s.mapBuf i f).control = s.control ∧
    (s.mapBuf i f).planner = s.planner ∧
    (s.mapBuf i f).profiles = s.profiles ∧
    (s.mapBuf i f).store = s.store ∧
    (s.mapBuf i f).builder = s.builder ∧
    (s.mapBuf i f).glyphs = s.glyphs ∧
    (s.mapBuf i f).composer.state = s.composer.state ∧
    (s.mapBuf i f).composer.attempt = s.composer.attempt ∧
    (s.mapBuf i f).composer.nextBand = s.composer.nextBand ∧
    (s.mapBuf i f).composer.silenced = s.composer.silenced ∧
    (s.mapBuf i f).link = s.link ∧
    (s.mapBuf i f).writer = s.writer ∧
    (s.mapBuf i f).check = s.check ∧
    (s.mapBuf i f).out = s.out := by
  repeat' apply And.intro
  all_goals first | rfl | (simp [State.mapBuf])

@[simp] theorem State.paintNext_frame (s : State) :
    (s.paintNext).pending = s.pending ∧
    (s.paintNext).window = s.window ∧
    (s.paintNext).port = s.port ∧
    (s.paintNext).walker = s.walker ∧
    (s.paintNext).control = s.control ∧
    (s.paintNext).planner = s.planner ∧
    (s.paintNext).profiles = s.profiles ∧
    (s.paintNext).store = s.store ∧
    (s.paintNext).builder = s.builder ∧
    (s.paintNext).glyphs = s.glyphs ∧
    (s.paintNext).composer.attempt = s.composer.attempt ∧
    (s.paintNext).composer.nextBand = s.composer.nextBand ∧
    (s.paintNext).composer.silenced = s.composer.silenced ∧
    (s.paintNext).link = s.link ∧
    (s.paintNext).writer = s.writer ∧
    (s.paintNext).check.correctable = s.check.correctable ∧
    (s.paintNext).check.count = s.check.count ∧
    (s.paintNext).check.uncorrectable = s.check.uncorrectable ∧
    (s.paintNext).check.locked = s.check.locked ∧
    (s.paintNext).check.finds = s.check.finds ∧
    (s.paintNext).out = s.out := by
  repeat' apply And.intro
  all_goals first | rfl | (unfold State.paintNext; dsimp only; (repeat' split) <;> simp)

@[simp] theorem State.kick_frame (s : State) :
    (s.kick).pending = s.pending ∧
    (s.kick).window = s.window ∧
    (s.kick).port = s.port ∧
    (s.kick).walker = s.walker ∧
    (s.kick).control = s.control ∧
    (s.kick).planner = s.planner ∧
    (s.kick).profiles = s.profiles ∧
    (s.kick).store = s.store ∧
    (s.kick).builder = s.builder ∧
    (s.kick).glyphs = s.glyphs ∧
    (s.kick).composer.attempt = s.composer.attempt ∧
    (s.kick).composer.nextBand = s.composer.nextBand ∧
    (s.kick).composer.silenced = s.composer.silenced ∧
    (s.kick).link = s.link ∧
    (s.kick).writer = s.writer ∧
    (s.kick).check.correctable = s.check.correctable ∧
    (s.kick).check.count = s.check.count ∧
    (s.kick).check.uncorrectable = s.check.uncorrectable ∧
    (s.kick).check.locked = s.check.locked ∧
    (s.kick).check.finds = s.check.finds ∧
    (s.kick).out = s.out := by
  repeat' apply And.intro
  all_goals first | rfl | (unfold State.kick; (repeat' split) <;> simp)

@[simp] theorem State.giveBack_frame (s : State) (i : BufferId) :
    (s.giveBack i).pending = s.pending ∧
    (s.giveBack i).window = s.window ∧
    (s.giveBack i).port = s.port ∧
    (s.giveBack i).walker = s.walker ∧
    (s.giveBack i).control = s.control ∧
    (s.giveBack i).planner = s.planner ∧
    (s.giveBack i).profiles = s.profiles ∧
    (s.giveBack i).store = s.store ∧
    (s.giveBack i).builder = s.builder ∧
    (s.giveBack i).glyphs = s.glyphs ∧
    (s.giveBack i).composer.attempt = s.composer.attempt ∧
    (s.giveBack i).composer.nextBand = s.composer.nextBand ∧
    (s.giveBack i).composer.silenced = s.composer.silenced ∧
    (s.giveBack i).link = s.link ∧
    (s.giveBack i).writer = s.writer ∧
    (s.giveBack i).check.correctable = s.check.correctable ∧
    (s.giveBack i).check.count = s.check.count ∧
    (s.giveBack i).check.uncorrectable = s.check.uncorrectable ∧
    (s.giveBack i).check.locked = s.check.locked ∧
    (s.giveBack i).check.finds = s.check.finds ∧
    (s.giveBack i).out = s.out := by
  repeat' apply And.intro
  all_goals first | rfl | (simp [State.giveBack])

@[simp] theorem State.endAttempt_frame (s : State) (a : Attempt) :
    (s.endAttempt a).pending = s.pending ∧
    (s.endAttempt a).window = s.window ∧
    (s.endAttempt a).port = s.port ∧
    (s.endAttempt a).walker = s.walker ∧
    (s.endAttempt a).control = s.control ∧
    (s.endAttempt a).planner = s.planner ∧
    (s.endAttempt a).profiles = s.profiles ∧
    (s.endAttempt a).store = s.store ∧
    (s.endAttempt a).builder = s.builder ∧
    (s.endAttempt a).glyphs = s.glyphs ∧
    (s.endAttempt a).link = s.link ∧
    (s.endAttempt a).writer = s.writer ∧
    (s.endAttempt a).check.correctable = s.check.correctable ∧
    (s.endAttempt a).check.count = s.check.count ∧
    (s.endAttempt a).check.uncorrectable = s.check.uncorrectable ∧
    (s.endAttempt a).check.locked = s.check.locked ∧
    (s.endAttempt a).check.finds = s.check.finds ∧
    (s.endAttempt a).out = s.out := by
  repeat' apply And.intro
  all_goals first | rfl | (simp [State.endAttempt])

@[simp] theorem State.tell_frame (s : State) (h : LinkHold) (m : PressMessage) :
    (s.tell h m).pending = s.pending ∧
    (s.tell h m).window = s.window ∧
    (s.tell h m).port = s.port ∧
    (s.tell h m).walker = s.walker ∧
    (s.tell h m).control = s.control ∧
    (s.tell h m).planner = s.planner ∧
    (s.tell h m).profiles = s.profiles ∧
    (s.tell h m).store = s.store ∧
    (s.tell h m).builder = s.builder ∧
    (s.tell h m).glyphs = s.glyphs ∧
    (s.tell h m).composer = s.composer ∧
    (s.tell h m).link = s.link ∧
    (s.tell h m).writer = s.writer ∧
    (s.tell h m).check = s.check ∧
    (s.tell h m).out.serverWrites = s.out.serverWrites := by
  repeat' apply And.intro
  all_goals first | rfl | (unfold State.tell; (repeat' split) <;> simp)

@[simp] theorem State.linkClose_frame (s : State) :
    (s.linkClose).pending = s.pending ∧
    (s.linkClose).window = s.window ∧
    (s.linkClose).port = s.port ∧
    (s.linkClose).walker = s.walker ∧
    (s.linkClose).control = s.control ∧
    (s.linkClose).planner = s.planner ∧
    (s.linkClose).profiles = s.profiles ∧
    (s.linkClose).store = s.store ∧
    (s.linkClose).builder = s.builder ∧
    (s.linkClose).glyphs = s.glyphs ∧
    (s.linkClose).composer = s.composer ∧
    (s.linkClose).link.config = s.link.config ∧
    (s.linkClose).link.ready = s.link.ready ∧
    (s.linkClose).writer = s.writer ∧
    (s.linkClose).check = s.check ∧
    (s.linkClose).out = s.out := by
  repeat' apply And.intro
  all_goals rfl

@[simp] theorem State.startSend_frame (s : State) :
    (s.startSend).pending = s.pending ∧
    (s.startSend).window = s.window ∧
    (s.startSend).port = s.port ∧
    (s.startSend).walker = s.walker ∧
    (s.startSend).control = s.control ∧
    (s.startSend).planner = s.planner ∧
    (s.startSend).profiles = s.profiles ∧
    (s.startSend).store = s.store ∧
    (s.startSend).builder = s.builder ∧
    (s.startSend).glyphs = s.glyphs ∧
    (s.startSend).composer.state = s.composer.state ∧
    (s.startSend).composer.attempt = s.composer.attempt ∧
    (s.startSend).composer.nextBand = s.composer.nextBand ∧
    (s.startSend).composer.silenced = s.composer.silenced ∧
    (s.startSend).link.state = s.link.state ∧
    (s.startSend).link.held = s.link.held ∧
    (s.startSend).link.abortPending = s.link.abortPending ∧
    (s.startSend).link.graceTimer = s.link.graceTimer ∧
    (s.startSend).link.acceptTimer = s.link.acceptTimer ∧
    (s.startSend).link.resultTimer = s.link.resultTimer ∧
    (s.startSend).link.waitTimer = s.link.waitTimer ∧
    (s.startSend).link.config = s.link.config ∧
    (s.startSend).link.ready = s.link.ready ∧
    (s.startSend).writer = s.writer ∧
    (s.startSend).check = s.check ∧
    (s.startSend).out = s.out := by
  repeat' apply And.intro
  all_goals first | rfl | (simp [State.startSend])

@[simp] theorem State.acceptTaken_frame (s : State) :
    (s.acceptTaken).pending = s.pending ∧
    (s.acceptTaken).window = s.window ∧
    (s.acceptTaken).port = s.port ∧
    (s.acceptTaken).walker = s.walker ∧
    (s.acceptTaken).control = s.control ∧
    (s.acceptTaken).planner = s.planner ∧
    (s.acceptTaken).profiles = s.profiles ∧
    (s.acceptTaken).store = s.store ∧
    (s.acceptTaken).builder = s.builder ∧
    (s.acceptTaken).glyphs = s.glyphs ∧
    (s.acceptTaken).composer.state = s.composer.state ∧
    (s.acceptTaken).composer.attempt = s.composer.attempt ∧
    (s.acceptTaken).composer.nextBand = s.composer.nextBand ∧
    (s.acceptTaken).composer.silenced = s.composer.silenced ∧
    (s.acceptTaken).link.held = s.link.held ∧
    (s.acceptTaken).link.abortPending = s.link.abortPending ∧
    (s.acceptTaken).link.graceTimer = s.link.graceTimer ∧
    (s.acceptTaken).link.resultTimer = s.link.resultTimer ∧
    (s.acceptTaken).link.waitTimer = s.link.waitTimer ∧
    (s.acceptTaken).link.config = s.link.config ∧
    (s.acceptTaken).link.ready = s.link.ready ∧
    (s.acceptTaken).writer = s.writer ∧
    (s.acceptTaken).check = s.check ∧
    (s.acceptTaken).out = s.out := by
  repeat' apply And.intro
  all_goals first | rfl | (simp [State.acceptTaken])

@[simp] theorem State.sendOpen_frame (s : State) (h : LinkHold) :
    (s.sendOpen h).pending = s.pending ∧
    (s.sendOpen h).window = s.window ∧
    (s.sendOpen h).port = s.port ∧
    (s.sendOpen h).walker = s.walker ∧
    (s.sendOpen h).control = s.control ∧
    (s.sendOpen h).planner = s.planner ∧
    (s.sendOpen h).profiles = s.profiles ∧
    (s.sendOpen h).store = s.store ∧
    (s.sendOpen h).builder = s.builder ∧
    (s.sendOpen h).glyphs = s.glyphs ∧
    (s.sendOpen h).composer.state = s.composer.state ∧
    (s.sendOpen h).composer.attempt = s.composer.attempt ∧
    (s.sendOpen h).composer.nextBand = s.composer.nextBand ∧
    (s.sendOpen h).composer.silenced = s.composer.silenced ∧
    (s.sendOpen h).link.held = s.link.held ∧
    (s.sendOpen h).link.abortPending = s.link.abortPending ∧
    (s.sendOpen h).link.graceTimer = s.link.graceTimer ∧
    (s.sendOpen h).link.resultTimer = s.link.resultTimer ∧
    (s.sendOpen h).link.config = s.link.config ∧
    (s.sendOpen h).link.ready = s.link.ready ∧
    (s.sendOpen h).writer = s.writer ∧
    (s.sendOpen h).check = s.check ∧
    (s.sendOpen h).out.serverWrites = s.out.serverWrites := by
  repeat' apply And.intro
  all_goals first | rfl | (unfold State.sendOpen; (repeat' split) <;> simp)

@[simp] theorem State.openWhenReady_frame (s : State) :
    (s.openWhenReady).pending = s.pending ∧
    (s.openWhenReady).window = s.window ∧
    (s.openWhenReady).port = s.port ∧
    (s.openWhenReady).walker = s.walker ∧
    (s.openWhenReady).control = s.control ∧
    (s.openWhenReady).planner = s.planner ∧
    (s.openWhenReady).profiles = s.profiles ∧
    (s.openWhenReady).store = s.store ∧
    (s.openWhenReady).builder = s.builder ∧
    (s.openWhenReady).glyphs = s.glyphs ∧
    (s.openWhenReady).composer.state = s.composer.state ∧
    (s.openWhenReady).composer.attempt = s.composer.attempt ∧
    (s.openWhenReady).composer.nextBand = s.composer.nextBand ∧
    (s.openWhenReady).composer.silenced = s.composer.silenced ∧
    (s.openWhenReady).link.held = s.link.held ∧
    (s.openWhenReady).link.abortPending = s.link.abortPending ∧
    (s.openWhenReady).link.graceTimer = s.link.graceTimer ∧
    (s.openWhenReady).link.resultTimer = s.link.resultTimer ∧
    (s.openWhenReady).link.config = s.link.config ∧
    (s.openWhenReady).link.ready = s.link.ready ∧
    (s.openWhenReady).writer = s.writer ∧
    (s.openWhenReady).check = s.check ∧
    (s.openWhenReady).out.serverWrites = s.out.serverWrites := by
  repeat' apply And.intro
  all_goals first | rfl | (unfold State.openWhenReady; (repeat' split) <;> simp)

@[simp] theorem State.linkBandFull_frame (s : State) (a : Attempt) (b : Nat) :
    (s.linkBandFull a b).pending = s.pending ∧
    (s.linkBandFull a b).window = s.window ∧
    (s.linkBandFull a b).port = s.port ∧
    (s.linkBandFull a b).walker = s.walker ∧
    (s.linkBandFull a b).control.engine = s.control.engine ∧
    (s.linkBandFull a b).control.cause = s.control.cause ∧
    (s.linkBandFull a b).control.faultAddr = s.control.faultAddr ∧
    (s.linkBandFull a b).control.slotA = s.control.slotA ∧
    (s.linkBandFull a b).control.slotB = s.control.slotB ∧
    (s.linkBandFull a b).control.retire = s.control.retire ∧
    (s.linkBandFull a b).control.barrier = s.control.barrier ∧
    (s.linkBandFull a b).planner = s.planner ∧
    (s.linkBandFull a b).profiles = s.profiles ∧
    (s.linkBandFull a b).store = s.store ∧
    (s.linkBandFull a b).builder = s.builder ∧
    (s.linkBandFull a b).glyphs = s.glyphs ∧
    (s.linkBandFull a b).composer.state = s.composer.state ∧
    (s.linkBandFull a b).composer.attempt = s.composer.attempt ∧
    (s.linkBandFull a b).composer.nextBand = s.composer.nextBand ∧
    (s.linkBandFull a b).composer.silenced = s.composer.silenced ∧
    (s.linkBandFull a b).link.held = s.link.held ∧
    (s.linkBandFull a b).link.abortPending = s.link.abortPending ∧
    (s.linkBandFull a b).link.resultTimer = s.link.resultTimer ∧
    (s.linkBandFull a b).link.config = s.link.config ∧
    (s.linkBandFull a b).link.ready = s.link.ready ∧
    (s.linkBandFull a b).writer = s.writer ∧
    (s.linkBandFull a b).check = s.check ∧
    (s.linkBandFull a b).out.serverWrites = s.out.serverWrites := by
  repeat' apply And.intro
  all_goals first | rfl | (unfold State.linkBandFull; dsimp only; (repeat' split) <;> simp)

@[simp] theorem State.linkStop_frame (s : State) (a : Attempt) :
    (s.linkStop a).pending = s.pending ∧
    (s.linkStop a).window = s.window ∧
    (s.linkStop a).port = s.port ∧
    (s.linkStop a).walker = s.walker ∧
    (s.linkStop a).control = s.control ∧
    (s.linkStop a).planner = s.planner ∧
    (s.linkStop a).profiles = s.profiles ∧
    (s.linkStop a).store = s.store ∧
    (s.linkStop a).builder = s.builder ∧
    (s.linkStop a).glyphs = s.glyphs ∧
    (s.linkStop a).composer = s.composer ∧
    (s.linkStop a).link.config = s.link.config ∧
    (s.linkStop a).link.ready = s.link.ready ∧
    (s.linkStop a).writer = s.writer ∧
    (s.linkStop a).check = s.check ∧
    (s.linkStop a).out.serverWrites = s.out.serverWrites := by
  repeat' apply And.intro
  all_goals first | rfl | (unfold State.linkStop; (repeat' split) <;> simp)

@[simp] theorem State.linkTake_frame (s : State) (a : Attempt) (t : Ticket) :
    (s.linkTake a t).pending = s.pending ∧
    (s.linkTake a t).window = s.window ∧
    (s.linkTake a t).port = s.port ∧
    (s.linkTake a t).walker = s.walker ∧
    (s.linkTake a t).control = s.control ∧
    (s.linkTake a t).planner = s.planner ∧
    (s.linkTake a t).profiles = s.profiles ∧
    (s.linkTake a t).store = s.store ∧
    (s.linkTake a t).builder = s.builder ∧
    (s.linkTake a t).glyphs = s.glyphs ∧
    (s.linkTake a t).composer = s.composer ∧
    (s.linkTake a t).link.config = s.link.config ∧
    (s.linkTake a t).link.ready = s.link.ready ∧
    (s.linkTake a t).writer = s.writer ∧
    (s.linkTake a t).check = s.check ∧
    (s.linkTake a t).out = s.out := by
  repeat' apply And.intro
  all_goals first
    | rfl
    | first | rfl | (simp only [State.linkTake, State.setLink]; split <;> rfl)

@[simp] theorem State.writerNext_frame (s : State) :
    (s.writerNext).pending = s.pending ∧
    (s.writerNext).window = s.window ∧
    (s.writerNext).port = s.port ∧
    (s.writerNext).walker = s.walker ∧
    (s.writerNext).control = s.control ∧
    (s.writerNext).planner = s.planner ∧
    (s.writerNext).profiles = s.profiles ∧
    (s.writerNext).store = s.store ∧
    (s.writerNext).builder = s.builder ∧
    (s.writerNext).glyphs = s.glyphs ∧
    (s.writerNext).composer = s.composer ∧
    (s.writerNext).link = s.link ∧
    (s.writerNext).check = s.check ∧
    (s.writerNext).out = s.out := by
  repeat' apply And.intro
  all_goals rfl

@[simp] theorem State.writerTake_frame (s : State) (a : Attempt) :
    (s.writerTake a).pending = s.pending ∧
    (s.writerTake a).window = s.window ∧
    (s.writerTake a).port = s.port ∧
    (s.writerTake a).walker = s.walker ∧
    (s.writerTake a).control = s.control ∧
    (s.writerTake a).planner = s.planner ∧
    (s.writerTake a).profiles = s.profiles ∧
    (s.writerTake a).store = s.store ∧
    (s.writerTake a).builder = s.builder ∧
    (s.writerTake a).glyphs = s.glyphs ∧
    (s.writerTake a).composer = s.composer ∧
    (s.writerTake a).link = s.link ∧
    (s.writerTake a).check = s.check ∧
    (s.writerTake a).out = s.out := by
  repeat' apply And.intro
  all_goals first | rfl | (unfold State.writerTake; (repeat' split) <;> simp)

@[simp] theorem State.writerStop_frame (s : State) (a : Attempt) :
    (s.writerStop a).pending = s.pending ∧
    (s.writerStop a).window = s.window ∧
    (s.writerStop a).port = s.port ∧
    (s.writerStop a).walker = s.walker ∧
    (s.writerStop a).control = s.control ∧
    (s.writerStop a).planner = s.planner ∧
    (s.writerStop a).profiles = s.profiles ∧
    (s.writerStop a).store = s.store ∧
    (s.writerStop a).builder = s.builder ∧
    (s.writerStop a).glyphs = s.glyphs ∧
    (s.writerStop a).composer = s.composer ∧
    (s.writerStop a).link = s.link ∧
    (s.writerStop a).check = s.check ∧
    (s.writerStop a).out = s.out := by
  repeat' apply And.intro
  all_goals first | rfl | (unfold State.writerStop; (repeat' split) <;> simp)

end Sys2Proof.Machine
end

