-- ==== Sys2Proof/Laws/SheetsFrames.lean ====
section
/-! SUPPORT. What the moves of Machine/Control.lean leave unchanged: one lemma per
operation, every part of the state that it cannot change. -/

namespace Sys2Proof.Machine

@[simp] theorem State.freeIfEnded_frame (s : State) (sl : SheetSlot) :
    (s.freeIfEnded sl).pending = s.pending ∧
    (s.freeIfEnded sl).window = s.window ∧
    (s.freeIfEnded sl).port = s.port ∧
    (s.freeIfEnded sl).walker.cursor = s.walker.cursor ∧
    (s.freeIfEnded sl).walker.window = s.walker.window ∧
    (s.freeIfEnded sl).walker.pendingWake = s.walker.pendingWake ∧
    (s.freeIfEnded sl).walker.sweepTimer = s.walker.sweepTimer ∧
    (s.freeIfEnded sl).walker.sweepRunning = s.walker.sweepRunning ∧
    (s.freeIfEnded sl).walker.unit = s.walker.unit ∧
    (s.freeIfEnded sl).walker.pendingSpent = s.walker.pendingSpent ∧
    (s.freeIfEnded sl).walker.spentDue = s.walker.spentDue ∧
    (s.freeIfEnded sl).walker.spentInFlight = s.walker.spentInFlight ∧
    (s.freeIfEnded sl).walker.readLimit = s.walker.readLimit ∧
    (s.freeIfEnded sl).control.engine = s.control.engine ∧
    (s.freeIfEnded sl).control.cause = s.control.cause ∧
    (s.freeIfEnded sl).control.faultAddr = s.control.faultAddr ∧
    (s.freeIfEnded sl).control.retire = s.control.retire ∧
    (s.freeIfEnded sl).control.barrier = s.control.barrier ∧
    (s.freeIfEnded sl).planner = s.planner ∧
    (s.freeIfEnded sl).profiles = s.profiles ∧
    (s.freeIfEnded sl).store = s.store ∧
    (s.freeIfEnded sl).builder = s.builder ∧
    (s.freeIfEnded sl).glyphs = s.glyphs ∧
    (s.freeIfEnded sl).composer = s.composer ∧
    (s.freeIfEnded sl).link = s.link ∧
    (s.freeIfEnded sl).writer = s.writer ∧
    (s.freeIfEnded sl).check = s.check ∧
    (s.freeIfEnded sl).out = s.out := by
  repeat' apply And.intro
  all_goals first | rfl | (unfold State.freeIfEnded; (repeat' split) <;> simp)

@[simp] theorem State.endSheet_frame (s : State) (sl : SheetSlot) (o : OrderOutcome) (d : Detail) :
    (s.endSheet sl o d).pending = s.pending ∧
    (s.endSheet sl o d).window = s.window ∧
    (s.endSheet sl o d).port.outstanding = s.port.outstanding ∧
    (s.endSheet sl o d).port.hold = s.port.hold ∧
    (s.endSheet sl o d).port.windowCode = s.port.windowCode ∧
    (s.endSheet sl o d).port.pressFirst = s.port.pressFirst ∧
    (s.endSheet sl o d).port.lastResult = s.port.lastResult ∧
    (s.endSheet sl o d).port.windowTimer = s.port.windowTimer ∧
    (s.endSheet sl o d).walker.cursor = s.walker.cursor ∧
    (s.endSheet sl o d).walker.window = s.walker.window ∧
    (s.endSheet sl o d).walker.pendingWake = s.walker.pendingWake ∧
    (s.endSheet sl o d).walker.sweepTimer = s.walker.sweepTimer ∧
    (s.endSheet sl o d).walker.sweepRunning = s.walker.sweepRunning ∧
    (s.endSheet sl o d).walker.unit = s.walker.unit ∧
    (s.endSheet sl o d).walker.pendingSpent = s.walker.pendingSpent ∧
    (s.endSheet sl o d).walker.spentDue = s.walker.spentDue ∧
    (s.endSheet sl o d).walker.spentInFlight = s.walker.spentInFlight ∧
    (s.endSheet sl o d).walker.readLimit = s.walker.readLimit ∧
    (s.endSheet sl o d).control.engine = s.control.engine ∧
    (s.endSheet sl o d).control.cause = s.control.cause ∧
    (s.endSheet sl o d).control.faultAddr = s.control.faultAddr ∧
    (s.endSheet sl o d).control.retire = s.control.retire ∧
    (s.endSheet sl o d).control.barrier = s.control.barrier ∧
    (s.endSheet sl o d).planner = s.planner ∧
    (s.endSheet sl o d).profiles = s.profiles ∧
    (s.endSheet sl o d).store.mode = s.store.mode ∧
    (s.endSheet sl o d).glyphs = s.glyphs ∧
    (s.endSheet sl o d).composer = s.composer ∧
    (s.endSheet sl o d).link = s.link ∧
    (s.endSheet sl o d).writer = s.writer ∧
    (s.endSheet sl o d).check = s.check ∧
    (s.endSheet sl o d).out = s.out := by
  repeat' apply And.intro
  all_goals first | rfl | (unfold State.endSheet; (repeat' split) <;> simp)

@[simp] theorem State.stopAttempt_frame (s : State) (a : Attempt) :
    (s.stopAttempt a).pending = s.pending ∧
    (s.stopAttempt a).window = s.window ∧
    (s.stopAttempt a).port = s.port ∧
    (s.stopAttempt a).walker = s.walker ∧
    (s.stopAttempt a).control = s.control ∧
    (s.stopAttempt a).planner = s.planner ∧
    (s.stopAttempt a).profiles = s.profiles ∧
    (s.stopAttempt a).store = s.store ∧
    (s.stopAttempt a).builder = s.builder ∧
    (s.stopAttempt a).glyphs = s.glyphs ∧
    (s.stopAttempt a).link.config = s.link.config ∧
    (s.stopAttempt a).link.ready = s.link.ready ∧
    (s.stopAttempt a).check.correctable = s.check.correctable ∧
    (s.stopAttempt a).check.count = s.check.count ∧
    (s.stopAttempt a).check.uncorrectable = s.check.uncorrectable ∧
    (s.stopAttempt a).check.locked = s.check.locked ∧
    (s.stopAttempt a).check.finds = s.check.finds ∧
    (s.stopAttempt a).out.serverWrites = s.out.serverWrites := by
  repeat' apply And.intro
  all_goals first | rfl | (simp [State.stopAttempt])

@[simp] theorem State.endOrder_frame (s : State) (sl : SheetSlot) (o : OrderOutcome) (d : Detail) :
    (s.endOrder sl o d).pending = s.pending ∧
    (s.endOrder sl o d).window = s.window ∧
    (s.endOrder sl o d).port.outstanding = s.port.outstanding ∧
    (s.endOrder sl o d).port.hold = s.port.hold ∧
    (s.endOrder sl o d).port.windowCode = s.port.windowCode ∧
    (s.endOrder sl o d).port.pressFirst = s.port.pressFirst ∧
    (s.endOrder sl o d).port.lastResult = s.port.lastResult ∧
    (s.endOrder sl o d).port.windowTimer = s.port.windowTimer ∧
    (s.endOrder sl o d).walker.cursor = s.walker.cursor ∧
    (s.endOrder sl o d).walker.window = s.walker.window ∧
    (s.endOrder sl o d).walker.pendingWake = s.walker.pendingWake ∧
    (s.endOrder sl o d).walker.sweepTimer = s.walker.sweepTimer ∧
    (s.endOrder sl o d).walker.sweepRunning = s.walker.sweepRunning ∧
    (s.endOrder sl o d).walker.unit = s.walker.unit ∧
    (s.endOrder sl o d).walker.pendingSpent = s.walker.pendingSpent ∧
    (s.endOrder sl o d).walker.spentDue = s.walker.spentDue ∧
    (s.endOrder sl o d).walker.spentInFlight = s.walker.spentInFlight ∧
    (s.endOrder sl o d).walker.readLimit = s.walker.readLimit ∧
    (s.endOrder sl o d).control.engine = s.control.engine ∧
    (s.endOrder sl o d).control.cause = s.control.cause ∧
    (s.endOrder sl o d).control.faultAddr = s.control.faultAddr ∧
    (s.endOrder sl o d).control.retire = s.control.retire ∧
    (s.endOrder sl o d).control.barrier = s.control.barrier ∧
    (s.endOrder sl o d).planner = s.planner ∧
    (s.endOrder sl o d).profiles = s.profiles ∧
    (s.endOrder sl o d).store.mode = s.store.mode ∧
    (s.endOrder sl o d).glyphs = s.glyphs ∧
    (s.endOrder sl o d).link.config = s.link.config ∧
    (s.endOrder sl o d).link.ready = s.link.ready ∧
    (s.endOrder sl o d).check.correctable = s.check.correctable ∧
    (s.endOrder sl o d).check.count = s.check.count ∧
    (s.endOrder sl o d).check.uncorrectable = s.check.uncorrectable ∧
    (s.endOrder sl o d).check.locked = s.check.locked ∧
    (s.endOrder sl o d).check.finds = s.check.finds ∧
    (s.endOrder sl o d).out.serverWrites = s.out.serverWrites := by
  repeat' apply And.intro
  all_goals first | rfl | (unfold State.endOrder; (repeat' split) <;> simp)

@[simp] theorem State.clearPlacement_frame (s : State) (sl : SheetSlot) :
    (s.clearPlacement sl).pending = s.pending ∧
    (s.clearPlacement sl).window = s.window ∧
    (s.clearPlacement sl).port = s.port ∧
    (s.clearPlacement sl).walker = s.walker ∧
    (s.clearPlacement sl).control.engine = s.control.engine ∧
    (s.clearPlacement sl).control.cause = s.control.cause ∧
    (s.clearPlacement sl).control.faultAddr = s.control.faultAddr ∧
    (s.clearPlacement sl).control.queue = s.control.queue ∧
    (s.clearPlacement sl).control.retire = s.control.retire ∧
    (s.clearPlacement sl).control.barrier = s.control.barrier ∧
    (s.clearPlacement sl).planner = s.planner ∧
    (s.clearPlacement sl).profiles = s.profiles ∧
    (s.clearPlacement sl).store = s.store ∧
    (s.clearPlacement sl).builder = s.builder ∧
    (s.clearPlacement sl).glyphs = s.glyphs ∧
    (s.clearPlacement sl).composer = s.composer ∧
    (s.clearPlacement sl).link = s.link ∧
    (s.clearPlacement sl).writer = s.writer ∧
    (s.clearPlacement sl).check = s.check ∧
    (s.clearPlacement sl).out = s.out := by
  repeat' apply And.intro
  all_goals first | rfl | (simp [State.clearPlacement])

end Sys2Proof.Machine
end

