-- ==== Sys2Proof/Laws/PlacementFrames.lean ====
section
/-! SUPPORT. What the Layout Planner's moves leave unchanged: one lemma per
operation, every part of the state that it cannot change. -/

namespace Sys2Proof.Machine

@[simp] theorem State.mapJob_frame (s : State) (f : PlanJob → PlanJob) :
    (s.mapJob f).pending = s.pending ∧
    (s.mapJob f).window = s.window ∧
    (s.mapJob f).port = s.port ∧
    (s.mapJob f).walker = s.walker ∧
    (s.mapJob f).control = s.control ∧
    (s.mapJob f).planner.waiting = s.planner.waiting ∧
    (s.mapJob f).planner.frameStack = s.planner.frameStack ∧
    (s.mapJob f).planner.cursor = s.planner.cursor ∧
    (s.mapJob f).profiles = s.profiles ∧
    (s.mapJob f).store = s.store ∧
    (s.mapJob f).builder = s.builder ∧
    (s.mapJob f).glyphs = s.glyphs ∧
    (s.mapJob f).composer = s.composer ∧
    (s.mapJob f).link = s.link ∧
    (s.mapJob f).writer = s.writer ∧
    (s.mapJob f).check = s.check ∧
    (s.mapJob f).out = s.out := by
  repeat' apply And.intro
  all_goals rfl

@[simp] theorem State.clearJob_frame (s : State) :
    (s.clearJob).pending = s.pending ∧
    (s.clearJob).window = s.window ∧
    (s.clearJob).port = s.port ∧
    (s.clearJob).walker = s.walker ∧
    (s.clearJob).control = s.control ∧
    (s.clearJob).planner.waiting = s.planner.waiting ∧
    (s.clearJob).profiles = s.profiles ∧
    (s.clearJob).store = s.store ∧
    (s.clearJob).builder = s.builder ∧
    (s.clearJob).glyphs = s.glyphs ∧
    (s.clearJob).composer = s.composer ∧
    (s.clearJob).link = s.link ∧
    (s.clearJob).writer = s.writer ∧
    (s.clearJob).check = s.check ∧
    (s.clearJob).out = s.out := by
  repeat' apply And.intro
  all_goals rfl

@[simp] theorem State.awaitRead_frame (s : State) (st : PlanStage) :
    (s.awaitRead st).pending = s.pending ∧
    (s.awaitRead st).window = s.window ∧
    (s.awaitRead st).port = s.port ∧
    (s.awaitRead st).walker = s.walker ∧
    (s.awaitRead st).control = s.control ∧
    (s.awaitRead st).planner.waiting = s.planner.waiting ∧
    (s.awaitRead st).planner.frameStack = s.planner.frameStack ∧
    (s.awaitRead st).planner.cursor = s.planner.cursor ∧
    (s.awaitRead st).profiles = s.profiles ∧
    (s.awaitRead st).store = s.store ∧
    (s.awaitRead st).builder = s.builder ∧
    (s.awaitRead st).glyphs = s.glyphs ∧
    (s.awaitRead st).composer = s.composer ∧
    (s.awaitRead st).link = s.link ∧
    (s.awaitRead st).writer = s.writer ∧
    (s.awaitRead st).check = s.check ∧
    (s.awaitRead st).out = s.out := by
  repeat' apply And.intro
  all_goals rfl

@[simp] theorem State.planningEnds_frame (s : State) (sl : SheetSlot) (o : OrderOutcome) (d : Detail) :
    (s.planningEnds sl o d).pending = s.pending ∧
    (s.planningEnds sl o d).window = s.window ∧
    (s.planningEnds sl o d).port.outstanding = s.port.outstanding ∧
    (s.planningEnds sl o d).port.hold = s.port.hold ∧
    (s.planningEnds sl o d).port.windowCode = s.port.windowCode ∧
    (s.planningEnds sl o d).port.pressFirst = s.port.pressFirst ∧
    (s.planningEnds sl o d).port.lastResult = s.port.lastResult ∧
    (s.planningEnds sl o d).port.windowTimer = s.port.windowTimer ∧
    (s.planningEnds sl o d).walker.cursor = s.walker.cursor ∧
    (s.planningEnds sl o d).walker.window = s.walker.window ∧
    (s.planningEnds sl o d).walker.pendingWake = s.walker.pendingWake ∧
    (s.planningEnds sl o d).walker.sweepTimer = s.walker.sweepTimer ∧
    (s.planningEnds sl o d).walker.sweepRunning = s.walker.sweepRunning ∧
    (s.planningEnds sl o d).walker.unit = s.walker.unit ∧
    (s.planningEnds sl o d).walker.pendingSpent = s.walker.pendingSpent ∧
    (s.planningEnds sl o d).walker.spentDue = s.walker.spentDue ∧
    (s.planningEnds sl o d).walker.spentInFlight = s.walker.spentInFlight ∧
    (s.planningEnds sl o d).walker.readLimit = s.walker.readLimit ∧
    (s.planningEnds sl o d).control.engine = s.control.engine ∧
    (s.planningEnds sl o d).control.cause = s.control.cause ∧
    (s.planningEnds sl o d).control.faultAddr = s.control.faultAddr ∧
    (s.planningEnds sl o d).control.retire = s.control.retire ∧
    (s.planningEnds sl o d).control.barrier = s.control.barrier ∧
    (s.planningEnds sl o d).planner.waiting = s.planner.waiting ∧
    (s.planningEnds sl o d).profiles = s.profiles ∧
    (s.planningEnds sl o d).store.mode = s.store.mode ∧
    (s.planningEnds sl o d).glyphs = s.glyphs ∧
    (s.planningEnds sl o d).composer = s.composer ∧
    (s.planningEnds sl o d).link = s.link ∧
    (s.planningEnds sl o d).writer = s.writer ∧
    (s.planningEnds sl o d).check = s.check ∧
    (s.planningEnds sl o d).out = s.out := by
  repeat' apply And.intro
  all_goals first | rfl | (simp [State.planningEnds])

@[simp] theorem State.advanceCursor_frame (s : State) :
    (s.advanceCursor).pending = s.pending ∧
    (s.advanceCursor).window = s.window ∧
    (s.advanceCursor).port = s.port ∧
    (s.advanceCursor).walker = s.walker ∧
    (s.advanceCursor).control = s.control ∧
    (s.advanceCursor).planner.waiting = s.planner.waiting ∧
    (s.advanceCursor).planner.frameStack = s.planner.frameStack ∧
    (s.advanceCursor).profiles = s.profiles ∧
    (s.advanceCursor).store = s.store ∧
    (s.advanceCursor).builder = s.builder ∧
    (s.advanceCursor).glyphs = s.glyphs ∧
    (s.advanceCursor).composer = s.composer ∧
    (s.advanceCursor).link = s.link ∧
    (s.advanceCursor).writer = s.writer ∧
    (s.advanceCursor).check = s.check ∧
    (s.advanceCursor).out = s.out := by
  repeat' apply And.intro
  all_goals first | rfl | (unfold State.advanceCursor; (repeat' split) <;> simp)

@[simp] theorem State.placeCell_frame (s : State) (d : CellSeed) (c : Cell) (ns : Notes) :
    (s.placeCell d c ns).pending = s.pending ∧
    (s.placeCell d c ns).window = s.window ∧
    (s.placeCell d c ns).port = s.port ∧
    (s.placeCell d c ns).walker = s.walker ∧
    (s.placeCell d c ns).control.engine = s.control.engine ∧
    (s.placeCell d c ns).control.cause = s.control.cause ∧
    (s.placeCell d c ns).control.faultAddr = s.control.faultAddr ∧
    (s.placeCell d c ns).control.queue = s.control.queue ∧
    (s.placeCell d c ns).control.retire = s.control.retire ∧
    (s.placeCell d c ns).control.barrier = s.control.barrier ∧
    (s.placeCell d c ns).planner.waiting = s.planner.waiting ∧
    (s.placeCell d c ns).planner.frameStack = s.planner.frameStack ∧
    (s.placeCell d c ns).profiles = s.profiles ∧
    (s.placeCell d c ns).store = s.store ∧
    (s.placeCell d c ns).builder = s.builder ∧
    (s.placeCell d c ns).glyphs = s.glyphs ∧
    (s.placeCell d c ns).composer = s.composer ∧
    (s.placeCell d c ns).link = s.link ∧
    (s.placeCell d c ns).writer = s.writer ∧
    (s.placeCell d c ns).check = s.check ∧
    (s.placeCell d c ns).out = s.out := by
  repeat' apply And.intro
  all_goals first | rfl | (unfold State.placeCell; (repeat' split) <;> simp)

@[simp] theorem State.placeBare_frame (s : State) (d : CellSeed) (k : CellKind) (ns : Notes) :
    (s.placeBare d k ns).pending = s.pending ∧
    (s.placeBare d k ns).window = s.window ∧
    (s.placeBare d k ns).port = s.port ∧
    (s.placeBare d k ns).walker = s.walker ∧
    (s.placeBare d k ns).control.engine = s.control.engine ∧
    (s.placeBare d k ns).control.cause = s.control.cause ∧
    (s.placeBare d k ns).control.faultAddr = s.control.faultAddr ∧
    (s.placeBare d k ns).control.queue = s.control.queue ∧
    (s.placeBare d k ns).control.retire = s.control.retire ∧
    (s.placeBare d k ns).control.barrier = s.control.barrier ∧
    (s.placeBare d k ns).planner.waiting = s.planner.waiting ∧
    (s.placeBare d k ns).planner.frameStack = s.planner.frameStack ∧
    (s.placeBare d k ns).profiles = s.profiles ∧
    (s.placeBare d k ns).store = s.store ∧
    (s.placeBare d k ns).builder = s.builder ∧
    (s.placeBare d k ns).glyphs = s.glyphs ∧
    (s.placeBare d k ns).composer = s.composer ∧
    (s.placeBare d k ns).link = s.link ∧
    (s.placeBare d k ns).writer = s.writer ∧
    (s.placeBare d k ns).check = s.check ∧
    (s.placeBare d k ns).out = s.out := by
  repeat' apply And.intro
  all_goals first | rfl | (simp [State.placeBare])

@[simp] theorem State.claimTile_frame (s : State) (sl : SheetSlot) (c : Cell) (src : Source) :
    (s.claimTile sl c src).1.pending = s.pending ∧
    (s.claimTile sl c src).1.window = s.window ∧
    (s.claimTile sl c src).1.port = s.port ∧
    (s.claimTile sl c src).1.walker = s.walker ∧
    (s.claimTile sl c src).1.control.engine = s.control.engine ∧
    (s.claimTile sl c src).1.control.cause = s.control.cause ∧
    (s.claimTile sl c src).1.control.faultAddr = s.control.faultAddr ∧
    (s.claimTile sl c src).1.control.queue = s.control.queue ∧
    (s.claimTile sl c src).1.control.retire = s.control.retire ∧
    (s.claimTile sl c src).1.control.barrier = s.control.barrier ∧
    (s.claimTile sl c src).1.planner = s.planner ∧
    (s.claimTile sl c src).1.profiles = s.profiles ∧
    (s.claimTile sl c src).1.store.mode = s.store.mode ∧
    (s.claimTile sl c src).1.builder.current = s.builder.current ∧
    (s.claimTile sl c src).1.glyphs = s.glyphs ∧
    (s.claimTile sl c src).1.composer = s.composer ∧
    (s.claimTile sl c src).1.link = s.link ∧
    (s.claimTile sl c src).1.writer = s.writer ∧
    (s.claimTile sl c src).1.check = s.check ∧
    (s.claimTile sl c src).1.out = s.out := by
  repeat' apply And.intro
  all_goals first | rfl | (unfold State.claimTile; (repeat' split) <;> simp)

@[simp] theorem State.placeFromRecord_frame (s : State) (sl : SheetSlot) (d : CellSeed) (bs : List Byte) :
    (s.placeFromRecord sl d bs).pending = s.pending ∧
    (s.placeFromRecord sl d bs).window = s.window ∧
    (s.placeFromRecord sl d bs).port = s.port ∧
    (s.placeFromRecord sl d bs).walker = s.walker ∧
    (s.placeFromRecord sl d bs).control.engine = s.control.engine ∧
    (s.placeFromRecord sl d bs).control.cause = s.control.cause ∧
    (s.placeFromRecord sl d bs).control.faultAddr = s.control.faultAddr ∧
    (s.placeFromRecord sl d bs).control.retire = s.control.retire ∧
    (s.placeFromRecord sl d bs).control.barrier = s.control.barrier ∧
    (s.placeFromRecord sl d bs).planner.waiting = s.planner.waiting ∧
    (s.placeFromRecord sl d bs).planner.frameStack = s.planner.frameStack ∧
    (s.placeFromRecord sl d bs).profiles = s.profiles ∧
    (s.placeFromRecord sl d bs).store.mode = s.store.mode ∧
    (s.placeFromRecord sl d bs).builder.current = s.builder.current ∧
    (s.placeFromRecord sl d bs).glyphs = s.glyphs ∧
    (s.placeFromRecord sl d bs).composer = s.composer ∧
    (s.placeFromRecord sl d bs).link = s.link ∧
    (s.placeFromRecord sl d bs).writer = s.writer ∧
    (s.placeFromRecord sl d bs).check = s.check ∧
    (s.placeFromRecord sl d bs).out = s.out := by
  repeat' apply And.intro
  all_goals first | rfl | (unfold State.placeFromRecord; dsimp only; (repeat' split) <;> simp)

@[simp] theorem State.actOnRole_frame (s : State) (d : CellSeed) (a : Addr) (r : Nat) :
    (s.actOnRole d a r).1.pending = s.pending ∧
    (s.actOnRole d a r).1.window = s.window ∧
    (s.actOnRole d a r).1.port = s.port ∧
    (s.actOnRole d a r).1.walker = s.walker ∧
    (s.actOnRole d a r).1.control.engine = s.control.engine ∧
    (s.actOnRole d a r).1.control.cause = s.control.cause ∧
    (s.actOnRole d a r).1.control.faultAddr = s.control.faultAddr ∧
    (s.actOnRole d a r).1.control.queue = s.control.queue ∧
    (s.actOnRole d a r).1.control.retire = s.control.retire ∧
    (s.actOnRole d a r).1.control.barrier = s.control.barrier ∧
    (s.actOnRole d a r).1.planner.waiting = s.planner.waiting ∧
    (s.actOnRole d a r).1.planner.frameStack = s.planner.frameStack ∧
    (s.actOnRole d a r).1.profiles = s.profiles ∧
    (s.actOnRole d a r).1.store = s.store ∧
    (s.actOnRole d a r).1.builder = s.builder ∧
    (s.actOnRole d a r).1.glyphs = s.glyphs ∧
    (s.actOnRole d a r).1.composer = s.composer ∧
    (s.actOnRole d a r).1.link = s.link ∧
    (s.actOnRole d a r).1.writer = s.writer ∧
    (s.actOnRole d a r).1.check = s.check ∧
    (s.actOnRole d a r).1.out = s.out := by
  repeat' apply And.intro
  all_goals first | rfl | (unfold State.actOnRole; dsimp only; (repeat' split) <;> simp)

@[simp] theorem State.placeGridCell_frame (s : State) (t : Ticket) (j : PlanJob) (g : GridFrame) (i row col : Nat) :
    (s.placeGridCell t j g i row col).1.pending = s.pending ∧
    (s.placeGridCell t j g i row col).1.window = s.window ∧
    (s.placeGridCell t j g i row col).1.port = s.port ∧
    (s.placeGridCell t j g i row col).1.walker = s.walker ∧
    (s.placeGridCell t j g i row col).1.control.engine = s.control.engine ∧
    (s.placeGridCell t j g i row col).1.control.cause = s.control.cause ∧
    (s.placeGridCell t j g i row col).1.control.faultAddr = s.control.faultAddr ∧
    (s.placeGridCell t j g i row col).1.control.queue = s.control.queue ∧
    (s.placeGridCell t j g i row col).1.control.retire = s.control.retire ∧
    (s.placeGridCell t j g i row col).1.control.barrier = s.control.barrier ∧
    (s.placeGridCell t j g i row col).1.planner.waiting = s.planner.waiting ∧
    (s.placeGridCell t j g i row col).1.planner.frameStack = s.planner.frameStack ∧
    (s.placeGridCell t j g i row col).1.profiles = s.profiles ∧
    (s.placeGridCell t j g i row col).1.store = s.store ∧
    (s.placeGridCell t j g i row col).1.builder = s.builder ∧
    (s.placeGridCell t j g i row col).1.glyphs = s.glyphs ∧
    (s.placeGridCell t j g i row col).1.composer = s.composer ∧
    (s.placeGridCell t j g i row col).1.link = s.link ∧
    (s.placeGridCell t j g i row col).1.writer = s.writer ∧
    (s.placeGridCell t j g i row col).1.check = s.check ∧
    (s.placeGridCell t j g i row col).1.out = s.out := by
  repeat' apply And.intro
  all_goals first | rfl | (unfold State.placeGridCell; dsimp only; (repeat' split) <;> simp)

@[simp] theorem State.placeInset_frame (s : State) (f : InsetFrame) (i : Nat) :
    (s.placeInset f i).1.pending = s.pending ∧
    (s.placeInset f i).1.window = s.window ∧
    (s.placeInset f i).1.port = s.port ∧
    (s.placeInset f i).1.walker = s.walker ∧
    (s.placeInset f i).1.control.engine = s.control.engine ∧
    (s.placeInset f i).1.control.cause = s.control.cause ∧
    (s.placeInset f i).1.control.faultAddr = s.control.faultAddr ∧
    (s.placeInset f i).1.control.queue = s.control.queue ∧
    (s.placeInset f i).1.control.retire = s.control.retire ∧
    (s.placeInset f i).1.control.barrier = s.control.barrier ∧
    (s.placeInset f i).1.planner.waiting = s.planner.waiting ∧
    (s.placeInset f i).1.planner.frameStack = s.planner.frameStack ∧
    (s.placeInset f i).1.profiles = s.profiles ∧
    (s.placeInset f i).1.store = s.store ∧
    (s.placeInset f i).1.builder = s.builder ∧
    (s.placeInset f i).1.glyphs = s.glyphs ∧
    (s.placeInset f i).1.composer = s.composer ∧
    (s.placeInset f i).1.link = s.link ∧
    (s.placeInset f i).1.writer = s.writer ∧
    (s.placeInset f i).1.check = s.check ∧
    (s.placeInset f i).1.out = s.out := by
  repeat' apply And.intro
  all_goals first | rfl | (simp [State.placeInset])

@[simp] theorem State.placeText_frame (s : State) (sl : SheetSlot) (f : BannerFrame) (i : Nat) :
    (s.placeText sl f i).1.pending = s.pending ∧
    (s.placeText sl f i).1.window = s.window ∧
    (s.placeText sl f i).1.port = s.port ∧
    (s.placeText sl f i).1.walker = s.walker ∧
    (s.placeText sl f i).1.control.engine = s.control.engine ∧
    (s.placeText sl f i).1.control.cause = s.control.cause ∧
    (s.placeText sl f i).1.control.faultAddr = s.control.faultAddr ∧
    (s.placeText sl f i).1.control.queue = s.control.queue ∧
    (s.placeText sl f i).1.control.retire = s.control.retire ∧
    (s.placeText sl f i).1.control.barrier = s.control.barrier ∧
    (s.placeText sl f i).1.planner.waiting = s.planner.waiting ∧
    (s.placeText sl f i).1.planner.frameStack = s.planner.frameStack ∧
    (s.placeText sl f i).1.planner.cursor = s.planner.cursor ∧
    (s.placeText sl f i).1.profiles = s.profiles ∧
    (s.placeText sl f i).1.store = s.store ∧
    (s.placeText sl f i).1.builder = s.builder ∧
    (s.placeText sl f i).1.glyphs = s.glyphs ∧
    (s.placeText sl f i).1.composer = s.composer ∧
    (s.placeText sl f i).1.link = s.link ∧
    (s.placeText sl f i).1.writer = s.writer ∧
    (s.placeText sl f i).1.check = s.check ∧
    (s.placeText sl f i).1.out = s.out := by
  repeat' apply And.intro
  all_goals first | rfl | (unfold State.placeText; (repeat' split) <;> simp)

@[simp] theorem State.placeStep_frame (s : State) (sl : SheetSlot) (sh : Sheet) (t : Ticket) (j : PlanJob) (step : PlaceStep) :
    (s.placeStep sl sh t j step).1.pending = s.pending ∧
    (s.placeStep sl sh t j step).1.window = s.window ∧
    (s.placeStep sl sh t j step).1.port = s.port ∧
    (s.placeStep sl sh t j step).1.walker = s.walker ∧
    (s.placeStep sl sh t j step).1.control.engine = s.control.engine ∧
    (s.placeStep sl sh t j step).1.control.cause = s.control.cause ∧
    (s.placeStep sl sh t j step).1.control.faultAddr = s.control.faultAddr ∧
    (s.placeStep sl sh t j step).1.control.queue = s.control.queue ∧
    (s.placeStep sl sh t j step).1.control.retire = s.control.retire ∧
    (s.placeStep sl sh t j step).1.control.barrier = s.control.barrier ∧
    (s.placeStep sl sh t j step).1.planner.waiting = s.planner.waiting ∧
    (s.placeStep sl sh t j step).1.profiles = s.profiles ∧
    (s.placeStep sl sh t j step).1.store = s.store ∧
    (s.placeStep sl sh t j step).1.builder = s.builder ∧
    (s.placeStep sl sh t j step).1.glyphs = s.glyphs ∧
    (s.placeStep sl sh t j step).1.composer = s.composer ∧
    (s.placeStep sl sh t j step).1.link = s.link ∧
    (s.placeStep sl sh t j step).1.writer = s.writer ∧
    (s.placeStep sl sh t j step).1.check = s.check ∧
    (s.placeStep sl sh t j step).1.out = s.out := by
  repeat' apply And.intro
  all_goals first | rfl | (unfold State.placeStep; dsimp only; (repeat' split) <;> simp)

@[simp] theorem State.planComplete_frame (s : State) :
    (s.planComplete).pending = s.pending ∧
    (s.planComplete).window = s.window ∧
    (s.planComplete).port = s.port ∧
    (s.planComplete).walker = s.walker ∧
    (s.planComplete).control.engine = s.control.engine ∧
    (s.planComplete).control.cause = s.control.cause ∧
    (s.planComplete).control.faultAddr = s.control.faultAddr ∧
    (s.planComplete).control.retire = s.control.retire ∧
    (s.planComplete).control.barrier = s.control.barrier ∧
    (s.planComplete).planner.waiting = s.planner.waiting ∧
    (s.planComplete).profiles = s.profiles ∧
    (s.planComplete).store = s.store ∧
    (s.planComplete).builder = s.builder ∧
    (s.planComplete).glyphs = s.glyphs ∧
    (s.planComplete).composer = s.composer ∧
    (s.planComplete).link = s.link ∧
    (s.planComplete).writer = s.writer ∧
    (s.planComplete).check = s.check ∧
    (s.planComplete).out = s.out := by
  repeat' apply And.intro
  all_goals first | rfl | (unfold State.planComplete; (repeat' split) <;> simp)

@[simp] theorem State.runPass_frame (steps : List PlaceStep) (s : State) :
    (s.runPass steps).pending = s.pending ∧
    (s.runPass steps).window = s.window ∧
    (s.runPass steps).port = s.port ∧
    (s.runPass steps).walker = s.walker ∧
    (s.runPass steps).control.engine = s.control.engine ∧
    (s.runPass steps).control.cause = s.control.cause ∧
    (s.runPass steps).control.faultAddr = s.control.faultAddr ∧
    (s.runPass steps).control.retire = s.control.retire ∧
    (s.runPass steps).control.barrier = s.control.barrier ∧
    (s.runPass steps).planner.waiting = s.planner.waiting ∧
    (s.runPass steps).profiles = s.profiles ∧
    (s.runPass steps).store = s.store ∧
    (s.runPass steps).builder = s.builder ∧
    (s.runPass steps).glyphs = s.glyphs ∧
    (s.runPass steps).composer = s.composer ∧
    (s.runPass steps).link = s.link ∧
    (s.runPass steps).writer = s.writer ∧
    (s.runPass steps).check = s.check ∧
    (s.runPass steps).out = s.out := by
  induction steps generalizing s with
  | nil => simp [State.runPass]
  | cons step rest ih =>
    unfold State.runPass
    split; · simp
    split; · simp
    split; · simp
    dsimp only
    split <;> rename_i hp <;> (have h1 := congrArg Prod.fst hp; dsimp only at h1; subst h1; simp [ih])

@[simp] theorem State.resumePass_frame (s : State) :
    (s.resumePass).pending = s.pending ∧
    (s.resumePass).window = s.window ∧
    (s.resumePass).port = s.port ∧
    (s.resumePass).walker = s.walker ∧
    (s.resumePass).control.engine = s.control.engine ∧
    (s.resumePass).control.cause = s.control.cause ∧
    (s.resumePass).control.faultAddr = s.control.faultAddr ∧
    (s.resumePass).control.retire = s.control.retire ∧
    (s.resumePass).control.barrier = s.control.barrier ∧
    (s.resumePass).planner.waiting = s.planner.waiting ∧
    (s.resumePass).profiles = s.profiles ∧
    (s.resumePass).store = s.store ∧
    (s.resumePass).builder = s.builder ∧
    (s.resumePass).glyphs = s.glyphs ∧
    (s.resumePass).composer = s.composer ∧
    (s.resumePass).link = s.link ∧
    (s.resumePass).writer = s.writer ∧
    (s.resumePass).check = s.check ∧
    (s.resumePass).out = s.out := by
  repeat' apply And.intro
  all_goals first | rfl | (simp [State.resumePass])

@[simp] theorem State.beginPass_frame (s : State) (sl : SheetSlot) (start : Nat) (steps : List PlaceStep) (grids : List (Nat × Nat)) :
    (s.beginPass sl start steps grids).pending = s.pending ∧
    (s.beginPass sl start steps grids).window = s.window ∧
    (s.beginPass sl start steps grids).port = s.port ∧
    (s.beginPass sl start steps grids).walker = s.walker ∧
    (s.beginPass sl start steps grids).control.engine = s.control.engine ∧
    (s.beginPass sl start steps grids).control.cause = s.control.cause ∧
    (s.beginPass sl start steps grids).control.faultAddr = s.control.faultAddr ∧
    (s.beginPass sl start steps grids).control.retire = s.control.retire ∧
    (s.beginPass sl start steps grids).control.barrier = s.control.barrier ∧
    (s.beginPass sl start steps grids).planner.waiting = s.planner.waiting ∧
    (s.beginPass sl start steps grids).profiles = s.profiles ∧
    (s.beginPass sl start steps grids).store = s.store ∧
    (s.beginPass sl start steps grids).builder = s.builder ∧
    (s.beginPass sl start steps grids).glyphs = s.glyphs ∧
    (s.beginPass sl start steps grids).composer = s.composer ∧
    (s.beginPass sl start steps grids).link = s.link ∧
    (s.beginPass sl start steps grids).writer = s.writer ∧
    (s.beginPass sl start steps grids).check = s.check ∧
    (s.beginPass sl start steps grids).out = s.out := by
  repeat' apply And.intro
  all_goals first | rfl | (simp [State.beginPass])

@[simp] theorem State.beginPlanning_frame (s : State) (sl : SheetSlot) :
    (s.beginPlanning sl).pending = s.pending ∧
    (s.beginPlanning sl).window = s.window ∧
    (s.beginPlanning sl).port.outstanding = s.port.outstanding ∧
    (s.beginPlanning sl).port.hold = s.port.hold ∧
    (s.beginPlanning sl).port.windowCode = s.port.windowCode ∧
    (s.beginPlanning sl).port.pressFirst = s.port.pressFirst ∧
    (s.beginPlanning sl).port.lastResult = s.port.lastResult ∧
    (s.beginPlanning sl).port.windowTimer = s.port.windowTimer ∧
    (s.beginPlanning sl).walker.cursor = s.walker.cursor ∧
    (s.beginPlanning sl).walker.window = s.walker.window ∧
    (s.beginPlanning sl).walker.pendingWake = s.walker.pendingWake ∧
    (s.beginPlanning sl).walker.sweepTimer = s.walker.sweepTimer ∧
    (s.beginPlanning sl).walker.sweepRunning = s.walker.sweepRunning ∧
    (s.beginPlanning sl).walker.unit = s.walker.unit ∧
    (s.beginPlanning sl).walker.pendingSpent = s.walker.pendingSpent ∧
    (s.beginPlanning sl).walker.spentDue = s.walker.spentDue ∧
    (s.beginPlanning sl).walker.spentInFlight = s.walker.spentInFlight ∧
    (s.beginPlanning sl).walker.readLimit = s.walker.readLimit ∧
    (s.beginPlanning sl).control.engine = s.control.engine ∧
    (s.beginPlanning sl).control.cause = s.control.cause ∧
    (s.beginPlanning sl).control.faultAddr = s.control.faultAddr ∧
    (s.beginPlanning sl).control.retire = s.control.retire ∧
    (s.beginPlanning sl).control.barrier = s.control.barrier ∧
    (s.beginPlanning sl).planner.waiting = s.planner.waiting ∧
    (s.beginPlanning sl).profiles = s.profiles ∧
    (s.beginPlanning sl).store.mode = s.store.mode ∧
    (s.beginPlanning sl).glyphs = s.glyphs ∧
    (s.beginPlanning sl).composer = s.composer ∧
    (s.beginPlanning sl).link = s.link ∧
    (s.beginPlanning sl).writer = s.writer ∧
    (s.beginPlanning sl).check = s.check ∧
    (s.beginPlanning sl).out = s.out := by
  repeat' apply And.intro
  all_goals first | rfl | (unfold State.beginPlanning; (repeat' split) <;> simp)

@[simp] theorem State.enterPlanning_frame (s : State) (sl : SheetSlot) :
    (s.enterPlanning sl).pending = s.pending ∧
    (s.enterPlanning sl).window = s.window ∧
    (s.enterPlanning sl).port.outstanding = s.port.outstanding ∧
    (s.enterPlanning sl).port.hold = s.port.hold ∧
    (s.enterPlanning sl).port.windowCode = s.port.windowCode ∧
    (s.enterPlanning sl).port.pressFirst = s.port.pressFirst ∧
    (s.enterPlanning sl).port.lastResult = s.port.lastResult ∧
    (s.enterPlanning sl).port.windowTimer = s.port.windowTimer ∧
    (s.enterPlanning sl).walker.cursor = s.walker.cursor ∧
    (s.enterPlanning sl).walker.window = s.walker.window ∧
    (s.enterPlanning sl).walker.pendingWake = s.walker.pendingWake ∧
    (s.enterPlanning sl).walker.sweepTimer = s.walker.sweepTimer ∧
    (s.enterPlanning sl).walker.sweepRunning = s.walker.sweepRunning ∧
    (s.enterPlanning sl).walker.unit = s.walker.unit ∧
    (s.enterPlanning sl).walker.pendingSpent = s.walker.pendingSpent ∧
    (s.enterPlanning sl).walker.spentDue = s.walker.spentDue ∧
    (s.enterPlanning sl).walker.spentInFlight = s.walker.spentInFlight ∧
    (s.enterPlanning sl).walker.readLimit = s.walker.readLimit ∧
    (s.enterPlanning sl).control.engine = s.control.engine ∧
    (s.enterPlanning sl).control.cause = s.control.cause ∧
    (s.enterPlanning sl).control.faultAddr = s.control.faultAddr ∧
    (s.enterPlanning sl).control.retire = s.control.retire ∧
    (s.enterPlanning sl).control.barrier = s.control.barrier ∧
    (s.enterPlanning sl).profiles = s.profiles ∧
    (s.enterPlanning sl).store.mode = s.store.mode ∧
    (s.enterPlanning sl).glyphs = s.glyphs ∧
    (s.enterPlanning sl).composer = s.composer ∧
    (s.enterPlanning sl).link = s.link ∧
    (s.enterPlanning sl).writer = s.writer ∧
    (s.enterPlanning sl).check = s.check ∧
    (s.enterPlanning sl).out = s.out := by
  repeat' apply And.intro
  all_goals first | rfl | (unfold State.enterPlanning; (repeat' split) <;> simp)

@[simp] theorem State.takeWaiting_frame (s : State) :
    (s.takeWaiting).pending = s.pending ∧
    (s.takeWaiting).window = s.window ∧
    (s.takeWaiting).port.outstanding = s.port.outstanding ∧
    (s.takeWaiting).port.hold = s.port.hold ∧
    (s.takeWaiting).port.windowCode = s.port.windowCode ∧
    (s.takeWaiting).port.pressFirst = s.port.pressFirst ∧
    (s.takeWaiting).port.lastResult = s.port.lastResult ∧
    (s.takeWaiting).port.windowTimer = s.port.windowTimer ∧
    (s.takeWaiting).walker.cursor = s.walker.cursor ∧
    (s.takeWaiting).walker.window = s.walker.window ∧
    (s.takeWaiting).walker.pendingWake = s.walker.pendingWake ∧
    (s.takeWaiting).walker.sweepTimer = s.walker.sweepTimer ∧
    (s.takeWaiting).walker.sweepRunning = s.walker.sweepRunning ∧
    (s.takeWaiting).walker.unit = s.walker.unit ∧
    (s.takeWaiting).walker.pendingSpent = s.walker.pendingSpent ∧
    (s.takeWaiting).walker.spentDue = s.walker.spentDue ∧
    (s.takeWaiting).walker.spentInFlight = s.walker.spentInFlight ∧
    (s.takeWaiting).walker.readLimit = s.walker.readLimit ∧
    (s.takeWaiting).control.engine = s.control.engine ∧
    (s.takeWaiting).control.cause = s.control.cause ∧
    (s.takeWaiting).control.faultAddr = s.control.faultAddr ∧
    (s.takeWaiting).control.retire = s.control.retire ∧
    (s.takeWaiting).control.barrier = s.control.barrier ∧
    (s.takeWaiting).profiles = s.profiles ∧
    (s.takeWaiting).store.mode = s.store.mode ∧
    (s.takeWaiting).glyphs = s.glyphs ∧
    (s.takeWaiting).composer = s.composer ∧
    (s.takeWaiting).link = s.link ∧
    (s.takeWaiting).writer = s.writer ∧
    (s.takeWaiting).check = s.check ∧
    (s.takeWaiting).out = s.out := by
  repeat' apply And.intro
  all_goals first | rfl | (unfold State.takeWaiting; (repeat' split) <;> simp)

end Sys2Proof.Machine
end

