-- ==== Sys2Proof/Laws/SheetControlFrames.lean ====
section
/-! SUPPORT. What the moves of Machine/SheetControl.lean leave unchanged: one lemma per
operation, every part of the state that it cannot change. -/

namespace Sys2Proof.Machine

@[simp] theorem State.letGo_frame (s : State) (sl : SheetSlot) :
    (s.letGo sl).pending = s.pending ∧
    (s.letGo sl).window = s.window ∧
    (s.letGo sl).port.outstanding = s.port.outstanding ∧
    (s.letGo sl).port.hold = s.port.hold ∧
    (s.letGo sl).port.windowCode = s.port.windowCode ∧
    (s.letGo sl).port.pressFirst = s.port.pressFirst ∧
    (s.letGo sl).port.lastResult = s.port.lastResult ∧
    (s.letGo sl).port.windowTimer = s.port.windowTimer ∧
    (s.letGo sl).walker.cursor = s.walker.cursor ∧
    (s.letGo sl).walker.window = s.walker.window ∧
    (s.letGo sl).walker.pendingWake = s.walker.pendingWake ∧
    (s.letGo sl).walker.sweepTimer = s.walker.sweepTimer ∧
    (s.letGo sl).walker.sweepRunning = s.walker.sweepRunning ∧
    (s.letGo sl).walker.unit = s.walker.unit ∧
    (s.letGo sl).walker.pendingSpent = s.walker.pendingSpent ∧
    (s.letGo sl).walker.spentDue = s.walker.spentDue ∧
    (s.letGo sl).walker.spentInFlight = s.walker.spentInFlight ∧
    (s.letGo sl).walker.readLimit = s.walker.readLimit ∧
    (s.letGo sl).control.engine = s.control.engine ∧
    (s.letGo sl).control.cause = s.control.cause ∧
    (s.letGo sl).control.faultAddr = s.control.faultAddr ∧
    (s.letGo sl).control.retire = s.control.retire ∧
    (s.letGo sl).control.barrier = s.control.barrier ∧
    (s.letGo sl).profiles = s.profiles ∧
    (s.letGo sl).store.mode = s.store.mode ∧
    (s.letGo sl).glyphs = s.glyphs ∧
    (s.letGo sl).composer = s.composer ∧
    (s.letGo sl).link = s.link ∧
    (s.letGo sl).writer = s.writer ∧
    (s.letGo sl).check = s.check ∧
    (s.letGo sl).out = s.out := by
  repeat' apply And.intro
  all_goals first | rfl | (unfold State.letGo; (repeat' split) <;> simp)

@[simp] theorem State.finishSheet_frame (s : State) (sl : SheetSlot) :
    (s.finishSheet sl).pending = s.pending ∧
    (s.finishSheet sl).window = s.window ∧
    (s.finishSheet sl).port.outstanding = s.port.outstanding ∧
    (s.finishSheet sl).port.hold = s.port.hold ∧
    (s.finishSheet sl).port.windowCode = s.port.windowCode ∧
    (s.finishSheet sl).port.pressFirst = s.port.pressFirst ∧
    (s.finishSheet sl).port.lastResult = s.port.lastResult ∧
    (s.finishSheet sl).port.windowTimer = s.port.windowTimer ∧
    (s.finishSheet sl).walker.cursor = s.walker.cursor ∧
    (s.finishSheet sl).walker.window = s.walker.window ∧
    (s.finishSheet sl).walker.pendingWake = s.walker.pendingWake ∧
    (s.finishSheet sl).walker.sweepTimer = s.walker.sweepTimer ∧
    (s.finishSheet sl).walker.sweepRunning = s.walker.sweepRunning ∧
    (s.finishSheet sl).walker.unit = s.walker.unit ∧
    (s.finishSheet sl).walker.pendingSpent = s.walker.pendingSpent ∧
    (s.finishSheet sl).walker.spentDue = s.walker.spentDue ∧
    (s.finishSheet sl).walker.spentInFlight = s.walker.spentInFlight ∧
    (s.finishSheet sl).walker.readLimit = s.walker.readLimit ∧
    (s.finishSheet sl).control.engine = s.control.engine ∧
    (s.finishSheet sl).control.cause = s.control.cause ∧
    (s.finishSheet sl).control.faultAddr = s.control.faultAddr ∧
    (s.finishSheet sl).control.retire = s.control.retire ∧
    (s.finishSheet sl).control.barrier = s.control.barrier ∧
    (s.finishSheet sl).profiles = s.profiles ∧
    (s.finishSheet sl).store.mode = s.store.mode ∧
    (s.finishSheet sl).glyphs = s.glyphs ∧
    (s.finishSheet sl).composer = s.composer ∧
    (s.finishSheet sl).link = s.link ∧
    (s.finishSheet sl).writer = s.writer ∧
    (s.finishSheet sl).check = s.check ∧
    (s.finishSheet sl).out = s.out := by
  repeat' apply And.intro
  all_goals first | rfl | (unfold State.finishSheet; (repeat' split) <;> simp)

@[simp] theorem State.secondPass_frame (s : State) (sl : SheetSlot) :
    (s.secondPass sl).pending = s.pending ∧
    (s.secondPass sl).window = s.window ∧
    (s.secondPass sl).port = s.port ∧
    (s.secondPass sl).walker = s.walker ∧
    (s.secondPass sl).control.engine = s.control.engine ∧
    (s.secondPass sl).control.cause = s.control.cause ∧
    (s.secondPass sl).control.faultAddr = s.control.faultAddr ∧
    (s.secondPass sl).control.retire = s.control.retire ∧
    (s.secondPass sl).control.barrier = s.control.barrier ∧
    (s.secondPass sl).planner = s.planner ∧
    (s.secondPass sl).profiles = s.profiles ∧
    (s.secondPass sl).store.mode = s.store.mode ∧
    (s.secondPass sl).builder.current = s.builder.current ∧
    (s.secondPass sl).glyphs = s.glyphs ∧
    (s.secondPass sl).composer = s.composer ∧
    (s.secondPass sl).link = s.link ∧
    (s.secondPass sl).writer = s.writer ∧
    (s.secondPass sl).check = s.check ∧
    (s.secondPass sl).out = s.out := by
  repeat' apply And.intro
  all_goals first | rfl | (simp [State.secondPass])

@[simp] theorem State.spoil_frame (s : State) (a : Attempt) (d : Detail) :
    (s.spoil a d).pending = s.pending ∧
    (s.spoil a d).window.chainHead = s.window.chainHead ∧
    (s.spoil a d).window.run = s.window.run ∧
    (s.spoil a d).window.abandon = s.window.abandon ∧
    (s.spoil a d).window.depth = s.window.depth ∧
    (s.spoil a d).window.pressMode = s.window.pressMode ∧
    (s.spoil a d).window.sweepPreset = s.window.sweepPreset ∧
    (s.spoil a d).window.enables = s.window.enables ∧
    (s.spoil a d).port.outstanding = s.port.outstanding ∧
    (s.spoil a d).port.hold = s.port.hold ∧
    (s.spoil a d).port.windowCode = s.port.windowCode ∧
    (s.spoil a d).port.pressFirst = s.port.pressFirst ∧
    (s.spoil a d).port.lastResult = s.port.lastResult ∧
    (s.spoil a d).port.windowTimer = s.port.windowTimer ∧
    (s.spoil a d).walker.cursor = s.walker.cursor ∧
    (s.spoil a d).walker.window = s.walker.window ∧
    (s.spoil a d).walker.pendingWake = s.walker.pendingWake ∧
    (s.spoil a d).walker.sweepTimer = s.walker.sweepTimer ∧
    (s.spoil a d).walker.sweepRunning = s.walker.sweepRunning ∧
    (s.spoil a d).walker.unit = s.walker.unit ∧
    (s.spoil a d).walker.pendingSpent = s.walker.pendingSpent ∧
    (s.spoil a d).walker.spentDue = s.walker.spentDue ∧
    (s.spoil a d).walker.spentInFlight = s.walker.spentInFlight ∧
    (s.spoil a d).walker.readLimit = s.walker.readLimit ∧
    (s.spoil a d).control.engine = s.control.engine ∧
    (s.spoil a d).control.cause = s.control.cause ∧
    (s.spoil a d).control.faultAddr = s.control.faultAddr ∧
    (s.spoil a d).control.retire = s.control.retire ∧
    (s.spoil a d).control.barrier = s.control.barrier ∧
    (s.spoil a d).planner = s.planner ∧
    (s.spoil a d).profiles = s.profiles ∧
    (s.spoil a d).store.mode = s.store.mode ∧
    (s.spoil a d).glyphs = s.glyphs ∧
    (s.spoil a d).composer = s.composer ∧
    (s.spoil a d).link = s.link ∧
    (s.spoil a d).writer = s.writer ∧
    (s.spoil a d).check = s.check ∧
    (s.spoil a d).out = s.out := by
  repeat' apply And.intro
  all_goals first | rfl | (unfold State.spoil; (repeat' split) <;> simp)

@[simp] theorem State.spoilAttempt_frame (s : State) (a : Attempt) (d : Detail) :
    (s.spoilAttempt a d).pending = s.pending ∧
    (s.spoilAttempt a d).window.chainHead = s.window.chainHead ∧
    (s.spoilAttempt a d).window.run = s.window.run ∧
    (s.spoilAttempt a d).window.abandon = s.window.abandon ∧
    (s.spoilAttempt a d).window.depth = s.window.depth ∧
    (s.spoilAttempt a d).window.pressMode = s.window.pressMode ∧
    (s.spoilAttempt a d).window.sweepPreset = s.window.sweepPreset ∧
    (s.spoilAttempt a d).window.enables = s.window.enables ∧
    (s.spoilAttempt a d).port.outstanding = s.port.outstanding ∧
    (s.spoilAttempt a d).port.hold = s.port.hold ∧
    (s.spoilAttempt a d).port.windowCode = s.port.windowCode ∧
    (s.spoilAttempt a d).port.pressFirst = s.port.pressFirst ∧
    (s.spoilAttempt a d).port.lastResult = s.port.lastResult ∧
    (s.spoilAttempt a d).port.windowTimer = s.port.windowTimer ∧
    (s.spoilAttempt a d).walker.cursor = s.walker.cursor ∧
    (s.spoilAttempt a d).walker.window = s.walker.window ∧
    (s.spoilAttempt a d).walker.pendingWake = s.walker.pendingWake ∧
    (s.spoilAttempt a d).walker.sweepTimer = s.walker.sweepTimer ∧
    (s.spoilAttempt a d).walker.sweepRunning = s.walker.sweepRunning ∧
    (s.spoilAttempt a d).walker.unit = s.walker.unit ∧
    (s.spoilAttempt a d).walker.pendingSpent = s.walker.pendingSpent ∧
    (s.spoilAttempt a d).walker.spentDue = s.walker.spentDue ∧
    (s.spoilAttempt a d).walker.spentInFlight = s.walker.spentInFlight ∧
    (s.spoilAttempt a d).walker.readLimit = s.walker.readLimit ∧
    (s.spoilAttempt a d).control.engine = s.control.engine ∧
    (s.spoilAttempt a d).control.cause = s.control.cause ∧
    (s.spoilAttempt a d).control.faultAddr = s.control.faultAddr ∧
    (s.spoilAttempt a d).control.retire = s.control.retire ∧
    (s.spoilAttempt a d).control.barrier = s.control.barrier ∧
    (s.spoilAttempt a d).profiles = s.profiles ∧
    (s.spoilAttempt a d).store.mode = s.store.mode ∧
    (s.spoilAttempt a d).glyphs = s.glyphs ∧
    (s.spoilAttempt a d).link.config = s.link.config ∧
    (s.spoilAttempt a d).link.ready = s.link.ready ∧
    (s.spoilAttempt a d).check.correctable = s.check.correctable ∧
    (s.spoilAttempt a d).check.count = s.check.count ∧
    (s.spoilAttempt a d).check.uncorrectable = s.check.uncorrectable ∧
    (s.spoilAttempt a d).check.locked = s.check.locked ∧
    (s.spoilAttempt a d).check.finds = s.check.finds ∧
    (s.spoilAttempt a d).out.serverWrites = s.out.serverWrites := by
  repeat' apply And.intro
  all_goals first | rfl | (simp [State.spoilAttempt])

@[simp] theorem State.abandonSheet_frame (s : State) (sl : SheetSlot) :
    (s.abandonSheet sl).pending = s.pending ∧
    (s.abandonSheet sl).window = s.window ∧
    (s.abandonSheet sl).port.outstanding = s.port.outstanding ∧
    (s.abandonSheet sl).port.hold = s.port.hold ∧
    (s.abandonSheet sl).port.windowCode = s.port.windowCode ∧
    (s.abandonSheet sl).port.pressFirst = s.port.pressFirst ∧
    (s.abandonSheet sl).port.lastResult = s.port.lastResult ∧
    (s.abandonSheet sl).port.windowTimer = s.port.windowTimer ∧
    (s.abandonSheet sl).walker.cursor = s.walker.cursor ∧
    (s.abandonSheet sl).walker.window = s.walker.window ∧
    (s.abandonSheet sl).walker.pendingWake = s.walker.pendingWake ∧
    (s.abandonSheet sl).walker.sweepTimer = s.walker.sweepTimer ∧
    (s.abandonSheet sl).walker.sweepRunning = s.walker.sweepRunning ∧
    (s.abandonSheet sl).walker.unit = s.walker.unit ∧
    (s.abandonSheet sl).walker.pendingSpent = s.walker.pendingSpent ∧
    (s.abandonSheet sl).walker.spentDue = s.walker.spentDue ∧
    (s.abandonSheet sl).walker.spentInFlight = s.walker.spentInFlight ∧
    (s.abandonSheet sl).walker.readLimit = s.walker.readLimit ∧
    (s.abandonSheet sl).control.engine = s.control.engine ∧
    (s.abandonSheet sl).control.cause = s.control.cause ∧
    (s.abandonSheet sl).control.faultAddr = s.control.faultAddr ∧
    (s.abandonSheet sl).control.retire = s.control.retire ∧
    (s.abandonSheet sl).control.barrier = s.control.barrier ∧
    (s.abandonSheet sl).planner = s.planner ∧
    (s.abandonSheet sl).profiles = s.profiles ∧
    (s.abandonSheet sl).store.mode = s.store.mode ∧
    (s.abandonSheet sl).glyphs = s.glyphs ∧
    (s.abandonSheet sl).link.config = s.link.config ∧
    (s.abandonSheet sl).link.ready = s.link.ready ∧
    (s.abandonSheet sl).check.correctable = s.check.correctable ∧
    (s.abandonSheet sl).check.count = s.check.count ∧
    (s.abandonSheet sl).check.uncorrectable = s.check.uncorrectable ∧
    (s.abandonSheet sl).check.locked = s.check.locked ∧
    (s.abandonSheet sl).check.finds = s.check.finds ∧
    (s.abandonSheet sl).out.serverWrites = s.out.serverWrites := by
  repeat' apply And.intro
  all_goals first | rfl | (unfold State.abandonSheet; (repeat' split) <;> simp)

@[simp] theorem State.stopPlanner_frame (s : State) :
    (s.stopPlanner).pending = s.pending ∧
    (s.stopPlanner).window = s.window ∧
    (s.stopPlanner).port.outstanding = s.port.outstanding ∧
    (s.stopPlanner).port.hold = s.port.hold ∧
    (s.stopPlanner).port.windowCode = s.port.windowCode ∧
    (s.stopPlanner).port.pressFirst = s.port.pressFirst ∧
    (s.stopPlanner).port.lastResult = s.port.lastResult ∧
    (s.stopPlanner).port.windowTimer = s.port.windowTimer ∧
    (s.stopPlanner).walker = s.walker ∧
    (s.stopPlanner).control = s.control ∧
    (s.stopPlanner).profiles = s.profiles ∧
    (s.stopPlanner).store = s.store ∧
    (s.stopPlanner).builder = s.builder ∧
    (s.stopPlanner).glyphs = s.glyphs ∧
    (s.stopPlanner).composer = s.composer ∧
    (s.stopPlanner).link = s.link ∧
    (s.stopPlanner).writer = s.writer ∧
    (s.stopPlanner).check = s.check ∧
    (s.stopPlanner).out = s.out := by
  repeat' apply And.intro
  all_goals first | rfl | (unfold State.stopPlanner; (repeat' split) <;> simp)

@[simp] theorem State.unsetProfile_frame (s : State) (n : Fin 16) :
    (s.unsetProfile n).pending = s.pending ∧
    (s.unsetProfile n).window = s.window ∧
    (s.unsetProfile n).port = s.port ∧
    (s.unsetProfile n).walker = s.walker ∧
    (s.unsetProfile n).control = s.control ∧
    (s.unsetProfile n).planner = s.planner ∧
    (s.unsetProfile n).store = s.store ∧
    (s.unsetProfile n).builder = s.builder ∧
    (s.unsetProfile n).glyphs = s.glyphs ∧
    (s.unsetProfile n).composer = s.composer ∧
    (s.unsetProfile n).link = s.link ∧
    (s.unsetProfile n).writer = s.writer ∧
    (s.unsetProfile n).check = s.check ∧
    (s.unsetProfile n).out = s.out := by
  repeat' apply And.intro
  all_goals rfl

@[simp] theorem State.unsetGlyphs_frame (s : State) (g : Fin 3) :
    (s.unsetGlyphs g).pending = s.pending ∧
    (s.unsetGlyphs g).window = s.window ∧
    (s.unsetGlyphs g).port = s.port ∧
    (s.unsetGlyphs g).walker = s.walker ∧
    (s.unsetGlyphs g).control = s.control ∧
    (s.unsetGlyphs g).planner = s.planner ∧
    (s.unsetGlyphs g).profiles = s.profiles ∧
    (s.unsetGlyphs g).store = s.store ∧
    (s.unsetGlyphs g).builder = s.builder ∧
    (s.unsetGlyphs g).composer = s.composer ∧
    (s.unsetGlyphs g).link = s.link ∧
    (s.unsetGlyphs g).writer = s.writer ∧
    (s.unsetGlyphs g).check = s.check ∧
    (s.unsetGlyphs g).out = s.out := by
  repeat' apply And.intro
  all_goals rfl

@[simp] theorem State.abandonBarrier_frame (s : State) :
    (s.abandonBarrier).pending = s.pending ∧
    (s.abandonBarrier).window = s.window ∧
    (s.abandonBarrier).port = s.port ∧
    (s.abandonBarrier).walker.cursor = s.walker.cursor ∧
    (s.abandonBarrier).walker.window = s.walker.window ∧
    (s.abandonBarrier).walker.pendingWake = s.walker.pendingWake ∧
    (s.abandonBarrier).walker.sweepTimer = s.walker.sweepTimer ∧
    (s.abandonBarrier).walker.sweepRunning = s.walker.sweepRunning ∧
    (s.abandonBarrier).walker.unit = s.walker.unit ∧
    (s.abandonBarrier).walker.pendingSpent = s.walker.pendingSpent ∧
    (s.abandonBarrier).walker.spentDue = s.walker.spentDue ∧
    (s.abandonBarrier).walker.spentInFlight = s.walker.spentInFlight ∧
    (s.abandonBarrier).walker.readLimit = s.walker.readLimit ∧
    (s.abandonBarrier).control.engine = s.control.engine ∧
    (s.abandonBarrier).control.cause = s.control.cause ∧
    (s.abandonBarrier).control.faultAddr = s.control.faultAddr ∧
    (s.abandonBarrier).control.slotA = s.control.slotA ∧
    (s.abandonBarrier).control.slotB = s.control.slotB ∧
    (s.abandonBarrier).control.retire = s.control.retire ∧
    (s.abandonBarrier).planner = s.planner ∧
    (s.abandonBarrier).store = s.store ∧
    (s.abandonBarrier).builder = s.builder ∧
    (s.abandonBarrier).composer = s.composer ∧
    (s.abandonBarrier).link = s.link ∧
    (s.abandonBarrier).writer = s.writer ∧
    (s.abandonBarrier).check = s.check ∧
    (s.abandonBarrier).out = s.out := by
  repeat' apply And.intro
  all_goals first | rfl | (unfold State.abandonBarrier; (repeat' split) <;> simp)

@[simp] theorem State.abandonOrders_frame (s : State) :
    (s.abandonOrders).pending = s.pending ∧
    (s.abandonOrders).window = s.window ∧
    (s.abandonOrders).port.outstanding = s.port.outstanding ∧
    (s.abandonOrders).port.hold = s.port.hold ∧
    (s.abandonOrders).port.windowCode = s.port.windowCode ∧
    (s.abandonOrders).port.pressFirst = s.port.pressFirst ∧
    (s.abandonOrders).port.lastResult = s.port.lastResult ∧
    (s.abandonOrders).port.windowTimer = s.port.windowTimer ∧
    (s.abandonOrders).walker.cursor = s.walker.cursor ∧
    (s.abandonOrders).walker.window = s.walker.window ∧
    (s.abandonOrders).walker.pendingWake = s.walker.pendingWake ∧
    (s.abandonOrders).walker.sweepTimer = s.walker.sweepTimer ∧
    (s.abandonOrders).walker.sweepRunning = s.walker.sweepRunning ∧
    (s.abandonOrders).walker.unit = s.walker.unit ∧
    (s.abandonOrders).walker.pendingSpent = s.walker.pendingSpent ∧
    (s.abandonOrders).walker.spentDue = s.walker.spentDue ∧
    (s.abandonOrders).walker.spentInFlight = s.walker.spentInFlight ∧
    (s.abandonOrders).walker.readLimit = s.walker.readLimit ∧
    (s.abandonOrders).control.engine = s.control.engine ∧
    (s.abandonOrders).control.cause = s.control.cause ∧
    (s.abandonOrders).control.faultAddr = s.control.faultAddr ∧
    (s.abandonOrders).control.retire = s.control.retire ∧
    (s.abandonOrders).store.mode = s.store.mode ∧
    (s.abandonOrders).link.config = s.link.config ∧
    (s.abandonOrders).link.ready = s.link.ready ∧
    (s.abandonOrders).check.correctable = s.check.correctable ∧
    (s.abandonOrders).check.count = s.check.count ∧
    (s.abandonOrders).check.uncorrectable = s.check.uncorrectable ∧
    (s.abandonOrders).check.locked = s.check.locked ∧
    (s.abandonOrders).check.finds = s.check.finds ∧
    (s.abandonOrders).out.serverWrites = s.out.serverWrites := by
  repeat' apply And.intro
  all_goals first | rfl | (simp [State.abandonOrders])

@[simp] theorem State.dropDueReport_frame (s : State) (sl : SheetSlot) :
    (s.dropDueReport sl).pending = s.pending ∧
    (s.dropDueReport sl).window = s.window ∧
    (s.dropDueReport sl).port = s.port ∧
    (s.dropDueReport sl).walker = s.walker ∧
    (s.dropDueReport sl).control.engine = s.control.engine ∧
    (s.dropDueReport sl).control.cause = s.control.cause ∧
    (s.dropDueReport sl).control.faultAddr = s.control.faultAddr ∧
    (s.dropDueReport sl).control.queue = s.control.queue ∧
    (s.dropDueReport sl).control.retire = s.control.retire ∧
    (s.dropDueReport sl).control.barrier = s.control.barrier ∧
    (s.dropDueReport sl).planner = s.planner ∧
    (s.dropDueReport sl).profiles = s.profiles ∧
    (s.dropDueReport sl).store = s.store ∧
    (s.dropDueReport sl).builder = s.builder ∧
    (s.dropDueReport sl).glyphs = s.glyphs ∧
    (s.dropDueReport sl).composer = s.composer ∧
    (s.dropDueReport sl).link = s.link ∧
    (s.dropDueReport sl).writer = s.writer ∧
    (s.dropDueReport sl).check = s.check ∧
    (s.dropDueReport sl).out = s.out := by
  repeat' apply And.intro
  all_goals first | rfl | (simp [State.dropDueReport])

@[simp] theorem State.faultWalker_frame (s : State) :
    (s.faultWalker).pending = s.pending ∧
    (s.faultWalker).window = s.window ∧
    (s.faultWalker).port = s.port ∧
    (s.faultWalker).walker.cursor = s.walker.cursor ∧
    (s.faultWalker).walker.pendingWake = s.walker.pendingWake ∧
    (s.faultWalker).walker.sweepTimer = s.walker.sweepTimer ∧
    (s.faultWalker).walker.pendingSpent = s.walker.pendingSpent ∧
    (s.faultWalker).walker.spentDue = s.walker.spentDue ∧
    (s.faultWalker).walker.spentInFlight = s.walker.spentInFlight ∧
    (s.faultWalker).walker.readLimit = s.walker.readLimit ∧
    (s.faultWalker).control = s.control ∧
    (s.faultWalker).planner = s.planner ∧
    (s.faultWalker).profiles = s.profiles ∧
    (s.faultWalker).store = s.store ∧
    (s.faultWalker).builder = s.builder ∧
    (s.faultWalker).glyphs = s.glyphs ∧
    (s.faultWalker).composer = s.composer ∧
    (s.faultWalker).link = s.link ∧
    (s.faultWalker).writer = s.writer ∧
    (s.faultWalker).check = s.check ∧
    (s.faultWalker).out = s.out := by
  repeat' apply And.intro
  all_goals rfl

@[simp] theorem State.engineFaults_frame (s : State) (c : FaultCause) (a : Addr) :
    (s.engineFaults c a).pending = s.pending ∧
    (s.engineFaults c a).window.chainHead = s.window.chainHead ∧
    (s.engineFaults c a).window.run = s.window.run ∧
    (s.engineFaults c a).window.depth = s.window.depth ∧
    (s.engineFaults c a).window.pressMode = s.window.pressMode ∧
    (s.engineFaults c a).window.sweepPreset = s.window.sweepPreset ∧
    (s.engineFaults c a).window.enables = s.window.enables ∧
    (s.engineFaults c a).port.outstanding = s.port.outstanding ∧
    (s.engineFaults c a).port.hold = s.port.hold ∧
    (s.engineFaults c a).port.windowCode = s.port.windowCode ∧
    (s.engineFaults c a).port.pressFirst = s.port.pressFirst ∧
    (s.engineFaults c a).port.lastResult = s.port.lastResult ∧
    (s.engineFaults c a).port.windowTimer = s.port.windowTimer ∧
    (s.engineFaults c a).walker.cursor = s.walker.cursor ∧
    (s.engineFaults c a).walker.pendingWake = s.walker.pendingWake ∧
    (s.engineFaults c a).walker.sweepTimer = s.walker.sweepTimer ∧
    (s.engineFaults c a).walker.pendingSpent = s.walker.pendingSpent ∧
    (s.engineFaults c a).walker.spentDue = s.walker.spentDue ∧
    (s.engineFaults c a).walker.spentInFlight = s.walker.spentInFlight ∧
    (s.engineFaults c a).walker.readLimit = s.walker.readLimit ∧
    (s.engineFaults c a).control.retire = s.control.retire ∧
    (s.engineFaults c a).store.mode = s.store.mode ∧
    (s.engineFaults c a).link.config = s.link.config ∧
    (s.engineFaults c a).link.ready = s.link.ready ∧
    (s.engineFaults c a).check.correctable = s.check.correctable ∧
    (s.engineFaults c a).check.count = s.check.count ∧
    (s.engineFaults c a).check.uncorrectable = s.check.uncorrectable ∧
    (s.engineFaults c a).check.locked = s.check.locked ∧
    (s.engineFaults c a).check.finds = s.check.finds ∧
    (s.engineFaults c a).out.serverWrites = s.out.serverWrites := by
  repeat' apply And.intro
  all_goals first | rfl | (unfold State.engineFaults; (repeat' split) <;> simp)

end Sys2Proof.Machine
end

