-- ==== Sys2Proof/Laws/RegisterWindowFrames.lean ====
section
/-! SUPPORT. What the writes of the register window leave unchanged: one lemma per
operation, every part of the state that it cannot change. -/

namespace Sys2Proof.Machine

@[simp] theorem State.writeDepth_frame (s : State) (v : Nat) :
    (s.writeDepth v).pending = s.pending ∧
    (s.writeDepth v).window.chainHead = s.window.chainHead ∧
    (s.writeDepth v).window.run = s.window.run ∧
    (s.writeDepth v).window.abandon = s.window.abandon ∧
    (s.writeDepth v).window.pressMode = s.window.pressMode ∧
    (s.writeDepth v).window.sweepPreset = s.window.sweepPreset ∧
    (s.writeDepth v).window.events = s.window.events ∧
    (s.writeDepth v).window.enables = s.window.enables ∧
    (s.writeDepth v).port = s.port ∧
    (s.writeDepth v).walker.state = s.walker.state ∧
    (s.writeDepth v).walker.pendingWake = s.walker.pendingWake ∧
    (s.writeDepth v).walker.sweepTimer = s.walker.sweepTimer ∧
    (s.writeDepth v).walker.sweepRunning = s.walker.sweepRunning ∧
    (s.writeDepth v).walker.unit = s.walker.unit ∧
    (s.writeDepth v).walker.pendingSpent = s.walker.pendingSpent ∧
    (s.writeDepth v).walker.spentDue = s.walker.spentDue ∧
    (s.writeDepth v).walker.spentInFlight = s.walker.spentInFlight ∧
    (s.writeDepth v).control = s.control ∧
    (s.writeDepth v).planner = s.planner ∧
    (s.writeDepth v).profiles = s.profiles ∧
    (s.writeDepth v).store = s.store ∧
    (s.writeDepth v).builder = s.builder ∧
    (s.writeDepth v).glyphs = s.glyphs ∧
    (s.writeDepth v).composer = s.composer ∧
    (s.writeDepth v).link = s.link ∧
    (s.writeDepth v).writer = s.writer ∧
    (s.writeDepth v).check = s.check ∧
    (s.writeDepth v).out = s.out := by
  repeat' apply And.intro
  all_goals first | rfl | (unfold State.writeDepth; (repeat' split) <;> simp)

@[simp] theorem State.writePressMode_frame (s : State) (v : Nat) :
    (s.writePressMode v).pending = s.pending ∧
    (s.writePressMode v).window.chainHead = s.window.chainHead ∧
    (s.writePressMode v).window.run = s.window.run ∧
    (s.writePressMode v).window.abandon = s.window.abandon ∧
    (s.writePressMode v).window.depth = s.window.depth ∧
    (s.writePressMode v).window.sweepPreset = s.window.sweepPreset ∧
    (s.writePressMode v).window.events = s.window.events ∧
    (s.writePressMode v).window.enables = s.window.enables ∧
    (s.writePressMode v).port = s.port ∧
    (s.writePressMode v).walker = s.walker ∧
    (s.writePressMode v).control = s.control ∧
    (s.writePressMode v).planner = s.planner ∧
    (s.writePressMode v).profiles = s.profiles ∧
    (s.writePressMode v).store = s.store ∧
    (s.writePressMode v).builder = s.builder ∧
    (s.writePressMode v).glyphs = s.glyphs ∧
    (s.writePressMode v).composer = s.composer ∧
    (s.writePressMode v).link = s.link ∧
    (s.writePressMode v).writer = s.writer ∧
    (s.writePressMode v).check = s.check ∧
    (s.writePressMode v).out = s.out := by
  repeat' apply And.intro
  all_goals first | rfl | (unfold State.writePressMode; (repeat' split) <;> simp)

@[simp] theorem State.writeSweepPreset_frame (s : State) (v : BitVec 16) :
    (s.writeSweepPreset v).pending = s.pending ∧
    (s.writeSweepPreset v).window.chainHead = s.window.chainHead ∧
    (s.writeSweepPreset v).window.run = s.window.run ∧
    (s.writeSweepPreset v).window.abandon = s.window.abandon ∧
    (s.writeSweepPreset v).window.depth = s.window.depth ∧
    (s.writeSweepPreset v).window.pressMode = s.window.pressMode ∧
    (s.writeSweepPreset v).window.events = s.window.events ∧
    (s.writeSweepPreset v).window.enables = s.window.enables ∧
    (s.writeSweepPreset v).port = s.port ∧
    (s.writeSweepPreset v).walker.state = s.walker.state ∧
    (s.writeSweepPreset v).walker.cursor = s.walker.cursor ∧
    (s.writeSweepPreset v).walker.window = s.walker.window ∧
    (s.writeSweepPreset v).walker.pendingWake = s.walker.pendingWake ∧
    (s.writeSweepPreset v).walker.unit = s.walker.unit ∧
    (s.writeSweepPreset v).walker.pendingSpent = s.walker.pendingSpent ∧
    (s.writeSweepPreset v).walker.spentDue = s.walker.spentDue ∧
    (s.writeSweepPreset v).walker.spentInFlight = s.walker.spentInFlight ∧
    (s.writeSweepPreset v).walker.readLimit = s.walker.readLimit ∧
    (s.writeSweepPreset v).control = s.control ∧
    (s.writeSweepPreset v).planner = s.planner ∧
    (s.writeSweepPreset v).profiles = s.profiles ∧
    (s.writeSweepPreset v).store = s.store ∧
    (s.writeSweepPreset v).builder = s.builder ∧
    (s.writeSweepPreset v).glyphs = s.glyphs ∧
    (s.writeSweepPreset v).composer = s.composer ∧
    (s.writeSweepPreset v).link = s.link ∧
    (s.writeSweepPreset v).writer = s.writer ∧
    (s.writeSweepPreset v).check = s.check ∧
    (s.writeSweepPreset v).out = s.out := by
  repeat' apply And.intro
  all_goals first | rfl | (unfold State.writeSweepPreset; (repeat' split) <;> simp)

@[simp] theorem State.writeChainHead_frame (s : State) (v : Addr) :
    (s.writeChainHead v).pending = s.pending ∧
    (s.writeChainHead v).window.run = s.window.run ∧
    (s.writeChainHead v).window.abandon = s.window.abandon ∧
    (s.writeChainHead v).window.depth = s.window.depth ∧
    (s.writeChainHead v).window.pressMode = s.window.pressMode ∧
    (s.writeChainHead v).window.sweepPreset = s.window.sweepPreset ∧
    (s.writeChainHead v).window.events = s.window.events ∧
    (s.writeChainHead v).window.enables = s.window.enables ∧
    (s.writeChainHead v).port = s.port ∧
    (s.writeChainHead v).walker = s.walker ∧
    (s.writeChainHead v).control = s.control ∧
    (s.writeChainHead v).planner = s.planner ∧
    (s.writeChainHead v).profiles = s.profiles ∧
    (s.writeChainHead v).store = s.store ∧
    (s.writeChainHead v).builder = s.builder ∧
    (s.writeChainHead v).glyphs = s.glyphs ∧
    (s.writeChainHead v).composer = s.composer ∧
    (s.writeChainHead v).link = s.link ∧
    (s.writeChainHead v).writer = s.writer ∧
    (s.writeChainHead v).check = s.check ∧
    (s.writeChainHead v).out = s.out := by
  repeat' apply And.intro
  all_goals first | rfl | (unfold State.writeChainHead; (repeat' split) <;> simp)

@[simp] theorem State.wakeUp_frame (s : State) :
    (s.wakeUp).pending = s.pending ∧
    (s.wakeUp).window.chainHead = s.window.chainHead ∧
    (s.wakeUp).window.run = s.window.run ∧
    (s.wakeUp).window.abandon = s.window.abandon ∧
    (s.wakeUp).window.depth = s.window.depth ∧
    (s.wakeUp).window.pressMode = s.window.pressMode ∧
    (s.wakeUp).window.sweepPreset = s.window.sweepPreset ∧
    (s.wakeUp).window.enables = s.window.enables ∧
    (s.wakeUp).port = s.port ∧
    (s.wakeUp).walker.cursor = s.walker.cursor ∧
    (s.wakeUp).walker.window = s.walker.window ∧
    (s.wakeUp).walker.unit = s.walker.unit ∧
    (s.wakeUp).walker.pendingSpent = s.walker.pendingSpent ∧
    (s.wakeUp).walker.spentDue = s.walker.spentDue ∧
    (s.wakeUp).walker.spentInFlight = s.walker.spentInFlight ∧
    (s.wakeUp).walker.readLimit = s.walker.readLimit ∧
    (s.wakeUp).control = s.control ∧
    (s.wakeUp).planner = s.planner ∧
    (s.wakeUp).profiles = s.profiles ∧
    (s.wakeUp).store = s.store ∧
    (s.wakeUp).builder = s.builder ∧
    (s.wakeUp).glyphs = s.glyphs ∧
    (s.wakeUp).composer = s.composer ∧
    (s.wakeUp).link = s.link ∧
    (s.wakeUp).writer = s.writer ∧
    (s.wakeUp).check = s.check ∧
    (s.wakeUp).out = s.out := by
  repeat' apply And.intro
  all_goals first | rfl | (unfold State.wakeUp; (repeat' split) <;> simp)

@[simp] theorem State.writeRunOne_frame (s : State) :
    (s.writeRunOne).pending = s.pending ∧
    (s.writeRunOne).window.chainHead = s.window.chainHead ∧
    (s.writeRunOne).window.abandon = s.window.abandon ∧
    (s.writeRunOne).window.depth = s.window.depth ∧
    (s.writeRunOne).window.pressMode = s.window.pressMode ∧
    (s.writeRunOne).window.sweepPreset = s.window.sweepPreset ∧
    (s.writeRunOne).window.enables = s.window.enables ∧
    (s.writeRunOne).port = s.port ∧
    (s.writeRunOne).walker.window = s.walker.window ∧
    (s.writeRunOne).walker.unit = s.walker.unit ∧
    (s.writeRunOne).walker.pendingSpent = s.walker.pendingSpent ∧
    (s.writeRunOne).walker.spentDue = s.walker.spentDue ∧
    (s.writeRunOne).walker.spentInFlight = s.walker.spentInFlight ∧
    (s.writeRunOne).walker.readLimit = s.walker.readLimit ∧
    (s.writeRunOne).control.cause = s.control.cause ∧
    (s.writeRunOne).control.faultAddr = s.control.faultAddr ∧
    (s.writeRunOne).control.slotA = s.control.slotA ∧
    (s.writeRunOne).control.slotB = s.control.slotB ∧
    (s.writeRunOne).control.queue = s.control.queue ∧
    (s.writeRunOne).control.retire = s.control.retire ∧
    (s.writeRunOne).control.barrier = s.control.barrier ∧
    (s.writeRunOne).planner = s.planner ∧
    (s.writeRunOne).profiles = s.profiles ∧
    (s.writeRunOne).store = s.store ∧
    (s.writeRunOne).builder = s.builder ∧
    (s.writeRunOne).glyphs = s.glyphs ∧
    (s.writeRunOne).composer = s.composer ∧
    (s.writeRunOne).link = s.link ∧
    (s.writeRunOne).writer = s.writer ∧
    (s.writeRunOne).check = s.check ∧
    (s.writeRunOne).out = s.out := by
  repeat' apply And.intro
  all_goals first | rfl | (unfold State.writeRunOne; (repeat' split) <;> simp)

@[simp] theorem State.writeRunZero_frame (s : State) :
    (s.writeRunZero).pending = s.pending ∧
    (s.writeRunZero).window.chainHead = s.window.chainHead ∧
    (s.writeRunZero).window.depth = s.window.depth ∧
    (s.writeRunZero).window.pressMode = s.window.pressMode ∧
    (s.writeRunZero).window.sweepPreset = s.window.sweepPreset ∧
    (s.writeRunZero).window.enables = s.window.enables ∧
    (s.writeRunZero).port = s.port ∧
    (s.writeRunZero).walker.pendingSpent = s.walker.pendingSpent ∧
    (s.writeRunZero).walker.spentDue = s.walker.spentDue ∧
    (s.writeRunZero).walker.spentInFlight = s.walker.spentInFlight ∧
    (s.writeRunZero).walker.readLimit = s.walker.readLimit ∧
    (s.writeRunZero).control.cause = s.control.cause ∧
    (s.writeRunZero).control.faultAddr = s.control.faultAddr ∧
    (s.writeRunZero).control.slotA = s.control.slotA ∧
    (s.writeRunZero).control.slotB = s.control.slotB ∧
    (s.writeRunZero).control.queue = s.control.queue ∧
    (s.writeRunZero).control.retire = s.control.retire ∧
    (s.writeRunZero).control.barrier = s.control.barrier ∧
    (s.writeRunZero).planner = s.planner ∧
    (s.writeRunZero).profiles = s.profiles ∧
    (s.writeRunZero).store = s.store ∧
    (s.writeRunZero).builder = s.builder ∧
    (s.writeRunZero).glyphs = s.glyphs ∧
    (s.writeRunZero).composer = s.composer ∧
    (s.writeRunZero).link = s.link ∧
    (s.writeRunZero).writer = s.writer ∧
    (s.writeRunZero).check = s.check ∧
    (s.writeRunZero).out = s.out := by
  repeat' apply And.intro
  all_goals first | rfl | (unfold State.writeRunZero; (repeat' split) <;> simp)

@[simp] theorem State.writeAbandon_frame (s : State) :
    (s.writeAbandon).pending = s.pending ∧
    (s.writeAbandon).window.chainHead = s.window.chainHead ∧
    (s.writeAbandon).window.depth = s.window.depth ∧
    (s.writeAbandon).window.pressMode = s.window.pressMode ∧
    (s.writeAbandon).window.sweepPreset = s.window.sweepPreset ∧
    (s.writeAbandon).window.enables = s.window.enables ∧
    (s.writeAbandon).port.outstanding = s.port.outstanding ∧
    (s.writeAbandon).port.hold = s.port.hold ∧
    (s.writeAbandon).port.windowCode = s.port.windowCode ∧
    (s.writeAbandon).port.pressFirst = s.port.pressFirst ∧
    (s.writeAbandon).port.lastResult = s.port.lastResult ∧
    (s.writeAbandon).port.windowTimer = s.port.windowTimer ∧
    (s.writeAbandon).walker.pendingSpent = s.walker.pendingSpent ∧
    (s.writeAbandon).walker.spentDue = s.walker.spentDue ∧
    (s.writeAbandon).walker.spentInFlight = s.walker.spentInFlight ∧
    (s.writeAbandon).walker.readLimit = s.walker.readLimit ∧
    (s.writeAbandon).control.cause = s.control.cause ∧
    (s.writeAbandon).control.faultAddr = s.control.faultAddr ∧
    (s.writeAbandon).control.retire = s.control.retire ∧
    (s.writeAbandon).store.mode = s.store.mode ∧
    (s.writeAbandon).link.config = s.link.config ∧
    (s.writeAbandon).link.ready = s.link.ready ∧
    (s.writeAbandon).check.correctable = s.check.correctable ∧
    (s.writeAbandon).check.count = s.check.count ∧
    (s.writeAbandon).check.uncorrectable = s.check.uncorrectable ∧
    (s.writeAbandon).check.locked = s.check.locked ∧
    (s.writeAbandon).check.finds = s.check.finds ∧
    (s.writeAbandon).out.serverWrites = s.out.serverWrites := by
  repeat' apply And.intro
  all_goals first | rfl | (unfold State.writeAbandon; (repeat' split) <;> simp)

@[simp] theorem State.writeEvents_frame (s : State) (v : BitVec 9) :
    (s.writeEvents v).pending = s.pending ∧
    (s.writeEvents v).window.chainHead = s.window.chainHead ∧
    (s.writeEvents v).window.run = s.window.run ∧
    (s.writeEvents v).window.abandon = s.window.abandon ∧
    (s.writeEvents v).window.depth = s.window.depth ∧
    (s.writeEvents v).window.pressMode = s.window.pressMode ∧
    (s.writeEvents v).window.sweepPreset = s.window.sweepPreset ∧
    (s.writeEvents v).window.enables = s.window.enables ∧
    (s.writeEvents v).port = s.port ∧
    (s.writeEvents v).walker = s.walker ∧
    (s.writeEvents v).control = s.control ∧
    (s.writeEvents v).planner = s.planner ∧
    (s.writeEvents v).profiles = s.profiles ∧
    (s.writeEvents v).store = s.store ∧
    (s.writeEvents v).builder = s.builder ∧
    (s.writeEvents v).glyphs = s.glyphs ∧
    (s.writeEvents v).composer = s.composer ∧
    (s.writeEvents v).link = s.link ∧
    (s.writeEvents v).writer = s.writer ∧
    (s.writeEvents v).check = s.check ∧
    (s.writeEvents v).out = s.out := by
  repeat' apply And.intro
  all_goals rfl

@[simp] theorem State.writeEnables_frame (s : State) (v : BitVec 9) :
    (s.writeEnables v).pending = s.pending ∧
    (s.writeEnables v).window.chainHead = s.window.chainHead ∧
    (s.writeEnables v).window.run = s.window.run ∧
    (s.writeEnables v).window.abandon = s.window.abandon ∧
    (s.writeEnables v).window.depth = s.window.depth ∧
    (s.writeEnables v).window.pressMode = s.window.pressMode ∧
    (s.writeEnables v).window.sweepPreset = s.window.sweepPreset ∧
    (s.writeEnables v).window.events = s.window.events ∧
    (s.writeEnables v).port = s.port ∧
    (s.writeEnables v).walker = s.walker ∧
    (s.writeEnables v).control = s.control ∧
    (s.writeEnables v).planner = s.planner ∧
    (s.writeEnables v).profiles = s.profiles ∧
    (s.writeEnables v).store = s.store ∧
    (s.writeEnables v).builder = s.builder ∧
    (s.writeEnables v).glyphs = s.glyphs ∧
    (s.writeEnables v).composer = s.composer ∧
    (s.writeEnables v).link = s.link ∧
    (s.writeEnables v).writer = s.writer ∧
    (s.writeEnables v).check = s.check ∧
    (s.writeEnables v).out = s.out := by
  repeat' apply And.intro
  all_goals rfl

@[simp] theorem State.setHoldFields_frame (s : State) (c : BitVec 3) (p : Bool) :
    (s.setHoldFields c p).pending = s.pending ∧
    (s.setHoldFields c p).window = s.window ∧
    (s.setHoldFields c p).port.outstanding = s.port.outstanding ∧
    (s.setHoldFields c p).port.hold = s.port.hold ∧
    (s.setHoldFields c p).port.lastResult = s.port.lastResult ∧
    (s.setHoldFields c p).port.windowTimer = s.port.windowTimer ∧
    (s.setHoldFields c p).port.discarded = s.port.discarded ∧
    (s.setHoldFields c p).walker = s.walker ∧
    (s.setHoldFields c p).control = s.control ∧
    (s.setHoldFields c p).planner = s.planner ∧
    (s.setHoldFields c p).profiles = s.profiles ∧
    (s.setHoldFields c p).store = s.store ∧
    (s.setHoldFields c p).builder = s.builder ∧
    (s.setHoldFields c p).glyphs = s.glyphs ∧
    (s.setHoldFields c p).composer = s.composer ∧
    (s.setHoldFields c p).link = s.link ∧
    (s.setHoldFields c p).writer = s.writer ∧
    (s.setHoldFields c p).check = s.check ∧
    (s.setHoldFields c p).out = s.out := by
  repeat' apply And.intro
  all_goals rfl

@[simp] theorem State.requestHold_frame (s : State) (c : BitVec 3) (p : Bool) :
    (s.requestHold c p).pending = s.pending ∧
    (s.requestHold c p).window.chainHead = s.window.chainHead ∧
    (s.requestHold c p).window.run = s.window.run ∧
    (s.requestHold c p).window.abandon = s.window.abandon ∧
    (s.requestHold c p).window.depth = s.window.depth ∧
    (s.requestHold c p).window.pressMode = s.window.pressMode ∧
    (s.requestHold c p).window.sweepPreset = s.window.sweepPreset ∧
    (s.requestHold c p).window.enables = s.window.enables ∧
    (s.requestHold c p).port.outstanding = s.port.outstanding ∧
    (s.requestHold c p).port.discarded = s.port.discarded ∧
    (s.requestHold c p).walker = s.walker ∧
    (s.requestHold c p).control = s.control ∧
    (s.requestHold c p).planner = s.planner ∧
    (s.requestHold c p).profiles = s.profiles ∧
    (s.requestHold c p).store = s.store ∧
    (s.requestHold c p).builder = s.builder ∧
    (s.requestHold c p).glyphs = s.glyphs ∧
    (s.requestHold c p).composer = s.composer ∧
    (s.requestHold c p).link = s.link ∧
    (s.requestHold c p).writer = s.writer ∧
    (s.requestHold c p).check = s.check ∧
    (s.requestHold c p).out = s.out := by
  repeat' apply And.intro
  all_goals first | rfl | (unfold State.requestHold; (repeat' split) <;> simp)

@[simp] theorem State.releaseHold_frame (s : State) (c : BitVec 3) (p : Bool) :
    (s.releaseHold c p).pending = s.pending ∧
    (s.releaseHold c p).window = s.window ∧
    (s.releaseHold c p).port.outstanding = s.port.outstanding ∧
    (s.releaseHold c p).port.discarded = s.port.discarded ∧
    (s.releaseHold c p).walker = s.walker ∧
    (s.releaseHold c p).control = s.control ∧
    (s.releaseHold c p).planner = s.planner ∧
    (s.releaseHold c p).profiles = s.profiles ∧
    (s.releaseHold c p).store = s.store ∧
    (s.releaseHold c p).builder = s.builder ∧
    (s.releaseHold c p).glyphs = s.glyphs ∧
    (s.releaseHold c p).composer = s.composer ∧
    (s.releaseHold c p).link = s.link ∧
    (s.releaseHold c p).writer = s.writer ∧
    (s.releaseHold c p).check = s.check ∧
    (s.releaseHold c p).out = s.out := by
  repeat' apply And.intro
  all_goals first | rfl | (unfold State.releaseHold; (repeat' split) <;> simp)

@[simp] theorem State.clearLog_frame (s : State) :
    (s.clearLog).pending = s.pending ∧
    (s.clearLog).window = s.window ∧
    (s.clearLog).port = s.port ∧
    (s.clearLog).walker = s.walker ∧
    (s.clearLog).control = s.control ∧
    (s.clearLog).planner = s.planner ∧
    (s.clearLog).profiles = s.profiles ∧
    (s.clearLog).store = s.store ∧
    (s.clearLog).builder = s.builder ∧
    (s.clearLog).glyphs = s.glyphs ∧
    (s.clearLog).composer = s.composer ∧
    (s.clearLog).link = s.link ∧
    (s.clearLog).writer = s.writer ∧
    (s.clearLog).check.poison = s.check.poison ∧
    (s.clearLog).out = s.out := by
  repeat' apply And.intro
  all_goals rfl

@[simp] theorem State.selectPoison_frame (s : State) (v : Nat) :
    (s.selectPoison v).pending = s.pending ∧
    (s.selectPoison v).window = s.window ∧
    (s.selectPoison v).port = s.port ∧
    (s.selectPoison v).walker = s.walker ∧
    (s.selectPoison v).control = s.control ∧
    (s.selectPoison v).planner = s.planner ∧
    (s.selectPoison v).profiles = s.profiles ∧
    (s.selectPoison v).store = s.store ∧
    (s.selectPoison v).builder = s.builder ∧
    (s.selectPoison v).glyphs = s.glyphs ∧
    (s.selectPoison v).composer = s.composer ∧
    (s.selectPoison v).link = s.link ∧
    (s.selectPoison v).writer = s.writer ∧
    (s.selectPoison v).check.correctable = s.check.correctable ∧
    (s.selectPoison v).check.count = s.check.count ∧
    (s.selectPoison v).check.uncorrectable = s.check.uncorrectable ∧
    (s.selectPoison v).check.locked = s.check.locked ∧
    (s.selectPoison v).check.finds = s.check.finds ∧
    (s.selectPoison v).out = s.out := by
  repeat' apply And.intro
  all_goals rfl

@[simp] theorem State.resetAbort_frame (s : State) :
    (s.resetAbort).pending = s.pending ∧
    (s.resetAbort).window = s.window ∧
    (s.resetAbort).port = s.port ∧
    (s.resetAbort).walker = s.walker ∧
    (s.resetAbort).control = s.control ∧
    (s.resetAbort).planner = s.planner ∧
    (s.resetAbort).profiles = s.profiles ∧
    (s.resetAbort).store = s.store ∧
    (s.resetAbort).builder = s.builder ∧
    (s.resetAbort).glyphs = s.glyphs ∧
    (s.resetAbort).composer = s.composer ∧
    (s.resetAbort).link = s.link ∧
    (s.resetAbort).writer = s.writer ∧
    (s.resetAbort).check = s.check ∧
    (s.resetAbort).out.serverWrites = s.out.serverWrites := by
  repeat' apply And.intro
  all_goals first | rfl | (unfold State.resetAbort; (repeat' split) <;> simp)

end Sys2Proof.Machine
end

