-- ==== Sys2Proof/Laws/OrderChainFrames.lean ====
section
/-! SUPPORT. What the moves of the order chain and the retire queue leave unchanged: one lemma per
operation, every part of the state that it cannot change. -/

namespace Sys2Proof.Machine

/-- Emptying a group keeps the store mode and both scratch pools (R114). -/
@[simp] theorem TileStore.emptyGroup_frame (t : TileStore) (g : SlotGroup) :
    (t.emptyGroup g).mode = t.mode ∧ (t.emptyGroup g).poolA = t.poolA ∧ (t.emptyGroup g).poolB = t.poolB := by
  simp [TileStore.emptyGroup]

@[simp] theorem State.endWalkerUnit_frame (s : State) :
    (s.endWalkerUnit).pending = s.pending ∧
    (s.endWalkerUnit).window.chainHead = s.window.chainHead ∧
    (s.endWalkerUnit).window.run = s.window.run ∧
    (s.endWalkerUnit).window.abandon = s.window.abandon ∧
    (s.endWalkerUnit).window.depth = s.window.depth ∧
    (s.endWalkerUnit).window.pressMode = s.window.pressMode ∧
    (s.endWalkerUnit).window.sweepPreset = s.window.sweepPreset ∧
    (s.endWalkerUnit).window.enables = s.window.enables ∧
    (s.endWalkerUnit).port.windowCode = s.port.windowCode ∧
    (s.endWalkerUnit).port.pressFirst = s.port.pressFirst ∧
    (s.endWalkerUnit).port.discarded = s.port.discarded ∧
    (s.endWalkerUnit).walker.state = s.walker.state ∧
    (s.endWalkerUnit).walker.cursor = s.walker.cursor ∧
    (s.endWalkerUnit).walker.window = s.walker.window ∧
    (s.endWalkerUnit).walker.pendingWake = s.walker.pendingWake ∧
    (s.endWalkerUnit).walker.sweepTimer = s.walker.sweepTimer ∧
    (s.endWalkerUnit).walker.sweepRunning = s.walker.sweepRunning ∧
    (s.endWalkerUnit).walker.pendingSpent = s.walker.pendingSpent ∧
    (s.endWalkerUnit).walker.spentDue = s.walker.spentDue ∧
    (s.endWalkerUnit).walker.spentInFlight = s.walker.spentInFlight ∧
    (s.endWalkerUnit).walker.readLimit = s.walker.readLimit ∧
    (s.endWalkerUnit).control = s.control ∧
    (s.endWalkerUnit).planner = s.planner ∧
    (s.endWalkerUnit).profiles = s.profiles ∧
    (s.endWalkerUnit).store = s.store ∧
    (s.endWalkerUnit).builder = s.builder ∧
    (s.endWalkerUnit).glyphs = s.glyphs ∧
    (s.endWalkerUnit).composer = s.composer ∧
    (s.endWalkerUnit).link = s.link ∧
    (s.endWalkerUnit).writer = s.writer ∧
    (s.endWalkerUnit).check = s.check ∧
    (s.endWalkerUnit).out = s.out := by
  repeat' apply And.intro
  all_goals first | rfl | (simp [State.endWalkerUnit])

@[simp] theorem State.walkerRests_frame (s : State) :
    (s.walkerRests).pending = s.pending ∧
    (s.walkerRests).window.chainHead = s.window.chainHead ∧
    (s.walkerRests).window.run = s.window.run ∧
    (s.walkerRests).window.depth = s.window.depth ∧
    (s.walkerRests).window.pressMode = s.window.pressMode ∧
    (s.walkerRests).window.sweepPreset = s.window.sweepPreset ∧
    (s.walkerRests).window.enables = s.window.enables ∧
    (s.walkerRests).port = s.port ∧
    (s.walkerRests).walker.window = s.walker.window ∧
    (s.walkerRests).walker.unit = s.walker.unit ∧
    (s.walkerRests).walker.pendingSpent = s.walker.pendingSpent ∧
    (s.walkerRests).walker.spentDue = s.walker.spentDue ∧
    (s.walkerRests).walker.spentInFlight = s.walker.spentInFlight ∧
    (s.walkerRests).walker.readLimit = s.walker.readLimit ∧
    (s.walkerRests).control.cause = s.control.cause ∧
    (s.walkerRests).control.faultAddr = s.control.faultAddr ∧
    (s.walkerRests).control.slotA = s.control.slotA ∧
    (s.walkerRests).control.slotB = s.control.slotB ∧
    (s.walkerRests).control.queue = s.control.queue ∧
    (s.walkerRests).control.retire = s.control.retire ∧
    (s.walkerRests).control.barrier = s.control.barrier ∧
    (s.walkerRests).planner = s.planner ∧
    (s.walkerRests).profiles = s.profiles ∧
    (s.walkerRests).store = s.store ∧
    (s.walkerRests).builder = s.builder ∧
    (s.walkerRests).glyphs = s.glyphs ∧
    (s.walkerRests).composer = s.composer ∧
    (s.walkerRests).link = s.link ∧
    (s.walkerRests).writer = s.writer ∧
    (s.walkerRests).check = s.check ∧
    (s.walkerRests).out = s.out := by
  repeat' apply And.intro
  all_goals first | rfl | (unfold State.walkerRests; (repeat' split) <;> simp)

@[simp] theorem State.placeRecords_frame (s : State) (f : Addr) (slot n : Nat) (bs : List Byte) :
    (s.placeRecords f slot n bs).pending = s.pending ∧
    (s.placeRecords f slot n bs).window = s.window ∧
    (s.placeRecords f slot n bs).port = s.port ∧
    (s.placeRecords f slot n bs).walker.state = s.walker.state ∧
    (s.placeRecords f slot n bs).walker.pendingWake = s.walker.pendingWake ∧
    (s.placeRecords f slot n bs).walker.sweepTimer = s.walker.sweepTimer ∧
    (s.placeRecords f slot n bs).walker.sweepRunning = s.walker.sweepRunning ∧
    (s.placeRecords f slot n bs).walker.unit = s.walker.unit ∧
    (s.placeRecords f slot n bs).walker.pendingSpent = s.walker.pendingSpent ∧
    (s.placeRecords f slot n bs).walker.spentDue = s.walker.spentDue ∧
    (s.placeRecords f slot n bs).walker.spentInFlight = s.walker.spentInFlight ∧
    (s.placeRecords f slot n bs).walker.readLimit = s.walker.readLimit ∧
    (s.placeRecords f slot n bs).control = s.control ∧
    (s.placeRecords f slot n bs).planner = s.planner ∧
    (s.placeRecords f slot n bs).profiles = s.profiles ∧
    (s.placeRecords f slot n bs).store = s.store ∧
    (s.placeRecords f slot n bs).builder = s.builder ∧
    (s.placeRecords f slot n bs).glyphs = s.glyphs ∧
    (s.placeRecords f slot n bs).composer = s.composer ∧
    (s.placeRecords f slot n bs).link = s.link ∧
    (s.placeRecords f slot n bs).writer = s.writer ∧
    (s.placeRecords f slot n bs).check = s.check ∧
    (s.placeRecords f slot n bs).out = s.out := by
  repeat' apply And.intro
  all_goals rfl

@[simp] theorem State.afterRecords_frame (s : State) :
    (s.afterRecords).pending = s.pending ∧
    (s.afterRecords).window.chainHead = s.window.chainHead ∧
    (s.afterRecords).window.run = s.window.run ∧
    (s.afterRecords).window.abandon = s.window.abandon ∧
    (s.afterRecords).window.depth = s.window.depth ∧
    (s.afterRecords).window.pressMode = s.window.pressMode ∧
    (s.afterRecords).window.sweepPreset = s.window.sweepPreset ∧
    (s.afterRecords).window.enables = s.window.enables ∧
    (s.afterRecords).port = s.port ∧
    (s.afterRecords).walker.cursor = s.walker.cursor ∧
    (s.afterRecords).walker.window = s.walker.window ∧
    (s.afterRecords).walker.unit = s.walker.unit ∧
    (s.afterRecords).walker.pendingSpent = s.walker.pendingSpent ∧
    (s.afterRecords).walker.spentDue = s.walker.spentDue ∧
    (s.afterRecords).walker.spentInFlight = s.walker.spentInFlight ∧
    (s.afterRecords).walker.readLimit = s.walker.readLimit ∧
    (s.afterRecords).control = s.control ∧
    (s.afterRecords).planner = s.planner ∧
    (s.afterRecords).profiles = s.profiles ∧
    (s.afterRecords).store = s.store ∧
    (s.afterRecords).builder = s.builder ∧
    (s.afterRecords).glyphs = s.glyphs ∧
    (s.afterRecords).composer = s.composer ∧
    (s.afterRecords).link = s.link ∧
    (s.afterRecords).writer = s.writer ∧
    (s.afterRecords).check = s.check ∧
    (s.afterRecords).out = s.out := by
  repeat' apply And.intro
  all_goals first | rfl | (unfold State.afterRecords; (repeat' split) <;> simp)

@[simp] theorem State.leaveFolio_frame (s : State) (f n : Addr) :
    (s.leaveFolio f n).pending = s.pending ∧
    (s.leaveFolio f n).window = s.window ∧
    (s.leaveFolio f n).port = s.port ∧
    (s.leaveFolio f n).walker.window = s.walker.window ∧
    (s.leaveFolio f n).walker.pendingWake = s.walker.pendingWake ∧
    (s.leaveFolio f n).walker.sweepTimer = s.walker.sweepTimer ∧
    (s.leaveFolio f n).walker.sweepRunning = s.walker.sweepRunning ∧
    (s.leaveFolio f n).walker.unit = s.walker.unit ∧
    (s.leaveFolio f n).walker.spentInFlight = s.walker.spentInFlight ∧
    (s.leaveFolio f n).walker.readLimit = s.walker.readLimit ∧
    (s.leaveFolio f n).control = s.control ∧
    (s.leaveFolio f n).planner = s.planner ∧
    (s.leaveFolio f n).profiles = s.profiles ∧
    (s.leaveFolio f n).store = s.store ∧
    (s.leaveFolio f n).builder = s.builder ∧
    (s.leaveFolio f n).glyphs = s.glyphs ∧
    (s.leaveFolio f n).composer = s.composer ∧
    (s.leaveFolio f n).link = s.link ∧
    (s.leaveFolio f n).writer = s.writer ∧
    (s.leaveFolio f n).check = s.check ∧
    (s.leaveFolio f n).out = s.out := by
  repeat' apply And.intro
  all_goals first | rfl | (unfold State.leaveFolio; (repeat' split) <;> simp)

@[simp] theorem State.followNext_frame (s : State) (f n : Addr) :
    (s.followNext f n).pending = s.pending ∧
    (s.followNext f n).window.chainHead = s.window.chainHead ∧
    (s.followNext f n).window.run = s.window.run ∧
    (s.followNext f n).window.depth = s.window.depth ∧
    (s.followNext f n).window.pressMode = s.window.pressMode ∧
    (s.followNext f n).window.sweepPreset = s.window.sweepPreset ∧
    (s.followNext f n).window.enables = s.window.enables ∧
    (s.followNext f n).port.outstanding = s.port.outstanding ∧
    (s.followNext f n).port.hold = s.port.hold ∧
    (s.followNext f n).port.windowCode = s.port.windowCode ∧
    (s.followNext f n).port.pressFirst = s.port.pressFirst ∧
    (s.followNext f n).port.lastResult = s.port.lastResult ∧
    (s.followNext f n).port.windowTimer = s.port.windowTimer ∧
    (s.followNext f n).walker.spentInFlight = s.walker.spentInFlight ∧
    (s.followNext f n).walker.readLimit = s.walker.readLimit ∧
    (s.followNext f n).control.retire = s.control.retire ∧
    (s.followNext f n).store.mode = s.store.mode ∧
    (s.followNext f n).link.config = s.link.config ∧
    (s.followNext f n).link.ready = s.link.ready ∧
    (s.followNext f n).check.correctable = s.check.correctable ∧
    (s.followNext f n).check.count = s.check.count ∧
    (s.followNext f n).check.uncorrectable = s.check.uncorrectable ∧
    (s.followNext f n).check.locked = s.check.locked ∧
    (s.followNext f n).check.finds = s.check.finds ∧
    (s.followNext f n).out.serverWrites = s.out.serverWrites := by
  repeat' apply And.intro
  all_goals first | rfl | (unfold State.followNext; (repeat' split) <;> simp)

@[simp] theorem State.joinQueue_frame (s : State) (r : OrderRecord) (fin : Bool) (res : Results) (sl : Option SheetSlot) :
    (s.joinQueue r fin res sl).pending = s.pending ∧
    (s.joinQueue r fin res sl).window = s.window ∧
    (s.joinQueue r fin res sl).port = s.port ∧
    (s.joinQueue r fin res sl).walker = s.walker ∧
    (s.joinQueue r fin res sl).control.engine = s.control.engine ∧
    (s.joinQueue r fin res sl).control.cause = s.control.cause ∧
    (s.joinQueue r fin res sl).control.faultAddr = s.control.faultAddr ∧
    (s.joinQueue r fin res sl).control.slotA = s.control.slotA ∧
    (s.joinQueue r fin res sl).control.slotB = s.control.slotB ∧
    (s.joinQueue r fin res sl).control.retire = s.control.retire ∧
    (s.joinQueue r fin res sl).control.barrier = s.control.barrier ∧
    (s.joinQueue r fin res sl).planner = s.planner ∧
    (s.joinQueue r fin res sl).profiles = s.profiles ∧
    (s.joinQueue r fin res sl).store = s.store ∧
    (s.joinQueue r fin res sl).builder = s.builder ∧
    (s.joinQueue r fin res sl).glyphs = s.glyphs ∧
    (s.joinQueue r fin res sl).composer = s.composer ∧
    (s.joinQueue r fin res sl).link = s.link ∧
    (s.joinQueue r fin res sl).writer = s.writer ∧
    (s.joinQueue r fin res sl).check = s.check ∧
    (s.joinQueue r fin res sl).out = s.out := by
  repeat' apply And.intro
  all_goals rfl

@[simp] theorem State.joinFinished_frame (s : State) (r : OrderRecord) (o : OrderOutcome) (d : Detail) (n : Nat) :
    (s.joinFinished r o d n).pending = s.pending ∧
    (s.joinFinished r o d n).window = s.window ∧
    (s.joinFinished r o d n).port = s.port ∧
    (s.joinFinished r o d n).walker = s.walker ∧
    (s.joinFinished r o d n).control.engine = s.control.engine ∧
    (s.joinFinished r o d n).control.cause = s.control.cause ∧
    (s.joinFinished r o d n).control.faultAddr = s.control.faultAddr ∧
    (s.joinFinished r o d n).control.slotA = s.control.slotA ∧
    (s.joinFinished r o d n).control.slotB = s.control.slotB ∧
    (s.joinFinished r o d n).control.retire = s.control.retire ∧
    (s.joinFinished r o d n).control.barrier = s.control.barrier ∧
    (s.joinFinished r o d n).planner = s.planner ∧
    (s.joinFinished r o d n).profiles = s.profiles ∧
    (s.joinFinished r o d n).store = s.store ∧
    (s.joinFinished r o d n).builder = s.builder ∧
    (s.joinFinished r o d n).glyphs = s.glyphs ∧
    (s.joinFinished r o d n).composer = s.composer ∧
    (s.joinFinished r o d n).link = s.link ∧
    (s.joinFinished r o d n).writer = s.writer ∧
    (s.joinFinished r o d n).check = s.check ∧
    (s.joinFinished r o d n).out = s.out := by
  repeat' apply And.intro
  all_goals rfl

@[simp] theorem State.startSheet_frame (s : State) (r : OrderRecord) (sl : SheetSlot) :
    (s.startSheet r sl).pending = s.pending ∧
    (s.startSheet r sl).window = s.window ∧
    (s.startSheet r sl).port.outstanding = s.port.outstanding ∧
    (s.startSheet r sl).port.hold = s.port.hold ∧
    (s.startSheet r sl).port.windowCode = s.port.windowCode ∧
    (s.startSheet r sl).port.pressFirst = s.port.pressFirst ∧
    (s.startSheet r sl).port.lastResult = s.port.lastResult ∧
    (s.startSheet r sl).port.windowTimer = s.port.windowTimer ∧
    (s.startSheet r sl).walker.cursor = s.walker.cursor ∧
    (s.startSheet r sl).walker.window = s.walker.window ∧
    (s.startSheet r sl).walker.pendingWake = s.walker.pendingWake ∧
    (s.startSheet r sl).walker.sweepTimer = s.walker.sweepTimer ∧
    (s.startSheet r sl).walker.sweepRunning = s.walker.sweepRunning ∧
    (s.startSheet r sl).walker.unit = s.walker.unit ∧
    (s.startSheet r sl).walker.pendingSpent = s.walker.pendingSpent ∧
    (s.startSheet r sl).walker.spentDue = s.walker.spentDue ∧
    (s.startSheet r sl).walker.spentInFlight = s.walker.spentInFlight ∧
    (s.startSheet r sl).walker.readLimit = s.walker.readLimit ∧
    (s.startSheet r sl).control.engine = s.control.engine ∧
    (s.startSheet r sl).control.cause = s.control.cause ∧
    (s.startSheet r sl).control.faultAddr = s.control.faultAddr ∧
    (s.startSheet r sl).control.retire = s.control.retire ∧
    (s.startSheet r sl).control.barrier = s.control.barrier ∧
    (s.startSheet r sl).profiles = s.profiles ∧
    (s.startSheet r sl).store.mode = s.store.mode ∧
    (s.startSheet r sl).glyphs = s.glyphs ∧
    (s.startSheet r sl).composer = s.composer ∧
    (s.startSheet r sl).link = s.link ∧
    (s.startSheet r sl).writer = s.writer ∧
    (s.startSheet r sl).check = s.check ∧
    (s.startSheet r sl).out = s.out := by
  repeat' apply And.intro
  all_goals first | rfl | (unfold State.startSheet; (repeat' split) <;> simp)

@[simp] theorem State.startProfile_frame (s : State) (r : OrderRecord) :
    (s.startProfile r).pending = s.pending ∧
    (s.startProfile r).window = s.window ∧
    (s.startProfile r).port = s.port ∧
    (s.startProfile r).walker = s.walker ∧
    (s.startProfile r).control.engine = s.control.engine ∧
    (s.startProfile r).control.cause = s.control.cause ∧
    (s.startProfile r).control.faultAddr = s.control.faultAddr ∧
    (s.startProfile r).control.slotA = s.control.slotA ∧
    (s.startProfile r).control.slotB = s.control.slotB ∧
    (s.startProfile r).control.retire = s.control.retire ∧
    (s.startProfile r).planner = s.planner ∧
    (s.startProfile r).store = s.store ∧
    (s.startProfile r).builder = s.builder ∧
    (s.startProfile r).glyphs = s.glyphs ∧
    (s.startProfile r).composer = s.composer ∧
    (s.startProfile r).link = s.link ∧
    (s.startProfile r).writer = s.writer ∧
    (s.startProfile r).check = s.check ∧
    (s.startProfile r).out = s.out := by
  repeat' apply And.intro
  all_goals first | rfl | (unfold State.startProfile; (repeat' split) <;> simp)

@[simp] theorem State.startGlyphs_frame (s : State) (r : OrderRecord) :
    (s.startGlyphs r).pending = s.pending ∧
    (s.startGlyphs r).window = s.window ∧
    (s.startGlyphs r).port = s.port ∧
    (s.startGlyphs r).walker = s.walker ∧
    (s.startGlyphs r).control.engine = s.control.engine ∧
    (s.startGlyphs r).control.cause = s.control.cause ∧
    (s.startGlyphs r).control.faultAddr = s.control.faultAddr ∧
    (s.startGlyphs r).control.slotA = s.control.slotA ∧
    (s.startGlyphs r).control.slotB = s.control.slotB ∧
    (s.startGlyphs r).control.retire = s.control.retire ∧
    (s.startGlyphs r).planner = s.planner ∧
    (s.startGlyphs r).profiles = s.profiles ∧
    (s.startGlyphs r).store = s.store ∧
    (s.startGlyphs r).builder = s.builder ∧
    (s.startGlyphs r).composer = s.composer ∧
    (s.startGlyphs r).link = s.link ∧
    (s.startGlyphs r).writer = s.writer ∧
    (s.startGlyphs r).check = s.check ∧
    (s.startGlyphs r).out = s.out := by
  repeat' apply And.intro
  all_goals first | rfl | (unfold State.startGlyphs; (repeat' split) <;> simp)

@[simp] theorem State.runPurge_frame (s : State) (r : OrderRecord) :
    (s.runPurge r).pending = s.pending ∧
    (s.runPurge r).window = s.window ∧
    (s.runPurge r).port = s.port ∧
    (s.runPurge r).walker = s.walker ∧
    (s.runPurge r).control.engine = s.control.engine ∧
    (s.runPurge r).control.cause = s.control.cause ∧
    (s.runPurge r).control.faultAddr = s.control.faultAddr ∧
    (s.runPurge r).control.slotA = s.control.slotA ∧
    (s.runPurge r).control.slotB = s.control.slotB ∧
    (s.runPurge r).control.retire = s.control.retire ∧
    (s.runPurge r).control.barrier = s.control.barrier ∧
    (s.runPurge r).planner = s.planner ∧
    (s.runPurge r).profiles = s.profiles ∧
    (s.runPurge r).store.mode = s.store.mode ∧
    (s.runPurge r).store.poolA = s.store.poolA ∧
    (s.runPurge r).store.poolB = s.store.poolB ∧
    (s.runPurge r).builder = s.builder ∧
    (s.runPurge r).glyphs = s.glyphs ∧
    (s.runPurge r).composer = s.composer ∧
    (s.runPurge r).link = s.link ∧
    (s.runPurge r).writer = s.writer ∧
    (s.runPurge r).check = s.check ∧
    (s.runPurge r).out = s.out := by
  repeat' apply And.intro
  all_goals unfold State.runPurge; dsimp only; split <;> simp

@[simp] theorem State.runFlush_frame (s : State) (r : OrderRecord) :
    (s.runFlush r).pending = s.pending ∧
    (s.runFlush r).window = s.window ∧
    (s.runFlush r).port = s.port ∧
    (s.runFlush r).walker = s.walker ∧
    (s.runFlush r).control.engine = s.control.engine ∧
    (s.runFlush r).control.cause = s.control.cause ∧
    (s.runFlush r).control.faultAddr = s.control.faultAddr ∧
    (s.runFlush r).control.slotA = s.control.slotA ∧
    (s.runFlush r).control.slotB = s.control.slotB ∧
    (s.runFlush r).control.retire = s.control.retire ∧
    (s.runFlush r).control.barrier = s.control.barrier ∧
    (s.runFlush r).planner = s.planner ∧
    (s.runFlush r).profiles = s.profiles ∧
    (s.runFlush r).store.mode = s.store.mode ∧
    (s.runFlush r).store.poolA = s.store.poolA ∧
    (s.runFlush r).store.poolB = s.store.poolB ∧
    (s.runFlush r).builder = s.builder ∧
    (s.runFlush r).glyphs = s.glyphs ∧
    (s.runFlush r).composer = s.composer ∧
    (s.runFlush r).link = s.link ∧
    (s.runFlush r).writer = s.writer ∧
    (s.runFlush r).check = s.check ∧
    (s.runFlush r).out = s.out := by
  repeat' apply And.intro
  all_goals simp [State.runFlush]

@[simp] theorem State.runStoreMode_frame (s : State) (r : OrderRecord) :
    (s.runStoreMode r).pending = s.pending ∧
    (s.runStoreMode r).window = s.window ∧
    (s.runStoreMode r).port = s.port ∧
    (s.runStoreMode r).walker = s.walker ∧
    (s.runStoreMode r).control.engine = s.control.engine ∧
    (s.runStoreMode r).control.cause = s.control.cause ∧
    (s.runStoreMode r).control.faultAddr = s.control.faultAddr ∧
    (s.runStoreMode r).control.slotA = s.control.slotA ∧
    (s.runStoreMode r).control.slotB = s.control.slotB ∧
    (s.runStoreMode r).control.retire = s.control.retire ∧
    (s.runStoreMode r).control.barrier = s.control.barrier ∧
    (s.runStoreMode r).planner = s.planner ∧
    (s.runStoreMode r).profiles = s.profiles ∧
    (s.runStoreMode r).store.sets = s.store.sets ∧
    (s.runStoreMode r).store.poolA = s.store.poolA ∧
    (s.runStoreMode r).store.poolB = s.store.poolB ∧
    (s.runStoreMode r).builder = s.builder ∧
    (s.runStoreMode r).glyphs = s.glyphs ∧
    (s.runStoreMode r).composer = s.composer ∧
    (s.runStoreMode r).link = s.link ∧
    (s.runStoreMode r).writer = s.writer ∧
    (s.runStoreMode r).check = s.check ∧
    (s.runStoreMode r).out = s.out := by
  repeat' apply And.intro
  all_goals first | rfl | (unfold State.runStoreMode; (repeat' split) <;> simp)

@[simp] theorem State.runPress_frame (s : State) (r : OrderRecord) :
    (s.runPress r).pending = s.pending ∧
    (s.runPress r).window = s.window ∧
    (s.runPress r).port = s.port ∧
    (s.runPress r).walker = s.walker ∧
    (s.runPress r).control.engine = s.control.engine ∧
    (s.runPress r).control.cause = s.control.cause ∧
    (s.runPress r).control.faultAddr = s.control.faultAddr ∧
    (s.runPress r).control.slotA = s.control.slotA ∧
    (s.runPress r).control.slotB = s.control.slotB ∧
    (s.runPress r).control.retire = s.control.retire ∧
    (s.runPress r).control.barrier = s.control.barrier ∧
    (s.runPress r).planner = s.planner ∧
    (s.runPress r).profiles = s.profiles ∧
    (s.runPress r).store = s.store ∧
    (s.runPress r).builder = s.builder ∧
    (s.runPress r).glyphs = s.glyphs ∧
    (s.runPress r).composer = s.composer ∧
    (s.runPress r).link.state = s.link.state ∧
    (s.runPress r).link.held = s.link.held ∧
    (s.runPress r).link.nextBand = s.link.nextBand ∧
    (s.runPress r).link.sending = s.link.sending ∧
    (s.runPress r).link.due = s.link.due ∧
    (s.runPress r).link.abortPending = s.link.abortPending ∧
    (s.runPress r).link.bandTimer = s.link.bandTimer ∧
    (s.runPress r).link.graceTimer = s.link.graceTimer ∧
    (s.runPress r).link.acceptTimer = s.link.acceptTimer ∧
    (s.runPress r).link.resultTimer = s.link.resultTimer ∧
    (s.runPress r).link.waitTimer = s.link.waitTimer ∧
    (s.runPress r).link.ready = s.link.ready ∧
    (s.runPress r).writer = s.writer ∧
    (s.runPress r).check = s.check ∧
    (s.runPress r).out = s.out := by
  repeat' apply And.intro
  all_goals first | rfl | (unfold State.runPress; dsimp only; (repeat' split) <;> simp)

@[simp] theorem State.startOrder_frame (s : State) (r : OrderRecord) (sl : Option SheetSlot) :
    (s.startOrder r sl).pending = s.pending ∧
    (s.startOrder r sl).window = s.window ∧
    (s.startOrder r sl).port.outstanding = s.port.outstanding ∧
    (s.startOrder r sl).port.hold = s.port.hold ∧
    (s.startOrder r sl).port.windowCode = s.port.windowCode ∧
    (s.startOrder r sl).port.pressFirst = s.port.pressFirst ∧
    (s.startOrder r sl).port.lastResult = s.port.lastResult ∧
    (s.startOrder r sl).port.windowTimer = s.port.windowTimer ∧
    (s.startOrder r sl).walker.cursor = s.walker.cursor ∧
    (s.startOrder r sl).walker.window = s.walker.window ∧
    (s.startOrder r sl).walker.pendingWake = s.walker.pendingWake ∧
    (s.startOrder r sl).walker.sweepTimer = s.walker.sweepTimer ∧
    (s.startOrder r sl).walker.sweepRunning = s.walker.sweepRunning ∧
    (s.startOrder r sl).walker.unit = s.walker.unit ∧
    (s.startOrder r sl).walker.pendingSpent = s.walker.pendingSpent ∧
    (s.startOrder r sl).walker.spentDue = s.walker.spentDue ∧
    (s.startOrder r sl).walker.spentInFlight = s.walker.spentInFlight ∧
    (s.startOrder r sl).walker.readLimit = s.walker.readLimit ∧
    (s.startOrder r sl).control.engine = s.control.engine ∧
    (s.startOrder r sl).control.cause = s.control.cause ∧
    (s.startOrder r sl).control.faultAddr = s.control.faultAddr ∧
    (s.startOrder r sl).control.retire = s.control.retire ∧
    (s.startOrder r sl).composer = s.composer ∧
    (s.startOrder r sl).link.state = s.link.state ∧
    (s.startOrder r sl).link.held = s.link.held ∧
    (s.startOrder r sl).link.nextBand = s.link.nextBand ∧
    (s.startOrder r sl).link.sending = s.link.sending ∧
    (s.startOrder r sl).link.due = s.link.due ∧
    (s.startOrder r sl).link.abortPending = s.link.abortPending ∧
    (s.startOrder r sl).link.bandTimer = s.link.bandTimer ∧
    (s.startOrder r sl).link.graceTimer = s.link.graceTimer ∧
    (s.startOrder r sl).link.acceptTimer = s.link.acceptTimer ∧
    (s.startOrder r sl).link.resultTimer = s.link.resultTimer ∧
    (s.startOrder r sl).link.waitTimer = s.link.waitTimer ∧
    (s.startOrder r sl).link.ready = s.link.ready ∧
    (s.startOrder r sl).writer = s.writer ∧
    (s.startOrder r sl).check = s.check ∧
    (s.startOrder r sl).out = s.out := by
  repeat' apply And.intro
  all_goals first | rfl | (unfold State.startOrder; (repeat' split) <;> simp)

@[simp] theorem State.afterTake_frame (s : State) :
    (s.afterTake).pending = s.pending ∧
    (s.afterTake).window.chainHead = s.window.chainHead ∧
    (s.afterTake).window.run = s.window.run ∧
    (s.afterTake).window.depth = s.window.depth ∧
    (s.afterTake).window.pressMode = s.window.pressMode ∧
    (s.afterTake).window.sweepPreset = s.window.sweepPreset ∧
    (s.afterTake).window.enables = s.window.enables ∧
    (s.afterTake).port = s.port ∧
    (s.afterTake).walker.window = s.walker.window ∧
    (s.afterTake).walker.unit = s.walker.unit ∧
    (s.afterTake).walker.pendingSpent = s.walker.pendingSpent ∧
    (s.afterTake).walker.spentDue = s.walker.spentDue ∧
    (s.afterTake).walker.spentInFlight = s.walker.spentInFlight ∧
    (s.afterTake).walker.readLimit = s.walker.readLimit ∧
    (s.afterTake).control.cause = s.control.cause ∧
    (s.afterTake).control.faultAddr = s.control.faultAddr ∧
    (s.afterTake).control.slotA = s.control.slotA ∧
    (s.afterTake).control.slotB = s.control.slotB ∧
    (s.afterTake).control.queue = s.control.queue ∧
    (s.afterTake).control.retire = s.control.retire ∧
    (s.afterTake).control.barrier = s.control.barrier ∧
    (s.afterTake).planner = s.planner ∧
    (s.afterTake).profiles = s.profiles ∧
    (s.afterTake).store = s.store ∧
    (s.afterTake).builder = s.builder ∧
    (s.afterTake).glyphs = s.glyphs ∧
    (s.afterTake).composer = s.composer ∧
    (s.afterTake).link = s.link ∧
    (s.afterTake).writer = s.writer ∧
    (s.afterTake).check = s.check ∧
    (s.afterTake).out = s.out := by
  repeat' apply And.intro
  all_goals first | rfl | (unfold State.afterTake; (repeat' split) <;> simp)

@[simp] theorem State.setRetire_frame (s : State) (p : RetirePhase) :
    (s.setRetire p).pending = s.pending ∧
    (s.setRetire p).window = s.window ∧
    (s.setRetire p).port = s.port ∧
    (s.setRetire p).walker = s.walker ∧
    (s.setRetire p).control.engine = s.control.engine ∧
    (s.setRetire p).control.cause = s.control.cause ∧
    (s.setRetire p).control.faultAddr = s.control.faultAddr ∧
    (s.setRetire p).control.slotA = s.control.slotA ∧
    (s.setRetire p).control.slotB = s.control.slotB ∧
    (s.setRetire p).control.queue = s.control.queue ∧
    (s.setRetire p).control.barrier = s.control.barrier ∧
    (s.setRetire p).planner = s.planner ∧
    (s.setRetire p).profiles = s.profiles ∧
    (s.setRetire p).store = s.store ∧
    (s.setRetire p).builder = s.builder ∧
    (s.setRetire p).glyphs = s.glyphs ∧
    (s.setRetire p).composer = s.composer ∧
    (s.setRetire p).link = s.link ∧
    (s.setRetire p).writer = s.writer ∧
    (s.setRetire p).check = s.check ∧
    (s.setRetire p).out = s.out := by
  repeat' apply And.intro
  all_goals rfl

@[simp] theorem State.spentAfter_frame (s : State) (a : Addr) :
    (s.spentAfter a).pending = s.pending ∧
    (s.spentAfter a).window = s.window ∧
    (s.spentAfter a).port = s.port ∧
    (s.spentAfter a).walker.state = s.walker.state ∧
    (s.spentAfter a).walker.cursor = s.walker.cursor ∧
    (s.spentAfter a).walker.window = s.walker.window ∧
    (s.spentAfter a).walker.pendingWake = s.walker.pendingWake ∧
    (s.spentAfter a).walker.sweepTimer = s.walker.sweepTimer ∧
    (s.spentAfter a).walker.sweepRunning = s.walker.sweepRunning ∧
    (s.spentAfter a).walker.unit = s.walker.unit ∧
    (s.spentAfter a).walker.spentInFlight = s.walker.spentInFlight ∧
    (s.spentAfter a).walker.readLimit = s.walker.readLimit ∧
    (s.spentAfter a).control = s.control ∧
    (s.spentAfter a).planner = s.planner ∧
    (s.spentAfter a).profiles = s.profiles ∧
    (s.spentAfter a).store = s.store ∧
    (s.spentAfter a).builder = s.builder ∧
    (s.spentAfter a).glyphs = s.glyphs ∧
    (s.spentAfter a).composer = s.composer ∧
    (s.spentAfter a).link = s.link ∧
    (s.spentAfter a).writer = s.writer ∧
    (s.spentAfter a).check = s.check ∧
    (s.spentAfter a).out = s.out := by
  repeat' apply And.intro
  all_goals first | rfl | (unfold State.spentAfter; (repeat' split) <;> simp)

@[simp] theorem State.idleIfEmpty_frame (s : State) :
    (s.idleIfEmpty).pending = s.pending ∧
    (s.idleIfEmpty).window.chainHead = s.window.chainHead ∧
    (s.idleIfEmpty).window.run = s.window.run ∧
    (s.idleIfEmpty).window.abandon = s.window.abandon ∧
    (s.idleIfEmpty).window.depth = s.window.depth ∧
    (s.idleIfEmpty).window.pressMode = s.window.pressMode ∧
    (s.idleIfEmpty).window.sweepPreset = s.window.sweepPreset ∧
    (s.idleIfEmpty).window.enables = s.window.enables ∧
    (s.idleIfEmpty).port = s.port ∧
    (s.idleIfEmpty).walker = s.walker ∧
    (s.idleIfEmpty).control = s.control ∧
    (s.idleIfEmpty).planner = s.planner ∧
    (s.idleIfEmpty).profiles = s.profiles ∧
    (s.idleIfEmpty).store = s.store ∧
    (s.idleIfEmpty).builder = s.builder ∧
    (s.idleIfEmpty).glyphs = s.glyphs ∧
    (s.idleIfEmpty).composer = s.composer ∧
    (s.idleIfEmpty).link = s.link ∧
    (s.idleIfEmpty).writer = s.writer ∧
    (s.idleIfEmpty).check = s.check ∧
    (s.idleIfEmpty).out = s.out := by
  repeat' apply And.intro
  all_goals first | rfl | (unfold State.idleIfEmpty; (repeat' split) <;> simp)

@[simp] theorem State.retireHead_frame (s : State) (e : QueueEntry) (rest : List QueueEntry) :
    (s.retireHead e rest).pending = s.pending ∧
    (s.retireHead e rest).window.chainHead = s.window.chainHead ∧
    (s.retireHead e rest).window.run = s.window.run ∧
    (s.retireHead e rest).window.depth = s.window.depth ∧
    (s.retireHead e rest).window.pressMode = s.window.pressMode ∧
    (s.retireHead e rest).window.sweepPreset = s.window.sweepPreset ∧
    (s.retireHead e rest).window.enables = s.window.enables ∧
    (s.retireHead e rest).port = s.port ∧
    (s.retireHead e rest).walker.window = s.walker.window ∧
    (s.retireHead e rest).walker.unit = s.walker.unit ∧
    (s.retireHead e rest).walker.spentInFlight = s.walker.spentInFlight ∧
    (s.retireHead e rest).walker.readLimit = s.walker.readLimit ∧
    (s.retireHead e rest).control.cause = s.control.cause ∧
    (s.retireHead e rest).control.faultAddr = s.control.faultAddr ∧
    (s.retireHead e rest).control.slotA = s.control.slotA ∧
    (s.retireHead e rest).control.slotB = s.control.slotB ∧
    (s.retireHead e rest).control.retire = s.control.retire ∧
    (s.retireHead e rest).control.barrier = s.control.barrier ∧
    (s.retireHead e rest).planner = s.planner ∧
    (s.retireHead e rest).profiles = s.profiles ∧
    (s.retireHead e rest).store = s.store ∧
    (s.retireHead e rest).builder = s.builder ∧
    (s.retireHead e rest).glyphs = s.glyphs ∧
    (s.retireHead e rest).composer = s.composer ∧
    (s.retireHead e rest).link = s.link ∧
    (s.retireHead e rest).writer = s.writer ∧
    (s.retireHead e rest).check = s.check ∧
    (s.retireHead e rest).out = s.out := by
  repeat' apply And.intro
  all_goals first | rfl | (unfold State.retireHead; (repeat' split) <;> simp)

end Sys2Proof.Machine
end

