-- ==== Sys2Proof/Laws/UnitsFrames.lean ====
section
/-! SUPPORT. What the moves behind the other commands leave unchanged: one lemma per
operation, every part of the state that it cannot change. -/

namespace Sys2Proof.Machine

@[simp] theorem State.loadProfile_frame (s : State) (n : Fin 16) (p : Profile) (ms : BitVec 5) :
    (s.loadProfile n p ms).pending = s.pending ∧
    (s.loadProfile n p ms).window = s.window ∧
    (s.loadProfile n p ms).port = s.port ∧
    (s.loadProfile n p ms).walker.cursor = s.walker.cursor ∧
    (s.loadProfile n p ms).walker.window = s.walker.window ∧
    (s.loadProfile n p ms).walker.pendingWake = s.walker.pendingWake ∧
    (s.loadProfile n p ms).walker.sweepTimer = s.walker.sweepTimer ∧
    (s.loadProfile n p ms).walker.sweepRunning = s.walker.sweepRunning ∧
    (s.loadProfile n p ms).walker.unit = s.walker.unit ∧
    (s.loadProfile n p ms).walker.pendingSpent = s.walker.pendingSpent ∧
    (s.loadProfile n p ms).walker.spentDue = s.walker.spentDue ∧
    (s.loadProfile n p ms).walker.spentInFlight = s.walker.spentInFlight ∧
    (s.loadProfile n p ms).walker.readLimit = s.walker.readLimit ∧
    (s.loadProfile n p ms).control.engine = s.control.engine ∧
    (s.loadProfile n p ms).control.cause = s.control.cause ∧
    (s.loadProfile n p ms).control.faultAddr = s.control.faultAddr ∧
    (s.loadProfile n p ms).control.slotA = s.control.slotA ∧
    (s.loadProfile n p ms).control.slotB = s.control.slotB ∧
    (s.loadProfile n p ms).control.retire = s.control.retire ∧
    (s.loadProfile n p ms).planner = s.planner ∧
    (s.loadProfile n p ms).store.mode = s.store.mode ∧
    (s.loadProfile n p ms).store.poolA = s.store.poolA ∧
    (s.loadProfile n p ms).store.poolB = s.store.poolB ∧
    (s.loadProfile n p ms).builder = s.builder ∧
    (s.loadProfile n p ms).glyphs = s.glyphs ∧
    (s.loadProfile n p ms).composer = s.composer ∧
    (s.loadProfile n p ms).link = s.link ∧
    (s.loadProfile n p ms).writer = s.writer ∧
    (s.loadProfile n p ms).check = s.check ∧
    (s.loadProfile n p ms).out = s.out := by
  repeat' apply And.intro
  all_goals simp [State.loadProfile]

@[simp] theorem State.loadGlyphs_frame (s : State) (l : GlyphLoad) (gs : List Glyph) :
    (s.loadGlyphs l gs).pending = s.pending ∧
    (s.loadGlyphs l gs).window = s.window ∧
    (s.loadGlyphs l gs).port = s.port ∧
    (s.loadGlyphs l gs).walker.cursor = s.walker.cursor ∧
    (s.loadGlyphs l gs).walker.window = s.walker.window ∧
    (s.loadGlyphs l gs).walker.pendingWake = s.walker.pendingWake ∧
    (s.loadGlyphs l gs).walker.sweepTimer = s.walker.sweepTimer ∧
    (s.loadGlyphs l gs).walker.sweepRunning = s.walker.sweepRunning ∧
    (s.loadGlyphs l gs).walker.unit = s.walker.unit ∧
    (s.loadGlyphs l gs).walker.pendingSpent = s.walker.pendingSpent ∧
    (s.loadGlyphs l gs).walker.spentDue = s.walker.spentDue ∧
    (s.loadGlyphs l gs).walker.spentInFlight = s.walker.spentInFlight ∧
    (s.loadGlyphs l gs).walker.readLimit = s.walker.readLimit ∧
    (s.loadGlyphs l gs).control.engine = s.control.engine ∧
    (s.loadGlyphs l gs).control.cause = s.control.cause ∧
    (s.loadGlyphs l gs).control.faultAddr = s.control.faultAddr ∧
    (s.loadGlyphs l gs).control.slotA = s.control.slotA ∧
    (s.loadGlyphs l gs).control.slotB = s.control.slotB ∧
    (s.loadGlyphs l gs).control.retire = s.control.retire ∧
    (s.loadGlyphs l gs).planner = s.planner ∧
    (s.loadGlyphs l gs).profiles = s.profiles ∧
    (s.loadGlyphs l gs).store = s.store ∧
    (s.loadGlyphs l gs).builder = s.builder ∧
    (s.loadGlyphs l gs).composer = s.composer ∧
    (s.loadGlyphs l gs).link = s.link ∧
    (s.loadGlyphs l gs).writer = s.writer ∧
    (s.loadGlyphs l gs).check.correctable = s.check.correctable ∧
    (s.loadGlyphs l gs).check.count = s.check.count ∧
    (s.loadGlyphs l gs).check.uncorrectable = s.check.uncorrectable ∧
    (s.loadGlyphs l gs).check.locked = s.check.locked ∧
    (s.loadGlyphs l gs).check.poison = s.check.poison ∧
    (s.loadGlyphs l gs).check.finds = s.check.finds ∧
    (s.loadGlyphs l gs).out = s.out := by
  repeat' apply And.intro
  all_goals first | rfl | (unfold State.loadGlyphs; dsimp only; simp)

@[simp] theorem State.receiveGlyphUnit_frame (s : State) (l : GlyphLoad) (bs : List Byte) :
    (s.receiveGlyphUnit l bs).pending = s.pending ∧
    (s.receiveGlyphUnit l bs).window = s.window ∧
    (s.receiveGlyphUnit l bs).port = s.port ∧
    (s.receiveGlyphUnit l bs).walker.cursor = s.walker.cursor ∧
    (s.receiveGlyphUnit l bs).walker.window = s.walker.window ∧
    (s.receiveGlyphUnit l bs).walker.pendingWake = s.walker.pendingWake ∧
    (s.receiveGlyphUnit l bs).walker.sweepTimer = s.walker.sweepTimer ∧
    (s.receiveGlyphUnit l bs).walker.sweepRunning = s.walker.sweepRunning ∧
    (s.receiveGlyphUnit l bs).walker.unit = s.walker.unit ∧
    (s.receiveGlyphUnit l bs).walker.pendingSpent = s.walker.pendingSpent ∧
    (s.receiveGlyphUnit l bs).walker.spentDue = s.walker.spentDue ∧
    (s.receiveGlyphUnit l bs).walker.spentInFlight = s.walker.spentInFlight ∧
    (s.receiveGlyphUnit l bs).walker.readLimit = s.walker.readLimit ∧
    (s.receiveGlyphUnit l bs).control.engine = s.control.engine ∧
    (s.receiveGlyphUnit l bs).control.cause = s.control.cause ∧
    (s.receiveGlyphUnit l bs).control.faultAddr = s.control.faultAddr ∧
    (s.receiveGlyphUnit l bs).control.slotA = s.control.slotA ∧
    (s.receiveGlyphUnit l bs).control.slotB = s.control.slotB ∧
    (s.receiveGlyphUnit l bs).control.retire = s.control.retire ∧
    (s.receiveGlyphUnit l bs).planner = s.planner ∧
    (s.receiveGlyphUnit l bs).profiles = s.profiles ∧
    (s.receiveGlyphUnit l bs).store = s.store ∧
    (s.receiveGlyphUnit l bs).builder = s.builder ∧
    (s.receiveGlyphUnit l bs).composer = s.composer ∧
    (s.receiveGlyphUnit l bs).link = s.link ∧
    (s.receiveGlyphUnit l bs).writer = s.writer ∧
    (s.receiveGlyphUnit l bs).check.correctable = s.check.correctable ∧
    (s.receiveGlyphUnit l bs).check.count = s.check.count ∧
    (s.receiveGlyphUnit l bs).check.uncorrectable = s.check.uncorrectable ∧
    (s.receiveGlyphUnit l bs).check.locked = s.check.locked ∧
    (s.receiveGlyphUnit l bs).check.finds = s.check.finds ∧
    (s.receiveGlyphUnit l bs).out = s.out := by
  repeat' apply And.intro
  all_goals first | rfl | (unfold State.receiveGlyphUnit; dsimp only; (repeat' split) <;> simp)

@[simp] theorem State.startPlanRead_frame (s : State) :
    (s.startPlanRead).pending = s.pending ∧
    (s.startPlanRead).window = s.window ∧
    (s.startPlanRead).port.hold = s.port.hold ∧
    (s.startPlanRead).port.windowCode = s.port.windowCode ∧
    (s.startPlanRead).port.pressFirst = s.port.pressFirst ∧
    (s.startPlanRead).port.lastResult = s.port.lastResult ∧
    (s.startPlanRead).port.windowTimer = s.port.windowTimer ∧
    (s.startPlanRead).port.discarded = s.port.discarded ∧
    (s.startPlanRead).walker = s.walker ∧
    (s.startPlanRead).control = s.control ∧
    (s.startPlanRead).planner.waiting = s.planner.waiting ∧
    (s.startPlanRead).planner.frameStack = s.planner.frameStack ∧
    (s.startPlanRead).planner.cursor = s.planner.cursor ∧
    (s.startPlanRead).profiles = s.profiles ∧
    (s.startPlanRead).store = s.store ∧
    (s.startPlanRead).builder = s.builder ∧
    (s.startPlanRead).glyphs = s.glyphs ∧
    (s.startPlanRead).composer = s.composer ∧
    (s.startPlanRead).link = s.link ∧
    (s.startPlanRead).writer = s.writer ∧
    (s.startPlanRead).check = s.check ∧
    (s.startPlanRead).out = s.out := by
  repeat' apply And.intro
  all_goals rfl

@[simp] theorem State.planReadFails_frame (s : State) (sl : SheetSlot) :
    (s.planReadFails sl).pending = s.pending ∧
    (s.planReadFails sl).window.chainHead = s.window.chainHead ∧
    (s.planReadFails sl).window.run = s.window.run ∧
    (s.planReadFails sl).window.abandon = s.window.abandon ∧
    (s.planReadFails sl).window.depth = s.window.depth ∧
    (s.planReadFails sl).window.pressMode = s.window.pressMode ∧
    (s.planReadFails sl).window.sweepPreset = s.window.sweepPreset ∧
    (s.planReadFails sl).window.enables = s.window.enables ∧
    (s.planReadFails sl).port.windowCode = s.port.windowCode ∧
    (s.planReadFails sl).port.pressFirst = s.port.pressFirst ∧
    (s.planReadFails sl).walker.cursor = s.walker.cursor ∧
    (s.planReadFails sl).walker.window = s.walker.window ∧
    (s.planReadFails sl).walker.pendingWake = s.walker.pendingWake ∧
    (s.planReadFails sl).walker.sweepTimer = s.walker.sweepTimer ∧
    (s.planReadFails sl).walker.sweepRunning = s.walker.sweepRunning ∧
    (s.planReadFails sl).walker.unit = s.walker.unit ∧
    (s.planReadFails sl).walker.pendingSpent = s.walker.pendingSpent ∧
    (s.planReadFails sl).walker.spentDue = s.walker.spentDue ∧
    (s.planReadFails sl).walker.spentInFlight = s.walker.spentInFlight ∧
    (s.planReadFails sl).walker.readLimit = s.walker.readLimit ∧
    (s.planReadFails sl).control.engine = s.control.engine ∧
    (s.planReadFails sl).control.cause = s.control.cause ∧
    (s.planReadFails sl).control.faultAddr = s.control.faultAddr ∧
    (s.planReadFails sl).control.retire = s.control.retire ∧
    (s.planReadFails sl).control.barrier = s.control.barrier ∧
    (s.planReadFails sl).profiles = s.profiles ∧
    (s.planReadFails sl).store.mode = s.store.mode ∧
    (s.planReadFails sl).glyphs = s.glyphs ∧
    (s.planReadFails sl).composer = s.composer ∧
    (s.planReadFails sl).link = s.link ∧
    (s.planReadFails sl).writer = s.writer ∧
    (s.planReadFails sl).check = s.check ∧
    (s.planReadFails sl).out = s.out := by
  repeat' apply And.intro
  all_goals first | rfl | (simp [State.planReadFails])

@[simp] theorem State.takeTicket_frame (s : State) (sl : SheetSlot) (t : Ticket) :
    (s.takeTicket sl t).pending = s.pending ∧
    (s.takeTicket sl t).window = s.window ∧
    (s.takeTicket sl t).port.outstanding = s.port.outstanding ∧
    (s.takeTicket sl t).port.hold = s.port.hold ∧
    (s.takeTicket sl t).port.windowCode = s.port.windowCode ∧
    (s.takeTicket sl t).port.pressFirst = s.port.pressFirst ∧
    (s.takeTicket sl t).port.lastResult = s.port.lastResult ∧
    (s.takeTicket sl t).port.windowTimer = s.port.windowTimer ∧
    (s.takeTicket sl t).walker.cursor = s.walker.cursor ∧
    (s.takeTicket sl t).walker.window = s.walker.window ∧
    (s.takeTicket sl t).walker.pendingWake = s.walker.pendingWake ∧
    (s.takeTicket sl t).walker.sweepTimer = s.walker.sweepTimer ∧
    (s.takeTicket sl t).walker.sweepRunning = s.walker.sweepRunning ∧
    (s.takeTicket sl t).walker.unit = s.walker.unit ∧
    (s.takeTicket sl t).walker.pendingSpent = s.walker.pendingSpent ∧
    (s.takeTicket sl t).walker.spentDue = s.walker.spentDue ∧
    (s.takeTicket sl t).walker.spentInFlight = s.walker.spentInFlight ∧
    (s.takeTicket sl t).walker.readLimit = s.walker.readLimit ∧
    (s.takeTicket sl t).control.engine = s.control.engine ∧
    (s.takeTicket sl t).control.cause = s.control.cause ∧
    (s.takeTicket sl t).control.faultAddr = s.control.faultAddr ∧
    (s.takeTicket sl t).control.retire = s.control.retire ∧
    (s.takeTicket sl t).control.barrier = s.control.barrier ∧
    (s.takeTicket sl t).planner.waiting = s.planner.waiting ∧
    (s.takeTicket sl t).profiles = s.profiles ∧
    (s.takeTicket sl t).store.mode = s.store.mode ∧
    (s.takeTicket sl t).glyphs = s.glyphs ∧
    (s.takeTicket sl t).composer = s.composer ∧
    (s.takeTicket sl t).link = s.link ∧
    (s.takeTicket sl t).writer = s.writer ∧
    (s.takeTicket sl t).check = s.check ∧
    (s.takeTicket sl t).out = s.out := by
  repeat' apply And.intro
  all_goals first | rfl | (unfold State.takeTicket; dsimp only; (repeat' split) <;> simp)

@[simp] theorem State.layoutRead_frame (s : State) (j : PlanJob) (t : Ticket) (es : List LayoutEntry) (d c : Nat) :
    (s.layoutRead j t es d c).pending = s.pending ∧
    (s.layoutRead j t es d c).window = s.window ∧
    (s.layoutRead j t es d c).port.outstanding = s.port.outstanding ∧
    (s.layoutRead j t es d c).port.hold = s.port.hold ∧
    (s.layoutRead j t es d c).port.windowCode = s.port.windowCode ∧
    (s.layoutRead j t es d c).port.pressFirst = s.port.pressFirst ∧
    (s.layoutRead j t es d c).port.lastResult = s.port.lastResult ∧
    (s.layoutRead j t es d c).port.windowTimer = s.port.windowTimer ∧
    (s.layoutRead j t es d c).walker.cursor = s.walker.cursor ∧
    (s.layoutRead j t es d c).walker.window = s.walker.window ∧
    (s.layoutRead j t es d c).walker.pendingWake = s.walker.pendingWake ∧
    (s.layoutRead j t es d c).walker.sweepTimer = s.walker.sweepTimer ∧
    (s.layoutRead j t es d c).walker.sweepRunning = s.walker.sweepRunning ∧
    (s.layoutRead j t es d c).walker.unit = s.walker.unit ∧
    (s.layoutRead j t es d c).walker.pendingSpent = s.walker.pendingSpent ∧
    (s.layoutRead j t es d c).walker.spentDue = s.walker.spentDue ∧
    (s.layoutRead j t es d c).walker.spentInFlight = s.walker.spentInFlight ∧
    (s.layoutRead j t es d c).walker.readLimit = s.walker.readLimit ∧
    (s.layoutRead j t es d c).control.engine = s.control.engine ∧
    (s.layoutRead j t es d c).control.cause = s.control.cause ∧
    (s.layoutRead j t es d c).control.faultAddr = s.control.faultAddr ∧
    (s.layoutRead j t es d c).control.retire = s.control.retire ∧
    (s.layoutRead j t es d c).control.barrier = s.control.barrier ∧
    (s.layoutRead j t es d c).planner.waiting = s.planner.waiting ∧
    (s.layoutRead j t es d c).profiles = s.profiles ∧
    (s.layoutRead j t es d c).store.mode = s.store.mode ∧
    (s.layoutRead j t es d c).glyphs = s.glyphs ∧
    (s.layoutRead j t es d c).composer = s.composer ∧
    (s.layoutRead j t es d c).link = s.link ∧
    (s.layoutRead j t es d c).writer = s.writer ∧
    (s.layoutRead j t es d c).check = s.check ∧
    (s.layoutRead j t es d c).out = s.out := by
  repeat' apply And.intro
  all_goals first | rfl | (unfold State.layoutRead; dsimp only; (repeat' split) <;> simp)

@[simp] theorem State.writeFirstGranule_frame (s : State) (b : Build) :
    (s.writeFirstGranule b).pending = s.pending ∧
    (s.writeFirstGranule b).window = s.window ∧
    (s.writeFirstGranule b).port = s.port ∧
    (s.writeFirstGranule b).walker = s.walker ∧
    (s.writeFirstGranule b).control = s.control ∧
    (s.writeFirstGranule b).planner = s.planner ∧
    (s.writeFirstGranule b).profiles = s.profiles ∧
    (s.writeFirstGranule b).store = s.store ∧
    (s.writeFirstGranule b).builder.queue = s.builder.queue ∧
    (s.writeFirstGranule b).glyphs = s.glyphs ∧
    (s.writeFirstGranule b).composer = s.composer ∧
    (s.writeFirstGranule b).link = s.link ∧
    (s.writeFirstGranule b).writer = s.writer ∧
    (s.writeFirstGranule b).check.correctable = s.check.correctable ∧
    (s.writeFirstGranule b).check.count = s.check.count ∧
    (s.writeFirstGranule b).check.uncorrectable = s.check.uncorrectable ∧
    (s.writeFirstGranule b).check.locked = s.check.locked ∧
    (s.writeFirstGranule b).check.finds = s.check.finds ∧
    (s.writeFirstGranule b).out = s.out := by
  repeat' apply And.intro
  all_goals first | rfl | (unfold State.writeFirstGranule; dsimp only; (repeat' split) <;> simp)

@[simp] theorem State.endBuildUnit_frame (s : State) (b : Build) :
    (s.endBuildUnit b).pending = s.pending ∧
    (s.endBuildUnit b).window.chainHead = s.window.chainHead ∧
    (s.endBuildUnit b).window.run = s.window.run ∧
    (s.endBuildUnit b).window.abandon = s.window.abandon ∧
    (s.endBuildUnit b).window.depth = s.window.depth ∧
    (s.endBuildUnit b).window.pressMode = s.window.pressMode ∧
    (s.endBuildUnit b).window.sweepPreset = s.window.sweepPreset ∧
    (s.endBuildUnit b).window.enables = s.window.enables ∧
    (s.endBuildUnit b).port.windowCode = s.port.windowCode ∧
    (s.endBuildUnit b).port.pressFirst = s.port.pressFirst ∧
    (s.endBuildUnit b).port.discarded = s.port.discarded ∧
    (s.endBuildUnit b).walker = s.walker ∧
    (s.endBuildUnit b).control = s.control ∧
    (s.endBuildUnit b).planner = s.planner ∧
    (s.endBuildUnit b).profiles = s.profiles ∧
    (s.endBuildUnit b).store = s.store ∧
    (s.endBuildUnit b).builder.queue = s.builder.queue ∧
    (s.endBuildUnit b).glyphs = s.glyphs ∧
    (s.endBuildUnit b).composer = s.composer ∧
    (s.endBuildUnit b).link = s.link ∧
    (s.endBuildUnit b).writer = s.writer ∧
    (s.endBuildUnit b).check = s.check ∧
    (s.endBuildUnit b).out = s.out := by
  repeat' apply And.intro
  all_goals first | rfl | (simp [State.endBuildUnit])

@[simp] theorem State.receiveSource_frame (s : State) (b : Build) (bs : List Byte) :
    (s.receiveSource b bs).pending = s.pending ∧
    (s.receiveSource b bs).window.chainHead = s.window.chainHead ∧
    (s.receiveSource b bs).window.run = s.window.run ∧
    (s.receiveSource b bs).window.abandon = s.window.abandon ∧
    (s.receiveSource b bs).window.depth = s.window.depth ∧
    (s.receiveSource b bs).window.pressMode = s.window.pressMode ∧
    (s.receiveSource b bs).window.sweepPreset = s.window.sweepPreset ∧
    (s.receiveSource b bs).window.enables = s.window.enables ∧
    (s.receiveSource b bs).port.windowCode = s.port.windowCode ∧
    (s.receiveSource b bs).port.pressFirst = s.port.pressFirst ∧
    (s.receiveSource b bs).port.discarded = s.port.discarded ∧
    (s.receiveSource b bs).walker = s.walker ∧
    (s.receiveSource b bs).control = s.control ∧
    (s.receiveSource b bs).planner = s.planner ∧
    (s.receiveSource b bs).profiles = s.profiles ∧
    (s.receiveSource b bs).store = s.store ∧
    (s.receiveSource b bs).builder.queue = s.builder.queue ∧
    (s.receiveSource b bs).glyphs = s.glyphs ∧
    (s.receiveSource b bs).composer = s.composer ∧
    (s.receiveSource b bs).link = s.link ∧
    (s.receiveSource b bs).writer = s.writer ∧
    (s.receiveSource b bs).check.correctable = s.check.correctable ∧
    (s.receiveSource b bs).check.count = s.check.count ∧
    (s.receiveSource b bs).check.uncorrectable = s.check.uncorrectable ∧
    (s.receiveSource b bs).check.locked = s.check.locked ∧
    (s.receiveSource b bs).check.finds = s.check.finds ∧
    (s.receiveSource b bs).out = s.out := by
  repeat' apply And.intro
  all_goals first | rfl | (unfold State.receiveSource; dsimp only; (repeat' split) <;> simp)

@[simp] theorem State.offerPress_frame (s : State) (a : Attempt) (t : Ticket) :
    (s.offerPress a t).pending = s.pending ∧
    (s.offerPress a t).window = s.window ∧
    (s.offerPress a t).port.outstanding = s.port.outstanding ∧
    (s.offerPress a t).port.hold = s.port.hold ∧
    (s.offerPress a t).port.windowCode = s.port.windowCode ∧
    (s.offerPress a t).port.pressFirst = s.port.pressFirst ∧
    (s.offerPress a t).port.lastResult = s.port.lastResult ∧
    (s.offerPress a t).port.windowTimer = s.port.windowTimer ∧
    (s.offerPress a t).walker.cursor = s.walker.cursor ∧
    (s.offerPress a t).walker.window = s.walker.window ∧
    (s.offerPress a t).walker.pendingWake = s.walker.pendingWake ∧
    (s.offerPress a t).walker.sweepTimer = s.walker.sweepTimer ∧
    (s.offerPress a t).walker.sweepRunning = s.walker.sweepRunning ∧
    (s.offerPress a t).walker.unit = s.walker.unit ∧
    (s.offerPress a t).walker.pendingSpent = s.walker.pendingSpent ∧
    (s.offerPress a t).walker.spentDue = s.walker.spentDue ∧
    (s.offerPress a t).walker.spentInFlight = s.walker.spentInFlight ∧
    (s.offerPress a t).walker.readLimit = s.walker.readLimit ∧
    (s.offerPress a t).control.engine = s.control.engine ∧
    (s.offerPress a t).control.cause = s.control.cause ∧
    (s.offerPress a t).control.faultAddr = s.control.faultAddr ∧
    (s.offerPress a t).control.retire = s.control.retire ∧
    (s.offerPress a t).control.barrier = s.control.barrier ∧
    (s.offerPress a t).planner = s.planner ∧
    (s.offerPress a t).profiles = s.profiles ∧
    (s.offerPress a t).store.mode = s.store.mode ∧
    (s.offerPress a t).glyphs = s.glyphs ∧
    (s.offerPress a t).link.config = s.link.config ∧
    (s.offerPress a t).link.ready = s.link.ready ∧
    (s.offerPress a t).writer = s.writer ∧
    (s.offerPress a t).check.correctable = s.check.correctable ∧
    (s.offerPress a t).check.count = s.check.count ∧
    (s.offerPress a t).check.uncorrectable = s.check.uncorrectable ∧
    (s.offerPress a t).check.locked = s.check.locked ∧
    (s.offerPress a t).check.finds = s.check.finds ∧
    (s.offerPress a t).out.serverWrites = s.out.serverWrites := by
  repeat' apply And.intro
  all_goals first | rfl | (unfold State.offerPress; (repeat' split) <;> simp)

@[simp] theorem State.enterComposing_frame (s : State) (sl : SheetSlot) (t : Ticket) :
    (s.enterComposing sl t).pending = s.pending ∧
    (s.enterComposing sl t).window.chainHead = s.window.chainHead ∧
    (s.enterComposing sl t).window.run = s.window.run ∧
    (s.enterComposing sl t).window.abandon = s.window.abandon ∧
    (s.enterComposing sl t).window.depth = s.window.depth ∧
    (s.enterComposing sl t).window.pressMode = s.window.pressMode ∧
    (s.enterComposing sl t).window.sweepPreset = s.window.sweepPreset ∧
    (s.enterComposing sl t).window.enables = s.window.enables ∧
    (s.enterComposing sl t).port.outstanding = s.port.outstanding ∧
    (s.enterComposing sl t).port.hold = s.port.hold ∧
    (s.enterComposing sl t).port.windowCode = s.port.windowCode ∧
    (s.enterComposing sl t).port.pressFirst = s.port.pressFirst ∧
    (s.enterComposing sl t).port.lastResult = s.port.lastResult ∧
    (s.enterComposing sl t).port.windowTimer = s.port.windowTimer ∧
    (s.enterComposing sl t).walker.cursor = s.walker.cursor ∧
    (s.enterComposing sl t).walker.window = s.walker.window ∧
    (s.enterComposing sl t).walker.pendingWake = s.walker.pendingWake ∧
    (s.enterComposing sl t).walker.sweepTimer = s.walker.sweepTimer ∧
    (s.enterComposing sl t).walker.sweepRunning = s.walker.sweepRunning ∧
    (s.enterComposing sl t).walker.unit = s.walker.unit ∧
    (s.enterComposing sl t).walker.pendingSpent = s.walker.pendingSpent ∧
    (s.enterComposing sl t).walker.spentDue = s.walker.spentDue ∧
    (s.enterComposing sl t).walker.spentInFlight = s.walker.spentInFlight ∧
    (s.enterComposing sl t).walker.readLimit = s.walker.readLimit ∧
    (s.enterComposing sl t).control.engine = s.control.engine ∧
    (s.enterComposing sl t).control.cause = s.control.cause ∧
    (s.enterComposing sl t).control.faultAddr = s.control.faultAddr ∧
    (s.enterComposing sl t).control.retire = s.control.retire ∧
    (s.enterComposing sl t).control.barrier = s.control.barrier ∧
    (s.enterComposing sl t).planner = s.planner ∧
    (s.enterComposing sl t).profiles = s.profiles ∧
    (s.enterComposing sl t).store.mode = s.store.mode ∧
    (s.enterComposing sl t).link.config = s.link.config ∧
    (s.enterComposing sl t).link.ready = s.link.ready ∧
    (s.enterComposing sl t).check.correctable = s.check.correctable ∧
    (s.enterComposing sl t).check.count = s.check.count ∧
    (s.enterComposing sl t).check.finds = s.check.finds ∧
    (s.enterComposing sl t).out.serverWrites = s.out.serverWrites := by
  repeat' apply And.intro
  all_goals first | rfl | (unfold State.enterComposing; (repeat' split) <;> simp)

@[simp] theorem State.lastBandPainted_frame (s : State) (a : Attempt) :
    (s.lastBandPainted a).pending = s.pending ∧
    (s.lastBandPainted a).window = s.window ∧
    (s.lastBandPainted a).port = s.port ∧
    (s.lastBandPainted a).walker = s.walker ∧
    (s.lastBandPainted a).control.engine = s.control.engine ∧
    (s.lastBandPainted a).control.cause = s.control.cause ∧
    (s.lastBandPainted a).control.faultAddr = s.control.faultAddr ∧
    (s.lastBandPainted a).control.queue = s.control.queue ∧
    (s.lastBandPainted a).control.retire = s.control.retire ∧
    (s.lastBandPainted a).control.barrier = s.control.barrier ∧
    (s.lastBandPainted a).planner = s.planner ∧
    (s.lastBandPainted a).profiles = s.profiles ∧
    (s.lastBandPainted a).store = s.store ∧
    (s.lastBandPainted a).builder = s.builder ∧
    (s.lastBandPainted a).glyphs = s.glyphs ∧
    (s.lastBandPainted a).composer.bufX = s.composer.bufX ∧
    (s.lastBandPainted a).composer.bufY = s.composer.bufY ∧
    (s.lastBandPainted a).link = s.link ∧
    (s.lastBandPainted a).writer = s.writer ∧
    (s.lastBandPainted a).check = s.check ∧
    (s.lastBandPainted a).out = s.out := by
  repeat' apply And.intro
  all_goals first | rfl | (simp [State.lastBandPainted])

@[simp] theorem State.bandPainted_frame (s : State) (a : Attempt) (t : Ticket) (px : List Byte) :
    (s.bandPainted a t px).pending = s.pending ∧
    (s.bandPainted a t px).window = s.window ∧
    (s.bandPainted a t px).port = s.port ∧
    (s.bandPainted a t px).walker = s.walker ∧
    (s.bandPainted a t px).control.engine = s.control.engine ∧
    (s.bandPainted a t px).control.cause = s.control.cause ∧
    (s.bandPainted a t px).control.faultAddr = s.control.faultAddr ∧
    (s.bandPainted a t px).control.retire = s.control.retire ∧
    (s.bandPainted a t px).control.barrier = s.control.barrier ∧
    (s.bandPainted a t px).planner = s.planner ∧
    (s.bandPainted a t px).profiles = s.profiles ∧
    (s.bandPainted a t px).store = s.store ∧
    (s.bandPainted a t px).builder = s.builder ∧
    (s.bandPainted a t px).glyphs = s.glyphs ∧
    (s.bandPainted a t px).link.held = s.link.held ∧
    (s.bandPainted a t px).link.abortPending = s.link.abortPending ∧
    (s.bandPainted a t px).link.resultTimer = s.link.resultTimer ∧
    (s.bandPainted a t px).link.config = s.link.config ∧
    (s.bandPainted a t px).link.ready = s.link.ready ∧
    (s.bandPainted a t px).writer = s.writer ∧
    (s.bandPainted a t px).check.correctable = s.check.correctable ∧
    (s.bandPainted a t px).check.count = s.check.count ∧
    (s.bandPainted a t px).check.uncorrectable = s.check.uncorrectable ∧
    (s.bandPainted a t px).check.locked = s.check.locked ∧
    (s.bandPainted a t px).check.finds = s.check.finds ∧
    (s.bandPainted a t px).out.serverWrites = s.out.serverWrites := by
  repeat' apply And.intro
  all_goals first | rfl | (unfold State.bandPainted; dsimp only; (repeat' split) <;> simp)

@[simp] theorem State.dropAttempt_frame (s : State) (a : Attempt) :
    (s.dropAttempt a).pending = s.pending ∧
    (s.dropAttempt a).window = s.window ∧
    (s.dropAttempt a).port = s.port ∧
    (s.dropAttempt a).walker = s.walker ∧
    (s.dropAttempt a).control = s.control ∧
    (s.dropAttempt a).planner = s.planner ∧
    (s.dropAttempt a).profiles = s.profiles ∧
    (s.dropAttempt a).store = s.store ∧
    (s.dropAttempt a).builder = s.builder ∧
    (s.dropAttempt a).glyphs = s.glyphs ∧
    (s.dropAttempt a).link.config = s.link.config ∧
    (s.dropAttempt a).link.ready = s.link.ready ∧
    (s.dropAttempt a).writer = s.writer ∧
    (s.dropAttempt a).check.correctable = s.check.correctable ∧
    (s.dropAttempt a).check.count = s.check.count ∧
    (s.dropAttempt a).check.uncorrectable = s.check.uncorrectable ∧
    (s.dropAttempt a).check.locked = s.check.locked ∧
    (s.dropAttempt a).check.finds = s.check.finds ∧
    (s.dropAttempt a).out = s.out := by
  repeat' apply And.intro
  all_goals first | rfl | (unfold State.dropAttempt; (repeat' split) <;> simp)

@[simp] theorem State.underrun_frame (s : State) (h : LinkHold) :
    (s.underrun h).pending = s.pending ∧
    (s.underrun h).window.chainHead = s.window.chainHead ∧
    (s.underrun h).window.run = s.window.run ∧
    (s.underrun h).window.abandon = s.window.abandon ∧
    (s.underrun h).window.depth = s.window.depth ∧
    (s.underrun h).window.pressMode = s.window.pressMode ∧
    (s.underrun h).window.sweepPreset = s.window.sweepPreset ∧
    (s.underrun h).window.enables = s.window.enables ∧
    (s.underrun h).port.outstanding = s.port.outstanding ∧
    (s.underrun h).port.hold = s.port.hold ∧
    (s.underrun h).port.windowCode = s.port.windowCode ∧
    (s.underrun h).port.pressFirst = s.port.pressFirst ∧
    (s.underrun h).port.lastResult = s.port.lastResult ∧
    (s.underrun h).port.windowTimer = s.port.windowTimer ∧
    (s.underrun h).walker.cursor = s.walker.cursor ∧
    (s.underrun h).walker.window = s.walker.window ∧
    (s.underrun h).walker.pendingWake = s.walker.pendingWake ∧
    (s.underrun h).walker.sweepTimer = s.walker.sweepTimer ∧
    (s.underrun h).walker.sweepRunning = s.walker.sweepRunning ∧
    (s.underrun h).walker.unit = s.walker.unit ∧
    (s.underrun h).walker.pendingSpent = s.walker.pendingSpent ∧
    (s.underrun h).walker.spentDue = s.walker.spentDue ∧
    (s.underrun h).walker.spentInFlight = s.walker.spentInFlight ∧
    (s.underrun h).walker.readLimit = s.walker.readLimit ∧
    (s.underrun h).control.engine = s.control.engine ∧
    (s.underrun h).control.cause = s.control.cause ∧
    (s.underrun h).control.faultAddr = s.control.faultAddr ∧
    (s.underrun h).control.retire = s.control.retire ∧
    (s.underrun h).control.barrier = s.control.barrier ∧
    (s.underrun h).profiles = s.profiles ∧
    (s.underrun h).store.mode = s.store.mode ∧
    (s.underrun h).glyphs = s.glyphs ∧
    (s.underrun h).link.config = s.link.config ∧
    (s.underrun h).link.ready = s.link.ready ∧
    (s.underrun h).check.correctable = s.check.correctable ∧
    (s.underrun h).check.count = s.check.count ∧
    (s.underrun h).check.uncorrectable = s.check.uncorrectable ∧
    (s.underrun h).check.locked = s.check.locked ∧
    (s.underrun h).check.finds = s.check.finds ∧
    (s.underrun h).out.serverWrites = s.out.serverWrites := by
  repeat' apply And.intro
  all_goals first | rfl | (simp [State.underrun])

@[simp] theorem State.bandDue_frame (s : State) (h : LinkHold) :
    (s.bandDue h).pending = s.pending ∧
    (s.bandDue h).window.chainHead = s.window.chainHead ∧
    (s.bandDue h).window.run = s.window.run ∧
    (s.bandDue h).window.abandon = s.window.abandon ∧
    (s.bandDue h).window.depth = s.window.depth ∧
    (s.bandDue h).window.pressMode = s.window.pressMode ∧
    (s.bandDue h).window.sweepPreset = s.window.sweepPreset ∧
    (s.bandDue h).window.enables = s.window.enables ∧
    (s.bandDue h).port.outstanding = s.port.outstanding ∧
    (s.bandDue h).port.hold = s.port.hold ∧
    (s.bandDue h).port.windowCode = s.port.windowCode ∧
    (s.bandDue h).port.pressFirst = s.port.pressFirst ∧
    (s.bandDue h).port.lastResult = s.port.lastResult ∧
    (s.bandDue h).port.windowTimer = s.port.windowTimer ∧
    (s.bandDue h).walker.cursor = s.walker.cursor ∧
    (s.bandDue h).walker.window = s.walker.window ∧
    (s.bandDue h).walker.pendingWake = s.walker.pendingWake ∧
    (s.bandDue h).walker.sweepTimer = s.walker.sweepTimer ∧
    (s.bandDue h).walker.sweepRunning = s.walker.sweepRunning ∧
    (s.bandDue h).walker.unit = s.walker.unit ∧
    (s.bandDue h).walker.pendingSpent = s.walker.pendingSpent ∧
    (s.bandDue h).walker.spentDue = s.walker.spentDue ∧
    (s.bandDue h).walker.spentInFlight = s.walker.spentInFlight ∧
    (s.bandDue h).walker.readLimit = s.walker.readLimit ∧
    (s.bandDue h).control.engine = s.control.engine ∧
    (s.bandDue h).control.cause = s.control.cause ∧
    (s.bandDue h).control.faultAddr = s.control.faultAddr ∧
    (s.bandDue h).control.retire = s.control.retire ∧
    (s.bandDue h).control.barrier = s.control.barrier ∧
    (s.bandDue h).profiles = s.profiles ∧
    (s.bandDue h).store.mode = s.store.mode ∧
    (s.bandDue h).glyphs = s.glyphs ∧
    (s.bandDue h).link.config = s.link.config ∧
    (s.bandDue h).link.ready = s.link.ready ∧
    (s.bandDue h).check.correctable = s.check.correctable ∧
    (s.bandDue h).check.count = s.check.count ∧
    (s.bandDue h).check.uncorrectable = s.check.uncorrectable ∧
    (s.bandDue h).check.locked = s.check.locked ∧
    (s.bandDue h).check.finds = s.check.finds ∧
    (s.bandDue h).out.serverWrites = s.out.serverWrites := by
  repeat' apply And.intro
  all_goals first | rfl | (unfold State.bandDue; (repeat' split) <;> simp)

@[simp] theorem State.printed_frame (s : State) (h : LinkHold) :
    (s.printed h).pending = s.pending ∧
    (s.printed h).window = s.window ∧
    (s.printed h).port.outstanding = s.port.outstanding ∧
    (s.printed h).port.hold = s.port.hold ∧
    (s.printed h).port.windowCode = s.port.windowCode ∧
    (s.printed h).port.pressFirst = s.port.pressFirst ∧
    (s.printed h).port.lastResult = s.port.lastResult ∧
    (s.printed h).port.windowTimer = s.port.windowTimer ∧
    (s.printed h).walker.cursor = s.walker.cursor ∧
    (s.printed h).walker.window = s.walker.window ∧
    (s.printed h).walker.pendingWake = s.walker.pendingWake ∧
    (s.printed h).walker.sweepTimer = s.walker.sweepTimer ∧
    (s.printed h).walker.sweepRunning = s.walker.sweepRunning ∧
    (s.printed h).walker.unit = s.walker.unit ∧
    (s.printed h).walker.pendingSpent = s.walker.pendingSpent ∧
    (s.printed h).walker.spentDue = s.walker.spentDue ∧
    (s.printed h).walker.spentInFlight = s.walker.spentInFlight ∧
    (s.printed h).walker.readLimit = s.walker.readLimit ∧
    (s.printed h).control.engine = s.control.engine ∧
    (s.printed h).control.cause = s.control.cause ∧
    (s.printed h).control.faultAddr = s.control.faultAddr ∧
    (s.printed h).control.retire = s.control.retire ∧
    (s.printed h).control.barrier = s.control.barrier ∧
    (s.printed h).profiles = s.profiles ∧
    (s.printed h).store.mode = s.store.mode ∧
    (s.printed h).glyphs = s.glyphs ∧
    (s.printed h).composer = s.composer ∧
    (s.printed h).link.config = s.link.config ∧
    (s.printed h).link.ready = s.link.ready ∧
    (s.printed h).writer = s.writer ∧
    (s.printed h).check = s.check ∧
    (s.printed h).out = s.out := by
  repeat' apply And.intro
  all_goals first | rfl | (simp [State.printed])

@[simp] theorem State.sendClose_frame (s : State) (h : LinkHold) :
    (s.sendClose h).pending = s.pending ∧
    (s.sendClose h).window = s.window ∧
    (s.sendClose h).port.outstanding = s.port.outstanding ∧
    (s.sendClose h).port.hold = s.port.hold ∧
    (s.sendClose h).port.windowCode = s.port.windowCode ∧
    (s.sendClose h).port.pressFirst = s.port.pressFirst ∧
    (s.sendClose h).port.lastResult = s.port.lastResult ∧
    (s.sendClose h).port.windowTimer = s.port.windowTimer ∧
    (s.sendClose h).walker.cursor = s.walker.cursor ∧
    (s.sendClose h).walker.window = s.walker.window ∧
    (s.sendClose h).walker.pendingWake = s.walker.pendingWake ∧
    (s.sendClose h).walker.sweepTimer = s.walker.sweepTimer ∧
    (s.sendClose h).walker.sweepRunning = s.walker.sweepRunning ∧
    (s.sendClose h).walker.unit = s.walker.unit ∧
    (s.sendClose h).walker.pendingSpent = s.walker.pendingSpent ∧
    (s.sendClose h).walker.spentDue = s.walker.spentDue ∧
    (s.sendClose h).walker.spentInFlight = s.walker.spentInFlight ∧
    (s.sendClose h).walker.readLimit = s.walker.readLimit ∧
    (s.sendClose h).control.engine = s.control.engine ∧
    (s.sendClose h).control.cause = s.control.cause ∧
    (s.sendClose h).control.faultAddr = s.control.faultAddr ∧
    (s.sendClose h).control.retire = s.control.retire ∧
    (s.sendClose h).control.barrier = s.control.barrier ∧
    (s.sendClose h).profiles = s.profiles ∧
    (s.sendClose h).store.mode = s.store.mode ∧
    (s.sendClose h).glyphs = s.glyphs ∧
    (s.sendClose h).composer = s.composer ∧
    (s.sendClose h).link.config = s.link.config ∧
    (s.sendClose h).link.ready = s.link.ready ∧
    (s.sendClose h).writer = s.writer ∧
    (s.sendClose h).check = s.check ∧
    (s.sendClose h).out.serverWrites = s.out.serverWrites := by
  repeat' apply And.intro
  all_goals first | rfl | (unfold State.sendClose; (repeat' split) <;> simp)

@[simp] theorem State.afterSend_frame (s : State) (h : LinkHold) (b : Nat) :
    (s.afterSend h b).pending = s.pending ∧
    (s.afterSend h b).window = s.window ∧
    (s.afterSend h b).port.outstanding = s.port.outstanding ∧
    (s.afterSend h b).port.hold = s.port.hold ∧
    (s.afterSend h b).port.windowCode = s.port.windowCode ∧
    (s.afterSend h b).port.pressFirst = s.port.pressFirst ∧
    (s.afterSend h b).port.lastResult = s.port.lastResult ∧
    (s.afterSend h b).port.windowTimer = s.port.windowTimer ∧
    (s.afterSend h b).walker.cursor = s.walker.cursor ∧
    (s.afterSend h b).walker.window = s.walker.window ∧
    (s.afterSend h b).walker.pendingWake = s.walker.pendingWake ∧
    (s.afterSend h b).walker.sweepTimer = s.walker.sweepTimer ∧
    (s.afterSend h b).walker.sweepRunning = s.walker.sweepRunning ∧
    (s.afterSend h b).walker.unit = s.walker.unit ∧
    (s.afterSend h b).walker.pendingSpent = s.walker.pendingSpent ∧
    (s.afterSend h b).walker.spentDue = s.walker.spentDue ∧
    (s.afterSend h b).walker.spentInFlight = s.walker.spentInFlight ∧
    (s.afterSend h b).walker.readLimit = s.walker.readLimit ∧
    (s.afterSend h b).control.engine = s.control.engine ∧
    (s.afterSend h b).control.cause = s.control.cause ∧
    (s.afterSend h b).control.faultAddr = s.control.faultAddr ∧
    (s.afterSend h b).control.retire = s.control.retire ∧
    (s.afterSend h b).control.barrier = s.control.barrier ∧
    (s.afterSend h b).profiles = s.profiles ∧
    (s.afterSend h b).store.mode = s.store.mode ∧
    (s.afterSend h b).glyphs = s.glyphs ∧
    (s.afterSend h b).composer.state = s.composer.state ∧
    (s.afterSend h b).composer.attempt = s.composer.attempt ∧
    (s.afterSend h b).composer.nextBand = s.composer.nextBand ∧
    (s.afterSend h b).composer.silenced = s.composer.silenced ∧
    (s.afterSend h b).link.config = s.link.config ∧
    (s.afterSend h b).link.ready = s.link.ready ∧
    (s.afterSend h b).writer = s.writer ∧
    (s.afterSend h b).check = s.check ∧
    (s.afterSend h b).out.serverWrites = s.out.serverWrites := by
  repeat' apply And.intro
  all_goals first | rfl | (unfold State.afterSend; (repeat' split) <;> simp)

@[simp] theorem State.pressRejects_frame (s : State) (h : LinkHold) :
    (s.pressRejects h).pending = s.pending ∧
    (s.pressRejects h).window = s.window ∧
    (s.pressRejects h).port.outstanding = s.port.outstanding ∧
    (s.pressRejects h).port.hold = s.port.hold ∧
    (s.pressRejects h).port.windowCode = s.port.windowCode ∧
    (s.pressRejects h).port.pressFirst = s.port.pressFirst ∧
    (s.pressRejects h).port.lastResult = s.port.lastResult ∧
    (s.pressRejects h).port.windowTimer = s.port.windowTimer ∧
    (s.pressRejects h).walker.cursor = s.walker.cursor ∧
    (s.pressRejects h).walker.window = s.walker.window ∧
    (s.pressRejects h).walker.pendingWake = s.walker.pendingWake ∧
    (s.pressRejects h).walker.sweepTimer = s.walker.sweepTimer ∧
    (s.pressRejects h).walker.sweepRunning = s.walker.sweepRunning ∧
    (s.pressRejects h).walker.unit = s.walker.unit ∧
    (s.pressRejects h).walker.pendingSpent = s.walker.pendingSpent ∧
    (s.pressRejects h).walker.spentDue = s.walker.spentDue ∧
    (s.pressRejects h).walker.spentInFlight = s.walker.spentInFlight ∧
    (s.pressRejects h).walker.readLimit = s.walker.readLimit ∧
    (s.pressRejects h).control.engine = s.control.engine ∧
    (s.pressRejects h).control.cause = s.control.cause ∧
    (s.pressRejects h).control.faultAddr = s.control.faultAddr ∧
    (s.pressRejects h).control.retire = s.control.retire ∧
    (s.pressRejects h).control.barrier = s.control.barrier ∧
    (s.pressRejects h).profiles = s.profiles ∧
    (s.pressRejects h).store.mode = s.store.mode ∧
    (s.pressRejects h).glyphs = s.glyphs ∧
    (s.pressRejects h).link.config = s.link.config ∧
    (s.pressRejects h).link.ready = s.link.ready ∧
    (s.pressRejects h).writer = s.writer ∧
    (s.pressRejects h).check.correctable = s.check.correctable ∧
    (s.pressRejects h).check.count = s.check.count ∧
    (s.pressRejects h).check.uncorrectable = s.check.uncorrectable ∧
    (s.pressRejects h).check.locked = s.check.locked ∧
    (s.pressRejects h).check.finds = s.check.finds ∧
    (s.pressRejects h).out = s.out := by
  repeat' apply And.intro
  all_goals first | rfl | (simp [State.pressRejects])

@[simp] theorem State.pressSpoils_frame (s : State) (h : LinkHold) (d : Detail) :
    (s.pressSpoils h d).pending = s.pending ∧
    (s.pressSpoils h d).window.chainHead = s.window.chainHead ∧
    (s.pressSpoils h d).window.run = s.window.run ∧
    (s.pressSpoils h d).window.abandon = s.window.abandon ∧
    (s.pressSpoils h d).window.depth = s.window.depth ∧
    (s.pressSpoils h d).window.pressMode = s.window.pressMode ∧
    (s.pressSpoils h d).window.sweepPreset = s.window.sweepPreset ∧
    (s.pressSpoils h d).window.enables = s.window.enables ∧
    (s.pressSpoils h d).port.outstanding = s.port.outstanding ∧
    (s.pressSpoils h d).port.hold = s.port.hold ∧
    (s.pressSpoils h d).port.windowCode = s.port.windowCode ∧
    (s.pressSpoils h d).port.pressFirst = s.port.pressFirst ∧
    (s.pressSpoils h d).port.lastResult = s.port.lastResult ∧
    (s.pressSpoils h d).port.windowTimer = s.port.windowTimer ∧
    (s.pressSpoils h d).walker.cursor = s.walker.cursor ∧
    (s.pressSpoils h d).walker.window = s.walker.window ∧
    (s.pressSpoils h d).walker.pendingWake = s.walker.pendingWake ∧
    (s.pressSpoils h d).walker.sweepTimer = s.walker.sweepTimer ∧
    (s.pressSpoils h d).walker.sweepRunning = s.walker.sweepRunning ∧
    (s.pressSpoils h d).walker.unit = s.walker.unit ∧
    (s.pressSpoils h d).walker.pendingSpent = s.walker.pendingSpent ∧
    (s.pressSpoils h d).walker.spentDue = s.walker.spentDue ∧
    (s.pressSpoils h d).walker.spentInFlight = s.walker.spentInFlight ∧
    (s.pressSpoils h d).walker.readLimit = s.walker.readLimit ∧
    (s.pressSpoils h d).control.engine = s.control.engine ∧
    (s.pressSpoils h d).control.cause = s.control.cause ∧
    (s.pressSpoils h d).control.faultAddr = s.control.faultAddr ∧
    (s.pressSpoils h d).control.retire = s.control.retire ∧
    (s.pressSpoils h d).control.barrier = s.control.barrier ∧
    (s.pressSpoils h d).profiles = s.profiles ∧
    (s.pressSpoils h d).store.mode = s.store.mode ∧
    (s.pressSpoils h d).glyphs = s.glyphs ∧
    (s.pressSpoils h d).link.config = s.link.config ∧
    (s.pressSpoils h d).link.ready = s.link.ready ∧
    (s.pressSpoils h d).writer = s.writer ∧
    (s.pressSpoils h d).check.correctable = s.check.correctable ∧
    (s.pressSpoils h d).check.count = s.check.count ∧
    (s.pressSpoils h d).check.uncorrectable = s.check.uncorrectable ∧
    (s.pressSpoils h d).check.locked = s.check.locked ∧
    (s.pressSpoils h d).check.finds = s.check.finds ∧
    (s.pressSpoils h d).out = s.out := by
  repeat' apply And.intro
  all_goals first | rfl | (simp [State.pressSpoils])

@[simp] theorem State.endBandWrite_frame (s : State) (rows : List ServerWrite) :
    (s.endBandWrite rows).pending = s.pending ∧
    (s.endBandWrite rows).window.chainHead = s.window.chainHead ∧
    (s.endBandWrite rows).window.run = s.window.run ∧
    (s.endBandWrite rows).window.abandon = s.window.abandon ∧
    (s.endBandWrite rows).window.depth = s.window.depth ∧
    (s.endBandWrite rows).window.pressMode = s.window.pressMode ∧
    (s.endBandWrite rows).window.sweepPreset = s.window.sweepPreset ∧
    (s.endBandWrite rows).window.enables = s.window.enables ∧
    (s.endBandWrite rows).port.windowCode = s.port.windowCode ∧
    (s.endBandWrite rows).port.pressFirst = s.port.pressFirst ∧
    (s.endBandWrite rows).port.discarded = s.port.discarded ∧
    (s.endBandWrite rows).walker = s.walker ∧
    (s.endBandWrite rows).control = s.control ∧
    (s.endBandWrite rows).planner = s.planner ∧
    (s.endBandWrite rows).profiles = s.profiles ∧
    (s.endBandWrite rows).store = s.store ∧
    (s.endBandWrite rows).builder = s.builder ∧
    (s.endBandWrite rows).glyphs = s.glyphs ∧
    (s.endBandWrite rows).composer.attempt = s.composer.attempt ∧
    (s.endBandWrite rows).composer.nextBand = s.composer.nextBand ∧
    (s.endBandWrite rows).composer.silenced = s.composer.silenced ∧
    (s.endBandWrite rows).link = s.link ∧
    (s.endBandWrite rows).writer = s.writer ∧
    (s.endBandWrite rows).check.uncorrectable = s.check.uncorrectable ∧
    (s.endBandWrite rows).check.locked = s.check.locked ∧
    (s.endBandWrite rows).out.pressMessages = s.out.pressMessages := by
  repeat' apply And.intro
  all_goals first | rfl | (simp [State.endBandWrite])

@[simp] theorem State.bandWritten_frame (s : State) (a : Attempt) :
    (s.bandWritten a).pending = s.pending ∧
    (s.bandWritten a).window = s.window ∧
    (s.bandWritten a).port.outstanding = s.port.outstanding ∧
    (s.bandWritten a).port.hold = s.port.hold ∧
    (s.bandWritten a).port.windowCode = s.port.windowCode ∧
    (s.bandWritten a).port.pressFirst = s.port.pressFirst ∧
    (s.bandWritten a).port.lastResult = s.port.lastResult ∧
    (s.bandWritten a).port.windowTimer = s.port.windowTimer ∧
    (s.bandWritten a).walker.cursor = s.walker.cursor ∧
    (s.bandWritten a).walker.window = s.walker.window ∧
    (s.bandWritten a).walker.pendingWake = s.walker.pendingWake ∧
    (s.bandWritten a).walker.sweepTimer = s.walker.sweepTimer ∧
    (s.bandWritten a).walker.sweepRunning = s.walker.sweepRunning ∧
    (s.bandWritten a).walker.unit = s.walker.unit ∧
    (s.bandWritten a).walker.pendingSpent = s.walker.pendingSpent ∧
    (s.bandWritten a).walker.spentDue = s.walker.spentDue ∧
    (s.bandWritten a).walker.spentInFlight = s.walker.spentInFlight ∧
    (s.bandWritten a).walker.readLimit = s.walker.readLimit ∧
    (s.bandWritten a).control.engine = s.control.engine ∧
    (s.bandWritten a).control.cause = s.control.cause ∧
    (s.bandWritten a).control.faultAddr = s.control.faultAddr ∧
    (s.bandWritten a).control.retire = s.control.retire ∧
    (s.bandWritten a).control.barrier = s.control.barrier ∧
    (s.bandWritten a).profiles = s.profiles ∧
    (s.bandWritten a).store.mode = s.store.mode ∧
    (s.bandWritten a).glyphs = s.glyphs ∧
    (s.bandWritten a).composer = s.composer ∧
    (s.bandWritten a).link = s.link ∧
    (s.bandWritten a).check = s.check ∧
    (s.bandWritten a).out = s.out := by
  repeat' apply And.intro
  all_goals first | rfl | (unfold State.bandWritten; dsimp only; (repeat' split) <;> simp)

@[simp] theorem State.finishDiscardedBand_frame (s : State) (rows : List Bool) :
    (s.finishDiscardedBand rows).pending = s.pending ∧
    (s.finishDiscardedBand rows).window.chainHead = s.window.chainHead ∧
    (s.finishDiscardedBand rows).window.run = s.window.run ∧
    (s.finishDiscardedBand rows).window.abandon = s.window.abandon ∧
    (s.finishDiscardedBand rows).window.depth = s.window.depth ∧
    (s.finishDiscardedBand rows).window.pressMode = s.window.pressMode ∧
    (s.finishDiscardedBand rows).window.sweepPreset = s.window.sweepPreset ∧
    (s.finishDiscardedBand rows).window.enables = s.window.enables ∧
    (s.finishDiscardedBand rows).port.windowCode = s.port.windowCode ∧
    (s.finishDiscardedBand rows).port.pressFirst = s.port.pressFirst ∧
    (s.finishDiscardedBand rows).walker = s.walker ∧
    (s.finishDiscardedBand rows).control = s.control ∧
    (s.finishDiscardedBand rows).planner = s.planner ∧
    (s.finishDiscardedBand rows).profiles = s.profiles ∧
    (s.finishDiscardedBand rows).store = s.store ∧
    (s.finishDiscardedBand rows).builder = s.builder ∧
    (s.finishDiscardedBand rows).glyphs = s.glyphs ∧
    (s.finishDiscardedBand rows).composer = s.composer ∧
    (s.finishDiscardedBand rows).link = s.link ∧
    (s.finishDiscardedBand rows).writer = s.writer ∧
    (s.finishDiscardedBand rows).check = s.check ∧
    (s.finishDiscardedBand rows).out.pressMessages = s.out.pressMessages := by
  repeat' apply And.intro
  all_goals first | rfl | (unfold State.finishDiscardedBand; (repeat' split) <;> simp)

@[simp] theorem State.setReport_frame (s : State) (sl : SheetSlot) (r : ReportState) :
    (s.setReport sl r).pending = s.pending ∧
    (s.setReport sl r).window = s.window ∧
    (s.setReport sl r).port = s.port ∧
    (s.setReport sl r).walker = s.walker ∧
    (s.setReport sl r).control.engine = s.control.engine ∧
    (s.setReport sl r).control.cause = s.control.cause ∧
    (s.setReport sl r).control.faultAddr = s.control.faultAddr ∧
    (s.setReport sl r).control.queue = s.control.queue ∧
    (s.setReport sl r).control.retire = s.control.retire ∧
    (s.setReport sl r).control.barrier = s.control.barrier ∧
    (s.setReport sl r).planner = s.planner ∧
    (s.setReport sl r).profiles = s.profiles ∧
    (s.setReport sl r).store = s.store ∧
    (s.setReport sl r).builder = s.builder ∧
    (s.setReport sl r).glyphs = s.glyphs ∧
    (s.setReport sl r).composer = s.composer ∧
    (s.setReport sl r).link = s.link ∧
    (s.setReport sl r).writer = s.writer ∧
    (s.setReport sl r).check = s.check ∧
    (s.setReport sl r).out = s.out := by
  repeat' apply And.intro
  all_goals first | rfl | (simp [State.setReport])

@[simp] theorem State.damageTile_frame (s : State) (l : CheckLoc) :
    (s.damageTile l).pending = s.pending ∧
    (s.damageTile l).window = s.window ∧
    (s.damageTile l).port = s.port ∧
    (s.damageTile l).walker = s.walker ∧
    (s.damageTile l).control.engine = s.control.engine ∧
    (s.damageTile l).control.cause = s.control.cause ∧
    (s.damageTile l).control.faultAddr = s.control.faultAddr ∧
    (s.damageTile l).control.retire = s.control.retire ∧
    (s.damageTile l).control.barrier = s.control.barrier ∧
    (s.damageTile l).planner = s.planner ∧
    (s.damageTile l).profiles = s.profiles ∧
    (s.damageTile l).store.mode = s.store.mode ∧
    (s.damageTile l).builder.current = s.builder.current ∧
    (s.damageTile l).glyphs = s.glyphs ∧
    (s.damageTile l).composer = s.composer ∧
    (s.damageTile l).link = s.link ∧
    (s.damageTile l).writer = s.writer ∧
    (s.damageTile l).check = s.check ∧
    (s.damageTile l).out = s.out := by
  repeat' apply And.intro
  all_goals first | rfl | (unfold State.damageTile; (repeat' split) <;> simp)

@[simp] theorem State.painterFindsDamage_frame (s : State) (l : CheckLoc) :
    (s.painterFindsDamage l).pending = s.pending ∧
    (s.painterFindsDamage l).window.chainHead = s.window.chainHead ∧
    (s.painterFindsDamage l).window.run = s.window.run ∧
    (s.painterFindsDamage l).window.abandon = s.window.abandon ∧
    (s.painterFindsDamage l).window.depth = s.window.depth ∧
    (s.painterFindsDamage l).window.pressMode = s.window.pressMode ∧
    (s.painterFindsDamage l).window.sweepPreset = s.window.sweepPreset ∧
    (s.painterFindsDamage l).window.enables = s.window.enables ∧
    (s.painterFindsDamage l).port.outstanding = s.port.outstanding ∧
    (s.painterFindsDamage l).port.hold = s.port.hold ∧
    (s.painterFindsDamage l).port.windowCode = s.port.windowCode ∧
    (s.painterFindsDamage l).port.pressFirst = s.port.pressFirst ∧
    (s.painterFindsDamage l).port.lastResult = s.port.lastResult ∧
    (s.painterFindsDamage l).port.windowTimer = s.port.windowTimer ∧
    (s.painterFindsDamage l).walker.cursor = s.walker.cursor ∧
    (s.painterFindsDamage l).walker.window = s.walker.window ∧
    (s.painterFindsDamage l).walker.pendingWake = s.walker.pendingWake ∧
    (s.painterFindsDamage l).walker.sweepTimer = s.walker.sweepTimer ∧
    (s.painterFindsDamage l).walker.sweepRunning = s.walker.sweepRunning ∧
    (s.painterFindsDamage l).walker.unit = s.walker.unit ∧
    (s.painterFindsDamage l).walker.pendingSpent = s.walker.pendingSpent ∧
    (s.painterFindsDamage l).walker.spentDue = s.walker.spentDue ∧
    (s.painterFindsDamage l).walker.spentInFlight = s.walker.spentInFlight ∧
    (s.painterFindsDamage l).walker.readLimit = s.walker.readLimit ∧
    (s.painterFindsDamage l).control.engine = s.control.engine ∧
    (s.painterFindsDamage l).control.cause = s.control.cause ∧
    (s.painterFindsDamage l).control.faultAddr = s.control.faultAddr ∧
    (s.painterFindsDamage l).control.retire = s.control.retire ∧
    (s.painterFindsDamage l).control.barrier = s.control.barrier ∧
    (s.painterFindsDamage l).profiles = s.profiles ∧
    (s.painterFindsDamage l).store.mode = s.store.mode ∧
    (s.painterFindsDamage l).glyphs = s.glyphs ∧
    (s.painterFindsDamage l).link.config = s.link.config ∧
    (s.painterFindsDamage l).link.ready = s.link.ready ∧
    (s.painterFindsDamage l).check.correctable = s.check.correctable ∧
    (s.painterFindsDamage l).check.count = s.check.count ∧
    (s.painterFindsDamage l).check.uncorrectable = s.check.uncorrectable ∧
    (s.painterFindsDamage l).check.locked = s.check.locked ∧
    (s.painterFindsDamage l).check.finds = s.check.finds ∧
    (s.painterFindsDamage l).out.serverWrites = s.out.serverWrites := by
  repeat' apply And.intro
  all_goals first | rfl | (unfold State.painterFindsDamage; (repeat' split) <;> simp)

@[simp] theorem State.sendFindsDamage_frame (s : State) (h : LinkHold) (b : Nat) :
    (s.sendFindsDamage h b).pending = s.pending ∧
    (s.sendFindsDamage h b).window.chainHead = s.window.chainHead ∧
    (s.sendFindsDamage h b).window.run = s.window.run ∧
    (s.sendFindsDamage h b).window.abandon = s.window.abandon ∧
    (s.sendFindsDamage h b).window.depth = s.window.depth ∧
    (s.sendFindsDamage h b).window.pressMode = s.window.pressMode ∧
    (s.sendFindsDamage h b).window.sweepPreset = s.window.sweepPreset ∧
    (s.sendFindsDamage h b).window.enables = s.window.enables ∧
    (s.sendFindsDamage h b).port.outstanding = s.port.outstanding ∧
    (s.sendFindsDamage h b).port.hold = s.port.hold ∧
    (s.sendFindsDamage h b).port.windowCode = s.port.windowCode ∧
    (s.sendFindsDamage h b).port.pressFirst = s.port.pressFirst ∧
    (s.sendFindsDamage h b).port.lastResult = s.port.lastResult ∧
    (s.sendFindsDamage h b).port.windowTimer = s.port.windowTimer ∧
    (s.sendFindsDamage h b).walker.cursor = s.walker.cursor ∧
    (s.sendFindsDamage h b).walker.window = s.walker.window ∧
    (s.sendFindsDamage h b).walker.pendingWake = s.walker.pendingWake ∧
    (s.sendFindsDamage h b).walker.sweepTimer = s.walker.sweepTimer ∧
    (s.sendFindsDamage h b).walker.sweepRunning = s.walker.sweepRunning ∧
    (s.sendFindsDamage h b).walker.unit = s.walker.unit ∧
    (s.sendFindsDamage h b).walker.pendingSpent = s.walker.pendingSpent ∧
    (s.sendFindsDamage h b).walker.spentDue = s.walker.spentDue ∧
    (s.sendFindsDamage h b).walker.spentInFlight = s.walker.spentInFlight ∧
    (s.sendFindsDamage h b).walker.readLimit = s.walker.readLimit ∧
    (s.sendFindsDamage h b).control.engine = s.control.engine ∧
    (s.sendFindsDamage h b).control.cause = s.control.cause ∧
    (s.sendFindsDamage h b).control.faultAddr = s.control.faultAddr ∧
    (s.sendFindsDamage h b).control.retire = s.control.retire ∧
    (s.sendFindsDamage h b).control.barrier = s.control.barrier ∧
    (s.sendFindsDamage h b).profiles = s.profiles ∧
    (s.sendFindsDamage h b).store.mode = s.store.mode ∧
    (s.sendFindsDamage h b).glyphs = s.glyphs ∧
    (s.sendFindsDamage h b).link.config = s.link.config ∧
    (s.sendFindsDamage h b).link.ready = s.link.ready ∧
    (s.sendFindsDamage h b).writer = s.writer ∧
    (s.sendFindsDamage h b).check.correctable = s.check.correctable ∧
    (s.sendFindsDamage h b).check.count = s.check.count ∧
    (s.sendFindsDamage h b).check.uncorrectable = s.check.uncorrectable ∧
    (s.sendFindsDamage h b).check.locked = s.check.locked ∧
    (s.sendFindsDamage h b).check.finds = s.check.finds ∧
    (s.sendFindsDamage h b).out.serverWrites = s.out.serverWrites := by
  repeat' apply And.intro
  all_goals first | rfl | (simp [State.sendFindsDamage])

@[simp] theorem State.writeFindsDamage_frame (s : State) :
    (s.writeFindsDamage).pending = s.pending ∧
    (s.writeFindsDamage).window = s.window ∧
    (s.writeFindsDamage).port = s.port ∧
    (s.writeFindsDamage).walker = s.walker ∧
    (s.writeFindsDamage).control = s.control ∧
    (s.writeFindsDamage).planner = s.planner ∧
    (s.writeFindsDamage).profiles = s.profiles ∧
    (s.writeFindsDamage).store = s.store ∧
    (s.writeFindsDamage).builder = s.builder ∧
    (s.writeFindsDamage).glyphs = s.glyphs ∧
    (s.writeFindsDamage).composer = s.composer ∧
    (s.writeFindsDamage).link = s.link ∧
    (s.writeFindsDamage).writer.state = s.writer.state ∧
    (s.writeFindsDamage).writer.attempt = s.writer.attempt ∧
    (s.writeFindsDamage).writer.nextBand = s.writer.nextBand ∧
    (s.writeFindsDamage).writer.endPending = s.writer.endPending ∧
    (s.writeFindsDamage).writer.queued = s.writer.queued ∧
    (s.writeFindsDamage).check = s.check ∧
    (s.writeFindsDamage).out = s.out := by
  repeat' apply And.intro
  all_goals rfl

@[simp] theorem State.paintingFindsGlyph_frame (s : State) (g : Fin 3) (c : Code) (n : Nat) :
    (s.paintingFindsGlyph g c n).pending = s.pending ∧
    (s.paintingFindsGlyph g c n).window = s.window ∧
    (s.paintingFindsGlyph g c n).port = s.port ∧
    (s.paintingFindsGlyph g c n).walker = s.walker ∧
    (s.paintingFindsGlyph g c n).control = s.control ∧
    (s.paintingFindsGlyph g c n).planner = s.planner ∧
    (s.paintingFindsGlyph g c n).profiles = s.profiles ∧
    (s.paintingFindsGlyph g c n).store = s.store ∧
    (s.paintingFindsGlyph g c n).builder = s.builder ∧
    (s.paintingFindsGlyph g c n).composer.state = s.composer.state ∧
    (s.paintingFindsGlyph g c n).composer.attempt = s.composer.attempt ∧
    (s.paintingFindsGlyph g c n).composer.nextBand = s.composer.nextBand ∧
    (s.paintingFindsGlyph g c n).composer.bufX = s.composer.bufX ∧
    (s.paintingFindsGlyph g c n).composer.bufY = s.composer.bufY ∧
    (s.paintingFindsGlyph g c n).link = s.link ∧
    (s.paintingFindsGlyph g c n).writer = s.writer ∧
    (s.paintingFindsGlyph g c n).check = s.check ∧
    (s.paintingFindsGlyph g c n).out = s.out := by
  repeat' apply And.intro
  all_goals first | rfl | (unfold State.paintingFindsGlyph; (repeat' split) <;> simp)

@[simp] theorem State.takeDamage_frame (s : State) (l : CheckLoc) (r : Reader) (n : Nat) :
    (s.takeDamage l r n).pending = s.pending ∧
    (s.takeDamage l r n).window.chainHead = s.window.chainHead ∧
    (s.takeDamage l r n).window.run = s.window.run ∧
    (s.takeDamage l r n).window.abandon = s.window.abandon ∧
    (s.takeDamage l r n).window.depth = s.window.depth ∧
    (s.takeDamage l r n).window.pressMode = s.window.pressMode ∧
    (s.takeDamage l r n).window.sweepPreset = s.window.sweepPreset ∧
    (s.takeDamage l r n).window.enables = s.window.enables ∧
    (s.takeDamage l r n).port.outstanding = s.port.outstanding ∧
    (s.takeDamage l r n).port.hold = s.port.hold ∧
    (s.takeDamage l r n).port.windowCode = s.port.windowCode ∧
    (s.takeDamage l r n).port.pressFirst = s.port.pressFirst ∧
    (s.takeDamage l r n).port.lastResult = s.port.lastResult ∧
    (s.takeDamage l r n).port.windowTimer = s.port.windowTimer ∧
    (s.takeDamage l r n).walker.cursor = s.walker.cursor ∧
    (s.takeDamage l r n).walker.window = s.walker.window ∧
    (s.takeDamage l r n).walker.pendingWake = s.walker.pendingWake ∧
    (s.takeDamage l r n).walker.sweepTimer = s.walker.sweepTimer ∧
    (s.takeDamage l r n).walker.sweepRunning = s.walker.sweepRunning ∧
    (s.takeDamage l r n).walker.unit = s.walker.unit ∧
    (s.takeDamage l r n).walker.pendingSpent = s.walker.pendingSpent ∧
    (s.takeDamage l r n).walker.spentDue = s.walker.spentDue ∧
    (s.takeDamage l r n).walker.spentInFlight = s.walker.spentInFlight ∧
    (s.takeDamage l r n).walker.readLimit = s.walker.readLimit ∧
    (s.takeDamage l r n).control.engine = s.control.engine ∧
    (s.takeDamage l r n).control.cause = s.control.cause ∧
    (s.takeDamage l r n).control.faultAddr = s.control.faultAddr ∧
    (s.takeDamage l r n).control.retire = s.control.retire ∧
    (s.takeDamage l r n).control.barrier = s.control.barrier ∧
    (s.takeDamage l r n).profiles = s.profiles ∧
    (s.takeDamage l r n).store.mode = s.store.mode ∧
    (s.takeDamage l r n).link.config = s.link.config ∧
    (s.takeDamage l r n).link.ready = s.link.ready ∧
    (s.takeDamage l r n).check.correctable = s.check.correctable ∧
    (s.takeDamage l r n).check.count = s.check.count ∧
    (s.takeDamage l r n).check.uncorrectable = s.check.uncorrectable ∧
    (s.takeDamage l r n).check.locked = s.check.locked ∧
    (s.takeDamage l r n).check.finds = s.check.finds ∧
    (s.takeDamage l r n).out.serverWrites = s.out.serverWrites := by
  repeat' apply And.intro
  all_goals first | rfl | (unfold State.takeDamage; (repeat' split) <;> simp)

end Sys2Proof.Machine
end

