-- ==== Sys2Proof/Laws/Sheets.lean ====
section
/-! SUPPORT. What the shared operations do to the sheet slots, the retire queue and the store when a sheet ends: one lemma
for each operation that says all of it, which the proofs about commands cite. -/

namespace Sys2Proof.Machine

/-! ## Reading a slot after an update -/

theorem State.sheet_of_control {s t : State} (h : t.control = s.control) (sl : SheetSlot) : t.sheet sl = s.sheet sl := by
  cases sl <;> simp [State.sheet, h]

theorem State.sheet_setSheet (s : State) (sl other : SheetSlot) (x : Option Sheet) :
    (s.setSheet sl x).sheet other = if other = sl then x else s.sheet other := by
  cases sl <;> cases other <;> simp [State.setSheet, State.sheet]

theorem State.sheet_mapSheet (s : State) (sl other : SheetSlot) (f : Sheet → Sheet) :
    (s.mapSheet sl f).sheet other = if other = sl then (s.sheet sl).map f else s.sheet other := by
  simp [State.mapSheet, State.sheet_setSheet]

theorem otherSlot_ne (sl : SheetSlot) : otherSlot sl ≠ sl := by cases sl <;> simp [otherSlot]

theorem ne_otherSlot (sl : SheetSlot) : sl ≠ otherSlot sl := by cases sl <;> simp [otherSlot]

@[simp] theorem State.sheet_setPlanner (s : State) (x : Planner) (sl : SheetSlot) :
    (s.setPlanner x).sheet sl = s.sheet sl := by cases sl <;> rfl

@[simp] theorem State.sheet_setStore (s : State) (x : TileStore) (sl : SheetSlot) :
    (s.setStore x).sheet sl = s.sheet sl := by cases sl <;> rfl

@[simp] theorem State.sheet_setBuilder (s : State) (x : Builder) (sl : SheetSlot) :
    (s.setBuilder x).sheet sl = s.sheet sl := by cases sl <;> rfl

@[simp] theorem State.sheet_setWalker (s : State) (x : Walker) (sl : SheetSlot) :
    (s.setWalker x).sheet sl = s.sheet sl := by cases sl <;> rfl

@[simp] theorem State.sheet_setPort (s : State) (x : Port) (sl : SheetSlot) : (s.setPort x).sheet sl = s.sheet sl := by
  cases sl <;> rfl

@[simp] theorem State.sheet_setWindow (s : State) (x : Window) (sl : SheetSlot) :
    (s.setWindow x).sheet sl = s.sheet sl := by cases sl <;> rfl

@[simp] theorem State.sheet_setLink (s : State) (x : Link) (sl : SheetSlot) : (s.setLink x).sheet sl = s.sheet sl := by
  cases sl <;> rfl

@[simp] theorem State.sheet_setWriter (s : State) (x : Writer) (sl : SheetSlot) :
    (s.setWriter x).sheet sl = s.sheet sl := by cases sl <;> rfl

@[simp] theorem State.sheet_setComposer (s : State) (x : Composer) (sl : SheetSlot) :
    (s.setComposer x).sheet sl = s.sheet sl := by cases sl <;> rfl

@[simp] theorem State.sheet_setOut (s : State) (x : Outputs) (sl : SheetSlot) : (s.setOut x).sheet sl = s.sheet sl := by
  cases sl <;> rfl

@[simp] theorem State.sheet_setCheck (s : State) (x : Check) (sl : SheetSlot) : (s.setCheck x).sheet sl = s.sheet sl := by
  cases sl <;> rfl

@[simp] theorem State.sheet_mapQueue (s : State) (f : QueueEntry → QueueEntry) (sl : SheetSlot) :
    (s.mapQueue f).sheet sl = s.sheet sl := by cases sl <;> rfl

/-! ## Release and freeing -/

/-- A release clears the pending-build count of its own sheet and leaves the other slot's. -/
theorem State.releaseSheet_sheet (s : State) (sl other : SheetSlot) :
    (s.releaseSheet sl).sheet other =
      if other = sl then (s.sheet sl).map fun sh => { sh with pendingBuilds := 0 } else s.sheet other := by
  have key : ∀ (t : State) (b : Builder) (st : TileStore), t.control = s.control →
      (((t.setBuilder b).setStore st).mapSheet sl fun sh => { sh with pendingBuilds := 0 }).sheet other =
        if other = sl then (s.sheet sl).map fun sh => { sh with pendingBuilds := 0 } else s.sheet other := by
    intro t b st h
    simp only [State.sheet_mapSheet, State.sheet_setStore, State.sheet_setBuilder, State.sheet_of_control h]
  unfold State.releaseSheet
  apply key
  split
  · split <;> simp
  · rfl

theorem State.lostBy_iff (s : State) (sl : SheetSlot) (r : TileRef) : s.store.cutBy sl r = true ↔ LostBy s sl r := by
  cases r with
  | store i w =>
    simp only [TileStore.cutBy, LostBy]
    generalize s.store.slot i w = x
    obtain ⟨st, k, ⟨a, b⟩, t, f, p⟩ := x
    cases sl <;> cases a <;> cases b <;> simp [Holders.has, Holders.leave, Holders.none, otherSlot]
  | scratch p i => simp [TileStore.cutBy, LostBy]

/-- The release of a sheet's holds, slot by slot, build by build (R93, R101, R107, R109). -/
theorem State.releaseSheet_released (s : State) (sl : SheetSlot) : HoldsReleased s (s.releaseSheet sl) sl := by
  have hslot : ∀ i w, (s.releaseSheet sl).store.slot i w = (s.store.slot i w).leave sl := by
    intro i w
    unfold State.releaseSheet
    cases w <;> cases sl <;> simp [TileStore.setPool, TileStore.slot, TileSet.mapWays, TileSet.way]
  have hcur : ∀ t : State, t.cutCurrent.builder.queue = t.builder.queue := by
    intro t; unfold State.cutCurrent State.discardUnit; split <;> (try dsimp only) <;> (repeat' split) <;> rfl
  have hq : (s.releaseSheet sl).builder.queue = s.builder.queue.filter fun e => !s.store.cutBy sl e.ref := by
    unfold State.releaseSheet
    dsimp only
    simp only [State.mapSheet_frame, State.setStore_builder, State.setBuilder_builder]
    split
    · split
      · rw [hcur s]
      · rfl
    · rfl
  have hx : ∀ x : StoreSlot, x.holders.has sl = false → x.leave sl = x := by
    intro x; obtain ⟨st, k, ⟨a, b⟩, t, f, p⟩ := x
    cases sl <;> cases a <;> cases b <;> simp [StoreSlot.leave, Holders.has, Holders.leave, Holders.none]
  refine ⟨?_, ?_, ?_, ?_, ?_, ?_, ?_, ?_, ?_, ?_, ?_, ?_⟩
  · intro i w h; rw [hslot, hx _ h]
  · intro i w; rw [hslot]
    generalize s.store.slot i w = x
    obtain ⟨st, k, ⟨a, b⟩, t, f, p⟩ := x
    cases sl <;> cases a <;> cases b <;> simp [StoreSlot.leave, Holders.has, Holders.leave, Holders.none, otherSlot]
  · intro i w; rw [hslot]
    generalize s.store.slot i w = x
    obtain ⟨st, k, ⟨a, b⟩, t, f, p⟩ := x
    rintro h1 h2
    subst h2; cases h1
    cases sl <;> simp [StoreSlot.leave, Holders.has, Holders.leave, Holders.none]
  · intro i w; rw [hslot]
    generalize s.store.slot i w = x
    obtain ⟨st, k, ⟨a, b⟩, t, f, p⟩ := x
    rintro h1 h2
    simp only at h1 h2
    rcases h2 with rfl | rfl <;> cases h1 <;>
      cases sl <;> simp [StoreSlot.leave, Holders.has, Holders.leave, Holders.none]
  · intro i
    unfold State.releaseSheet
    cases sl <;> simp [TileStore.setPool, TileSet.mapWays]
  · exact by unfold State.releaseSheet; cases sl <;> simp [TileStore.setPool, TileStore.pool]
  · unfold State.releaseSheet
    cases sl <;> simp [TileStore.setPool, TileStore.pool, otherSlot]
  · intro e
    rw [hq, List.mem_filter]
    simp [← State.lostBy_iff]
  · rw [hq]; exact List.filter_sublist
  · intro b hb hl
    rw [← State.lostBy_iff] at hl
    unfold State.releaseSheet
    simp only [hb, hl, if_true]
    constructor
    · simp only [State.mapSheet_frame, State.setStore_builder, State.setBuilder_builder]
      unfold State.cutCurrent
      rw [hb]
      dsimp only
      split <;> rfl
    · intro hp
      simp only [State.mapSheet_frame, State.setStore_port, State.setBuilder_port]
      unfold State.cutCurrent
      rw [hb]
      simp [hp, State.discardUnit]
  · intro h
    unfold State.releaseSheet
    cases hb : s.builder.current with
    | none => simp [hb]
    | some b =>
      have := h b hb
      rw [← State.lostBy_iff] at this
      simp [this, hb]
  · simp

/-- The release of holds speaks of the store, the Builder and the port alone. -/
theorem HoldsReleased.congr {s s' t t' : State} {sl : SheetSlot} (h : HoldsReleased s t sl) (h1 : s'.store = s.store)
    (h2 : s'.builder = s.builder) (h3 : s.port.outstanding ≤ s'.port.outstanding) (h4 : t'.store = t.store)
    (h5 : t'.builder = t.builder) (h6 : t'.port = t.port) : HoldsReleased s' t' sl := by
  have hl : ∀ r, LostBy s' sl r ↔ LostBy s sl r := by intro r; simp [LostBy, h1]
  constructor <;> simp only [h1, h2, h4, h5, h6, hl]
  exacts [h.unheld, h.shared, h.kept, h.emptied, h.lru, h.pool, h.otherPool, h.queue, h.order, h.cut, h.goesOn,
    Nat.le_trans h.outstanding h3]

/-- Whether the head can be taken, in the terms of the statements (R13). -/
theorem State.canTakeKind_iff (s : State) (r : OrderRecord) : s.canTakeKind r.kind = true ↔ HeadTakeable s r := by
  have : ∀ b : Barrier, b.running = false ↔ b = .none := by intro b; simp [Barrier.running]
  simp only [State.canTakeKind, Bool.and_eq_true, decide_eq_true_eq, Bool.not_eq_true', this]
  constructor
  · rintro ⟨⟨a, b⟩, c⟩
    refine ⟨a, b, ?_, ?_⟩
    · intro h
      simp [h, State.freeSlotFor] at c
      revert c
      cases s.control.slotA <;> cases s.control.slotB <;> simp
    · intro h
      have : r.kind ≠ .sheet := by intro e; simp [e, OrderKind.isBarrier] at h
      simp [this, h] at c
      exact c
  · rintro ⟨a, b, c, d⟩
    refine ⟨⟨a, b⟩, ?_⟩
    by_cases h : r.kind = .sheet
    · simp [h, State.freeSlotFor]
      rcases c h with e | e <;> simp [e]
      split <;> rfl
    · by_cases h' : r.kind.isBarrier = true
      · simp [h, h', d h']
      · simp [h, h']

/-- What follows an event that may let the head be taken (R14). -/
theorem State.unblock_walkerUnblocked (s : State) : WalkerUnblocked s s.unblock := by
  have hk : ∀ r, HeadTakeable s.unblock r ↔ HeadTakeable s r := fun r => by
    rw [← State.canTakeKind_iff, ← State.canTakeKind_iff]
    unfold State.unblock
    split <;> rfl
  refine ⟨fun r rest hb hw ht => ?_, fun r rest hb hw ht => ?_, fun hb => ?_⟩
  · have : s.canTake = true := by simp only [State.canTake, hw]; exact (State.canTakeKind_iff s r).2 ((hk r).1 ht)
    simp [State.unblock, hb, this]
  · have : s.canTake ≠ true := by
      simp only [State.canTake, hw]
      exact fun h => ht ((hk r).2 ((State.canTakeKind_iff s r).1 h))
    simp [State.unblock, hb, this]
  · simp [State.unblock, hb]

/-- Taking the head depends on the retire queue, the slots, the barrier and a take's reservation alone. -/
theorem HeadTakeable.of_eq {s t : State} {r : OrderRecord} (h : HeadTakeable s r) (h1 : t.control = s.control)
    (h2 : t.walker.reserved = s.walker.reserved) : HeadTakeable t r := by
  constructor <;> simp only [h1, h2]
  exacts [h.room, h.barrier, h.sheet, h.slots]

/-- A freed walker after work that leaves the walker alone, and before work that leaves it and the control alone. -/
theorem WalkerUnblocked.congr {s s' t t' : State} (h : WalkerUnblocked s t) (h1 : s'.walker.state = s.walker.state)
    (h2 : s'.walker.window = s.walker.window) (h3 : t'.walker = t.walker) (h4 : t'.control = t.control) :
    WalkerUnblocked s' t' := by
  have hk : ∀ r, HeadTakeable t' r ↔ HeadTakeable t r := fun r =>
    ⟨fun x => x.of_eq h4.symm (by rw [h3]), fun x => x.of_eq h4 (by rw [h3])⟩
  refine ⟨fun r rest hb hw ht => ?_, fun r rest hb hw ht => ?_, fun hb => ?_⟩
  · rw [h3]; exact h.takes r rest (by rw [← h1, hb]) (by rw [← h2, hw]) ((hk r).1 ht)
  · rw [h3]; exact h.blocked r rest (by rw [← h1, hb]) (by rw [← h2, hw]) fun x => ht ((hk r).2 x)
  · rw [h3, h1]; exact h.other (by rw [← h1]; exact hb)

/-- A slot that is freed lets a BLOCKED walker take (R14). -/
theorem State.freeSlot_walker (s : State) (sl : SheetSlot) (h : s.sheet sl ≠ none) : WalkerUnblocked s (s.freeSlot sl) := by
  unfold State.freeSlot
  split
  · exact absurd ‹_› h
  · exact (State.unblock_walkerUnblocked _).congr (by simp) (by simp) rfl rfl

/-- A slot freed with an ending: its order is FINISHED with it, and the other slot ranks first (R171, R175, R179). -/
theorem State.freeSlot_ended (s : State) (sl : SheetSlot) (sh : Sheet) (o : OrderOutcome) (d : Detail)
    (h : s.sheet sl = some sh) (he : sh.ending = some (o, d)) :
    (s.freeSlot sl).control.queue = queueEnded s.control.queue sl o d ∧ (s.freeSlot sl).sheet sl = none ∧
    (s.freeSlot sl).sheet (otherSlot sl) = (s.sheet (otherSlot sl)).map fun x => { x with first := true } := by
  unfold State.freeSlot
  simp only [h]
  have hu : ∀ x : State, x.unblock.control = x.control := by intro x; simp
  refine ⟨?_, ?_, ?_⟩
  · simp [State.mapQueue, queueEnded, finalResults, he]
  · rw [State.sheet_of_control (hu _), State.sheet_mapSheet, if_neg (ne_otherSlot sl), State.sheet_setSheet]; simp
  · rw [State.sheet_of_control (hu _), State.sheet_mapSheet, if_pos rfl, State.sheet_setSheet, if_neg (otherSlot_ne sl)]
    simp

/-- The three parts of letting a slot go, from the link and the Writer (R175). -/
theorem State.partsDone_of (s t : State) (sl : SheetSlot) (sh : Sheet) (hl : t.link = s.link) (hw : t.writer = s.writer)
    (h1 : s.linkHolds sl = false) (h2 : s.writerServes sl = false) (h3 : t.sheet sl = some sh) (h4 : sh.report = .none) :
    t.partsDone sl = true := by
  have e1 : t.linkHolds sl = false := by rw [← h1]; simp [State.linkHolds, hl]
  have e2 : t.writerServes sl = false := by rw [← h2]; simp [State.writerServes, hw]
  simp [State.partsDone, e1, e2, State.sheetIs, h3, h4]

/-! ## Endings -/

/-- An ending that reaches a sheet which nothing else holds: its order is FINISHED, its slot FREE, its tile holds released
(R109, R175, R179). -/
theorem State.endSheet_frees (s : State) (sl : SheetSlot) (sh : Sheet) (o : OrderOutcome) (d : Detail)
    (h : s.sheet sl = some sh) (hs : sh.state ≠ .finished) (he : sh.ending = none) (hr : sh.report = .none)
    (h1 : s.linkHolds sl = false) (h2 : s.writerServes sl = false) :
    (s.endSheet sl o d).control.queue = queueEnded s.control.queue sl o d ∧ (s.endSheet sl o d).sheet sl = none ∧
    (s.endSheet sl o d).sheet (otherSlot sl) = (s.sheet (otherSlot sl)).map (fun x => { x with first := true }) ∧
    HoldsReleased s (s.endSheet sl o d) sl ∧ WalkerUnblocked s (s.endSheet sl o d) := by
  have hi : s.sheetIs sl (fun sh => sh.ending.isNone && sh.state != .finished) = true := by
    simp [State.sheetIs, h, he, hs]
  set s1 := (s.mapSheet sl fun sh => { sh with ending := some (o, d), state := .finished }).releaseSheet sl with hs1
  have hsh : s1.sheet sl = some { sh with ending := some (o, d), state := .finished, pendingBuilds := 0 } := by
    rw [hs1, State.releaseSheet_sheet, if_pos rfl, State.sheet_mapSheet, if_pos rfl, h]; rfl
  have hso : s1.sheet (otherSlot sl) = s.sheet (otherSlot sl) := by
    rw [hs1, State.releaseSheet_sheet, if_neg (otherSlot_ne sl), State.sheet_mapSheet, if_neg (otherSlot_ne sl)]
  have hp : s1.partsDone sl = true := State.partsDone_of s s1 sl _ (by simp [hs1]) (by simp [hs1]) h1 h2 hsh hr
  have hf : s.endSheet sl o d = s1.freeSlot sl := by
    unfold State.endSheet
    rw [if_pos hi]
    unfold State.freeIfEnded
    rw [← hs1]
    simp [State.sheetIs, hsh, hp]
  have hq : s1.control.queue = s.control.queue := by simp [hs1]
  have hh := State.releaseSheet_released (s.mapSheet sl fun sh => { sh with ending := some (o, d), state := .finished }) sl
  rw [← hs1] at hh
  rw [hf]
  obtain ⟨a, b, c⟩ := State.freeSlot_ended s1 sl _ o d hsh rfl
  exact ⟨by rw [a, hq], b, by rw [c, hso],
    hh.congr (by simp) (by simp) (by simp) (by simp) (by simp) (by simp),
    (s1.freeSlot_walker sl (by simp [hsh])).congr (by simp [hs1]) (by simp [hs1]) rfl rfl⟩

/-- Planning that ends alone frees its slot and the planner (R66, R67). -/
theorem State.planningEnds_ended (s : State) (j : PlanJob) (sh : Sheet) (o : OrderOutcome) (d : Detail)
    (h : PlansAlone s j sh) :
    (s.planningEnds j.slot o d).takeWaiting = s.planningEnds j.slot o d ∧
    PlanningEnded s (s.planningEnds j.slot o d) j.slot s.control.queue o d := by
  have hsh : ((s.clearJob).clearPlacement j.slot).sheet j.slot = some { sh with frames := [], cells := [] } := by
    simp [State.clearPlacement, State.sheet_mapSheet, State.clearJob, h.sheet]
  obtain ⟨a, b, c, e, f⟩ := State.endSheet_frees ((s.clearJob).clearPlacement j.slot) j.slot _ o d hsh
    (by simp [h.state]) (by simp [h.ending]) (by simp [h.report])
    (by have := h.link; simpa [State.linkHolds] using this) (by have := h.writer; simpa [State.writerServes] using this)
  have hpl : (s.planningEnds j.slot o d).planner = ⟨none, none, [], none⟩ := by
    simp [State.planningEnds, State.clearJob, h.waiting, Planner.cleared]
  refine ⟨by unfold State.takeWaiting; simp [hpl], ?_, b, ?_, hpl, e.congr (by simp) (by simp) (by simp) rfl rfl rfl,
    f.congr (by simp) (by simp) rfl rfl⟩
  · have : ((s.clearJob).clearPlacement j.slot).control.queue = s.control.queue := by simp
    rw [← this]; exact a
  · rw [State.planningEnds, c]
    simp [State.clearPlacement, State.sheet_mapSheet, State.clearJob, otherSlot_ne]

end Sys2Proof.Machine
end

