-- ==== Sys2Proof/Laws/Pass.lean ====
section
/-! SUPPORT. What a placement pass keeps from step to step, and where it comes to rest (R51 to R66). -/

namespace Sys2Proof.Machine

/-- A placement pass under way for the sheet in a slot: the planner works on it with no read in flight and no sheet
waiting, the sheet keeps its ticket and the cells placed before, and the other slot stays as it was. -/
structure Passing (s : State) (sl : SheetSlot) (k : Ticket) (cells : List Cell) (other : Option Sheet) : Prop where
  job : ∃ j, s.planner.job = some j ∧ j.slot = sl ∧ j.inFlight = false
  sheet : ∃ sh, s.sheet sl = some sh ∧ sh.ticket = some k ∧ ∃ more, sh.cells = cells ++ more
  other : s.sheet (otherSlot sl) = other
  waiting : s.planner.waiting = none

theorem State.sheet_mapJob (s : State) (f : PlanJob → PlanJob) (sl : SheetSlot) : (s.mapJob f).sheet sl = s.sheet sl := by
  simp [State.mapJob]

variable {s t : State} {sl : SheetSlot} {k : Ticket} {cs : List Cell} {ot : Option Sheet}

theorem Passing.mapJob (h : Passing s sl k cs ot) (f : PlanJob → PlanJob)
    (hs : ∀ j, s.planner.job = some j → (f j).slot = j.slot)
    (hf : ∀ j, s.planner.job = some j → j.inFlight = false → (f j).inFlight = false) :
    Passing (s.mapJob f) sl k cs ot := by
  obtain ⟨⟨j, a, b, c⟩, d, e, w⟩ := h
  exact ⟨⟨f j, by simp [State.mapJob, a], by rw [hs j a, b], hf j a c⟩, by simpa [State.sheet_mapJob] using d,
    by simpa [State.sheet_mapJob] using e, by simpa [State.mapJob] using w⟩

theorem Passing.mapSheet (h : Passing s sl k cs ot) (f : Sheet → Sheet) (ht : ∀ sh, (f sh).ticket = sh.ticket)
    (hc : ∀ sh, ∃ more, (f sh).cells = sh.cells ++ more) : Passing (s.mapSheet sl f) sl k cs ot := by
  obtain ⟨⟨j, a, b, c⟩, ⟨sh, d1, d2, m, d3⟩, e, w⟩ := h
  obtain ⟨m2, hm⟩ := hc sh
  exact ⟨⟨j, by simpa using a, b, c⟩,
    ⟨f sh, by simp [State.sheet_mapSheet, d1], by rw [ht, d2], m ++ m2, by rw [hm, d3, List.append_assoc]⟩,
    by simp [State.sheet_mapSheet, otherSlot_ne, e], by simpa using w⟩

theorem Passing.awaitRead (h : Passing s sl k cs ot) (st : PlanStage) : Passing (s.awaitRead st) sl k cs ot :=
  h.mapJob _ (by simp) (by simp)

theorem Passing.of_eq (h : Passing s sl k cs ot) (hp : t.planner.job = s.planner.job)
    (hw : t.planner.waiting = s.planner.waiting) (hs : ∀ x, t.sheet x = s.sheet x) : Passing t sl k cs ot := by
  obtain ⟨a, b, c, d⟩ := h
  exact ⟨by rw [hp]; exact a, by rw [hs]; exact b, by rw [hs]; exact c, by rw [hw]; exact d⟩

theorem Passing.advance (h : Passing s sl k cs ot) : Passing s.advanceCursor sl k cs ot := by
  obtain ⟨⟨j, a, b, c⟩, d, e, w⟩ := h
  unfold State.advanceCursor
  split
  · rename_i j' c' hj hc
    have : j' = j := by rw [a] at hj; exact (Option.some.inj hj).symm
    subst this
    exact ⟨⟨_, rfl, b, c⟩, by simpa using d, by simpa using e, by simpa using w⟩
  · exact ⟨⟨j, a, b, c⟩, d, e, w⟩

theorem Passing.placeCell (h : Passing s sl k cs ot) (d : CellSeed) (c : Cell) (n : Notes) :
    Passing (s.placeCell d c n) sl k cs ot := by
  unfold State.placeCell
  obtain ⟨j, a, b, c'⟩ := h.job
  simp only [a]
  subst b
  have h1 := (h.mapSheet
    (fun sh => { sh with cells := sh.cells ++ [c], frames := sh.frames.modify d.frame fun f => f.takeCell sh.cells.length })
    (by simp) (fun sh => ⟨[c], rfl⟩)).mapJob
    (fun j => { j with counts := j.counts.add { countsOfNotes n with placeholders := bit (c.kind == .placeholder) } })
    (by simp) (by simp)
  split
  · exact h1.advance
  · exact h1

theorem Passing.actOnRole (h : Passing s sl k cs ot) (d : CellSeed) (a : Addr) (r : Nat) :
    Passing (s.actOnRole d a r).1 sl k cs ot ∧ ((s.actOnRole d a r).2 = false →
      ∃ j, (s.actOnRole d a r).1.planner.job = some j ∧ j.stage.isSubject = true) := by
  unfold State.actOnRole
  dsimp only
  obtain ⟨j, a', b, c'⟩ := h.job
  split
  · exact ⟨h.placeCell _ _ _, by simp⟩
  · split
    · exact ⟨h.placeCell _ _ _, by simp⟩
    · exact ⟨h.awaitRead _, fun _ => ⟨_, by simp [State.awaitRead, State.mapJob, a']; rfl, rfl⟩⟩

/-- One step of the pass keeps it, and when the pass stops it waits for a roster, subject or text read. -/
theorem Passing.placeStep (h : Passing s sl k cs ot) (sh : Sheet) (q : Ticket) (j : PlanJob) (st : PlaceStep) :
    Passing (s.placeStep sl sh q j st).1 sl k cs ot ∧ ((s.placeStep sl sh q j st).2 = false →
      ∃ j', (s.placeStep sl sh q j st).1.planner.job = some j' ∧
        (j'.stage.isRoster || j'.stage.isSubject || j'.stage.isText) = true) := by
  obtain ⟨j0, a', b, c'⟩ := h.job
  unfold State.placeStep
  dsimp only
  split
  · exact ⟨h.of_eq rfl rfl (by simp), by simp⟩
  · exact ⟨h.of_eq rfl rfl (by simp), by simp⟩
  · refine ⟨?_, by simp⟩
    dsimp only
    split
    · exact h.mapSheet _ (by simp) (fun sh => ⟨[], by simp⟩)
    · exact h
  · exact ⟨h.mapSheet _ (by simp) (fun sh => ⟨[], by simp⟩), by simp⟩
  · split
    · unfold State.placeGridCell
      dsimp only
      generalize (if _ = 0 then _ else _) = used
      split
      · exact ⟨h.mapJob _ (by simp) (by simp), by simp⟩
      · split
        · exact ⟨(h.mapJob _ (by simp) (by simp)).awaitRead _,
            fun _ => ⟨_, by simp [State.awaitRead, State.mapJob, a']; rfl, rfl⟩⟩
        · rename_i rest _
          obtain ⟨x, y⟩ := (h.mapJob (fun j_1 => { j_1 with rowUsed := used, roster := rest }) (by simp)
            (by simp)).actOnRole _ _ _
          refine ⟨x, fun hh => ?_⟩
          obtain ⟨j', p, q⟩ := y hh
          exact ⟨j', p, by simp [q]⟩
    · exact ⟨h, by simp⟩
  · split
    · obtain ⟨x, y⟩ := h.actOnRole _ _ _
      refine ⟨x, fun hh => ?_⟩
      obtain ⟨j', p, q⟩ := y hh
      exact ⟨j', p, by simp [q]⟩
    · exact ⟨h, by simp⟩
  · split
    · unfold State.placeText
      split
      · exact ⟨h, by simp⟩
      · dsimp only
        split
        · exact ⟨((h.mapSheet _ (by simp) (fun sh => ⟨[], by simp⟩)).mapJob _ (by simp) (by simp)).awaitRead _,
            fun _ => ⟨_, by simp [State.awaitRead, State.mapJob, a']; rfl, rfl⟩⟩
        · exact ⟨h.awaitRead _, fun _ => ⟨_, by simp [State.awaitRead, State.mapJob, a']; rfl, rfl⟩⟩
    · exact ⟨h, by simp⟩

/-- Where a pass leaves the sheet and the planner. -/
structure Rested (t : State) (sl : SheetSlot) (k : Ticket) (cells : List Cell) (other : Option Sheet) : Prop where
  rests : PassRests t sl
  sheet : ∃ sh more, t.sheet sl = some sh ∧ sh.cells = cells ++ more ∧ sh.ticket = some k
  other : t.sheet (otherSlot sl) = other
  waiting : t.planner.waiting = none

theorem Passing.planComplete (h : Passing s sl k cs ot) : Rested s.planComplete sl k cs ot := by
  obtain ⟨⟨j, a, b, c⟩, ⟨sh, d1, d2, m, d3⟩, e, w⟩ := h
  subst b
  unfold State.planComplete
  simp only [a]
  set f : Sheet → Sheet := fun sh => { sh with
        carry := j.passedLast && decide (j.rosterIndex < (sh.ticket.map (·.rosterCount)).getD 0)
        reached := j.rosterIndex
        state := if 0 < sh.pendingBuilds then .filling else .ready } with hf
  have hs : ∀ x, (((s.mapSheet j.slot f).addCounts j.slot j.counts).clearJob).sheet x = (s.mapSheet j.slot f).sheet x := by
    intro x; simp [State.clearJob, State.addCounts, State.mapResults]
  have hm : (s.mapSheet j.slot f).sheet j.slot = some (f sh) := by simp [State.sheet_mapSheet, d1]
  refine ⟨Or.inr ⟨by simp [State.clearJob, Planner.cleared], f sh, by rw [hs, hm], rfl⟩,
    ⟨f sh, m, by rw [hs, hm], d3, d2⟩, ?_, ?_⟩
  · rw [hs]; simp [State.sheet_mapSheet, otherSlot_ne, e]
  · simp [State.clearJob, w]

/-- A pass rests at a read it waits to start or at its end, with the cells placed before kept. -/
theorem Passing.runPass (steps : List PlaceStep) :
    ∀ {s : State}, Passing s sl k cs ot → Rested (s.runPass steps) sl k cs ot := by
  induction steps with
  | nil => intro s h; exact h.planComplete
  | cons st rest ih =>
    intro s h
    obtain ⟨j, a, b, c⟩ := h.job
    obtain ⟨sh, d1, d2, m, d3⟩ := h.sheet
    subst b
    unfold State.runPass
    simp only [a, d1, d2]
    have h1 := h.mapJob (fun _ => { j with steps := rest }) (by intro j' h'; rw [a] at h'; cases h'; rfl)
      (by intro j' _ _; exact c)
    obtain ⟨x, y⟩ := h1.placeStep sh k { j with steps := rest } st
    split
    · rename_i s1 heq
      rw [heq] at x
      exact ih x
    · rename_i s1 heq
      rw [heq] at x y
      obtain ⟨j', p, q⟩ := y rfl
      obtain ⟨⟨j2, a2, b2, c2⟩, ⟨sh2, e1, e2, m2, e3⟩, e, w⟩ := x
      have : j' = j2 := by rw [p] at a2; exact Option.some.inj a2
      subst this
      exact ⟨Or.inl ⟨_, p, b2, c2, q⟩, ⟨sh2, m2, e1, e3, e2⟩, e, w⟩

/-- A rested pass leaves nothing for the planner to take up. -/
theorem Rested.takeWaiting (h : Rested t sl k cs ot) : t.takeWaiting = t := by
  unfold State.takeWaiting
  simp [h.waiting]

/-! ## What a pass leaves of its sheet and its order -/

/-- What of a sheet its placement pass leaves as it is. -/
def Sheet.kept (sh : Sheet) : Option Ticket × Nat × Nat × Nat × Option (OrderOutcome × Detail) × Bool × ReportState :=
  (sh.ticket, sh.index, sh.attempt, sh.start, sh.ending, sh.made, sh.report)

/-- What of an order's results the placement pass of its sheet leaves as it is. -/
def Results.kept (r : Results) : Nat × Nat := (r.sheetsMade, r.nextRoster)

/-- A step that leaves `Sheet.kept` of the sheet in each slot and `Results.kept` of its order. -/
structure KeepsPlan (s t : State) : Prop where
  sheet : ∀ sl, (t.sheet sl).map Sheet.kept = (s.sheet sl).map Sheet.kept
  results : ∀ sl, (t.orderResults sl).map Results.kept = (s.orderResults sl).map Results.kept

theorem KeepsPlan.refl (s : State) : KeepsPlan s s := ⟨fun _ => rfl, fun _ => rfl⟩

theorem KeepsPlan.trans {s t u : State} (h : KeepsPlan s t) (g : KeepsPlan t u) : KeepsPlan s u :=
  ⟨fun sl => (g.sheet sl).trans (h.sheet sl), fun sl => (g.results sl).trans (h.results sl)⟩

theorem KeepsPlan.of_control {s t : State} (h : t.control = s.control) : KeepsPlan s t :=
  ⟨fun sl => by rw [State.sheet_of_control h], fun sl => by simp [State.orderResults, h]⟩

theorem KeepsPlan.mapSheet (s : State) (sl : SheetSlot) (f : Sheet → Sheet) (hf : ∀ x, (f x).kept = x.kept) :
    KeepsPlan s (s.mapSheet sl f) := by
  refine ⟨fun other => ?_, fun other => by simp [State.orderResults]⟩
  rw [State.sheet_mapSheet]
  split
  · rename_i h; subst h; cases s.sheet other <;> simp [hf]
  · rfl

theorem KeepsPlan.addCounts (s : State) (sl : SheetSlot) (c : Counts) : KeepsPlan s (s.addCounts sl c) := by
  refine ⟨fun other => by simp [State.addCounts, State.mapResults], fun other => ?_⟩
  have key : ∀ (q : List QueueEntry) (f : QueueEntry → QueueEntry), (∀ e, (f e).slot = e.slot) →
      (∀ e, (f e).results.kept = e.results.kept) →
      (((q.map f).find? fun e => decide (e.slot = some other)).map (·.results)).map Results.kept =
        ((q.find? fun e => decide (e.slot = some other)).map (·.results)).map Results.kept := by
    intro q f h1 h2
    induction q with
    | nil => rfl
    | cons e q ih =>
      simp only [List.map_cons, List.find?_cons, h1]
      split
      · simp [h2]
      · exact ih
  exact key s.control.queue _ (by intro e; dsimp only; split <;> rfl) (by intro e; dsimp only; split <;> rfl)

theorem KeepsPlan.mapJob (s : State) (f : PlanJob → PlanJob) : KeepsPlan s (s.mapJob f) :=
  .of_control (by simp [State.mapJob])

theorem KeepsPlan.awaitRead (s : State) (st : PlanStage) : KeepsPlan s (s.awaitRead st) :=
  .of_control (by simp [State.awaitRead, State.mapJob])

theorem KeepsPlan.placeCell (s : State) (d : CellSeed) (c : Cell) (n : Notes) : KeepsPlan s (s.placeCell d c n) := by
  unfold State.placeCell
  split
  · exact .refl s
  · rename_i j _
    dsimp only
    refine .trans (.mapSheet s j.slot (fun sh => { sh with
      cells := sh.cells ++ [c], frames := sh.frames.modify d.frame fun f => f.takeCell sh.cells.length }) (fun _ => rfl)) ?_
    apply KeepsPlan.of_control
    split <;> simp [State.mapJob]

theorem KeepsPlan.actOnRole (s : State) (d : CellSeed) (a : Addr) (r : Nat) : KeepsPlan s (s.actOnRole d a r).1 := by
  unfold State.actOnRole
  dsimp only
  split
  · exact .placeCell s _ _ _
  · split
    · exact .placeCell s _ _ _
    · exact .awaitRead s _

theorem KeepsPlan.placeStep (s : State) (sl : SheetSlot) (sh : Sheet) (t : Ticket) (j : PlanJob) (st : PlaceStep) :
    KeepsPlan s (s.placeStep sl sh t j st).1 := by
  unfold State.placeStep
  dsimp only
  split
  · exact .of_control rfl
  · exact .of_control rfl
  · dsimp only
    split
    · exact .mapSheet s sl _ (fun _ => rfl)
    · exact .refl s
  · exact .mapSheet s sl _ (fun _ => rfl)
  · split
    · unfold State.placeGridCell
      dsimp only
      generalize (if _ = 0 then _ else _) = used
      split
      · exact .mapJob s _
      · split
        · exact .trans (.mapJob s _) (.awaitRead _ _)
        · exact .trans (.mapJob s _) (.actOnRole _ _ _ _)
    · exact .refl s
  · split
    · exact .actOnRole s _ _ _
    · exact .refl s
  · split
    · unfold State.placeText
      split
      · exact .refl s
      · dsimp only
        split
        · refine .trans ?_ (.awaitRead _ _)
          refine .trans ?_ (.mapJob _ _)
          exact .mapSheet s sl _ (fun _ => rfl)
        · exact .awaitRead s _
    · exact .refl s

theorem KeepsPlan.planComplete (s : State) : KeepsPlan s s.planComplete := by
  unfold State.planComplete
  split
  · exact .refl s
  · rename_i j _
    dsimp only
    refine .trans ?_ (.of_control (by simp [State.clearJob]; rfl))
    refine .trans ?_ (.addCounts _ _ _)
    exact .mapSheet s j.slot _ (fun _ => rfl)

/-- A placement pass, to the read it waits for or to its end, leaves these of the sheets and of the results. -/
theorem KeepsPlan.runPass (steps : List PlaceStep) : ∀ s : State, KeepsPlan s (s.runPass steps) := by
  induction steps with
  | nil => intro s; exact .planComplete s
  | cons st rest ih =>
    intro s
    unfold State.runPass
    split
    · exact .refl s
    · split
      · exact .refl s
      · split
        · exact .refl s
        · dsimp only
          rename_i j _ _ sh _ _ k _
          have h := KeepsPlan.trans (.mapJob s _) (.placeStep (s.mapJob fun _ => { j with steps := rest }) j.slot sh k
            { j with steps := rest } st)
          split
          · rename_i s1 heq
            rw [heq] at h
            exact .trans h (ih s1)
          · rename_i s1 heq
            rw [heq] at h
            exact h

end Sys2Proof.Machine
end

