-- ==== Sys2Proof/Laws/Attempts.lean ====
section
/-! SUPPORT. What a spoil does to its sheet (R113, R177, R178), and what letting a slot go leaves of an ended sheet. -/

namespace Sys2Proof.Machine

/-- The sheet in a slot keeps these through the renewal of its references: its attempt number, ticket, ending, frame
placements and the number of its cells. -/
structure KeepsSheet (s : State) (sl : SheetSlot) (n : Nat) (sh0 : Sheet) : Prop where
  sheet : ∃ sh, s.sheet sl = some sh ∧ sh.attempt = n ∧ sh.ticket = sh0.ticket ∧ sh.ending = sh0.ending ∧
    sh.frames = sh0.frames ∧ sh.cells.length = sh0.cells.length

variable {s t : State} {sl : SheetSlot} {n : Nat} {sh0 : Sheet}

theorem KeepsSheet.of_eq (h : KeepsSheet s sl n sh0) (e : t.sheet sl = s.sheet sl) : KeepsSheet t sl n sh0 :=
  ⟨by rw [e]; exact h.sheet⟩

theorem KeepsSheet.mapSheet (h : KeepsSheet s sl n sh0) (f : Sheet → Sheet) (h1 : ∀ x, (f x).attempt = x.attempt)
    (h2 : ∀ x, (f x).ticket = x.ticket) (h3 : ∀ x, (f x).ending = x.ending) (h4 : ∀ x, (f x).frames = x.frames)
    (h5 : ∀ x, (f x).cells.length = x.cells.length) : KeepsSheet (s.mapSheet sl f) sl n sh0 := by
  obtain ⟨sh, a, b, c, d, e, g⟩ := h.sheet
  exact ⟨f sh, by simp [State.sheet_mapSheet, a], by rw [h1, b], by rw [h2, c], by rw [h3, d], by rw [h4, e], by rw [h5, g]⟩

theorem State.sheet_mapSlot (s : State) (i : Fin 128) (w : Way) (f : StoreSlot → StoreSlot) (sl : SheetSlot) :
    (s.mapSlot i w f).sheet sl = s.sheet sl := by simp [State.mapSlot]

theorem State.sheet_mapScratch (s : State) (p : SheetSlot) (i : Fin 64) (f : ScratchSlot → ScratchSlot) (sl : SheetSlot) :
    (s.mapScratch p i f).sheet sl = s.sheet sl := by simp [State.mapScratch]

theorem State.sheet_appendBuild (s : State) (r : TileRef) (k : TileKey) (src : Source) (sl : SheetSlot) :
    (s.appendBuild r k src).sheet sl = s.sheet sl := by simp [State.appendBuild]

theorem KeepsSheet.raisePending (h : KeepsSheet s sl n sh0) : KeepsSheet (s.raisePending sl) sl n sh0 :=
  h.mapSheet _ (by simp) (by simp) (by simp) (by simp) (by simp)

theorem KeepsSheet.deliverFit (h : KeepsSheet s sl n sh0) (r : TileRef) (f : FitRecord) :
    KeepsSheet (s.deliverFit sl r f) sl n sh0 := by
  obtain ⟨sh, a, b, c, d, e, g⟩ := h.sheet
  unfold State.deliverFit
  simp only [a]
  exact ⟨{ sh with cells := sh.cells.map fun c => if c.uses r then c.receiveFit f else c },
    by simp [State.addCounts, State.mapResults, State.sheet_setSheet], b, c, d, e, by simpa using g⟩

theorem KeepsSheet.scratchLookup (h : KeepsSheet s sl n sh0) (k : TileKey) (src : Source) :
    KeepsSheet (s.scratchLookup sl k src).1 sl n sh0 := by
  unfold State.scratchLookup
  dsimp only
  split
  · split
    · exact h
    · exact h.raisePending
  · exact KeepsSheet.raisePending (h.of_eq (by simp [State.sheet_appendBuild]))

theorem KeepsSheet.lookup (h : KeepsSheet s sl n sh0) (k : TileKey) (src : Source) :
    KeepsSheet (s.lookup sl k src).1 sl n sh0 := by
  have hj : ∀ w, KeepsSheet (s.hitOrJoin sl k w).1 sl n sh0 := by
    intro w
    unfold State.hitOrJoin
    dsimp only
    split
    · dsimp only
      split
      · exact h.of_eq (by simp [State.sheet_mapSlot])
      · exact h.of_eq (by simp [State.sheet_mapSlot])
    · exact KeepsSheet.raisePending (h.of_eq (by simp [State.sheet_mapSlot]))
  unfold State.lookup
  split
  · exact h.scratchLookup k src
  · split
    · exact hj _
    · exact h.scratchLookup k src
  · split
    · exact hj _
    · split
      · unfold State.fillWay
        dsimp only
        exact KeepsSheet.raisePending (h.of_eq (by simp [State.sheet_appendBuild]))
      · exact h.scratchLookup k src

theorem KeepsSheet.replaceRef (h : KeepsSheet s sl n sh0) (i : Fin 128) (w : Way) :
    KeepsSheet (s.replaceRef sl i w) sl n sh0 := by
  unfold State.replaceRef
  split
  · exact h
  · split
    · exact h
    · rename_i _ c _ _ src _
      dsimp only
      have h1 : KeepsSheet (s.mapSlot i w fun x => x.leave sl) sl n sh0 := h.of_eq (State.sheet_mapSlot _ _ _ _ _)
      have h2 := h1.lookup c.key src
      refine KeepsSheet.mapSheet ?_ _ (by simp [Sheet.refill]) (by simp [Sheet.refill]) (by simp [Sheet.refill])
        (by simp [Sheet.refill]) (by simp [Sheet.refill])
      split
      · exact (h2.mapSheet _ (by simp) (by simp) (by simp) (by simp) (by simp)).deliverFit _ _
      · exact h2.mapSheet _ (by simp) (by simp) (by simp) (by simp) (by simp)

theorem KeepsSheet.renewRef (h : KeepsSheet s sl n sh0) (r : TileRef) : KeepsSheet (s.renewRef sl r) sl n sh0 := by
  unfold State.renewRef
  split
  · split
    · exact h.replaceRef _ _
    · exact h
  · split
    · unfold State.rebuildScratch
      split
      · exact h
      · split
        · exact h
        · exact KeepsSheet.raisePending (h.of_eq (by simp [State.sheet_appendBuild, State.sheet_mapScratch]))
    · exact h

theorem KeepsSheet.foldRenew (rs : List TileRef) :
    ∀ {s : State}, KeepsSheet s sl n sh0 → KeepsSheet (rs.foldl (fun s r => s.renewRef sl r) s) sl n sh0 := by
  induction rs with
  | nil => intro s h; exact h
  | cons r rest ih => intro s h; exact ih (h.renewRef r)

/-- A second pass raises the attempt number, and leaves the sheet FILLING or READY by its pending builds (R178). -/
theorem State.secondPass_sheet (s : State) (sl : SheetSlot) (sh : Sheet) (h : s.sheet sl = some sh) :
    ∃ sh', (s.secondPass sl).sheet sl = some sh' ∧ sh'.attempt = sh.attempt + 1 ∧
      sh'.state = (if 0 < sh'.pendingBuilds then .filling else .ready) ∧ sh'.ending = sh.ending ∧
      sh'.ticket = sh.ticket ∧ sh'.cells.length = sh.cells.length ∧ sh'.frames = sh.frames := by
  have h0 : KeepsSheet (s.mapSheet sl fun sh => { sh with attempt := sh.attempt + 1 }) sl (sh.attempt + 1) sh :=
    ⟨{ sh with attempt := sh.attempt + 1 }, by simp [State.sheet_mapSheet, h], rfl, rfl, rfl, rfl, rfl⟩
  have h1 : KeepsSheet ((s.mapSheet sl fun sh => { sh with attempt := sh.attempt + 1 }).renewRefs sl) sl
      (sh.attempt + 1) sh := by
    unfold State.renewRefs
    split
    · exact h0
    · exact KeepsSheet.foldRenew _ h0
  obtain ⟨sh', a, b, c, d, e, g⟩ := h1.sheet
  unfold State.secondPass
  dsimp only
  rw [State.sheet_mapSheet, if_pos rfl, a]
  exact ⟨_, rfl, b, rfl, d, c, g, e⟩

/-! ## Ended sheets and the slot -/

/-- An ended sheet that is FINISHED: its slot is FREE once its three parts are done, and is kept otherwise (R175). -/
theorem State.letGo_ended (s : State) (sl : SheetSlot) (sh : Sheet) (o : OrderOutcome) (d : Detail)
    (h : s.sheet sl = some sh) (hs : sh.state = .finished) (he : sh.ending = some (o, d)) :
    s.letGo sl = if s.partsDone sl then s.freeSlot sl else s := by
  unfold State.letGo
  simp only [h, hs, true_and]
  by_cases hp : s.partsDone sl = true
  · simp [hp, continues, he]
  · simp [hp]

/-- A slot in a state other than FINISHED is not let go. -/
theorem State.letGo_stays (s : State) (sl : SheetSlot) (sh : Sheet) (h : s.sheet sl = some sh)
    (hs : sh.state ≠ .finished) : s.letGo sl = s := by
  unfold State.letGo
  simp [h, hs]

/-- A FREE slot stays FREE. -/
theorem State.letGo_free (s : State) (sl : SheetSlot) (h : s.sheet sl = none) : s.letGo sl = s := by
  unfold State.letGo
  simp [h]

/-- An ending and a letting-go: the slot is FREE with its order FINISHED, or FINISHED until its parts are done. -/
theorem State.endSheet_letGo (s : State) (sl : SheetSlot) (sh : Sheet) (o : OrderOutcome) (d : Detail)
    (h : s.sheet sl = some sh) (hs : sh.state ≠ .finished) (he : sh.ending = none) (hr : sh.report = .none) :
    let t := (s.endSheet sl o d).letGo sl
    (s.linkHolds sl = false → s.writerServes sl = false →
      t.control.queue = queueEnded s.control.queue sl o d ∧ t.sheet sl = none ∧
      t.sheet (otherSlot sl) = (s.sheet (otherSlot sl)).map (fun x => { x with first := true }) ∧
      HoldsReleased s t sl ∧ WalkerUnblocked s t) ∧
    (s.linkHolds sl = true ∨ s.writerServes sl = true → t.control.queue = s.control.queue ∧ HoldsReleased s t sl ∧
      ∃ sh', t.sheet sl = some sh' ∧ sh'.state = .finished ∧ sh'.ending = some (o, d)) := by
  intro t
  constructor
  · intro h1 h2
    have := State.endSheet_frees s sl sh o d h hs he hr h1 h2
    have e : t = s.endSheet sl o d := State.letGo_free _ _ this.2.1
    rw [e]; exact this
  · intro h1
    have hi : s.sheetIs sl (fun sh => sh.ending.isNone && sh.state != .finished) = true := by
      simp [State.sheetIs, h, he, hs]
    set s1 := (s.mapSheet sl fun sh => { sh with ending := some (o, d), state := .finished }).releaseSheet sl with hs1
    have hsh : s1.sheet sl = some { sh with ending := some (o, d), state := .finished, pendingBuilds := 0 } := by
      rw [hs1, State.releaseSheet_sheet, if_pos rfl, State.sheet_mapSheet, if_pos rfl, h]; rfl
    have e1 : s1.linkHolds sl = s.linkHolds sl := by simp [State.linkHolds, hs1]
    have e2 : s1.writerServes sl = s.writerServes sl := by simp [State.writerServes, hs1]
    have hp : s1.partsDone sl = false := by
      simp only [State.partsDone, e1, e2]
      rcases h1 with h1 | h1 <;> simp [h1]
    have hf : s.endSheet sl o d = s1 := by
      unfold State.endSheet
      rw [if_pos hi]
      unfold State.freeIfEnded
      rw [← hs1]
      simp [hp]
    have et : t = s1 := by
      show (s.endSheet sl o d).letGo sl = s1
      rw [hf, State.letGo_ended s1 sl _ o d hsh rfl rfl, hp]; rfl
    rw [et]
    exact ⟨by simp [hs1], (State.releaseSheet_released _ sl).congr (by simp) (by simp) (by simp) rfl rfl rfl, _, hsh, rfl,
      rfl⟩

/-- The report of a spoil for the current attempt, and the letting-go of its slot (R175, R177, R178). -/
theorem State.spoil_spec (s : State) (a : Attempt) (sh : Sheet) (k : Ticket) (cause : Detail) (h : InHand s a sh k) :
    Spoiled s ((s.spoil a cause).letGo a.slot) a sh k cause := by
  have hc : s.isCurrent a = true := by
    unfold State.isCurrent State.sheetIs
    simp only [h.sheet]
    rcases h.state with e | e <;> simp [Sheet.atWork, e, h.number, h.ending]
  have ht : ((s.ticketOf a.slot).map (·.retryBudget)).getD 0 = k.retryBudget := by
    simp [State.ticketOf, h.sheet, h.ticket]
  have hsr : (s.raise .sheetSpoiled).sheet a.slot = some sh := by
    rw [State.sheet_of_control (s := s) (by simp)]; exact h.sheet
  have hnf : sh.state ≠ .finished := by rcases h.state with e | e <;> simp [e]
  have hev : (s.raise .sheetSpoiled).hasEvent .sheetSpoiled = true := by
    simp [State.hasEvent, State.raise, State.setWindow, Event.bit]
  by_cases hb : a.number < k.retryBudget + 1
  · have e : s.spoil a cause = (s.raise .sheetSpoiled).secondPass a.slot := by
      simp [State.spoil, hc, ht, hb]
    obtain ⟨sh', a1, a2, a3, a4, a5, a6, a7⟩ := State.secondPass_sheet _ a.slot sh hsr
    have hl : (s.spoil a cause).letGo a.slot = (s.raise .sheetSpoiled).secondPass a.slot := by
      rw [e]; exact State.letGo_stays _ _ sh' a1 (by rw [a3]; split <;> simp)
    rw [hl]
    refine ⟨?_, fun _ => ⟨sh', a1, a2, a3, by rw [a4, h.ending], by rw [a5, h.ticket], a6, a7⟩, ?_, ?_, ?_⟩
    · simpa [State.hasEvent] using hev
    · intro hh; have := h.number; omega
    · intro hh; have := h.number; omega
    · intro hh; have := h.number; omega
  · have e : s.spoil a cause = (s.raise .sheetSpoiled).endSheet a.slot .spoiled cause := by
      simp [State.spoil, hc, ht, hb]
    rw [e]
    have hw := State.endSheet_letGo (s.raise .sheetSpoiled) a.slot sh .spoiled cause hsr hnf h.ending h.report
    have hlk : ((s.raise .sheetSpoiled).endSheet a.slot .spoiled cause).link = s.link := by simp
    have hwr : ((s.raise .sheetSpoiled).endSheet a.slot .spoiled cause).writer = s.writer := by simp
    have hlk2 : (((s.raise .sheetSpoiled).endSheet a.slot .spoiled cause).letGo a.slot).linkHolds a.slot =
        (s.raise .sheetSpoiled).linkHolds a.slot := by simp [State.linkHolds]
    have hwr2 : (((s.raise .sheetSpoiled).endSheet a.slot .spoiled cause).letGo a.slot).writerServes a.slot =
        (s.raise .sheetSpoiled).writerServes a.slot := by simp [State.writerServes]
    have hrs : ∀ t, HoldsReleased (s.raise .sheetSpoiled) t a.slot → HoldsReleased s t a.slot := fun _ x =>
      x.congr (by simp) (by simp) (by simp) rfl rfl rfl
    refine ⟨?_, ?_, ?_, ?_, ?_⟩
    · simpa [State.hasEvent] using hev
    · intro hh; have := h.number; omega
    · intro _ h1 h2
      rw [hlk2] at h1; rw [hwr2] at h2
      obtain ⟨p, q, _, _, u⟩ := hw.1 h1 h2
      exact ⟨q, by rw [p]; simp, u.congr (by simp) (by simp) rfl rfl⟩
    · intro _ h1
      rw [hlk2, hwr2] at h1
      obtain ⟨p, _, sh', q, r, t⟩ := hw.2 h1
      exact ⟨sh', q, r, t, by rw [p]; simp⟩
    · intro _
      by_cases h1 : (s.raise .sheetSpoiled).linkHolds a.slot = false ∧ (s.raise .sheetSpoiled).writerServes a.slot = false
      · exact hrs _ (hw.1 h1.1 h1.2).2.2.2.1
      · refine hrs _ (hw.2 ?_).2.1
        rcases Bool.eq_false_or_eq_true ((s.raise .sheetSpoiled).linkHolds a.slot) with e | e
        · exact .inl e
        · exact .inr (by simpa [e] using h1)

/-! ## Finished sheets (R68, R174, R175) -/

theorem queueMade_find (q : List QueueEntry) (sl : SheetSlot) (n : Nat) :
    ((queueMade q sl n).find? fun e => decide (e.slot = some sl)) =
      (q.find? fun e => decide (e.slot = some sl)).map fun e =>
        { e with results := { e.results with sheetsMade := e.results.sheetsMade + 1, nextRoster := n } } := by
  induction q with
  | nil => rfl
  | cons e q ih =>
    by_cases h : e.slot = some sl
    · simp [queueMade, h]
    · have : queueMade (e :: q) sl n = e :: queueMade q sl n := by simp [queueMade, h]
      rw [this]
      simp only [List.find?_cons, h, decide_false]
      exact ih

/-- A sheet made with the link and the Writer done: what becomes of its slot and of its order. -/
theorem State.finishSheet_made (s : State) (sl : SheetSlot) (sh : Sheet) (k : Ticket) (h : s.sheet sl = some sh)
    (hk : sh.ticket = some k) (he : sh.ending = none) (h1 : s.linkHolds sl = false) (h2 : s.writerServes sl = false) :
    SheetMade s (s.finishSheet sl) sl sh k := by
  set f : Sheet := { sh with
    state := .finished, made := true, report := if k.reportAddr = 0#64 then .none else .due, pendingBuilds := 0 } with hf
  set s3 := ((s.mapResults sl fun r => { r with sheetsMade := r.sheetsMade + 1, nextRoster := sh.reached }).mapSheet sl
    fun sh => { sh with state := .finished, made := true, report := if k.reportAddr = 0#64 then .none else .due }
    ).releaseSheet sl with hs3
  have e : s.finishSheet sl = s3.letGo sl := by
    unfold State.finishSheet
    simp only [h, hk, Option.map_some]
    rw [hs3]
    by_cases hr : k.reportAddr = 0#64
    · simp [hr]
    · simp [hr]
  have hsh : s3.sheet sl = some f := by
    rw [hs3, State.releaseSheet_sheet, if_pos rfl, State.sheet_mapSheet, if_pos rfl]
    simp [State.mapResults, h, hf]
  have hq : s3.control.queue = queueMade s.control.queue sl sh.reached := by
    simp [hs3, State.mapResults, State.mapQueue, queueMade]
  have hl : s3.linkHolds sl = false := by rw [← h1]; simp [State.linkHolds, hs3]
  have hw : s3.writerServes sl = false := by rw [← h2]; simp [State.writerServes, hs3]
  have hh := State.releaseSheet_released
    ((s.mapResults sl fun r => { r with sheetsMade := r.sheetsMade + 1, nextRoster := sh.reached }).mapSheet sl
    fun sh => { sh with state := .finished, made := true, report := if k.reportAddr = 0#64 then .none else .due }) sl
  rw [← hs3] at hh
  have hrel : ∀ t : State, t.store = s3.store → t.builder = s3.builder → t.port = s3.port → HoldsReleased s t sl :=
    fun t a b c => hh.congr (by simp [State.mapResults]) (by simp [State.mapResults]) (by simp [State.mapResults]) a b c
  have ho : s3.orderResults sl = (s.orderResults sl).map fun r =>
      { r with sheetsMade := r.sheetsMade + 1, nextRoster := sh.reached } := by
    unfold State.orderResults
    rw [hq, queueMade_find]
    cases s.control.queue.find? fun e => decide (e.slot = some sl) <;> rfl
  have hpl : s3.planner = s.planner := by simp [hs3]
  by_cases hr : k.reportAddr = 0#64
  · have hp : s3.partsDone sl = true := by simp [State.partsDone, hl, hw, State.sheetIs, hsh, hf, hr]
    have key : s3.letGo sl = if continues f ((s3.orderResults sl).getD Results.blank) then
          (s3.setSheet sl (some f.continuation)).enterPlanning sl
        else if sh.carry then (s3.mapSheet sl fun sh => { sh with ending := some (.partialRoster, .none) }).freeSlot sl
        else s3.freeSlot sl := by
      unfold State.letGo
      simp [hsh, hp, hf, he]
    have hst : ∀ x : State, (x.freeSlot sl).store = x.store := by intro x; simp
    have hdone : sh.carry = false → s3.letGo sl = s3.freeSlot sl := by
      intro hc; rw [key]; simp [continues, hf, hc]
    have hpart : sh.carry = true → (k.autoLimit = none ∨
        (∃ l r, k.autoLimit = some l ∧ s.orderResults sl = some r ∧ l ≤ r.sheetsMade + 1)) →
        s3.letGo sl = (s3.mapSheet sl fun sh => { sh with ending := some (.partialRoster, .none) }).freeSlot sl := by
      intro hc ha
      have : continues f ((s3.orderResults sl).getD Results.blank) = false := by
        rcases ha with ha | ⟨l, r, ha, hb, hd⟩
        · simp [continues, hf, hk, ha]
        · simp [continues, hf, hk, ha, ho, hb]; omega
      rw [key]; simp [this, hc]
    have hnext : ∀ l r, sh.carry = true → k.autoLimit = some l → s.orderResults sl = some r → r.sheetsMade + 1 < l →
        s3.letGo sl = (s3.setSheet sl (some f.continuation)).enterPlanning sl := by
      intro l r hc ha hb hd
      have : continues f ((s3.orderResults sl).getD Results.blank) = true := by
        simp [continues, hf, hk, ha, ho, hb, hc, he, hd]
      rw [key]; simp [this]
    rw [e]
    constructor
    · intro hc _
      rw [hdone hc]
      refine ⟨?_, ?_, (s3.freeSlot_walker sl (by simp [hsh])).congr (by simp [hs3]) (by simp [hs3]) rfl rfl⟩ <;>
        (unfold State.freeSlot; simp only [hsh]; have hu : ∀ x : State, x.unblock.control = x.control := by intro x; simp)
      · rw [State.sheet_of_control (hu _), State.sheet_mapSheet, if_neg (ne_otherSlot sl), State.sheet_setSheet]; simp
      · simp [State.mapQueue, hq, finalResults, hf, he, Counts.any]
    · intro hc ha _
      rw [hpart hc ha]
      obtain ⟨p, q, _⟩ := State.freeSlot_ended
        (s3.mapSheet sl fun sh => { sh with ending := some (.partialRoster, .none) }) sl
        { f with ending := some (.partialRoster, .none) } .partialRoster .none
        (by simp [State.sheet_mapSheet, hsh]) rfl
      exact ⟨q, by rw [p]; simp [hq], (State.freeSlot_walker _ sl (by simp [State.sheet_mapSheet, hsh])).congr
        (by simp [hs3]) (by simp [hs3]) rfl rfl⟩
    · intro l r hc ha hb hd _ hj
      rw [hnext l r hc ha hb hd]
      have : (s3.setSheet sl (some f.continuation)).planner.job = s.planner.job := by simp [hpl]
      unfold State.enterPlanning
      cases hjj : s.planner.job with
      | none => exact absurd hjj hj
      | some j =>
        rw [hjj] at this
        simp only [this]
        refine ⟨by simp [hpl, hjj], by simp [hq], ?_⟩
        simp [State.sheet_setSheet, Sheet.continuation, hf]
    · intro l r hc ha hb hd _ hj hw0 hp hm
      have e1 : (s3.setSheet sl (some f.continuation)).planner = s.planner := by simp [hpl]
      have e2 : (s3.setSheet sl (some f.continuation)).sheet sl = some f.continuation := by
        rw [State.sheet_setSheet, if_pos rfl]
      have e3 : f.continuation.ticket = some k := hk
      have e4 : (s3.setSheet sl (some f.continuation)).refusesPress k = true := by
        simp [State.refusesPress, hp, hm, hs3]
      have hx : (s3.setSheet sl (some f.continuation)).enterPlanning sl =
          (s3.setSheet sl (some f.continuation)).planningEnds sl .refused .pressOff := by
        simp only [State.enterPlanning, State.beginPlanning, e1, hj, e2, e3, e4, if_true]
      have hsh4 : (((s3.setSheet sl (some f.continuation)).clearJob).clearPlacement sl).sheet sl =
          some { f.continuation with frames := [], cells := [] } := by
        simp [State.clearPlacement, State.sheet_mapSheet, State.clearJob, e2]
      have hl4 : (((s3.setSheet sl (some f.continuation)).clearJob).clearPlacement sl).linkHolds sl = false := by
        rw [← hl]; simp [State.linkHolds]
      have hw4 : (((s3.setSheet sl (some f.continuation)).clearJob).clearPlacement sl).writerServes sl = false := by
        rw [← hw]; simp [State.writerServes]
      obtain ⟨p, q, _, _, u⟩ := State.endSheet_frees _ sl _ .refused .pressOff hsh4 (by simp [Sheet.continuation])
        (by simpa [Sheet.continuation] using he) rfl hl4 hw4
      rw [hnext l r hc ha hb hd, hx]
      refine ⟨by simp [State.planningEnds, State.clearJob, hpl, hw0, Planner.cleared], q, ?_, u.congr (by simp [hs3]) (by simp [hs3]) rfl rfl⟩
      rw [State.planningEnds, p]
      simp [hq]
    · intro l r hc ha hb hd _ hj hw0 hp
      have e1 : (s3.setSheet sl (some f.continuation)).planner = s.planner := by simp [hpl]
      have e2 : (s3.setSheet sl (some f.continuation)).sheet sl = some f.continuation := by
        rw [State.sheet_setSheet, if_pos rfl]
      have e3 : f.continuation.ticket = some k := hk
      have e4 : (s3.setSheet sl (some f.continuation)).refusesPress k = false := by
        rcases hp with hp | hp
        · simp [State.refusesPress, hp]
        · simp [State.refusesPress, hs3, hp]
      rw [hnext l r hc ha hb hd]
      simp only [State.enterPlanning, State.beginPlanning, e1, hj, e2, e3, e4, Bool.false_eq_true, if_false,
        State.beginPass]
      have hpass : Passing ((s3.setSheet sl (some f.continuation)).setPlanner { s.planner with
          job := some { PlanJob.fresh sl .roster with
            rosterIndex := f.continuation.start, grids := frameGrids f.continuation.frames }
          frameStack := []
          cursor := if frameGrids f.continuation.frames = [] then none else some ⟨0, 0, 0⟩ }) sl k []
          (s3.sheet (otherSlot sl)) :=
        ⟨⟨_, rfl, rfl, rfl⟩, ⟨f.continuation, by simpa using e2, e3, f.continuation.cells, by simp⟩,
          by simp [State.sheet_setSheet, otherSlot_ne], hw0⟩
      have hrest := hpass.runPass (frameSteps f.continuation.frames)
      have hkeep := KeepsPlan.runPass (frameSteps f.continuation.frames)
        ((s3.setSheet sl (some f.continuation)).setPlanner { s.planner with
          job := some { PlanJob.fresh sl .roster with
            rosterIndex := f.continuation.start, grids := frameGrids f.continuation.frames }
          frameStack := []
          cursor := if frameGrids f.continuation.frames = [] then none else some ⟨0, 0, 0⟩ })
      refine ⟨hrest.rests, ?_, ?_⟩
      · have h9 := hkeep.results sl
        have h8 : ((s3.setSheet sl (some f.continuation)).setPlanner { s.planner with
          job := some { PlanJob.fresh sl .roster with
            rosterIndex := f.continuation.start, grids := frameGrids f.continuation.frames }
          frameStack := []
          cursor := if frameGrids f.continuation.frames = [] then none else some ⟨0, 0, 0⟩ }).orderResults sl =
            s3.orderResults sl := by simp [State.orderResults]
        rw [h8, ho, hb] at h9
        exact h9
      · obtain ⟨sh', _, g1, _, _⟩ := hrest.sheet
        have h9 := hkeep.sheet sl
        rw [g1] at h9
        simp only [State.sheet_setPlanner, e2, Option.map_some, Option.some.injEq, Sheet.kept, Prod.mk.injEq] at h9
        obtain ⟨b1, b2, b3, b4, b5, b6, b7⟩ := h9
        exact ⟨sh', g1, by rw [b1, e3], by rw [b2]; rfl, by rw [b3]; rfl, by rw [b4]; rfl,
          by rw [b5]; simpa [Sheet.continuation] using he, by rw [b6]; rfl, by rw [b7]; rfl⟩
    · intro hc; exact absurd hr hc
    · intro hc
      by_cases hcc : sh.carry = true
      · rcases hc with hc | hc | hc | hc
        · exact absurd hcc (by simp [hc])
        · rw [hpart hcc (Or.inl hc)]; exact hrel _ (by simp) (by simp) (by simp)
        · exact absurd hr hc
        · rw [key]
          split_ifs
          · cases hj : s.planner.job with
            | none => exact absurd hj hc
            | some j =>
              have : (s3.setSheet sl (some f.continuation)).planner.job = some j := by simp [hpl, hj]
              unfold State.enterPlanning
              rw [this]
              exact hrel _ (by simp) (by simp) (by simp)
          · exact hrel _ (by simp) (by simp) (by simp)
      · rw [hdone (by simpa using hcc)]; exact hrel _ (by simp) (by simp) (by simp)
  · have hp : s3.partsDone sl = false := by simp [State.partsDone, State.sheetIs, hsh, hf, hr]
    have hx : s3.letGo sl = s3 := by
      unfold State.letGo
      simp [hsh, hp]
    rw [e, hx]
    constructor
    · intro _ hc; exact absurd hc hr
    · intro _ _ hc; exact absurd hc hr
    · intro _ _ _ _ _ _ hc; exact absurd hc hr
    · intro _ _ _ _ _ _ hc; exact absurd hc hr
    · intro _ _ _ _ _ _ hc; exact absurd hc hr
    · intro _; exact ⟨hq, by rw [hsh, hf]; simp [hr]⟩
    · intro _; exact hrel _ rfl rfl rfl

end Sys2Proof.Machine
end

