-- ==== Sys2Proof/Laws/Port.lean ====
section
/-! SUPPORT. What the Memory Port's operations do: the outstanding count and the hold (R189, R192), and the fields that a
raised event changes (R210). -/

namespace Sys2Proof.Machine

/-- A unit that starts raises the outstanding count by one and changes nothing else of the port (R189). -/
@[simp] theorem State.beginUnit_port (s : State) :
    s.beginUnit.port = { s.port with outstanding := s.port.outstanding + 1 } := rfl

/-- A unit that ends lowers the outstanding count by one (R189). -/
@[simp] theorem State.endUnit_outstanding (s : State) : s.endUnit.port.outstanding = s.port.outstanding - 1 := by
  unfold State.endUnit
  dsimp only
  split <;> simp

/-- A unit that ends settles a DRAINING hold whose last unit it is, and leaves any other hold as it is (R192). -/
@[simp] theorem State.endUnit_hold (s : State) :
    s.endUnit.port.hold = if s.port.hold = .draining ∧ s.port.outstanding - 1 = 0 then .held else s.port.hold := by
  unfold State.endUnit
  dsimp only
  split <;> simp

/-- The window timer stops when a unit that ends settles the hold (R192). -/
@[simp] theorem State.endUnit_windowTimer (s : State) :
    s.endUnit.port.windowTimer =
      if s.port.hold = .draining ∧ s.port.outstanding - 1 = 0 then none else s.port.windowTimer := by
  unfold State.endUnit
  dsimp only
  split <;> simp

/-- A discarded unit that completes lowers the outstanding count by one, or there is none and nothing changes (R189). -/
theorem State.finishDiscarded_outstanding (s : State) (u : DiscardedUnit) :
    (s.finishDiscarded u).port.outstanding = if u ∈ s.port.discarded then s.port.outstanding - 1 else s.port.outstanding := by
  unfold State.finishDiscarded
  split <;> simp

/-- A raised event's flag is set, and every other flag is as it was (R210). -/
theorem State.hasEvent_raise (s : State) (e f : Event) : (s.raise e).hasEvent f = (s.hasEvent f || e == f) := by
  cases e <;> cases f <;> simp [State.hasEvent, State.raise, Event.bit]

end Sys2Proof.Machine
end

