-- ==== Sys2Proof/Laws/Endings.lean ====
section
/-! SUPPORT. What a buffer given back starts (R134 to R136); what the ends of attempts do at the band buffers and the Composer
(R144) and at the Proof Writer (R170), one by one and in an abandon (R186); what they leave of a slot that an attempt ended
before held (R175); and what a work that finds standing errors again logs (R197). -/

namespace Sys2Proof.Machine

/-! ## Buffers (R133, R144) -/

/-- Bytes of a buffer, one by one. -/
theorem Buffer.bytes_eq (x : Buffer) (i n : Nat) : x.bytes i n = (List.range n).map fun j => x.byte (i + j) := by
  apply List.ext_getElem?
  intro j
  simp only [Buffer.bytes, Buffer.byte, slice, List.drop_zero, List.getElem?_take, List.getElem?_map]
  split
  · rename_i h
    rw [List.getElem?_range h]
    simp only [Option.map_some, List.getElem?_append, List.length_drop, List.getElem?_drop, List.getElem?_replicate,
      List.getD_eq_getElem?_getD]
    by_cases h' : i + j < x.pixels.length
    · rw [if_pos (by omega), List.getElem?_eq_getElem h', Option.getD_some]
    · rw [if_neg (by omega), if_pos (by omega), List.getElem?_eq_none (by omega), Option.getD_none]
  · rename_i h
    rw [List.getElem?_eq_none (by simpa using h)]
    rfl

/-- A byte of a buffer after a write from its first byte on. -/
theorem Buffer.write_byte (x : Buffer) (bs : List Byte) (i : Nat) :
    (x.write bs).byte i = if i < bs.length then bs.getD i 0#8 else x.byte i := by
  simp only [Buffer.byte, Buffer.write, List.getD_eq_getElem?_getD, List.getElem?_append, List.getElem?_drop]
  split
  · rfl
  · rw [show bs.length + (i - bs.length) = i by omega]

theorem Composer.endAttempt_buf (c : Composer) (a : Attempt) (i : BufferId) :
    ({ c with bufX := c.bufX.endAttempt a, bufY := c.bufY.endAttempt a } : Composer).buf i = (c.buf i).endAttempt a := by
  cases i <;> rfl

/-- A buffer depends on the two buffers of the Composer alone. -/
theorem Composer.buf_congr {c d : Composer} (hx : d.bufX = c.bufX) (hy : d.bufY = c.bufY) (i : BufferId) :
    d.buf i = c.buf i := by
  cases i <;> assumption

/-- What the start of a painting does to the buffers: the EMPTY buffer of the next band becomes FILLING with a tag of the
attempt, and every other buffer stays (R135, R136). -/
theorem State.paintNext_buf (s : State) (i : BufferId) : s.paintNext.composer.buf i = s.composer.buf i ∨
    ((s.composer.buf i).state = .empty ∧ ∃ a, s.composer.attempt = some a ∧
      (s.paintNext.composer.buf i).state = .filling ∧ (s.paintNext.composer.buf i).tag.map (·.attempt) = some a) := by
  unfold State.paintNext
  split
  · exact .inl rfl
  · rename_i a ha
    split
    · exact .inl rfl
    · rename_i t _
      dsimp only
      split
      · rename_i he
        suffices h : ∀ d : Composer, (∀ j, d.buf j = (s.composer.setBuf (bufferFor s.composer.nextBand)
            { s.composer.buf (bufferFor s.composer.nextBand) with
              state := .filling, tag := some ⟨a, s.composer.nextBand, bandLines t.height s.composer.nextBand⟩,
              poisoned := s.check.poison == .band }).buf j) →
            d.buf i = s.composer.buf i ∨ ((s.composer.buf i).state = .empty ∧ ∃ a, s.composer.attempt = some a ∧
              (d.buf i).state = .filling ∧ (d.buf i).tag.map (·.attempt) = some a) by
          apply h
          intro j
          split <;> exact Composer.buf_congr rfl rfl j
        intro d hd
        rw [hd, Composer.buf_setBuf]
        by_cases hi : i = bufferFor s.composer.nextBand
        · subst hi
          exact .inr ⟨he, a, ha, by simp, by simp⟩
        · exact .inl (if_neg hi)
      · exact .inl (Composer.buf_congr rfl rfl i)

/-- The start of a painting that waits for its buffer, in the same terms. -/
theorem State.kick_buf (s : State) (i : BufferId) : s.kick.composer.buf i = s.composer.buf i ∨
    ((s.composer.buf i).state = .empty ∧ ∃ a, s.composer.attempt = some a ∧
      (s.kick.composer.buf i).state = .filling ∧ (s.kick.composer.buf i).tag.map (·.attempt) = some a) := by
  unfold State.kick
  split
  · exact s.paintNext_buf i
  · exact .inl rfl

/-- With no attempt, or in another state than WAITING, no painting starts. -/
theorem State.kick_idle (s : State) (h : s.composer.attempt = none ∨ s.composer.state ≠ .waiting) : s.kick = s := by
  unfold State.kick State.paintNext
  rcases h with h | h <;> simp [h]

/-- The two buffers take turns (R133). -/
theorem bufferFor_succ_ne (b : Nat) : bufferFor (b + 1) ≠ bufferFor b := by
  unfold bufferFor; split <;> split <;> first | omega | simp

/-- A painting starts where the buffer of its band is EMPTY (R135, R136, R201). -/
theorem State.paintNext_started (s : State) (a : Attempt) (k : Ticket) (ha : s.composer.attempt = some a)
    (hk : s.ticketOf a.slot = some k) (he : (s.composer.buf (bufferFor s.composer.nextBand)).state = .empty) :
    PaintingStarted s s.paintNext a k s.composer.nextBand := by
  let i := bufferFor s.composer.nextBand
  let c := s.composer.setBuf i { s.composer.buf i with
    state := .filling, tag := some ⟨a, s.composer.nextBand, bandLines k.height s.composer.nextBand⟩
    poisoned := s.check.poison == .band }
  have hs : (s.check.standing.filter fun l => !(l == .band i)) = s.check.standing.filter fun l => l ≠ .band i := by
    congr 1; funext l; simp [beq_eq_decide]
  have e : s.paintNext.composer = { c with state := .painting } ∧ s.paintNext.check = { s.check with
      poison := if s.check.poison = .band then .none else s.check.poison
      standing := s.check.standing.filter fun l => l ≠ .band i } := by
    rw [← hs]
    unfold State.paintNext
    simp only [ha, hk, he, if_true]
    by_cases hp : s.check.poison = .band <;> simp [hp, State.mapBuf, State.rewritten, c, i]
  have hb : ∀ j, s.paintNext.composer.buf j = c.buf j := fun j => by rw [e.1]; exact Composer.buf_congr rfl rfl j
  have hx : c.attempt = s.composer.attempt ∧ c.nextBand = s.composer.nextBand := ⟨(s.composer.setBuf_frame _ _).2.1,
    (s.composer.setBuf_frame _ _).2.2.1⟩
  refine ⟨by rw [e.1], by rw [e.1, ← ha]; exact hx.1, by rw [e.1]; exact hx.2, ?_, ?_, by rw [e.2], by rw [e.2], ?_⟩
  · rw [hb, Composer.buf_setBuf, if_pos rfl]; rfl
  · rw [hb, Composer.buf_setBuf, if_neg (bufferFor_succ_ne _)]
  · rw [e.2]; exact ⟨rfl, rfl⟩

/-- A Composer that waits for a buffer which is not EMPTY goes on waiting (R135). -/
theorem State.kick_waits (s : State) (h : s.composer.state = .waiting)
    (he : (s.composer.buf (bufferFor s.composer.nextBand)).state ≠ .empty) : s.kick = s := by
  unfold State.kick State.paintNext
  rw [if_pos h]
  split
  · rfl
  · split
    · rfl
    · dsimp only
      rw [if_neg he, ← h]
      rfl

/-- A buffer given back EMPTY (R134 to R136). -/
theorem State.giveBack_given (s : State) (i : BufferId) : GivenBack s (s.giveBack i) i := by
  have hm : (s.mapBuf i Buffer.emptied).composer =
    s.composer.setBuf i { s.composer.buf i with state := .empty, tag := none } := rfl
  refine ⟨fun h => ?_, fun a h ha hn hne he => ?_, fun a k h ha hka hi => ?_⟩
  · unfold State.giveBack
    rw [State.kick_idle _ (.inr (by simpa using h)), hm]
  · unfold State.giveBack
    rw [State.kick_waits _ (by simpa using h) (by simpa [hm, hne] using he), hm]
  · have := (s.mapBuf i Buffer.emptied).paintNext_started a k (by simp [ha])
      (by unfold State.ticketOf at hka ⊢; rwa [State.sheet_of_control (s := s) (by simp)]) (by simp [hm, hi])
    unfold State.giveBack State.kick
    rw [if_pos (by simpa using h)]
    have hnb : (s.mapBuf i Buffer.emptied).composer.nextBand = s.composer.nextBand := by simp
    rw [hnb] at this
    refine ⟨this.state, this.attempt, this.band, ?_, ?_, this.poison, this.standing, this.uncorrectable⟩
    · rw [this.buffer, hm, Composer.buf_setBuf, if_pos hi, hi]; rfl
    · rw [this.other, hm, Composer.buf_setBuf, if_neg (by rw [← hi]; exact bufferFor_succ_ne _)]

/-- The terms speak of the Composer, of the tickets and of the check log's poison, standing errors and lock. -/
theorem GivenBack.congr {s s' t t' : State} {i : BufferId} (h : GivenBack s t i) (hc : s'.composer = s.composer)
    (hk : ∀ sl, s'.ticketOf sl = s.ticketOf sl) (hp : s'.check.poison = s.check.poison)
    (hs : s'.check.standing = s.check.standing) (hu : s'.check.uncorrectable = s.check.uncorrectable)
    (hl : s'.check.locked = s.check.locked) (hc' : t'.composer = t.composer) (ht' : t'.check = t.check) :
    GivenBack s' t' i := by
  refine ⟨?_, ?_, ?_⟩ <;> simp only [hc, hk, hc']
  · exact h.rests
  · exact h.waits
  · intro a k h1 h2 h3 h4
    have := h.paints a k h1 h2 h3 h4
    exact ⟨by rw [hc']; exact this.state, by rw [hc']; exact this.attempt, by rw [hc']; exact this.band,
      by rw [hc', hc, hp]; exact this.buffer, by rw [hc', hc]; exact this.other, by rw [ht', hp]; exact this.poison,
      by rw [ht', hs]; exact this.standing, by rw [ht', hu, hl]; exact this.uncorrectable⟩

/-- The end of an attempt for the Composer and the buffers, before a waiting painting starts. -/
def endedComposer (c : Composer) (a : Attempt) : Composer :=
  let c1 := { c with bufX := c.bufX.endAttempt a, bufY := c.bufY.endAttempt a }
  if c.attempt = some a then { c1 with state := .idle, attempt := none, nextBand := 0, silenced := [] } else c1

theorem State.endAttempt_eq (s : State) (a : Attempt) : s.endAttempt a = (s.setComposer (endedComposer s.composer a)).kick :=
  rfl

theorem endedComposer_buf (c : Composer) (a : Attempt) (i : BufferId) :
    (endedComposer c a).buf i = (c.buf i).endAttempt a := by
  unfold endedComposer
  dsimp only
  split <;> cases i <;> rfl

theorem endedComposer_attempt (c : Composer) (a : Attempt) :
    (endedComposer c a).attempt = if c.attempt = some a then none else c.attempt := by
  unfold endedComposer
  dsimp only
  split <;> simp_all

/-- The end of an attempt at the buffers and the Composer (R144). -/
theorem State.endAttempt_buffers (s : State) (a : Attempt) : BuffersEnded s (s.endAttempt a) a none := by
  have hk := (s.setComposer (endedComposer s.composer a)).kick_buf
  have hb : ∀ i, (s.setComposer (endedComposer s.composer a)).composer.buf i = (s.composer.buf i).endAttempt a :=
    endedComposer_buf s.composer a
  have ha : (s.setComposer (endedComposer s.composer a)).composer.attempt =
      if s.composer.attempt = some a then none else s.composer.attempt := endedComposer_attempt s.composer a
  refine ⟨?_, ?_, ?_, ?_, ?_⟩
  · rintro i (⟨h1, h2⟩ | h) hc
    · rw [State.endAttempt_eq, State.kick_idle _ (.inl (by rw [ha]; rcases hc with hc | hc <;> simp [hc])), hb]
      simp [Buffer.endAttempt, h1, h2, Buffer.emptied]
    · simp at h
  · rintro i b (⟨h1, h2⟩ | h) hc hne
    · have he : (s.composer.buf i).endAttempt a = (s.composer.buf i).emptied := by simp [Buffer.endAttempt, h1, h2]
      rcases hk i with h | ⟨-, c, hc', h3, h4⟩
      · left; rw [State.endAttempt_eq, h, hb, he]; exact ⟨rfl, rfl⟩
      · right
        rw [ha, hc, if_neg (by simpa using hne)] at hc'
        cases hc'
        exact ⟨h3, h4⟩
    · simp at h
  · intro i h _
    have he : (s.composer.buf i).endAttempt a = s.composer.buf i := by
      rcases h with h | h <;> simp [Buffer.endAttempt, h]
    rcases hk i with h' | ⟨h', -⟩
    · rw [State.endAttempt_eq, h', hb, he]
    · rw [hb, he] at h'
      simp [h'] at h
  · intro i h hn _
    have he : (s.composer.buf i).endAttempt a = s.composer.buf i := by simp [Buffer.endAttempt, hn]
    rcases hk i with h' | ⟨h', -⟩
    · rw [State.endAttempt_eq, h', hb, he]
    · rw [hb, he] at h'
      simp [h'] at h
  · intro h
    rw [State.endAttempt_eq, State.kick_idle _ (.inl (by rw [ha]; simp [h]))]
    simp [endedComposer, h]

/-- The terms speak of the Composer alone. -/
theorem BuffersEnded.congr {s s' t t' : State} {a : Attempt} {e : Option Nat} (h : BuffersEnded s t a e)
    (hs : s'.composer = s.composer) (ht : t'.composer = t.composer) : BuffersEnded s' t' a e := by
  refine ⟨?_, ?_, ?_, ?_, ?_⟩ <;> rw [hs, ht]
  exacts [h.emptied, h.taken, h.busy, h.others, h.current]

/-- The end of an attempt with the buffer of its send given back at the same time (R144, R149, R158, R159). -/
theorem State.endAttempt_giveBack (s : State) (a : Attempt) (b : Nat) :
    BuffersEnded s ((s.endAttempt a).giveBack (bufferFor b)) a (some b) := by
  have h := s.endAttempt_buffers a
  have hm : ∀ i, ((s.endAttempt a).mapBuf (bufferFor b) Buffer.emptied).composer.buf i =
      if i = bufferFor b then ((s.endAttempt a).composer.buf i).emptied else (s.endAttempt a).composer.buf i := by
    intro i
    simp only [State.mapBuf, State.setComposer_composer, Composer.buf_setBuf]
    split <;> simp_all
  have hatt : (s.endAttempt a).composer.attempt = if s.composer.attempt = some a then none else s.composer.attempt := by
    rw [State.endAttempt_eq, (State.kick_frame _).2.2.2.2.2.2.2.2.2.2.1]
    exact endedComposer_attempt s.composer a
  have hma : ((s.endAttempt a).mapBuf (bufferFor b) Buffer.emptied).composer.attempt =
      if s.composer.attempt = some a then none else s.composer.attempt := by
    rw [← hatt]; simp [State.mapBuf]
  have hk := ((s.endAttempt a).mapBuf (bufferFor b) Buffer.emptied).kick_buf
  have hidle : s.composer.attempt = none ∨ s.composer.attempt = some a → (s.endAttempt a).giveBack (bufferFor b) =
      (s.endAttempt a).mapBuf (bufferFor b) Buffer.emptied := fun hc =>
    State.kick_idle _ (.inl (by rw [hma]; rcases hc with hc | hc <;> simp [hc]))
  have hbase : s.composer.attempt = none ∨ s.composer.attempt = some a → ∀ i, (s.endAttempt a).composer.buf i =
      (s.composer.buf i).endAttempt a := fun hc i => by
    rw [State.endAttempt_eq, State.kick_idle _ (.inl (by
      have := endedComposer_attempt s.composer a
      simp only [State.setComposer_composer, this]
      rcases hc with hc | hc <;> simp [hc]))]
    exact endedComposer_buf s.composer a i
  have hem : ∀ x : Buffer, (x.endAttempt a).emptied = x.emptied := by
    intro x; unfold Buffer.endAttempt; split <;> rfl
  refine ⟨?_, ?_, ?_, ?_, ?_⟩
  · intro i hi hc
    rw [hidle hc, hm, hbase hc]
    split
    · rw [hem]; rfl
    · rename_i hne
      rcases hi with ⟨h1, h2⟩ | h3
      · simp [Buffer.endAttempt, h1, h2, Buffer.emptied]
      · exact absurd (by simpa using h3.symm) hne
  · intro i c hi hc hne
    rcases hk i with h' | ⟨-, d, hd, h3, h4⟩
    · unfold State.giveBack
      rw [h', hm]
      split
      · exact .inl ⟨rfl, rfl⟩
      · rename_i hib
        rcases hi with hi | h3
        · exact h.taken i c (.inl hi) hc hne
        · exact absurd (by simpa using h3.symm) hib
    · rw [hma, hc, if_neg (by simpa using hne)] at hd
      cases hd
      exact .inr ⟨h3, h4⟩
  · intro i hi hib
    have hib' : i ≠ bufferFor b := by rintro rfl; simp at hib
    have hs := h.busy i hi (by simp)
    rcases hk i with h' | ⟨h', -⟩
    · unfold State.giveBack; rw [h', hm, if_neg hib', hs]
    · rw [hm, if_neg hib', hs] at h'
      simp [h'] at hi
  · intro i hi hn hib
    have hib' : i ≠ bufferFor b := by rintro rfl; simp at hib
    have hs := h.others i hi hn (by simp)
    rcases hk i with h' | ⟨h', -⟩
    · unfold State.giveBack; rw [h', hm, if_neg hib', hs]
    · rw [hm, if_neg hib', hs] at h'
      simp [h'] at hi
  · intro hc
    rw [hidle (.inr hc)]
    have := h.current hc
    simpa [State.mapBuf] using this

/-- The end of an attempt at the Proof Writer (R170). -/
theorem State.writerStop_stopped (s : State) (a : Attempt) : WriterStopped s (s.writerStop a) a := by
  unfold State.writerStop State.writerNext
  refine ⟨?_, ?_, ?_, ?_, ?_⟩
  · intro h1 h2 h3; simp [h1, h2, h3, Writer.cleared]
  · intro b h1 h2 h3 h4; simp [h1, h2, h3, h4]
  · intro h1 h2 h3; simp [h1, h2, h3]
  · intro h1; simp [h1]
  · intro h1 h2; simp [h1, h2]

/-! ## Standing errors found again (R197) -/

theorem State.logTimes_found (s : State) (loc : CheckLoc) (n : Nat) (h : s.check.locked = false) :
    (s.logCorrectableTimes loc n).check.count = BitVec.ofNat 8 (min 255 (s.check.count.toNat + n)) ∧
    (0 < n → (s.logCorrectableTimes loc n).hasEvent .integrity = true ∧
      (s.logCorrectableTimes loc n).check.correctable = some (s.check.correctable.getD loc)) := by
  induction n generalizing s with
  | zero =>
    refine ⟨?_, fun h => by omega⟩
    rw [State.logCorrectableTimes, show min 255 (s.check.count.toNat + 0) = s.check.count.toNat by omega]
    exact (BitVec.ofNat_toNat ..).symm ▸ (by simp)
  | succ n ih =>
    have hl : (s.logCorrectable loc).check.locked = false := by simp [h]
    have hc : (s.logCorrectable loc).check.count.toNat = min 255 (s.check.count.toNat + 1) := by
      simp only [State.logCorrectable, h, Bool.false_eq_true, if_false, State.raise_frame]
      show (if s.check.count = 255#8 then 255#8 else s.check.count + 1#8).toNat = _
      split
      · rename_i h'; simp [h']
      · rename_i h'
        have : s.check.count.toNat ≠ 255 := fun e => h' (BitVec.eq_of_toNat_eq e)
        rw [BitVec.toNat_add]
        simp
        omega
    have he : (s.logCorrectable loc).hasEvent .integrity = true := by
      simp [State.logCorrectable, h, State.hasEvent_raise]
    have hr : (s.logCorrectable loc).check.correctable = some (s.check.correctable.getD loc) := by
      simp only [State.logCorrectable, h, Bool.false_eq_true, if_false, State.raise_frame]
      show (if s.check.correctable = none then some loc else s.check.correctable) = _
      cases s.check.correctable <;> simp
    obtain ⟨h1, h2⟩ := ih _ hl
    rw [State.logCorrectableTimes]
    refine ⟨by rw [h1, hc]; congr 1; omega, fun _ => ?_⟩
    rcases Nat.eq_zero_or_pos n with rfl | hn
    · exact ⟨he, hr⟩
    · rw [(h2 hn).2, hr]; exact ⟨(h2 hn).1, rfl⟩

theorem State.findAll_found (ls : List CheckLoc) (s : State) (h : s.check.locked = false) :
    ∃ n, (ls.foldl State.findOne s).check.count = BitVec.ofNat 8 (min 255 (s.check.count.toNat + n)) ∧
      (n = 0 → (ls.foldl State.findOne s).check.correctable = s.check.correctable ∧
        (ls.foldl State.findOne s).hasEvent .integrity = s.hasEvent .integrity) ∧
      (0 < n → (ls.foldl State.findOne s).hasEvent .integrity = true ∧
        ∃ l ∈ ls, (ls.foldl State.findOne s).check.correctable = some (s.check.correctable.getD l)) := by
  induction ls generalizing s with
  | nil =>
    refine ⟨0, ?_, fun _ => ⟨rfl, rfl⟩, fun h => by omega⟩
    rw [List.foldl_nil, show min 255 (s.check.count.toNat + 0) = s.check.count.toNat by omega]
    exact (BitVec.ofNat_toNat ..).symm ▸ (by simp)
  | cons l rest ih =>
    have hl : (s.findOne l).check.locked = false := by simp [h]
    obtain ⟨n, h1, h2, h3⟩ := ih _ hl
    obtain ⟨g1, g2⟩ := (s.setCheck { s.check with finds := s.check.finds + 1 }).logTimes_found l
      (Config.foundAgain s.check.finds) h
    change (s.findOne l).check.count = _ at g1
    change _ → (s.findOne l).hasEvent _ = _ ∧ (s.findOne l).check.correctable = some (s.check.correctable.getD l) at g2
    generalize hm : Config.foundAgain s.check.finds = m at g1 g2
    have g0 : m = 0 → (s.findOne l).check.correctable = s.check.correctable ∧
        (s.findOne l).hasEvent .integrity = s.hasEvent .integrity := by
      rintro rfl
      simp only [State.findOne, hm, State.logCorrectableTimes]
      exact ⟨rfl, rfl⟩
    simp only [List.foldl_cons]
    refine ⟨m + n, ?_, ?_, ?_⟩
    · rw [h1, g1]
      simp only [State.setCheck_check, BitVec.toNat_ofNat]
      congr 1
      omega
    · intro hz
      obtain ⟨rfl, rfl⟩ : m = 0 ∧ n = 0 := by omega
      rw [(h2 rfl).1, (h2 rfl).2]; exact g0 rfl
    · intro hp
      rcases Nat.eq_zero_or_pos m with hm0 | hm1
      · obtain ⟨h4, l', hl', h5⟩ := h3 (by omega)
        rw [(g0 hm0).1] at h5
        exact ⟨h4, l', by simp [hl'], h5⟩
      · obtain ⟨e1, e2⟩ := g2 hm1
        rcases Nat.eq_zero_or_pos n with hn0 | hn1
        · rw [(h2 hn0).1, (h2 hn0).2]; exact ⟨e1, l, by simp, e2⟩
        · obtain ⟨h4, l', hl', h5⟩ := h3 hn1
          exact ⟨h4, l, by simp, by rw [h5, e2]; rfl⟩

/-- What a completed work logs of the errors that stand where it reads (R197). -/
theorem State.findAgain_found (s : State) (reads : CheckLoc → Bool) : FoundAgain s (s.findAgain reads) reads := by
  refine ⟨?_, ?_, ?_⟩
  · rintro (h | h)
    · rw [State.findAgain_none s reads h]; exact ⟨rfl, rfl, rfl⟩
    · have key : ∀ (ls : List CheckLoc) (t : State), t.check.locked = true →
          (ls.foldl State.findOne t).check.correctable = t.check.correctable ∧
          (ls.foldl State.findOne t).check.count = t.check.count ∧
          (ls.foldl State.findOne t).hasEvent .integrity = t.hasEvent .integrity := by
        intro ls
        induction ls with
        | nil => exact fun _ _ => ⟨rfl, rfl, rfl⟩
        | cons l rest ih =>
          intro t ht
          have e : t.findOne l = t.setCheck { t.check with finds := t.check.finds + 1 } := by
            have : ∀ (u : State) (n : Nat), u.check.locked = true → u.logCorrectableTimes l n = u := by
              intro u n hu
              induction n with
              | zero => rfl
              | succ n ih => simp only [State.logCorrectableTimes, State.logCorrectable, hu, if_true, ih]
            exact this _ _ ht
          obtain ⟨h1, h2, h3⟩ := ih (t.findOne l) (by simp [ht])
          rw [List.foldl_cons, h1, h2, h3, e]
          exact ⟨rfl, rfl, rfl⟩
      exact key _ s h
  · intro h
    obtain ⟨n, h1, h2, h3⟩ := State.findAll_found (s.check.standing.filter reads) s h
    refine ⟨n, h1, h2, fun hn => ?_⟩
    obtain ⟨h4, l, hl, h5⟩ := h3 hn
    rw [List.mem_filter] at hl
    exact ⟨h4, l, hl.1, hl.2, h5⟩
  · intro l hl _
    simpa using hl

/-- The start of a painting leaves the errors that stand elsewhere than in the band buffers (R197). -/
theorem State.kick_stands (s : State) : ∀ l ∈ s.check.standing, (∀ i, l ≠ .band i) → l ∈ s.kick.check.standing := by
  intro l hl hb
  unfold State.kick State.paintNext
  split
  · split
    · exact hl
    · split
      · exact hl
      · dsimp only
        split
        · split <;> simp [State.rewritten, State.mapBuf, hl, hb]
        · exact hl
  · exact hl

/-- The start of a painting leaves no error standing that did not stand before (R197). -/
theorem State.kick_standing (s : State) : ∀ l ∈ s.kick.check.standing, l ∈ s.check.standing := by
  intro l
  unfold State.kick State.paintNext
  split
  · split
    · exact id
    · split
      · exact id
      · dsimp only
        split
        · split <;> simp [State.rewritten, State.mapBuf] <;> tauto
        · exact id
  · exact id

/-- What a work found again, after moves that log nothing (R197). -/
theorem FoundAgain.congr {s t t' : State} {reads : CheckLoc → Bool} (h : FoundAgain s t reads)
    (h1 : t'.check.correctable = t.check.correctable) (h2 : t'.check.count = t.check.count)
    (h3 : t'.hasEvent .integrity = t.hasEvent .integrity)
    (h4 : ∀ l ∈ t.check.standing, (∀ i, l ≠ .band i) → l ∈ t'.check.standing) : FoundAgain s t' reads := by
  refine ⟨?_, ?_, fun l a b => h4 l (h.stands l a b) b⟩ <;> rw [h1, h2, h3]
  exacts [h.quiet, h.logged]

/-- What a work that an attempt's end came before found again (R144, R197). -/
theorem FoundAgain.afterEnd {s t : State} {reads : CheckLoc → Bool} (a : Attempt) (h : FoundAgain (s.endAttempt a) t reads) :
    FoundAgain s t reads := by
  have h1 : ∀ l ∈ (s.endAttempt a).check.standing, l ∈ s.check.standing := fun l hl => by
    simpa using State.kick_standing (s.setComposer (endedComposer s.composer a)) l hl
  have h2 : ∀ l ∈ s.check.standing, (∀ i, l ≠ .band i) → l ∈ (s.endAttempt a).check.standing := fun l hl hb =>
    State.kick_stands _ l hl hb
  have he : (s.endAttempt a).hasEvent .integrity = s.hasEvent .integrity := by simp [State.hasEvent]
  have hq := h.quiet; have hl := h.logged
  simp only [State.endAttempt_frame, he] at hq hl
  refine ⟨fun x => hq (x.imp (fun y l m => y l (h1 l m)) id), fun x => ?_, fun l m hb => h.stands l (h2 l m hb) hb⟩
  obtain ⟨n, p, q, r⟩ := hl x
  exact ⟨n, p, q, fun hn => ⟨(r hn).1, let ⟨l, y, z⟩ := (r hn).2; ⟨l, h1 l y, z⟩⟩⟩

/-! ## Band writes that end (R168 to R170) -/

/-- A band write that ends gives its buffer back (R134, R168). -/
theorem State.endBandWrite_given (s : State) (ws : List ServerWrite) :
    GivenBack s (s.endBandWrite ws) (bufferFor s.writer.nextBand) := by
  have h := State.giveBack_given
    ((s.findAgain fun l => l == CheckLoc.band (bufferFor s.writer.nextBand)).writeServerAll ws) (bufferFor s.writer.nextBand)
  refine h.congr ?_ (fun sl => ?_) ?_ ?_ ?_ ?_ ?_ ?_
  case refine_2 => unfold State.ticketOf; rw [State.sheet_of_control (t := s)]; simp
  all_goals simp [State.endBandWrite]

/-- A band write that ends has found again the errors that stand in its buffer (R197). -/
theorem State.endBandWrite_found (s : State) (ws : List ServerWrite) :
    FoundAgain s (s.endBandWrite ws) (· == .band (bufferFor s.writer.nextBand)) := by
  unfold State.endBandWrite
  refine (s.findAgain_found _).congr (by simp) (by simp)
    (by simp [State.hasEvent, State.endUnit]; split <;> simp [State.raise, Event.bit]) fun l hl hb => ?_
  simp only [State.endUnit_frame]
  exact State.kick_stands _ l (by simpa using hl) hb

/-- The rows that have reached server memory, by their numbers (R169). -/
theorem rowsReached_eq (ws : List ServerWrite) (ends : List Bool) (h : ends.length ≤ ws.length) : rowsReached ws ends =
    ((List.range ends.length).filter fun r => ends[r]? = some true).filterMap fun r => ws[r]? := by
  unfold rowsReached
  induction ends generalizing ws with
  | nil => simp
  | cons b ends ih =>
    cases ws with
    | nil => simp at h
    | cons w ws =>
      rw [List.length_cons, List.range_succ_eq_map]
      have := ih ws (by simpa using h)
      simp only [List.zip_cons_cons, List.filter_cons, List.filter_map, Function.comp_def] at this ⊢
      cases b <;> simp [this]

/-! ## Sheets let go (R175) -/

/-- A letting-go after an attempt that had ended before. -/
theorem State.letGo_endedLetGo {s u : State} (sl : SheetSlot) (hc : u.control = s.control)
    (h1 : u.walker.state = s.walker.state) (h2 : u.walker.window = s.walker.window) : EndedLetGo s (u.letGo sl) sl := by
  have hsh : u.sheet sl = s.sheet sl := State.sheet_of_control hc sl
  have hl : (u.letGo sl).linkHolds sl = u.linkHolds sl := by simp [State.linkHolds]
  have hw : (u.letGo sl).writerServes sl = u.writerServes sl := by simp [State.writerServes]
  constructor
  · intro sh o d h hf he hr hk hs
    rw [hl] at hk; rw [hw] at hs
    have hp : u.partsDone sl = true := State.partsDone_of u u sl sh rfl rfl hk hs (hsh.trans h) hr
    rw [State.letGo_ended u sl sh o d (hsh.trans h) hf he, if_pos hp]
    obtain ⟨a, b, -⟩ := State.freeSlot_ended u sl sh o d (hsh.trans h) he
    exact ⟨b, by rw [a, hc], (u.freeSlot_walker sl (by simp [hsh, h])).congr h1.symm h2.symm rfl rfl⟩
  · intro sh h hx
    rw [hl, hw] at hx
    have : u.letGo sl = u := by
      by_cases hf : sh.state = .finished
      · have hp : u.partsDone sl = false := by
          rcases hx with hx | hx | hx | hx
          · exact absurd hf hx
          all_goals simp [State.partsDone, State.sheetIs, hsh, h, hx]
        unfold State.letGo
        simp [hsh, h, hp]
      · exact State.letGo_stays u sl sh (hsh.trans h) hf
    rw [this]
    exact ⟨hsh.trans h, hc⟩

/-! ## Abandon (R144, R170, R186) -/

/-- What a slot's ending leaves of the other slot's sheet: at most its rank changes (R171). -/
theorem State.endSheet_other (s : State) (sl : SheetSlot) (o : OrderOutcome) (d : Detail) :
    (s.endSheet sl o d).sheet (otherSlot sl) = s.sheet (otherSlot sl) ∨
    (s.endSheet sl o d).sheet (otherSlot sl) = (s.sheet (otherSlot sl)).map fun x => { x with first := true } := by
  unfold State.endSheet
  split
  · set s1 := (s.mapSheet sl fun sh => { sh with ending := some (o, d), state := .finished }).releaseSheet sl with hs1
    have hso : s1.sheet (otherSlot sl) = s.sheet (otherSlot sl) := by
      rw [hs1, State.releaseSheet_sheet, if_neg (otherSlot_ne sl), State.sheet_mapSheet, if_neg (otherSlot_ne sl)]
    unfold State.freeIfEnded
    split
    · unfold State.freeSlot
      split
      · exact .inl hso
      · right
        have hu : ∀ x : State, x.unblock.control = x.control := by intro x; simp
        dsimp only
        rw [State.sheet_of_control (hu _), State.sheet_mapSheet, if_pos rfl, State.sheet_setSheet,
          if_neg (otherSlot_ne sl), State.sheet_mapQueue, hso]
    · exact .inl hso
  · exact .inl rfl

/-- An attempt in hand that an abandon ends. -/
def AttemptInHand (s : State) (a : Attempt) : Prop := ∃ sh, InHandOf s a.slot sh ∧ sh.attempt = a.number

/-- The end of one slot's sheet in an abandon, at the Composer and the Writer, with the other slot's attempts in hand. -/
theorem State.abandonSheet_attempt (s : State) (sl : SheetSlot) :
    ((∃ a, a.slot = sl ∧ AttemptInHand s a ∧ (∀ b, b.slot = sl → AttemptInHand s b → b = a) ∧
        (s.abandonSheet sl).composer = (s.endAttempt a).composer ∧
        (s.abandonSheet sl).writer = (s.writerStop a).writer) ∨
      ((∀ b, b.slot = sl → ¬ AttemptInHand s b) ∧ (s.abandonSheet sl).composer = s.composer ∧
        (s.abandonSheet sl).writer = s.writer)) ∧
    ∀ a, a.slot = otherSlot sl → (AttemptInHand (s.abandonSheet sl) a ↔ AttemptInHand s a) := by
  have hother : ∀ t : State, (t.sheet (otherSlot sl) = s.sheet (otherSlot sl) ∨
      t.sheet (otherSlot sl) = (s.sheet (otherSlot sl)).map fun x => { x with first := true }) →
      ∀ a, a.slot = otherSlot sl → (AttemptInHand t a ↔ AttemptInHand s a) := by
    rintro t (h | h) a ha
    · simp only [AttemptInHand, InHandOf, ha, h]
    · simp only [AttemptInHand, InHandOf, ha, h]
      cases s.sheet (otherSlot sl) <;> simp
  have hno : ∀ sh, s.sheet sl = some sh → ¬(sh.state = .composing ∨ sh.state = .closing) ∨ sh.ending ≠ none →
      ∀ b : Attempt, b.slot = sl → ¬ AttemptInHand s b := by
    rintro sh h h' b hb ⟨x, ⟨hx, h1, h2⟩, -⟩
    rw [hb, h] at hx
    cases hx
    rcases h' with h' | h'
    · exact h' h1
    · exact h' h2
  unfold State.abandonSheet
  split
  · rename_i h
    refine ⟨.inr ⟨?_, rfl, rfl⟩, hother _ (.inl rfl)⟩
    rintro b hb ⟨x, ⟨hx, -⟩, -⟩
    rw [hb, h] at hx
    cases hx
  · rename_i sh h
    split
    · rename_i he
      exact ⟨.inr ⟨hno sh h (.inr (by intro e; simp [e] at he)), rfl, rfl⟩, hother _ (.inl rfl)⟩
    · rename_i he
      have he' : sh.ending = none := by simpa using he
      have hstop : ∀ (hs : sh.state = .composing ∨ sh.state = .closing) (o : OrderOutcome) (d : Detail),
          ((∃ a : Attempt, a.slot = sl ∧ AttemptInHand s a ∧ (∀ b, b.slot = sl → AttemptInHand s b → b = a) ∧
            ((s.stopAttempt (sh.attemptIn sl)).endSheet sl o d).composer = (s.endAttempt a).composer ∧
            ((s.stopAttempt (sh.attemptIn sl)).endSheet sl o d).writer = (s.writerStop a).writer) ∨
          ((∀ b : Attempt, b.slot = sl → ¬ AttemptInHand s b) ∧
            ((s.stopAttempt (sh.attemptIn sl)).endSheet sl o d).composer = s.composer ∧
            ((s.stopAttempt (sh.attemptIn sl)).endSheet sl o d).writer = s.writer)) ∧
          ∀ a, a.slot = otherSlot sl →
            (AttemptInHand ((s.stopAttempt (sh.attemptIn sl)).endSheet sl o d) a ↔ AttemptInHand s a) := by
        intro hs o d
        refine ⟨.inl ⟨sh.attemptIn sl, rfl, ⟨sh, ⟨h, hs, he'⟩, rfl⟩, ?_, ?_, ?_⟩, hother _ ?_⟩
        · rintro ⟨_, n⟩ rfl ⟨x, ⟨hx, -⟩, hn⟩
          simp only at hx hn
          rw [h] at hx
          cases hx
          simp [Sheet.attemptIn, hn]
        · simp [State.stopAttempt]
        · simp only [State.endSheet_frame, State.stopAttempt]
          unfold State.writerStop State.writerNext
          simp only [State.linkStop_frame, State.endAttempt_frame]
          (repeat' split) <;> simp
        · have := (s.stopAttempt (sh.attemptIn sl)).endSheet_other sl o d
          rwa [State.sheet_of_control (s := s) (t := s.stopAttempt (sh.attemptIn sl)) (by simp)] at this
      have hplain : ∀ t : State, ¬(sh.state = .composing ∨ sh.state = .closing) → t.composer = s.composer →
          t.writer = s.writer → (t.sheet (otherSlot sl) = s.sheet (otherSlot sl) ∨
            t.sheet (otherSlot sl) = (s.sheet (otherSlot sl)).map fun x => { x with first := true }) →
          ((∃ a : Attempt, a.slot = sl ∧ AttemptInHand s a ∧ (∀ b, b.slot = sl → AttemptInHand s b → b = a) ∧
            t.composer = (s.endAttempt a).composer ∧ t.writer = (s.writerStop a).writer) ∨
          ((∀ b : Attempt, b.slot = sl → ¬ AttemptInHand s b) ∧ t.composer = s.composer ∧ t.writer = s.writer)) ∧
          ∀ a, a.slot = otherSlot sl → (AttemptInHand t a ↔ AttemptInHand s a) :=
        fun t hs h1 h2 h3 => ⟨.inr ⟨hno sh h (.inl hs), h1, h2⟩, hother t h3⟩
      split
      · rename_i hs
        refine hplain _ (by simp [hs]) (by simp) (by simp) ?_
        have := (s.clearPlacement sl).endSheet_other sl .abandoned .none
        have e : (s.clearPlacement sl).sheet (otherSlot sl) = s.sheet (otherSlot sl) := by
          simp [State.clearPlacement, State.sheet_mapSheet, otherSlot_ne]
        rwa [e] at this
      · rename_i hs
        exact hplain _ (by simp [hs]) (by simp) (by simp) (s.endSheet_other sl _ _)
      · rename_i hs
        exact hplain _ (by simp [hs]) (by simp) (by simp) (s.endSheet_other sl _ _)
      · rename_i hs; exact hstop (.inl hs) _ _
      · rename_i hs; exact hstop (.inr hs) _ _
      · rename_i hs
        refine hplain _ (by simp [hs]) (by simp) (by simp) (.inl ?_)
        simp [State.sheet_mapSheet, otherSlot_ne]

/-- The Writer after an attempt's end. -/
def Writer.stopped (w : Writer) (a : Attempt) : Writer :=
  if w.queued = some a then { w with queued := none }
  else if w.attempt = some a then
    if w.state = .writing then { w with endPending := true }
    else match w.queued with
      | some b => ⟨.waiting, some b, 0, false, false, none⟩
      | none => Writer.cleared
  else w

theorem State.writerStop_writer (s : State) (a : Attempt) : (s.writerStop a).writer = s.writer.stopped a := by
  unfold State.writerStop State.writerNext Writer.stopped
  split
  · rfl
  · split
    · split
      · rfl
      · cases s.writer.queued <;> rfl
    · rfl

/-- The Composer's attempt after an attempt's end. -/
theorem State.endAttempt_attempt (s : State) (a : Attempt) :
    (s.endAttempt a).composer.attempt = if s.composer.attempt = some a then none else s.composer.attempt := by
  rw [State.endAttempt_eq, (State.kick_frame _).2.2.2.2.2.2.2.2.2.2.1]
  exact endedComposer_attempt s.composer a

/-- An EMPTY buffer stays so where the Composer works on no other attempt. -/
theorem State.endAttempt_empty (s : State) (a : Attempt) (i : BufferId)
    (hc : s.composer.attempt = none ∨ s.composer.attempt = some a)
    (h : (s.composer.buf i).state = .empty ∧ (s.composer.buf i).tag = none) :
    ((s.endAttempt a).composer.buf i).state = .empty ∧ ((s.endAttempt a).composer.buf i).tag = none := by
  have e : (s.endAttempt a).composer.buf i = (s.composer.buf i).endAttempt a := by
    rw [State.endAttempt_eq, State.kick_idle _ (.inl (by
      have := endedComposer_attempt s.composer a
      simp only [State.setComposer_composer, this]
      rcases hc with hc | hc <;> simp [hc]))]
    exact endedComposer_buf s.composer a i
  rw [e]
  simpa [Buffer.endAttempt, h.2] using h

/-- Two ends in turn at the Writer. -/
theorem Writer.stopped_stopped (w : Writer) (a b : Attempt) (h : a ≠ b) :
    (∀ z, z = a ∨ z = b → w.attempt = some z → w.queued ≠ some z → w.state = .waiting →
      ((w.stopped a).stopped b).attempt ≠ some z ∧
        (w.queued = none → ((w.stopped a).stopped b) = ⟨.idle, none, 0, false, false, none⟩)) ∧
    (∀ z, z = a ∨ z = b → w.attempt = some z → w.queued ≠ some z → w.state = .writing →
      ((w.stopped a).stopped b).state = .writing ∧ ((w.stopped a).stopped b).attempt = some z ∧
        ((w.stopped a).stopped b).endPending = true ∧ ((w.stopped a).stopped b).nextBand = w.nextBand) ∧
    (∀ z, z = a ∨ z = b → w.queued = some z → ((w.stopped a).stopped b).queued ≠ some z) ∧
    (w.attempt ≠ some a → w.attempt ≠ some b → w.queued ≠ some a → w.queued ≠ some b → (w.stopped a).stopped b = w) := by
  obtain ⟨st, at', nb, dm, ep, q⟩ := w
  refine ⟨?_, ?_, ?_, ?_⟩
  · rintro z hz h1 h2 h3
    simp only at h1 h2 h3
    subst h3; subst h1
    rcases q with _ | q
    · rcases hz with rfl | rfl <;> simp [Writer.stopped, Writer.cleared, h.symm, Ne.symm]
    · rcases hz with rfl | rfl <;> simp only [Writer.stopped, Writer.cleared] <;> (repeat' split) <;> simp_all
  · rintro z hz h1 h2 h3
    simp only at h1 h2 h3
    subst h3; subst h1
    rcases hz with rfl | rfl <;> simp only [Writer.stopped, Writer.cleared] <;> (repeat' split) <;> simp_all
  · rintro z hz h1
    simp only at h1
    subst h1
    rcases hz with rfl | rfl <;> simp only [Writer.stopped, Writer.cleared] <;> (repeat' split) <;> simp_all
  · intro h1 h2 h3 h4
    simp_all [Writer.stopped]

/-- One end at the Writer. -/
theorem Writer.stopped_spec (w : Writer) (a : Attempt) :
    (w.attempt = some a → w.queued ≠ some a → w.state = .waiting → (w.stopped a).attempt ≠ some a ∧
      (w.queued = none → w.stopped a = ⟨.idle, none, 0, false, false, none⟩)) ∧
    (w.attempt = some a → w.queued ≠ some a → w.state = .writing → (w.stopped a).state = .writing ∧
      (w.stopped a).attempt = some a ∧ (w.stopped a).endPending = true ∧ (w.stopped a).nextBand = w.nextBand) ∧
    (w.queued = some a → (w.stopped a).queued ≠ some a) ∧
    (w.attempt ≠ some a → w.queued ≠ some a → w.stopped a = w) := by
  obtain ⟨st, at', nb, dm, ep, q⟩ := w
  refine ⟨?_, ?_, ?_, ?_⟩ <;> intros <;> simp only [Writer.stopped, Writer.cleared] <;> (repeat' split) <;> simp_all

/-- The ends of an abandon from the attempts that it ends. -/
theorem AttemptsAbandoned.of {s t : State} (L : Attempt → Prop) (hL : ∀ a, AttemptInHand s a ↔ L a)
    (hE : (∀ a, s.composer.attempt = some a → L a) → ∀ i z, L z → (s.composer.buf i).tag.map (·.attempt) = some z →
      (s.composer.buf i).state = .filling ∨ (s.composer.buf i).state = .full →
      (t.composer.buf i).state = .empty ∧ (t.composer.buf i).tag = none)
    (hB : ∀ i, (s.composer.buf i).state = .sending ∨ (s.composer.buf i).state = .writing →
      t.composer.buf i = s.composer.buf i)
    (hW : ∀ z, L z → s.writer.attempt = some z → s.writer.queued ≠ some z → s.writer.state = .waiting →
      t.writer.attempt ≠ some z ∧ (s.writer.queued = none → t.writer = ⟨.idle, none, 0, false, false, none⟩))
    (hV : ∀ z, L z → s.writer.attempt = some z → s.writer.queued ≠ some z → s.writer.state = .writing →
      t.writer.state = .writing ∧ t.writer.attempt = some z ∧ t.writer.endPending = true ∧
        t.writer.nextBand = s.writer.nextBand)
    (hQ : ∀ z, L z → s.writer.queued = some z → t.writer.queued ≠ some z)
    (hO : (∀ z, L z → s.writer.attempt ≠ some z ∧ s.writer.queued ≠ some z) → t.writer = s.writer) :
    AttemptsAbandoned s t := by
  have hk : ∀ sl sh, InHandOf s sl sh → L ⟨sl, sh.attempt⟩ := fun sl sh h => (hL _).1 ⟨sh, h, rfl⟩
  refine ⟨fun ha sl sh i h h1 h2 => hE (fun a e => (hL a).1 (ha a e)) i _ (hk sl sh h) h1 h2, hB,
    fun sl sh h => hW _ (hk sl sh h), fun sl sh h => hV _ (hk sl sh h), fun sl sh h => hQ _ (hk sl sh h), fun h => hO ?_⟩
  intro z hz
  obtain ⟨sh, h1, h2⟩ := (hL z).2 hz
  have := h z.slot sh h1
  rw [h2] at this
  exact this

/-- Both slots' sheets ended in turn, at the buffers and at the Writer (R144, R170, R186). -/
theorem State.abandonSheets_attempts (s : State) : AttemptsAbandoned s ((s.abandonSheet .a).abandonSheet .b) := by
  obtain ⟨h1, h2⟩ := s.abandonSheet_attempt .a
  obtain ⟨h3, -⟩ := (s.abandonSheet .a).abandonSheet_attempt .b
  have hslot : ∀ a : Attempt, a.slot = .a ∨ a.slot = .b := fun a => by cases a.slot <;> simp
  have h2' : ∀ z : Attempt, z.slot = .b → (AttemptInHand (s.abandonSheet .a) z ↔ AttemptInHand s z) := h2
  have busy : ∀ (u : State) (a : Attempt) i, (u.composer.buf i).state = .sending ∨ (u.composer.buf i).state = .writing →
      (u.endAttempt a).composer.buf i = u.composer.buf i := fun u a i h => (u.endAttempt_buffers a).busy i h (by simp)
  rcases h1 with ⟨a, ha, ia, ua, ca, wa⟩ | ⟨na, ca, wa⟩ <;> rcases h3 with ⟨b, hb, ib, ub, cb, wb⟩ | ⟨nb, cb, wb⟩
  · have hab : a ≠ b := fun e => by rw [e, hb] at ha; cases ha
    have hs1 := State.endAttempt_attempt s a
    rw [← ca] at hs1
    rw [State.writerStop_writer] at wa wb
    rw [wa] at wb
    obtain ⟨w1, w2, w3, w4⟩ := Writer.stopped_stopped s.writer a b hab
    have hone := s.endAttempt_buffers a
    have htwo := (s.abandonSheet .a).endAttempt_buffers b
    refine .of (fun z => z = a ∨ z = b) ?_ ?_ ?_ (wb ▸ w1) (wb ▸ w2) (wb ▸ w3) fun h => ?_
    · intro z
      constructor
      · intro hz
        rcases hslot z with e | e
        · exact .inl (ua z e hz)
        · exact .inr (ub z e ((h2' z e).2 hz))
      · rintro (rfl | rfl)
        · exact ia
        · exact (h2' z hb).1 ib
    · intro hc i z hz ht hs
      have hatt : s.composer.attempt = none ∨ s.composer.attempt = some a ∨ s.composer.attempt = some b := by
        cases e : s.composer.attempt with
        | none => exact .inl rfl
        | some c => rcases hc c e with rfl | rfl <;> simp
      have hatt1 : (s.abandonSheet .a).composer.attempt = none ∨ (s.abandonSheet .a).composer.attempt = some b := by
        rw [hs1]
        rcases hatt with e | e | e
        · simp [e]
        · simp [e]
        · exact .inr (by simp [e, hab.symm])
      rw [cb]
      rcases hz with rfl | rfl
      · have hmid : (((s.abandonSheet .a).composer.buf i).state = .empty ∧
            ((s.abandonSheet .a).composer.buf i).tag = none) ∨
            (((s.abandonSheet .a).composer.buf i).state = .filling ∧
              ((s.abandonSheet .a).composer.buf i).tag.map (·.attempt) = some b) := by
          rw [ca]
          rcases hatt with e | e | e
          · left; rw [hone.emptied i (.inl ⟨ht, hs⟩) (.inl e)]; exact ⟨rfl, rfl⟩
          · left; rw [hone.emptied i (.inl ⟨ht, hs⟩) (.inr e)]; exact ⟨rfl, rfl⟩
          · exact hone.taken i b (.inl ⟨ht, hs⟩) e hab.symm
        rcases hmid with hm | ⟨hm, hn⟩
        · exact State.endAttempt_empty _ b i hatt1 hm
        · rw [htwo.emptied i (.inl ⟨hn, .inl hm⟩) hatt1]; exact ⟨rfl, rfl⟩
      · have e : (s.abandonSheet .a).composer.buf i = s.composer.buf i := by
          rw [ca]; exact hone.others i hs (by rw [ht]; simpa using hab.symm) (by simp)
        rw [htwo.emptied i (.inl ⟨by rw [e, ht], by rw [e]; exact hs⟩) hatt1]; exact ⟨rfl, rfl⟩
    · intro i hs
      have e : (s.abandonSheet .a).composer.buf i = s.composer.buf i := by rw [ca]; exact busy s a i hs
      rw [cb, busy _ b i (by rw [e]; exact hs), e]
    · rw [wb]; exact w4 (h a (.inl rfl)).1 (h b (.inr rfl)).1 (h a (.inl rfl)).2 (h b (.inr rfl)).2
  · rw [State.writerStop_writer] at wa
    rw [wa] at wb
    obtain ⟨w1, w2, w3, w4⟩ := Writer.stopped_spec s.writer a
    have hone := s.endAttempt_buffers a
    refine .of (fun z => z = a) ?_ ?_ ?_ (by rintro z rfl; exact wb ▸ w1) (by rintro z rfl; exact wb ▸ w2)
      (by rintro z rfl; exact wb ▸ w3) fun h => ?_
    · intro z
      constructor
      · intro hz
        rcases hslot z with e | e
        · exact ua z e hz
        · exact absurd ((h2' z e).2 hz) (nb z e)
      · rintro rfl
        exact ia
    · rintro hc i z rfl ht hs
      have hatt : s.composer.attempt = none ∨ s.composer.attempt = some z := by
        cases e : s.composer.attempt with
        | none => exact .inl rfl
        | some c => exact .inr (by rw [hc c e])
      rw [cb, ca, hone.emptied i (.inl ⟨ht, hs⟩) hatt]
      exact ⟨rfl, rfl⟩
    · intro i hs
      rw [cb, ca]; exact busy s a i hs
    · rw [wb]; exact w4 (h a rfl).1 (h a rfl).2
  · rw [State.writerStop_writer, wa] at wb
    obtain ⟨w1, w2, w3, w4⟩ := Writer.stopped_spec s.writer b
    have htwo := (s.abandonSheet .a).endAttempt_buffers b
    refine .of (fun z => z = b) ?_ ?_ ?_ (by rintro z rfl; exact wb ▸ w1) (by rintro z rfl; exact wb ▸ w2)
      (by rintro z rfl; exact wb ▸ w3) fun h => ?_
    · intro z
      constructor
      · intro hz
        rcases hslot z with e | e
        · exact absurd hz (na z e)
        · exact ub z e ((h2' z e).2 hz)
      · rintro rfl
        exact (h2' z hb).1 ib
    · rintro hc i z rfl ht hs
      have hatt : (s.abandonSheet .a).composer.attempt = none ∨ (s.abandonSheet .a).composer.attempt = some z := by
        rw [ca]
        cases e : s.composer.attempt with
        | none => exact .inl rfl
        | some c => exact .inr (by rw [hc c e])
      rw [cb, htwo.emptied i (.inl ⟨by rw [ca, ht], by rw [ca]; exact hs⟩) hatt]
      exact ⟨rfl, rfl⟩
    · intro i hs
      rw [cb, busy _ b i (by rw [ca]; exact hs), ca]
    · rw [wb]; exact w4 (h b rfl).1 (h b rfl).2
  · rw [wa] at wb
    rw [ca] at cb
    refine .of (fun _ => False) ?_ (fun _ _ _ h => h.elim) (fun i _ => by rw [cb]) (fun _ h => h.elim) (fun _ h => h.elim)
      (fun _ h => h.elim) fun _ => wb
    intro z
    constructor
    · intro hz
      rcases hslot z with e | e
      · exact na z e hz
      · exact nb z e ((h2' z e).2 hz)
    · exact fun h => h.elim

/-- The ends of an abandon speak of the Composer, the Writer and the attempts in hand. -/
theorem AttemptsAbandoned.congr {s s' t t' : State} (h : AttemptsAbandoned s t) (hc : s'.composer = s.composer)
    (hw : s'.writer = s.writer) (ha : ∀ a, AttemptInHand s' a ↔ AttemptInHand s a) (hc' : t'.composer = t.composer)
    (hw' : t'.writer = t.writer) : AttemptsAbandoned s' t' := by
  have key : ∀ z, AttemptInHand s z → ∃ sl sh, InHandOf s sl sh ∧ (⟨sl, sh.attempt⟩ : Attempt) = z :=
    fun z ⟨sh, h1, h2⟩ => ⟨z.slot, sh, h1, by rw [h2]⟩
  refine .of (AttemptInHand s) ha ?_ ?_ ?_ ?_ ?_ ?_ <;> simp only [hc, hw, hc', hw']
  · intro hq i z hz
    obtain ⟨sl, sh, h1, rfl⟩ := key z hz
    exact h.emptied (fun a e => hq a e) sl sh i h1
  · exact h.busy
  · intro z hz
    obtain ⟨sl, sh, h1, rfl⟩ := key z hz
    exact h.waits sl sh h1
  · intro z hz
    obtain ⟨sl, sh, h1, rfl⟩ := key z hz
    exact h.writes sl sh h1
  · intro z hz
    obtain ⟨sl, sh, h1, rfl⟩ := key z hz
    exact h.queued sl sh h1
  · exact fun hz => h.other fun sl sh h1 => hz _ ⟨sh, h1, rfl⟩

/-- The attempts that an abandon ends, at the buffers and at the Writer (R144, R170, R186). -/
theorem State.abandonOrders_attempts (s : State) : AttemptsAbandoned s s.abandonOrders := by
  refine s.stopPlanner.abandonSheets_attempts.congr (by simp) (by simp) (fun a => ?_)
    (by simp only [State.abandonOrders, State.letGo_frame, State.abandonBarrier_frame])
    (by simp only [State.abandonOrders, State.letGo_frame, State.abandonBarrier_frame])
  simp only [AttemptInHand, InHandOf]
  rw [State.sheet_of_control (s := s) (t := s.stopPlanner) (by simp)]

/-- The attempts that a chain fault ends, likewise (R188). -/
theorem State.engineFaults_attempts (s : State) (cause : FaultCause) (addr : Addr)
    (h : s.control.engine = .running ∨ s.control.engine = .draining) : AttemptsAbandoned s (s.engineFaults cause addr) := by
  unfold State.engineFaults
  rw [if_pos h]
  refine (State.abandonOrders_attempts _).congr (by simp) (by simp) (fun a => ?_) rfl rfl
  have hd : ∀ (u : State) (p q : SheetSlot), (u.dropDueReport p).sheet q = if q = p then (u.sheet p).map fun sh =>
      { sh with report := if sh.report = .due then .none else sh.report } else u.sheet q := fun u p q => by
    rw [State.dropDueReport, State.sheet_mapSheet]
  have hs : ∀ q, ((((s.setControl { s.control with engine := .faulted, cause := cause, faultAddr := addr }).raise
      .chainFault).setWindow { ((s.setControl { s.control with engine := .faulted, cause := cause, faultAddr := addr }).raise
        .chainFault).window with abandon := false }).faultWalker).sheet q = s.sheet q := by
    intro q; cases q <;> rfl
  simp only [AttemptInHand, InHandOf, hd, hs]
  cases a.slot <;> simp

end Sys2Proof.Machine
end

