-- ==== Sys2Proof/Laws/Events.lean ====
section
/-! SUPPORT. The operations that may raise events clear none: every flag that was set stays set (R210). -/

namespace Sys2Proof.Machine

/-- Every flag of the first EVENTS value is set in the second. -/
def EventsKept (a b : BitVec 9) : Prop := ∀ i, a.getLsbD i = true → b.getLsbD i = true

/-- A raised event keeps every flag. -/
theorem State.raise_events {w : BitVec 9} {s : State} (f : Event) (hw : EventsKept w s.window.events) :
    EventsKept w (s.raise f).window.events := by
  intro i hi
  simp [State.raise, hw i hi]

/-- `endUnit` clears no event flag. -/
theorem State.endUnit_events {w : BitVec 9} {s : State}  (hw : EventsKept w s.window.events) :
    EventsKept w (s.endUnit).window.events := by
  unfold State.endUnit
  try dsimp only
  (repeat' split) <;>
    (repeat first | with_reducible exact hw | with_reducible apply State.raise_events | simp | split)

/-- `finishDiscarded` clears no event flag. -/
theorem State.finishDiscarded_events {w : BitVec 9} {s : State} (u : DiscardedUnit) (hw : EventsKept w s.window.events) :
    EventsKept w (s.finishDiscarded u).window.events := by
  unfold State.finishDiscarded
  try dsimp only
  (repeat' split) <;>
    (repeat first | with_reducible exact hw | with_reducible apply State.endUnit_events | simp | split)

/-- `enterIdle` clears no event flag. -/
theorem State.enterIdle_events {w : BitVec 9} {s : State}  (hw : EventsKept w s.window.events) :
    EventsKept w (s.enterIdle).window.events := by
  unfold State.enterIdle
  try dsimp only
  (repeat' split) <;>
    (repeat first | with_reducible exact hw | with_reducible apply State.raise_events | simp | split)

/-- `arriveIdle` clears no event flag. -/
theorem State.arriveIdle_events {w : BitVec 9} {s : State}  (hw : EventsKept w s.window.events) :
    EventsKept w (s.arriveIdle).window.events := by
  unfold State.arriveIdle
  try dsimp only
  (repeat' split) <;>
    (repeat first | with_reducible exact hw | with_reducible apply State.enterIdle_events | simp | split)

/-- `seekFromIdle` clears no event flag. -/
theorem State.seekFromIdle_events {w : BitVec 9} {s : State}  (hw : EventsKept w s.window.events) :
    EventsKept w (s.seekFromIdle).window.events := by
  unfold State.seekFromIdle
  try dsimp only
  (repeat' split) <;>
    (repeat first | with_reducible exact hw | with_reducible apply State.arriveIdle_events | simp | split)

/-- `startEngine` clears no event flag. -/
theorem State.startEngine_events {w : BitVec 9} {s : State}  (hw : EventsKept w s.window.events) :
    EventsKept w (s.startEngine).window.events := by
  unfold State.startEngine
  try dsimp only
  (repeat' split) <;>
    (repeat first | with_reducible exact hw | with_reducible apply State.arriveIdle_events | simp | split)

/-- `engineStops` clears no event flag. -/
theorem State.engineStops_events {w : BitVec 9} {s : State}  (hw : EventsKept w s.window.events) :
    EventsKept w (s.engineStops).window.events := by
  unfold State.engineStops
  try dsimp only
  (repeat' split) <;>
    (repeat first | with_reducible exact hw | with_reducible apply State.startEngine_events | simp | split)

/-- `stopIfDrained` clears no event flag. -/
theorem State.stopIfDrained_events {w : BitVec 9} {s : State}  (hw : EventsKept w s.window.events) :
    EventsKept w (s.stopIfDrained).window.events := by
  unfold State.stopIfDrained
  try dsimp only
  (repeat' split) <;>
    (repeat first | with_reducible exact hw | with_reducible apply State.engineStops_events | simp | split)

/-- `logUncorrectable` clears no event flag. -/
theorem State.logUncorrectable_events {w : BitVec 9} {s : State} (loc : CheckLoc) (hw : EventsKept w s.window.events) :
    EventsKept w (s.logUncorrectable loc).window.events := by
  unfold State.logUncorrectable
  try dsimp only
  (repeat' split) <;>
    (repeat first | with_reducible exact hw | with_reducible apply State.raise_events | simp | split)

/-- `logCorrectable` clears no event flag. -/
theorem State.logCorrectable_events {w : BitVec 9} {s : State} (loc : CheckLoc) (hw : EventsKept w s.window.events) :
    EventsKept w (s.logCorrectable loc).window.events := by
  unfold State.logCorrectable
  try dsimp only
  (repeat' split) <;>
    (repeat first | with_reducible exact hw | with_reducible apply State.raise_events | simp | split)

/-- Errors found again clear no event flag. -/
theorem State.logCorrectableTimes_events {w : BitVec 9} {s : State} (loc : CheckLoc) (n : Nat)
    (hw : EventsKept w s.window.events) : EventsKept w (s.logCorrectableTimes loc n).window.events := by
  induction n generalizing s with
  | zero => exact hw
  | succ n ih => exact ih (s.logCorrectable_events loc hw)

/-- `findAgain` clears no event flag. -/
theorem State.findAgain_events {w : BitVec 9} {s : State} (reads : CheckLoc → Bool)
    (hw : EventsKept w s.window.events) : EventsKept w (s.findAgain reads).window.events := by
  unfold State.findAgain
  generalize s.check.standing.filter reads = ls
  induction ls generalizing s with
  | nil => exact hw
  | cons l rest ih => exact ih (State.logCorrectableTimes_events _ _ hw)

/-- `readGlyph` clears no event flag. -/
theorem State.readGlyph_events {w : BitVec 9} {s : State} (g : Fin 3) (code : Code) (hw : EventsKept w s.window.events) :
    EventsKept w ((s.readGlyph g code).1).window.events := by
  unfold State.readGlyph
  try dsimp only
  (repeat' split) <;>
    (repeat first | with_reducible exact hw | with_reducible apply State.logUncorrectable_events | simp | split)

/-- `lookupGlyph` clears no event flag. -/
theorem State.lookupGlyph_events {w : BitVec 9} {s : State} (g : Fin 3) (code : Code) (hw : EventsKept w s.window.events) :
    EventsKept w ((s.lookupGlyph g code).1).window.events := by
  unfold State.lookupGlyph
  rcases hr : s.readGlyph g code with ⟨s1, _ | h⟩ <;>
    obtain rfl : s1 = (s.readGlyph g code).1 := by rw [hr]
  · dsimp only
    split <;> rename_i s2 _ hr2 <;>
      (obtain rfl := congrArg Prod.fst hr2; exact State.readGlyph_events _ _ (State.readGlyph_events _ _ hw))
  · exact State.readGlyph_events _ _ hw

/-- `lookupRun` clears no event flag. -/
theorem State.lookupRun_events {w : BitVec 9} {s : State} (codes : List Code) (g : Fin 3) (hw : EventsKept w s.window.events) :
    EventsKept w ((s.lookupRun g codes).1).window.events := by
  induction codes generalizing s with
  | nil => exact hw
  | cons c rest ih => exact ih (State.lookupGlyph_events _ _ hw)

/-- `clipLine` clears no event flag. -/
theorem State.clipLine_events {w : BitVec 9} {s : State} (g : Fin 3) (gs : List DrawnGlyph) (limit : Nat) (hw : EventsKept w s.window.events) :
    EventsKept w ((s.clipLine g gs limit).1).window.events := by
  unfold State.clipLine
  try dsimp only
  (repeat' split) <;>
    (repeat first | with_reducible exact hw | with_reducible apply State.lookupGlyph_events | simp | split)

/-- `fitCaption` clears no event flag. -/
theorem State.fitCaption_events {w : BitVec 9} {s : State} (c : Cell) (hw : EventsKept w s.window.events) :
    EventsKept w ((s.fitCaption c).1).window.events := by
  unfold State.fitCaption
  try dsimp only
  (repeat' split) <;>
    (repeat first | with_reducible exact hw | with_reducible apply State.clipLine_events | with_reducible apply State.lookupRun_events | with_reducible apply State.lookupGlyph_events | simp | split)

/-- `fitBanner` clears no event flag. -/
theorem State.fitBanner_events {w : BitVec 9} {s : State} (f : BannerFrame) (hw : EventsKept w s.window.events) :
    EventsKept w ((s.fitBanner f).1).window.events := by
  unfold State.fitBanner
  try dsimp only
  (repeat' split) <;>
    (repeat first | with_reducible exact hw | with_reducible apply State.clipLine_events | with_reducible apply State.lookupRun_events | simp | split)

/-- `fitCells` clears no event flag. -/
theorem State.fitCells_events {w : BitVec 9} {s : State} (cells : List Cell) (hw : EventsKept w s.window.events) :
    EventsKept w ((s.fitCells cells).1).window.events := by
  induction cells generalizing s with
  | nil => exact hw
  | cons c rest ih =>
    unfold State.fitCells
    split
    · exact ih hw
    · exact ih (State.fitCaption_events _ hw)

/-- `fitFrames` clears no event flag. -/
theorem State.fitFrames_events {w : BitVec 9} {s : State} (frames : List Frame) (hw : EventsKept w s.window.events) :
    EventsKept w ((s.fitFrames frames).1).window.events := by
  induction frames generalizing s with
  | nil => exact hw
  | cons f rest ih =>
    cases f with
    | banner f => exact ih (State.fitBanner_events _ hw)
    | rule f => exact ih hw
    | grid f => exact ih hw
    | inset f => exact ih hw

/-- `fitSheet` clears no event flag. -/
theorem State.fitSheet_events {w : BitVec 9} {s : State} (sl : SheetSlot) (hw : EventsKept w s.window.events) :
    EventsKept w (s.fitSheet sl).window.events := by
  unfold State.fitSheet
  try dsimp only
  (repeat' split) <;>
    (repeat first | with_reducible exact hw | with_reducible apply State.fitFrames_events | with_reducible apply State.fitCells_events | simp | split)

/-- `spoil` clears no event flag. -/
theorem State.spoil_events {w : BitVec 9} {s : State} (a : Attempt) (d : Detail) (hw : EventsKept w s.window.events) :
    EventsKept w (s.spoil a d).window.events := by
  unfold State.spoil
  try dsimp only
  (repeat' split) <;>
    (repeat first | with_reducible exact hw | with_reducible apply State.raise_events | simp | split)

/-- `spoilAttempt` clears no event flag. -/
theorem State.spoilAttempt_events {w : BitVec 9} {s : State} (a : Attempt) (d : Detail) (hw : EventsKept w s.window.events) :
    EventsKept w (s.spoilAttempt a d).window.events := by
  unfold State.spoilAttempt
  try dsimp only
  (repeat first | with_reducible exact hw | with_reducible apply State.spoil_events | simp | split)

/-- `engineFaults` clears no event flag. -/
theorem State.engineFaults_events {w : BitVec 9} {s : State} (c : FaultCause) (a : Addr) (hw : EventsKept w s.window.events) :
    EventsKept w (s.engineFaults c a).window.events := by
  unfold State.engineFaults
  try dsimp only
  (repeat' split) <;>
    (repeat first | with_reducible exact hw | with_reducible apply State.raise_events | simp | split)

/-- `wakeUp` clears no event flag. -/
theorem State.wakeUp_events {w : BitVec 9} {s : State}  (hw : EventsKept w s.window.events) :
    EventsKept w (s.wakeUp).window.events := by
  unfold State.wakeUp
  try dsimp only
  (repeat' split) <;>
    (repeat first | with_reducible exact hw | with_reducible apply State.seekFromIdle_events | simp | split)

/-- `writeRunOne` clears no event flag. -/
theorem State.writeRunOne_events {w : BitVec 9} {s : State}  (hw : EventsKept w s.window.events) :
    EventsKept w (s.writeRunOne).window.events := by
  unfold State.writeRunOne
  try dsimp only
  (repeat' split) <;>
    (repeat first | with_reducible exact hw | with_reducible apply State.startEngine_events | simp | split)

/-- `writeRunZero` clears no event flag. -/
theorem State.writeRunZero_events {w : BitVec 9} {s : State}  (hw : EventsKept w s.window.events) :
    EventsKept w (s.writeRunZero).window.events := by
  unfold State.writeRunZero
  try dsimp only
  (repeat' split) <;>
    (repeat first | with_reducible exact hw | with_reducible apply State.stopIfDrained_events | simp | split)

/-- `writeAbandon` clears no event flag. -/
theorem State.writeAbandon_events {w : BitVec 9} {s : State}  (hw : EventsKept w s.window.events) :
    EventsKept w (s.writeAbandon).window.events := by
  unfold State.writeAbandon
  try dsimp only
  (repeat' split) <;>
    (repeat first | with_reducible exact hw | with_reducible apply State.stopIfDrained_events | simp | split)

/-- `requestHold` clears no event flag. -/
theorem State.requestHold_events {w : BitVec 9} {s : State} (c : BitVec 3) (p : Bool) (hw : EventsKept w s.window.events) :
    EventsKept w (s.requestHold c p).window.events := by
  unfold State.requestHold
  try dsimp only
  (repeat' split) <;>
    (repeat first | with_reducible exact hw | with_reducible apply State.raise_events | simp | split)

/-- `endWalkerUnit` clears no event flag. -/
theorem State.endWalkerUnit_events {w : BitVec 9} {s : State}  (hw : EventsKept w s.window.events) :
    EventsKept w (s.endWalkerUnit).window.events := by
  unfold State.endWalkerUnit
  try dsimp only
  (repeat first | with_reducible exact hw | with_reducible apply State.endUnit_events | simp | split)

/-- `walkerRests` clears no event flag. -/
theorem State.walkerRests_events {w : BitVec 9} {s : State}  (hw : EventsKept w s.window.events) :
    EventsKept w (s.walkerRests).window.events := by
  unfold State.walkerRests
  try dsimp only
  (repeat' split) <;>
    (repeat first | with_reducible exact hw | with_reducible apply State.stopIfDrained_events | simp | split)

/-- `afterRecords` clears no event flag. -/
theorem State.afterRecords_events {w : BitVec 9} {s : State}  (hw : EventsKept w s.window.events) :
    EventsKept w (s.afterRecords).window.events := by
  unfold State.afterRecords
  try dsimp only
  (repeat' split) <;>
    (repeat first | with_reducible exact hw | with_reducible apply State.arriveIdle_events | simp | split)

/-- `followNext` clears no event flag. -/
theorem State.followNext_events {w : BitVec 9} {s : State} (f n : Addr) (hw : EventsKept w s.window.events) :
    EventsKept w (s.followNext f n).window.events := by
  unfold State.followNext
  try dsimp only
  (repeat' split) <;>
    (repeat first | with_reducible exact hw | with_reducible apply State.engineFaults_events | with_reducible apply State.arriveIdle_events | simp | split)

/-- `afterTake` clears no event flag. -/
theorem State.afterTake_events {w : BitVec 9} {s : State}  (hw : EventsKept w s.window.events) :
    EventsKept w (s.afterTake).window.events := by
  unfold State.afterTake
  try dsimp only
  (repeat' split) <;>
    (repeat first | with_reducible exact hw | with_reducible apply State.walkerRests_events | simp | split)

/-- `idleIfEmpty` clears no event flag. -/
theorem State.idleIfEmpty_events {w : BitVec 9} {s : State}  (hw : EventsKept w s.window.events) :
    EventsKept w (s.idleIfEmpty).window.events := by
  unfold State.idleIfEmpty
  try dsimp only
  (repeat' split) <;>
    (repeat first | with_reducible exact hw | with_reducible apply State.raise_events | simp | split)

/-- `retireHead` clears no event flag. -/
theorem State.retireHead_events {w : BitVec 9} {s : State} (e : QueueEntry) (rest : List QueueEntry) (hw : EventsKept w s.window.events) :
    EventsKept w (s.retireHead e rest).window.events := by
  unfold State.retireHead
  try dsimp only
  (repeat' split) <;>
    (repeat first | with_reducible exact hw | with_reducible apply State.idleIfEmpty_events | with_reducible apply State.stopIfDrained_events | with_reducible apply State.raise_events | simp | split)

/-- `planReadFails` clears no event flag. -/
theorem State.planReadFails_events {w : BitVec 9} {s : State} (sl : SheetSlot) (hw : EventsKept w s.window.events) :
    EventsKept w (s.planReadFails sl).window.events := by
  unfold State.planReadFails
  try dsimp only
  (repeat first | with_reducible exact hw | with_reducible apply State.endUnit_events | simp | split)

/-- `endBuildUnit` clears no event flag. -/
theorem State.endBuildUnit_events {w : BitVec 9} {s : State} (b : Build) (hw : EventsKept w s.window.events) :
    EventsKept w (s.endBuildUnit b).window.events := by
  unfold State.endBuildUnit
  try dsimp only
  (repeat first | with_reducible exact hw | with_reducible apply State.endUnit_events | simp | split)

/-- `receiveSource` clears no event flag. -/
theorem State.receiveSource_events {w : BitVec 9} {s : State} (b : Build) (bs : List Byte) (hw : EventsKept w s.window.events) :
    EventsKept w (s.receiveSource b bs).window.events := by
  unfold State.receiveSource
  try dsimp only
  (repeat' split) <;>
    (repeat first | with_reducible exact hw | with_reducible apply State.endUnit_events | simp | split)

/-- `enterComposing` clears no event flag. -/
theorem State.enterComposing_events {w : BitVec 9} {s : State} (sl : SheetSlot) (t : Ticket) (hw : EventsKept w s.window.events) :
    EventsKept w (s.enterComposing sl t).window.events := by
  unfold State.enterComposing
  try dsimp only
  (repeat' split) <;>
    (repeat first | with_reducible exact hw | with_reducible apply State.fitSheet_events | simp | split)

/-- `underrun` clears no event flag. -/
theorem State.underrun_events {w : BitVec 9} {s : State} (h : LinkHold) (hw : EventsKept w s.window.events) :
    EventsKept w (s.underrun h).window.events := by
  unfold State.underrun
  try dsimp only
  (repeat first | with_reducible exact hw | with_reducible apply State.spoilAttempt_events | simp | split)

/-- `bandDue` clears no event flag. -/
theorem State.bandDue_events {w : BitVec 9} {s : State} (h : LinkHold) (hw : EventsKept w s.window.events) :
    EventsKept w (s.bandDue h).window.events := by
  unfold State.bandDue
  try dsimp only
  (repeat' split) <;>
    (repeat first | with_reducible exact hw | with_reducible apply State.underrun_events | simp | split)

/-- `pressSpoils` clears no event flag. -/
theorem State.pressSpoils_events {w : BitVec 9} {s : State} (h : LinkHold) (d : Detail) (hw : EventsKept w s.window.events) :
    EventsKept w (s.pressSpoils h d).window.events := by
  unfold State.pressSpoils
  try dsimp only
  (repeat first | with_reducible exact hw | with_reducible apply State.spoil_events | simp | split)

/-- `endBandWrite` clears no event flag. -/
theorem State.endBandWrite_events {w : BitVec 9} {s : State} (rows : List ServerWrite) (hw : EventsKept w s.window.events) :
    EventsKept w (s.endBandWrite rows).window.events := by
  unfold State.endBandWrite
  try dsimp only
  (repeat first | with_reducible exact hw | with_reducible apply State.endUnit_events | with_reducible apply State.findAgain_events | simp | split)

/-- `finishDiscardedBand` clears no event flag. -/
theorem State.finishDiscardedBand_events {w : BitVec 9} {s : State} (rows : List Bool)
    (hw : EventsKept w s.window.events) :
    EventsKept w (s.finishDiscardedBand rows).window.events := by
  unfold State.finishDiscardedBand
  try dsimp only
  (repeat' split) <;>
    (repeat first | with_reducible exact hw | with_reducible apply State.finishDiscarded_events | simp | split)

/-- `painterFindsDamage` clears no event flag. -/
theorem State.painterFindsDamage_events {w : BitVec 9} {s : State} (l : CheckLoc) (hw : EventsKept w s.window.events) :
    EventsKept w (s.painterFindsDamage l).window.events := by
  unfold State.painterFindsDamage
  try dsimp only
  (repeat' split) <;>
    (repeat first | with_reducible exact hw | with_reducible apply State.spoilAttempt_events | simp | split)

/-- `sendFindsDamage` clears no event flag. -/
theorem State.sendFindsDamage_events {w : BitVec 9} {s : State} (h : LinkHold) (b : Nat) (hw : EventsKept w s.window.events) :
    EventsKept w (s.sendFindsDamage h b).window.events := by
  unfold State.sendFindsDamage
  try dsimp only
  (repeat first | with_reducible exact hw | with_reducible apply State.spoil_events | simp | split)

/-- `takeDamage` clears no event flag. -/
theorem State.takeDamage_events {w : BitVec 9} {s : State} (l : CheckLoc) (r : Reader) (n : Nat) (hw : EventsKept w s.window.events) :
    EventsKept w (s.takeDamage l r n).window.events := by
  unfold State.takeDamage
  try dsimp only
  (repeat' split) <;>
    (repeat first | with_reducible exact hw | with_reducible apply State.sendFindsDamage_events | with_reducible apply State.painterFindsDamage_events | simp | split)

end Sys2Proof.Machine
end

