-- ==== Sys2Proof/Laws/Granules.lean ====
section
/-! SUPPORT. Contents in whole granules (R196): their length, their bytes, and how much of a glyph block the records that
were checked take up (R119, R215). -/

namespace Sys2Proof.Machine

/-! ## Whole granules -/

/-- A content in whole granules is as long as its granules (R196). -/
theorem wholeGranules_length (bs : List Byte) : (wholeGranules bs).length = (bs.length + 7) / 8 * 8 := by
  simp only [wholeGranules, List.length_append, List.length_replicate]
  omega

/-- The bytes of a content stay in its granules (R196). -/
theorem wholeGranules_kept (bs : List Byte) (i : Nat) (h : i < bs.length) : (wholeGranules bs)[i]? = bs[i]? := by
  rw [wholeGranules, List.getElem?_append_left h]

/-- The bytes that fill out the last granule are zero (R196). -/
theorem wholeGranules_filled (bs : List Byte) (i : Nat) (h1 : bs.length ≤ i) (h2 : i < (bs.length + 7) / 8 * 8) :
    (wholeGranules bs)[i]? = some 0#8 := by
  rw [wholeGranules, List.getElem?_append_right h1, List.getElem?_replicate, if_pos (by omega)]

/-- A content in whole granules reads as the content, and as zero bytes after it (R196). -/
theorem wholeGranules_getD (bs : List Byte) (i : Nat) : (wholeGranules bs).getD i 0#8 = bs.getD i 0#8 := by
  simp only [List.getD_eq_getElem?_getD]
  by_cases h : i < bs.length
  · rw [wholeGranules_kept _ _ h]
  · rw [wholeGranules, List.getElem?_append_right (by omega), List.getElem?_eq_none (l := bs) (by omega),
      List.getElem?_replicate]
    split <;> rfl

/-- A pixel of a content stands in its granules as it was (R88, R196). -/
theorem wholeGranules_colourAt (bs : List Byte) (i : Nat) :
    colourAt (wholeGranules bs) i = colourAt bs i := by
  simp only [colourAt, byteAt, wholeGranules_getD]

/-! ## The length of a glyph block -/

/-- Records that were all found are as many as were wanted, and lie within the bytes received (R119, R215). -/
theorem scanGlyphs_whole (bs : List Byte) (lineHeight at_ checked left : Nat) (gs gs' : List Glyph)
    (h0 : at_ ≤ bs.length) (h : scanGlyphs bs lineHeight at_ checked left = (.whole gs', gs)) :
    gs.length = left ∧ at_ + (gs.map fun g => 4 + g.width * lineHeight).sum ≤ bs.length := by
  induction left generalizing at_ checked gs with
  | zero =>
    simp only [scanGlyphs, Prod.mk.injEq] at h
    simp [← h.2, h0]
  | succ left ih =>
    simp only [scanGlyphs] at h
    split_ifs at h with h1 h2 h3 <;> simp only [Prod.mk.injEq, reduceCtorEq, false_and] at h
    rcases hr : scanGlyphs bs lineHeight (at_ + 4 + u8 bs (at_ + 3) * lineHeight) (checked + 1) left with ⟨r, rest⟩
    rw [hr] at h
    obtain ⟨ha, hb⟩ := h
    obtain ⟨i1, i2⟩ := ih _ _ _ (by omega) (hr.trans (Prod.ext ha rfl))
    subst hb
    simp only [List.length_cons, List.map_cons, List.sum_cons, i1, true_and]
    omega

/-- A whole block lies within the bytes received (R118, R215). -/
theorem blockLength_le (bs : List Byte) (count : Nat) (gs : List Glyph) (h : scanGlyphBlock bs count = .whole gs) :
    blockLength (u8 bs 0) gs ≤ bs.length := by
  unfold scanGlyphBlock at h
  split_ifs at h with h1 h2 h3
  rcases hs : scanGlyphs bs (u8 bs 0) 16 0 count with ⟨r, gs'⟩
  rw [hs] at h
  cases r with
  | whole x =>
    simp only [GlyphScan.whole.injEq] at h
    subst h
    exact (scanGlyphs_whole bs (u8 bs 0) 16 0 count gs' x (by omega) hs).2
  | refused d => simp at h
  | more k => simp at h

end Sys2Proof.Machine
end

