-- ==== Sys2Proof/Laws/Painting.lean ====
section
/-! SUPPORT. Laws of the rectangles and of the paintings that merge (R52, R196). -/

namespace Sys2Proof.Machine

/-- A rectangle is empty exactly when it holds no pixel (R52). -/
theorem rectEmpty_iff (r : Rect) : rectEmpty r = false ↔ ∃ x y, rectHas r x y = true := by
  simp only [rectEmpty, rectHas]
  constructor
  · intro h
    refine ⟨r.x, r.y, ?_⟩
    simp at h ⊢
    omega
  · rintro ⟨x, y, h⟩
    simp at h ⊢
    omega

/-- The intersection of two rectangles holds the pixels that both hold (R52). -/
theorem rectHas_meet (p q : Rect) (x y : Int) :
    rectHas (rectMeet p q) x y = true ↔ rectHas p x y = true ∧ rectHas q x y = true := by
  rw [rectHas, rectHas, rectHas, decide_eq_true_eq, decide_eq_true_eq, decide_eq_true_eq]
  simp only [rectMeet]
  omega

/-- A painting makes a merge exactly where it covers a pixel (R196). -/
theorem PaintOp.merges_iff (op : PaintOp) : op.merges = true ↔ ∃ x y, op.covers x y = true := by
  cases op with
  | fill area c => simp only [PaintOp.merges, PaintOp.covers, Bool.not_eq_true', rectEmpty_iff]
  | tile area x y w bs p => simp only [PaintOp.merges, PaintOp.covers, Bool.not_eq_true', rectEmpty_iff]
  | glyphRow area pen row c alphas s code =>
    simp only [PaintOp.merges, PaintOp.covers, Bool.not_eq_true', rectEmpty_iff, rectHas_meet, Bool.and_eq_true]
    refine exists_congr fun x => exists_congr fun y => and_congr_right fun _ => ?_
    simp only [rectHas, decide_eq_true_eq]
    omega

end Sys2Proof.Machine
end

