-- ==== Sys2Proof/WellFormed.lean ====
section
/-! DEFINITION. Which commands can be given at all: the sizes of the units of server-memory work (section 10.1, R212 to
R215), the offsets of the window (R203), and the reads that can find an error (R199). A meaning answers every command, well
formed or not; these checks say which ones a sender can send. -/

namespace Sys2Proof

/-- Whether `n` is a whole number of records of a size, from 1 to `most` of them. -/
def wholeRecords (size most n : Nat) : Bool := n % size == 0 && decide (0 < n) && decide (n ≤ size * most)

/-- A read result holds a bus error, or bytes whose number satisfies a test. -/
def ReadResult.sized (r : ReadResult) (f : Nat → Bool) : Bool :=
  match r with
  | .busError => true
  | .data bs => f bs.length

/-- The most bytes of source that a build reads: a raster of 8192 × 8192 pixels of three bytes (R28). -/
def mostSourceBytes : Nat := 8192 * 8192 * 3

/-- The pairs of location and reader of the table of R199. -/
def readerOf (loc : CheckLoc) (by_ : Reader) : Bool :=
  match loc, by_ with
  | .storeTile _ _, .composer => true
  | .scratchTile _ _, .composer => true
  | .band _, .composer => true
  | .band _, .pressLink => true
  | .band _, .proofWriter => true
  | .glyph _ _, .captionFitting => true
  | .glyph _ _, .captionPainting => true
  | _, _ => false

/-- Whether a command can be given. -/
def Instr.wf (i : Instr) : Bool :=
  match i with
  | .registerWrite offset _ _ => decide (offset < 96)
  | .recordReadDone _ r => r.sized (wholeRecords 64 8)
  | .trailerReadDone _ r => r.sized (· == 64)
  | .profileBlockReadDone _ r => r.sized (· == 32)
  | .glyphUnitDone _ r => r.sized (wholeRecords 1 4096)
  | .ticketReadDone _ r => r.sized (· == 128)
  | .layoutReadDone _ r => r.sized (wholeRecords 32 8)
  | .rosterReadDone _ r => r.sized (wholeRecords 16 16)
  | .subjectReadDone _ r => r.sized (· == 128)
  | .bannerTextReadDone _ r => r.sized (wholeRecords 2 64)
  | .sourceReadDone _ r _ => r.sized (wholeRecords 1 mostSourceBytes)
  | .correctableError loc by_ => readerOf loc by_
  | .uncorrectableError loc by_ _ => readerOf loc by_
  | .bandWriteDone _ rows => decide (rows ≤ 64)
  | .bandWriteFail _ rows => decide (rows.length ≤ 64) && rows.contains false
  | .powerOn | .scrubEnd | .functionReset | .reset | .runStart | .runDrain | .abandon => true
  | .depthWrite _ | .pressModeWrite _ | .sweepPresetWrite _ | .chainHeadWrite _ | .wake _ => true
  | .eventsWrite _ | .enablesWrite _ | .holdRequest _ _ | .holdRelease _ _ | .checkLogClear => true
  | .poisonSelect _ | .sweepExpiry | .recordReadStart | .trailerReadStart | .takeStart => true
  | .takenWriteDone _ _ | .profileBlockReadStart | .glyphUnitStart | .ticketReadStart => true
  | .layoutReadStart | .rosterReadStart | .subjectReadStart | .bannerTextReadStart => true
  | .buildStart | .buildComplete | .buildFailure | .sheetEnterComposing | .bandPaintDone => true
  | .readyRise | .readyFall | .waitTimerExpiry | .accept _ | .acceptTimerExpiry => true
  | .bandTimerExpiry | .graceTimerExpiry | .bandSendDone | .result _ _ | .resultTimerExpiry => true
  | .bandWriteStart | .reportWriteStart _ | .reportWriteDone _ _ _ | .retireStart => true
  | .resultsWriteDone _ _ | .doneWriteDone _ _ | .spentWriteStart | .spentWriteDone _ _ => true
  | .windowTimerExpiry => true

/-- The bytes that a command carries from server memory: none for a command that is no completed read. -/
def Instr.carried (i : Instr) : Nat :=
  match i with
  | .recordReadDone _ (.data bs) => bs.length
  | .trailerReadDone _ (.data bs) => bs.length
  | .profileBlockReadDone _ (.data bs) => bs.length
  | .glyphUnitDone _ (.data bs) => bs.length
  | .ticketReadDone _ (.data bs) => bs.length
  | .layoutReadDone _ (.data bs) => bs.length
  | .rosterReadDone _ (.data bs) => bs.length
  | .subjectReadDone _ (.data bs) => bs.length
  | .bannerTextReadDone _ (.data bs) => bs.length
  | .sourceReadDone _ (.data bs) _ => bs.length
  | _ => 0

end Sys2Proof
end

