-- ==== Sys2Proof/Laws/PerInstr.lean ====
section
/-! SUPPORT. Statements made of every command as syntax, one lemma per constructor. ReadSizes: a well-formed command other
than a source read carries at most 4096 bytes from server memory, the largest unit of section 10.1. -/

namespace Sys2Proof.Laws

/-- A well-formed command carries at most the bytes of the largest unit; a source read, at most a whole raster. -/
def ReadSizes.Statement (i : Instr) : Prop :=
  i.wf = true → i.carried ≤ 4096 ∨ ∃ u r last, i = .sourceReadDone u r last ∧ i.carried ≤ mostSourceBytes

/-- A sized read result carries at most what the test allows. -/
theorem le_of_wholeRecords {size most n : Nat} (h : wholeRecords size most n = true) : n ≤ size * most := by
  simp only [wholeRecords, Bool.and_eq_true, decide_eq_true_eq] at h
  exact h.2

theorem ReadSizes.powerOn : ReadSizes.Statement (.powerOn) :=
  fun _ => .inl (Nat.zero_le _)

theorem ReadSizes.scrubEnd : ReadSizes.Statement (.scrubEnd) :=
  fun _ => .inl (Nat.zero_le _)

theorem ReadSizes.functionReset : ReadSizes.Statement (.functionReset) :=
  fun _ => .inl (Nat.zero_le _)

theorem ReadSizes.reset : ReadSizes.Statement (.reset) :=
  fun _ => .inl (Nat.zero_le _)

theorem ReadSizes.runStart : ReadSizes.Statement (.runStart) :=
  fun _ => .inl (Nat.zero_le _)

theorem ReadSizes.runDrain : ReadSizes.Statement (.runDrain) :=
  fun _ => .inl (Nat.zero_le _)

theorem ReadSizes.abandon : ReadSizes.Statement (.abandon) :=
  fun _ => .inl (Nat.zero_le _)

theorem ReadSizes.depthWrite (value : BitVec 4) : ReadSizes.Statement (.depthWrite value) :=
  fun _ => .inl (Nat.zero_le _)

theorem ReadSizes.pressModeWrite (value : BitVec 2) : ReadSizes.Statement (.pressModeWrite value) :=
  fun _ => .inl (Nat.zero_le _)

theorem ReadSizes.sweepPresetWrite (value : BitVec 16) : ReadSizes.Statement (.sweepPresetWrite value) :=
  fun _ => .inl (Nat.zero_le _)

theorem ReadSizes.chainHeadWrite (value : Addr) : ReadSizes.Statement (.chainHeadWrite value) :=
  fun _ => .inl (Nat.zero_le _)

theorem ReadSizes.wake (value : BitVec 64) : ReadSizes.Statement (.wake value) :=
  fun _ => .inl (Nat.zero_le _)

theorem ReadSizes.eventsWrite (value : BitVec 9) : ReadSizes.Statement (.eventsWrite value) :=
  fun _ => .inl (Nat.zero_le _)

theorem ReadSizes.enablesWrite (value : BitVec 9) : ReadSizes.Statement (.enablesWrite value) :=
  fun _ => .inl (Nat.zero_le _)

theorem ReadSizes.holdRequest (code : BitVec 3) (pressFirst : Bool) : ReadSizes.Statement (.holdRequest code pressFirst) :=
  fun _ => .inl (Nat.zero_le _)

theorem ReadSizes.holdRelease (code : BitVec 3) (pressFirst : Bool) : ReadSizes.Statement (.holdRelease code pressFirst) :=
  fun _ => .inl (Nat.zero_le _)

theorem ReadSizes.checkLogClear : ReadSizes.Statement (.checkLogClear) :=
  fun _ => .inl (Nat.zero_le _)

theorem ReadSizes.poisonSelect (value : BitVec 2) : ReadSizes.Statement (.poisonSelect value) :=
  fun _ => .inl (Nat.zero_le _)

theorem ReadSizes.registerWrite (offset size : Nat) (value : BitVec 64) : ReadSizes.Statement (.registerWrite offset size value) :=
  fun _ => .inl (Nat.zero_le _)

theorem ReadSizes.sweepExpiry : ReadSizes.Statement (.sweepExpiry) :=
  fun _ => .inl (Nat.zero_le _)

theorem ReadSizes.recordReadStart : ReadSizes.Statement (.recordReadStart) :=
  fun _ => .inl (Nat.zero_le _)

theorem ReadSizes.recordReadDone (u : UnitOf) (r : ReadResult) : ReadSizes.Statement (.recordReadDone u r) := by
  intro h
  cases r with
  | busError => exact .inl (Nat.zero_le _)
  | data bs =>
    left
    show bs.length ≤ 4096
    exact le_trans (le_of_wholeRecords h) (by decide)

theorem ReadSizes.trailerReadStart : ReadSizes.Statement (.trailerReadStart) :=
  fun _ => .inl (Nat.zero_le _)

theorem ReadSizes.trailerReadDone (u : UnitOf) (r : ReadResult) : ReadSizes.Statement (.trailerReadDone u r) := by
  intro h
  cases r with
  | busError => exact .inl (Nat.zero_le _)
  | data bs =>
    left
    show bs.length ≤ 4096
    have h' : (bs.length == _) = true := h
    rw [eq_of_beq h']
    decide

theorem ReadSizes.takeStart : ReadSizes.Statement (.takeStart) :=
  fun _ => .inl (Nat.zero_le _)

theorem ReadSizes.takenWriteDone (u : UnitOf) (ok : Bool) : ReadSizes.Statement (.takenWriteDone u ok) :=
  fun _ => .inl (Nat.zero_le _)

theorem ReadSizes.profileBlockReadStart : ReadSizes.Statement (.profileBlockReadStart) :=
  fun _ => .inl (Nat.zero_le _)

theorem ReadSizes.profileBlockReadDone (u : UnitOf) (r : ReadResult) : ReadSizes.Statement (.profileBlockReadDone u r) := by
  intro h
  cases r with
  | busError => exact .inl (Nat.zero_le _)
  | data bs =>
    left
    show bs.length ≤ 4096
    have h' : (bs.length == _) = true := h
    rw [eq_of_beq h']
    decide

theorem ReadSizes.glyphUnitStart : ReadSizes.Statement (.glyphUnitStart) :=
  fun _ => .inl (Nat.zero_le _)

theorem ReadSizes.glyphUnitDone (u : UnitOf) (r : ReadResult) : ReadSizes.Statement (.glyphUnitDone u r) := by
  intro h
  cases r with
  | busError => exact .inl (Nat.zero_le _)
  | data bs =>
    left
    show bs.length ≤ 4096
    exact le_trans (le_of_wholeRecords h) (by decide)

theorem ReadSizes.ticketReadStart : ReadSizes.Statement (.ticketReadStart) :=
  fun _ => .inl (Nat.zero_le _)

theorem ReadSizes.ticketReadDone (u : UnitOf) (r : ReadResult) : ReadSizes.Statement (.ticketReadDone u r) := by
  intro h
  cases r with
  | busError => exact .inl (Nat.zero_le _)
  | data bs =>
    left
    show bs.length ≤ 4096
    have h' : (bs.length == _) = true := h
    rw [eq_of_beq h']
    decide

theorem ReadSizes.layoutReadStart : ReadSizes.Statement (.layoutReadStart) :=
  fun _ => .inl (Nat.zero_le _)

theorem ReadSizes.layoutReadDone (u : UnitOf) (r : ReadResult) : ReadSizes.Statement (.layoutReadDone u r) := by
  intro h
  cases r with
  | busError => exact .inl (Nat.zero_le _)
  | data bs =>
    left
    show bs.length ≤ 4096
    exact le_trans (le_of_wholeRecords h) (by decide)

theorem ReadSizes.rosterReadStart : ReadSizes.Statement (.rosterReadStart) :=
  fun _ => .inl (Nat.zero_le _)

theorem ReadSizes.rosterReadDone (u : UnitOf) (r : ReadResult) : ReadSizes.Statement (.rosterReadDone u r) := by
  intro h
  cases r with
  | busError => exact .inl (Nat.zero_le _)
  | data bs =>
    left
    show bs.length ≤ 4096
    exact le_trans (le_of_wholeRecords h) (by decide)

theorem ReadSizes.subjectReadStart : ReadSizes.Statement (.subjectReadStart) :=
  fun _ => .inl (Nat.zero_le _)

theorem ReadSizes.subjectReadDone (u : UnitOf) (r : ReadResult) : ReadSizes.Statement (.subjectReadDone u r) := by
  intro h
  cases r with
  | busError => exact .inl (Nat.zero_le _)
  | data bs =>
    left
    show bs.length ≤ 4096
    have h' : (bs.length == _) = true := h
    rw [eq_of_beq h']
    decide

theorem ReadSizes.bannerTextReadStart : ReadSizes.Statement (.bannerTextReadStart) :=
  fun _ => .inl (Nat.zero_le _)

theorem ReadSizes.bannerTextReadDone (u : UnitOf) (r : ReadResult) : ReadSizes.Statement (.bannerTextReadDone u r) := by
  intro h
  cases r with
  | busError => exact .inl (Nat.zero_le _)
  | data bs =>
    left
    show bs.length ≤ 4096
    exact le_trans (le_of_wholeRecords h) (by decide)

theorem ReadSizes.buildStart : ReadSizes.Statement (.buildStart) :=
  fun _ => .inl (Nat.zero_le _)

theorem ReadSizes.buildComplete : ReadSizes.Statement (.buildComplete) :=
  fun _ => .inl (Nat.zero_le _)

theorem ReadSizes.buildFailure : ReadSizes.Statement (.buildFailure) :=
  fun _ => .inl (Nat.zero_le _)

theorem ReadSizes.sheetEnterComposing : ReadSizes.Statement (.sheetEnterComposing) :=
  fun _ => .inl (Nat.zero_le _)

theorem ReadSizes.bandPaintDone : ReadSizes.Statement (.bandPaintDone) :=
  fun _ => .inl (Nat.zero_le _)

theorem ReadSizes.correctableError (loc : CheckLoc) (by_ : Reader) : ReadSizes.Statement (.correctableError loc by_) :=
  fun _ => .inl (Nat.zero_le _)

theorem ReadSizes.uncorrectableError (loc : CheckLoc) (by_ : Reader) (rowsPainted : Nat) : ReadSizes.Statement (.uncorrectableError loc by_ rowsPainted) :=
  fun _ => .inl (Nat.zero_le _)

theorem ReadSizes.readyRise : ReadSizes.Statement (.readyRise) :=
  fun _ => .inl (Nat.zero_le _)

theorem ReadSizes.readyFall : ReadSizes.Statement (.readyFall) :=
  fun _ => .inl (Nat.zero_le _)

theorem ReadSizes.waitTimerExpiry : ReadSizes.Statement (.waitTimerExpiry) :=
  fun _ => .inl (Nat.zero_le _)

theorem ReadSizes.accept (sheetId : BitVec 32) : ReadSizes.Statement (.accept sheetId) :=
  fun _ => .inl (Nat.zero_le _)

theorem ReadSizes.acceptTimerExpiry : ReadSizes.Statement (.acceptTimerExpiry) :=
  fun _ => .inl (Nat.zero_le _)

theorem ReadSizes.bandTimerExpiry : ReadSizes.Statement (.bandTimerExpiry) :=
  fun _ => .inl (Nat.zero_le _)

theorem ReadSizes.graceTimerExpiry : ReadSizes.Statement (.graceTimerExpiry) :=
  fun _ => .inl (Nat.zero_le _)

theorem ReadSizes.bandSendDone : ReadSizes.Statement (.bandSendDone) :=
  fun _ => .inl (Nat.zero_le _)

theorem ReadSizes.result (sheetId : BitVec 32) (code : PressCode) : ReadSizes.Statement (.result sheetId code) :=
  fun _ => .inl (Nat.zero_le _)

theorem ReadSizes.resultTimerExpiry : ReadSizes.Statement (.resultTimerExpiry) :=
  fun _ => .inl (Nat.zero_le _)

theorem ReadSizes.bandWriteStart : ReadSizes.Statement (.bandWriteStart) :=
  fun _ => .inl (Nat.zero_le _)

theorem ReadSizes.bandWriteDone (u : UnitOf) (rows : Nat) : ReadSizes.Statement (.bandWriteDone u rows) :=
  fun _ => .inl (Nat.zero_le _)

theorem ReadSizes.bandWriteFail (u : UnitOf) (rows : List Bool) : ReadSizes.Statement (.bandWriteFail u rows) :=
  fun _ => .inl (Nat.zero_le _)

theorem ReadSizes.reportWriteStart (slot : SheetSlot) : ReadSizes.Statement (.reportWriteStart slot) :=
  fun _ => .inl (Nat.zero_le _)

theorem ReadSizes.reportWriteDone (u : UnitOf) (slot : SheetSlot) (ok : Bool) : ReadSizes.Statement (.reportWriteDone u slot ok) :=
  fun _ => .inl (Nat.zero_le _)

theorem ReadSizes.retireStart : ReadSizes.Statement (.retireStart) :=
  fun _ => .inl (Nat.zero_le _)

theorem ReadSizes.resultsWriteDone (u : UnitOf) (ok : Bool) : ReadSizes.Statement (.resultsWriteDone u ok) :=
  fun _ => .inl (Nat.zero_le _)

theorem ReadSizes.doneWriteDone (u : UnitOf) (ok : Bool) : ReadSizes.Statement (.doneWriteDone u ok) :=
  fun _ => .inl (Nat.zero_le _)

theorem ReadSizes.spentWriteStart : ReadSizes.Statement (.spentWriteStart) :=
  fun _ => .inl (Nat.zero_le _)

theorem ReadSizes.spentWriteDone (u : UnitOf) (ok : Bool) : ReadSizes.Statement (.spentWriteDone u ok) :=
  fun _ => .inl (Nat.zero_le _)

theorem ReadSizes.windowTimerExpiry : ReadSizes.Statement (.windowTimerExpiry) :=
  fun _ => .inl (Nat.zero_le _)

theorem ReadSizes.sourceReadDone (u : UnitOf) (r : ReadResult) (last : Bool) :
    ReadSizes.Statement (.sourceReadDone u r last) := by
  intro h
  cases r with
  | busError => exact .inl (Nat.zero_le _)
  | data bs =>
    refine .inr ⟨u, .data bs, last, rfl, ?_⟩
    show bs.length ≤ mostSourceBytes
    have := le_of_wholeRecords (show wholeRecords 1 mostSourceBytes bs.length = true from h)
    omega

end Sys2Proof.Laws
end

