-- ==== Sys2Proof/Laws/Source.lean ====
section
/-! SUPPORT. The source reads of a build and the rows of a band write: where each byte lies in server memory (R87), and
which rows of a failing band write have reached it (R169); the pixels of the finished tile (R76, R84 to R88) and the final
origin under SHIFT (R81). -/

namespace Sys2Proof.Machine

/-- The bytes of runs of one length `m`: byte `i` of run `r` is the one at place `r × m + i`. -/
theorem rangeAddrs_at (rs : List SourceRange) (m r i : Nat) (x : SourceRange) (hm : ∀ y ∈ rs, y.bytes = m)
    (hr : rs[r]? = some x) (hi : i < m) : (rangeAddrs rs)[r * m + i]? = some (serverAddr x.addr i) := by
  induction rs generalizing r with
  | nil => simp at hr
  | cons y ys ih =>
    have hy : y.bytes = m := hm y (by simp)
    have hl : ((List.range y.bytes).map fun j => serverAddr y.addr j).length = m := by simp [hy]
    simp only [rangeAddrs, List.flatMap_cons]
    cases r with
    | zero =>
      obtain rfl : y = x := by simpa using hr
      rw [List.getElem?_append_left (by omega)]
      simp [hy, hi]
    | succ r =>
      rw [List.getElem?_append_right (by rw [hl, Nat.succ_mul]; omega), hl,
        show (r + 1) * m + i - m = r * m + i by rw [Nat.succ_mul]; omega]
      exact ih r (fun z hz => hm z (by simp [hz])) (by simpa using hr)

/-- An address and an offset that do not pass the top of the address space. -/
theorem serverAddr_add (a : Addr) (n m : Nat) (h : a.toNat + n + m < 2 ^ 64) :
    serverAddr (serverAddr a n) m = a + BitVec.ofNat 64 (n + m) := by
  have h1 : a.toNat + n < 2 ^ 64 := by omega
  have h2 : (serverAddr a n).toNat = a.toNat + n := by simp only [serverAddr, if_pos h1, BitVec.toNat_ofNat]; omega
  unfold serverAddr at h2 ⊢
  rw [if_pos h1] at h2 ⊢
  rw [if_pos (by omega), h2]
  apply BitVec.eq_of_toNat_eq
  simp only [BitVec.toNat_ofNat, BitVec.toNat_add]
  omega

/-- Byte `j` of source pixel (x, y) of a build's area is read at raster address + y × pitch + x × bytes per pixel + j, and is
the byte that `sourcePixel` takes for it, where the row does not pass the top of the address space (R28, R87). -/
theorem sourceRanges_addr (src : Source) (f : Fit) (p : Profile) (a : SourceArea) (x y j : Nat)
    (ha : sourceArea f p = some a) (hx : a.x ≤ x ∧ x < a.x + a.cols) (hy : a.y ≤ y ∧ y < a.y + a.rows)
    (hj : j < src.form.bytes) (ht : src.addr.toNat + y * src.pitch + x * src.form.bytes + j < 2 ^ 64) :
    (rangeAddrs (sourceRanges src f p))[((y - a.y) * a.cols + (x - a.x)) * src.form.bytes + j]? =
      some (src.addr + BitVec.ofNat 64 (y * src.pitch + x * src.form.bytes + j)) := by
  have hlt : (x - a.x) * src.form.bytes + j < a.cols * src.form.bytes := by
    have h1 : (x - a.x) + 1 ≤ a.cols := by omega
    have h2 := Nat.mul_le_mul_right src.form.bytes h1
    rw [Nat.add_mul, Nat.one_mul] at h2
    omega
  have hx3 : x * src.form.bytes = a.x * src.form.bytes + (x - a.x) * src.form.bytes := by
    rw [← Nat.add_mul, show a.x + (x - a.x) = x by omega]
  have hrow : ((List.range a.rows).map fun r =>
      (⟨sourceAddr src a.x (a.y + r), a.cols * src.form.bytes⟩ : SourceRange))[y - a.y]? =
      some ⟨sourceAddr src a.x y, a.cols * src.form.bytes⟩ := by
    rw [List.getElem?_map, List.getElem?_range (by omega)]
    simp [show a.y + (y - a.y) = y by omega]
  have h := rangeAddrs_at _ (a.cols * src.form.bytes) (y - a.y) ((x - a.x) * src.form.bytes + j) _
    (by intro z hz; simp only [List.mem_map] at hz; obtain ⟨_, _, rfl⟩ := hz; rfl) hrow hlt
  simp only [sourceRanges, ha]
  rw [show ((y - a.y) * a.cols + (x - a.x)) * src.form.bytes + j =
    (y - a.y) * (a.cols * src.form.bytes) + ((x - a.x) * src.form.bytes + j) by
      rw [Nat.add_mul, Nat.mul_assoc, Nat.add_assoc], h]
  simp only [sourceAddr]
  rw [serverAddr_add _ _ _ (by omega), hx3]
  simp only [Option.some.injEq]
  congr 2
  omega

/-- The bytes of the runs are as many as their addresses. -/
@[simp] theorem rangeAddrs_length (rs : List SourceRange) : (rangeAddrs rs).length = rangeBytes rs := by
  induction rs with
  | nil => rfl
  | cons x xs ih => simp only [rangeAddrs, rangeBytes] at ih ⊢; simp [ih]

/-- With no row failing, the rows issued have reached server memory. -/
theorem rowsReached_all (rows : List ServerWrite) (n : Nat) : rowsReached rows (List.replicate n true) = rows.take n := by
  induction n generalizing rows with
  | zero => simp [rowsReached]
  | succ n ih =>
    cases rows with
    | nil => rfl
    | cons x xs => simpa [rowsReached, List.replicate_succ] using ih xs

/-! ## The tile of a build (R76, R84 to R88) -/

/-- The reduced pixels of a sample lie at or after those of a lower one. -/
theorem sampleParts_mono (size : Nat) {a b : Int} (h : a ≤ b) :
    (sampleParts size a).1 ≤ (sampleParts size b).1 ∧ (sampleParts size a).2.2 ≤ (sampleParts size b).2.2 := by
  simp only [sampleParts]
  have h1 : (max 0 (min a (((size : Int) - 1) * 256))).toNat ≤ (max 0 (min b (((size : Int) - 1) * 256))).toNat := by
    omega
  have h2 : (max 0 (min b (((size : Int) - 1) * 256))).toNat / 256 ≤ size - 1 := by omega
  constructor
  · omega
  · split <;> split <;> omega

/-- The neighbour of a reduced pixel is not before it. -/
theorem sampleParts_le (size : Nat) (a : Int) : (sampleParts size a).1 ≤ (sampleParts size a).2.2 := by
  simp only [sampleParts]
  split <;> omega

/-- What an in-range sample of an axis names (R85). -/
theorem sampleParts_sampled (size : Nat) (a : Int) (h : 1 ≤ size) :
    AxisSampled size a (sampleParts size a).1 (sampleParts size a).2.1 (sampleParts size a).2.2 := by
  simp only [sampleParts]
  refine ⟨?_, ?_, ?_, ?_, ?_⟩
  · intro h'; omega
  · intro h'; omega
  · intro h1 h2; omega
  · intro h'; rw [if_pos h']
  · intro h'; rw [if_neg h']

theorem samplePos_mono (f : Fit) (o : Int) {u v : Nat} (h : u ≤ v) : samplePos f o u ≤ samplePos f o v := by
  simp only [samplePos]
  have : (u : Int) * f.step ≤ v * f.step := by exact_mod_cast Nat.mul_le_mul_right _ h
  omega

/-- The needed range of an axis takes in the reduced pixels of every in-range sample (R85, R87). -/
theorem neededRange_covers (f : Fit) (size cell : Nat) (o : Int) (u : Nat) (hu : u < cell)
    (hs : sampleInRange size (samplePos f o u) = true) : ∃ lo hi, neededRange f size cell o = some (lo, hi) ∧
      lo ≤ (sampleParts size (samplePos f o u)).1 ∧ (sampleParts size (samplePos f o u)).2.2 ≤ hi := by
  have hmem : u ∈ (List.range cell).filter fun u => sampleInRange size (samplePos f o u) := by simp [hu, hs]
  have hsort : ((List.range cell).filter fun u => sampleInRange size (samplePos f o u)).Pairwise (· < ·) :=
    List.Pairwise.filter _ List.pairwise_lt_range
  simp only [neededRange]
  generalize hl : (List.range cell).filter (fun u => sampleInRange size (samplePos f o u)) = us at hmem hsort
  obtain ⟨i, hi, rfl⟩ := List.mem_iff_getElem.1 hmem
  have hne : us ≠ [] := List.ne_nil_of_length_pos (by omega)
  rw [List.head?_eq_some_head hne, List.getLast?_eq_some_getLast hne]
  refine ⟨_, _, rfl, ?_, ?_⟩
  · refine (sampleParts_mono size (samplePos_mono f o ?_)).1
    rw [List.head_eq_getElem]
    rcases Nat.eq_zero_or_pos i with h | h
    · subst h; exact Nat.le_refl _
    · exact Nat.le_of_lt (List.pairwise_iff_getElem.1 hsort _ _ _ hi h)
  · refine (sampleParts_mono size (samplePos_mono f o ?_)).2
    rw [List.getLast_eq_getElem]
    rcases Nat.lt_or_ge i (us.length - 1) with h | h
    · exact Nat.le_of_lt (List.pairwise_iff_getElem.1 hsort _ _ hi (by omega) h)
    · have : i = us.length - 1 := by omega
      subst this; exact Nat.le_refl _

/-- A byte is given by its value. -/
theorem byte_ofNat {x : Byte} {n : Nat} (h : x.toNat = n) : x = BitVec.ofNat 8 n := by
  subst h; exact (BitVec.ofNat_toNat ..).symm ▸ (by simp)

/-- Rasters that agree on an area and are halved alike agree on the pixels wholly over it (R76). -/
theorem halved_eq (rasters : Nat → Nat → Nat → Colour) (src : Nat → Nat → Colour) (k x cols y rows : Nat)
    (h0 : ∀ i j, x ≤ i → i < x + cols → y ≤ j → j < y + rows → rasters 0 i j = src i j)
    (hh : ∀ n < k, Halved (rasters n) (rasters (n + 1))) :
    ∀ n ≤ k, ∀ i j, x ≤ 2 ^ n * i → 2 ^ n * (i + 1) ≤ x + cols → y ≤ 2 ^ n * j → 2 ^ n * (j + 1) ≤ y + rows →
      rasters n i j = reducedPixel src n i j := by
  intro n
  induction n with
  | zero => intro _ i j h1 h2 h3 h4; exact h0 i j (by omega) (by omega) (by omega) (by omega)
  | succ n ih =>
    intro hn i j h1 h2 h3 h4
    have e1 : 2 ^ (n + 1) * i = 2 ^ n * (2 * i) := by rw [Nat.pow_succ, Nat.mul_assoc]
    have e2 : 2 ^ (n + 1) * (i + 1) = 2 ^ n * (2 * i + 1 + 1) := by
      rw [Nat.pow_succ, Nat.mul_assoc]; congr 1
    have e3 : 2 ^ (n + 1) * j = 2 ^ n * (2 * j) := by rw [Nat.pow_succ, Nat.mul_assoc]
    have e4 : 2 ^ (n + 1) * (j + 1) = 2 ^ n * (2 * j + 1 + 1) := by
      rw [Nat.pow_succ, Nat.mul_assoc]; congr 1
    have m1 : 2 ^ n * (2 * i) ≤ 2 ^ n * (2 * i + 1) := Nat.mul_le_mul_left _ (by omega)
    have m2 : 2 ^ n * (2 * i + 1) ≤ 2 ^ n * (2 * i + 1 + 1) := Nat.mul_le_mul_left _ (by omega)
    have m3 : 2 ^ n * (2 * j) ≤ 2 ^ n * (2 * j + 1) := Nat.mul_le_mul_left _ (by omega)
    have m4 : 2 ^ n * (2 * j + 1) ≤ 2 ^ n * (2 * j + 1 + 1) := Nat.mul_le_mul_left _ (by omega)
    have g := ih (by omega)
    obtain ⟨hr, hg, hb⟩ := hh n (by omega) i j
    rw [g (2 * i) (2 * j) (by omega) (by omega) (by omega) (by omega),
      g (2 * i + 1) (2 * j) (by omega) (by omega) (by omega) (by omega),
      g (2 * i) (2 * j + 1) (by omega) (by omega) (by omega) (by omega),
      g (2 * i + 1) (2 * j + 1) (by omega) (by omega) (by omega) (by omega)] at hr hg hb
    calc rasters (n + 1) i j = ⟨(rasters (n + 1) i j).r, (rasters (n + 1) i j).g, (rasters (n + 1) i j).b⟩ := rfl
      _ = _ := by rw [byte_ofNat hr, byte_ofNat hg, byte_ofNat hb]; rfl

theorem blendStep_toNat (p q : Byte) (f : Nat) (h : f ≤ 256) :
    (blendStep p q f).toNat = (p.toNat * (256 - f) + q.toNat * f + 128) / 256 := by
  have h1 : p.toNat * (256 - f) ≤ 255 * (256 - f) := Nat.mul_le_mul_right _ (by omega)
  have h2 : q.toNat * f ≤ 255 * f := Nat.mul_le_mul_right _ (by omega)
  simp only [blendStep, BitVec.toNat_ofNat]
  apply Nat.mod_eq_of_lt
  omega

theorem blendChannel_blended (p00 p10 p01 p11 : Byte) (f g : Nat) (hf : f < 256) (hg : g < 256) :
    ChannelBlended p00 p10 p01 p11 f g (blendChannel p00 p10 p01 p11 f g) := by
  simp only [ChannelBlended, blendChannel]
  rw [blendStep_toNat _ _ _ (by omega), blendStep_toNat _ _ _ (by omega), blendStep_toNat _ _ _ (by omega)]

/-- Item `i` of block `r` of blocks of one length. -/
theorem flatMap_at {α β : Type} (l : List α) (f : α → List β) (m r i : Nat) (x : α) (hm : ∀ y ∈ l, (f y).length = m)
    (hr : l[r]? = some x) (hi : i < m) : (l.flatMap f)[r * m + i]? = (f x)[i]? := by
  induction l generalizing r with
  | nil => simp at hr
  | cons y ys ih =>
    have hy : (f y).length = m := hm y (by simp)
    rw [List.flatMap_cons]
    cases r with
    | zero =>
      obtain rfl : y = x := by simpa using hr
      rw [List.getElem?_append_left (by omega)]
      simp
    | succ r =>
      rw [List.getElem?_append_right (by rw [hy, Nat.succ_mul]; omega), hy,
        show (r + 1) * m + i - m = r * m + i by rw [Nat.succ_mul]; omega]
      exact ih r (fun z hz => hm z (by simp [hz])) (by simpa using hr)

theorem flatMap_length_const {α β : Type} (l : List α) (f : α → List β) (m : Nat) (hm : ∀ y ∈ l, (f y).length = m) :
    (l.flatMap f).length = l.length * m := by
  induction l with
  | nil => simp
  | cons y ys ih =>
    rw [List.flatMap_cons, List.length_append, hm y (by simp), ih fun z hz => hm z (by simp [hz]), List.length_cons,
      Nat.succ_mul]
    omega

/-- Tile pixel (u, v) stands at its place of the finished tile (R88). -/
theorem tileBytes_colourAt (src : Source) (f : Fit) (p : Profile) (got : List Byte) (u v : Nat) (hu : u < p.cellWidth)
    (hv : v < p.cellHeight) :
    colourAt (tileBytes src f p got) (3 * (v * p.cellWidth + u)) = tilePixel src f p got u v := by
  have hrow : ∀ v, ((List.range p.cellWidth).flatMap fun u => colourBytes (tilePixel src f p got u v)).length =
      p.cellWidth * 3 := fun v => by
    rw [flatMap_length_const _ _ 3 fun _ _ => rfl, List.length_range]
  have hat : ∀ j < 3, (tileBytes src f p got)[3 * (v * p.cellWidth + u) + j]? =
      (colourBytes (tilePixel src f p got u v))[j]? := fun j hj => by
    have e : 3 * (v * p.cellWidth + u) + j = v * (p.cellWidth * 3) + (u * 3 + j) := by
      rw [Nat.mul_add, ← Nat.mul_assoc, Nat.mul_comm 3 v, Nat.mul_assoc, Nat.mul_comm 3 p.cellWidth]; omega
    rw [e, tileBytes, flatMap_at _ _ (p.cellWidth * 3) v (u * 3 + j) v (fun y _ => hrow y) (List.getElem?_range hv)
      (by omega), flatMap_at _ _ 3 u j u (fun _ _ => rfl) (List.getElem?_range hu) hj]
  have h0 := hat 0 (by omega)
  have h1 := hat 1 (by omega)
  have h2 := hat 2 (by omega)
  rw [Nat.add_zero] at h0
  simp only [colourAt, byteAt, List.getD_eq_getElem?_getD, h0, h1, h2]
  rfl

/-- A raster that holds the bytes read is the one that the tile is sampled from, over the area read (R77, R87). -/
theorem sourcePixel_taken (src : Source) (a : SourceArea) (got : List Byte) (raster : Nat → Nat → Colour)
    (h : SourceTaken src a got raster) (x y : Nat) (h1 : a.x ≤ x) (h2 : x < a.x + a.cols) (h3 : a.y ≤ y)
    (h4 : y < a.y + a.rows) : raster x y = sourcePixel src a got x y := by
  unfold sourcePixel
  cases hf : src.form with
  | rgb8 =>
    rw [h.rgb hf x y h1 h2 h3 h4]
    simp only [PixelForm.bytes, Nat.mul_comm _ 3]
  | gray8 =>
    rw [h.gray hf x y h1 h2 h3 h4]
    simp only [PixelForm.bytes, Nat.mul_one]

/-- The finished tile has three bytes for each of its pixels (R88). -/
theorem tileBytes_length (src : Source) (f : Fit) (p : Profile) (got : List Byte) :
    (tileBytes src f p got).length = 3 * (p.cellWidth * p.cellHeight) := by
  rw [tileBytes, flatMap_length_const _ _ (p.cellWidth * 3) fun v _ => by
    rw [flatMap_length_const _ _ 3 fun _ _ => rfl, List.length_range], List.length_range, Nat.mul_comm 3,
    Nat.mul_comm p.cellWidth p.cellHeight, Nat.mul_assoc]

/-- The finished tile of a build as its slot holds it, pixel by pixel, in whole granules (R76, R77, R84 to R88, R196). -/
theorem tileBytes_built (src : Source) (f : Fit) (p : Profile) (got : List Byte) :
    TileBuilt src f p got (wholeGranules (tileBytes src f p got)) := by
  refine ⟨by rw [wholeGranules_length, tileBytes_length], fun i h1 h2 => ?_, ?_⟩
  · rw [wholeGranules_length] at h2
    exact wholeGranules_filled _ _ (by rwa [tileBytes_length]) h2
  · intro hW hH rasters h0 hh u v hu hv
    rw [wholeGranules_colourAt, tileBytes_colourAt _ _ _ _ _ _ hu hv]
    have hx : ∀ size sx, sampleInRange size sx = true ↔ -128 ≤ sx ∧ sx ≤ ((size : Int) - 1) * 256 + 128 := fun size sx =>
      by simp only [sampleInRange, decide_eq_true_eq]
    refine ⟨fun hn => ?_, fun a1 a2 b1 b2 => ?_⟩
    · unfold tilePixel
      dsimp only
      split
      · rfl
      · rw [if_neg]
        rw [Bool.and_eq_true, hx, hx]
        exact fun ⟨⟨a, b⟩, c, d⟩ => hn ⟨a, b, c, d⟩
    · have hsx : sampleInRange f.reducedW (samplePos f f.record.x0 u) = true := (hx _ _).2 ⟨a1, a2⟩
      have hsy : sampleInRange f.reducedH (samplePos f f.record.y0 v) = true := (hx _ _).2 ⟨b1, b2⟩
      obtain ⟨xl, xh, ex, lx, ux⟩ := neededRange_covers f f.reducedW p.cellWidth f.record.x0 u hu hsx
      obtain ⟨yl, yh, ey, ly, uy⟩ := neededRange_covers f f.reducedH p.cellHeight f.record.y0 v hv hsy
      have ha : sourceArea f p = some ⟨2 ^ f.record.k * xl, 2 ^ f.record.k * (xh + 1 - xl), 2 ^ f.record.k * yl,
          2 ^ f.record.k * (yh + 1 - yl)⟩ := by simp only [sourceArea, ex, ey]
      have hsr := sampleParts_le f.reducedW (samplePos f f.record.x0 u)
      have hst := sampleParts_le f.reducedH (samplePos f f.record.y0 v)
      have hp := halved_eq rasters (sourcePixel src _ got) f.record.k _ _ _ _
        (fun i j => sourcePixel_taken src _ got _ (h0 _ ha) i j) hh f.record.k (Nat.le_refl _)
      have hq : ∀ i j, xl ≤ i → i ≤ xh → yl ≤ j → j ≤ yh → rasters f.record.k i j = reducedPixel (sourcePixel src
          ⟨2 ^ f.record.k * xl, 2 ^ f.record.k * (xh + 1 - xl), 2 ^ f.record.k * yl, 2 ^ f.record.k * (yh + 1 - yl)⟩ got)
          f.record.k i j := fun i j c1 c2 c3 c4 => by
        apply hp
        · exact Nat.mul_le_mul_left _ c1
        · rw [← Nat.mul_add]; exact Nat.mul_le_mul_left _ (by omega)
        · exact Nat.mul_le_mul_left _ c3
        · rw [← Nat.mul_add]; exact Nat.mul_le_mul_left _ (by omega)
      unfold tilePixel
      simp only [ha, hsx, hsy, Bool.and_self, if_true]
      have mx := sampleParts_sampled f.reducedW (samplePos f f.record.x0 u) hW
      have my := sampleParts_sampled f.reducedH (samplePos f f.record.y0 v) hH
      have fx : (sampleParts f.reducedW (samplePos f f.record.x0 u)).2.1 < 256 := Nat.mod_lt _ (by omega)
      have fy : (sampleParts f.reducedH (samplePos f f.record.y0 v)).2.1 < 256 := Nat.mod_lt _ (by omega)
      refine ⟨_, _, _, _, _, _, mx, my, ?_, ?_, ?_⟩ <;>
        rw [hq _ _ lx (by omega) ly (by omega), hq _ _ (by omega) ux ly (by omega), hq _ _ lx (by omega) (by omega) uy,
          hq _ _ (by omega) ux (by omega) uy] <;>
        exact blendChannel_blended _ _ _ _ _ _ fx fy

/-! ## The final origin under SHIFT (R80, R81) -/

theorem le_floorDiv (a x : Int) (b : Nat) (h : 0 < b) : x ≤ floorDiv a b ↔ x * b ≤ a := by
  simp only [floorDiv]; exact Int.le_ediv_iff_mul_le (by omega)

theorem originMin_le (o x : Int) : originMin o ≤ x ↔ -128 ≤ 256 * x + o := by
  simp only [originMin, ceilDiv]; omega

theorem le_originMax (size cell step : Nat) (o x : Int) : x ≤ originMax size cell step o ↔
    256 * x + o + ((cell : Int) - 1) * step ≤ ((size : Int) - 1) * 256 + 128 := by
  simp only [originMax]
  generalize ((cell : Int) - 1) * step = c
  rw [le_floorDiv _ _ _ (by omega)]
  omega

/-- The final origin under SHIFT (R80, R81). -/
theorem finalOrigin_shifted (size cell step : Nat) (o computed : Int) : OriginShifted size cell step o computed
    (finalOrigin .shift computed (originMin o) (originMax size cell step o)) := by
  refine ⟨originMin o, originMax size cell step o, originMin_le o, le_originMax size cell step o, fun h => ?_, fun h => ?_⟩
  · simp only [finalOrigin, if_pos h]
    refine ⟨fun h' => if_pos h', fun h' => ?_, fun h1 h2 => ?_⟩
    · rw [if_neg (by omega), if_pos h']
    · rw [if_neg (by omega), if_neg (by omega)]
  · simp only [finalOrigin, if_neg (by omega : ¬ originMin o ≤ originMax size cell step o), floorDiv]
    omega

end Sys2Proof.Machine
end

