-- ==== Sys2Proof/Laws/Unblocks.lean ====
section
/-! SUPPORT. The moves that act on the walker only by telling it that its head may now be taken (R14): they keep the
walker, or bring a BLOCKED one to TAKING. -/

namespace Sys2Proof.Machine

/-- A walker kept as it was, or brought from BLOCKED to TAKING (R14). -/
def Unblocked (w w' : Walker) : Prop := w' = w ∨ (w.state = .blocked ∧ w.window ≠ [] ∧ w' = { w with state := .taking })

/-- Telling the walker once more changes no more than telling it once. -/
theorem State.unblock_unblocked {w : Walker} {s : State} (h : Unblocked w s.walker) : Unblocked w s.unblock.walker := by
  unfold State.unblock
  split
  · rename_i hc
    obtain ⟨hb, ht⟩ := hc
    have hw : s.walker.window ≠ [] := by
      intro hn
      simp [State.canTake, hn] at ht
    rcases h with h | ⟨_, _, h⟩
    · right
      rw [h] at hb hw
      exact ⟨hb, hw, by simp [h]⟩
    · rw [h] at hb
      simp at hb
  · exact h

/-- Every state's walker is one the state keeps. -/
theorem Unblocked.refl (w : Walker) : Unblocked w w := Or.inl rfl

/-- `freeSlot` acts on the walker only by telling it. -/
theorem State.freeSlot_unblocked {w : Walker} {s : State} (sl : SheetSlot) (hw : Unblocked w s.walker) :
    Unblocked w (s.freeSlot sl).walker := by
  unfold State.freeSlot
  try dsimp only
  (repeat' split) <;>
    (repeat first | with_reducible exact hw | with_reducible apply State.unblock_unblocked | (simp; with_reducible exact hw))

/-- `finishBarrier` acts on the walker only by telling it. -/
theorem State.finishBarrier_unblocked {w : Walker} {s : State} (r : Results) (hw : Unblocked w s.walker) :
    Unblocked w (s.finishBarrier r).walker := by
  unfold State.finishBarrier
  try dsimp only
  (repeat first | with_reducible exact hw | with_reducible apply State.unblock_unblocked | (simp; with_reducible exact hw))

/-- `freeIfEnded` acts on the walker only by telling it. -/
theorem State.freeIfEnded_unblocked {w : Walker} {s : State} (sl : SheetSlot) (hw : Unblocked w s.walker) :
    Unblocked w (s.freeIfEnded sl).walker := by
  unfold State.freeIfEnded
  try dsimp only
  (repeat' split) <;> (repeat first | with_reducible exact hw | with_reducible apply State.freeSlot_unblocked)

/-- `endSheet` acts on the walker only by telling it. -/
theorem State.endSheet_unblocked {w : Walker} {s : State} (sl : SheetSlot) (o : OrderOutcome) (d : Detail) (hw : Unblocked w s.walker) :
    Unblocked w (s.endSheet sl o d).walker := by
  unfold State.endSheet
  try dsimp only
  (repeat' split) <;>
    (repeat first | with_reducible exact hw | with_reducible apply State.freeIfEnded_unblocked | (simp; with_reducible exact hw))

/-- `endOrder` acts on the walker only by telling it. -/
theorem State.endOrder_unblocked {w : Walker} {s : State} (sl : SheetSlot) (o : OrderOutcome) (d : Detail) (hw : Unblocked w s.walker) :
    Unblocked w (s.endOrder sl o d).walker := by
  unfold State.endOrder
  try dsimp only
  (repeat' split) <;>
    (repeat first | with_reducible exact hw | with_reducible apply State.endSheet_unblocked | (simp; with_reducible exact hw))

/-- `planningEnds` acts on the walker only by telling it. -/
theorem State.planningEnds_unblocked {w : Walker} {s : State} (sl : SheetSlot) (o : OrderOutcome) (d : Detail) (hw : Unblocked w s.walker) :
    Unblocked w (s.planningEnds sl o d).walker := by
  unfold State.planningEnds
  try dsimp only
  (repeat first | with_reducible exact hw | with_reducible apply State.endSheet_unblocked | (simp; with_reducible exact hw))

/-- `beginPlanning` acts on the walker only by telling it. -/
theorem State.beginPlanning_unblocked {w : Walker} {s : State} (sl : SheetSlot) (hw : Unblocked w s.walker) :
    Unblocked w (s.beginPlanning sl).walker := by
  unfold State.beginPlanning
  try dsimp only
  (repeat' split) <;>
    (repeat first | with_reducible exact hw | with_reducible apply State.planningEnds_unblocked | (simp; with_reducible exact hw))

/-- `enterPlanning` acts on the walker only by telling it. -/
theorem State.enterPlanning_unblocked {w : Walker} {s : State} (sl : SheetSlot) (hw : Unblocked w s.walker) :
    Unblocked w (s.enterPlanning sl).walker := by
  unfold State.enterPlanning
  try dsimp only
  (repeat' split) <;>
    (repeat first | with_reducible exact hw | with_reducible apply State.beginPlanning_unblocked | (simp; with_reducible exact hw))

/-- `takeWaiting` acts on the walker only by telling it. -/
theorem State.takeWaiting_unblocked {w : Walker} {s : State}  (hw : Unblocked w s.walker) :
    Unblocked w (s.takeWaiting).walker := by
  unfold State.takeWaiting
  try dsimp only
  (repeat' split) <;>
    (repeat first | with_reducible exact hw | with_reducible apply State.beginPlanning_unblocked | (simp; with_reducible exact hw))

/-- `letGo` acts on the walker only by telling it. -/
theorem State.letGo_unblocked {w : Walker} {s : State} (sl : SheetSlot) (hw : Unblocked w s.walker) :
    Unblocked w (s.letGo sl).walker := by
  unfold State.letGo
  try dsimp only
  (repeat' split) <;>
    (repeat first | with_reducible exact hw | with_reducible apply State.enterPlanning_unblocked | with_reducible apply State.freeSlot_unblocked | (simp; with_reducible exact hw))

/-- `finishSheet` acts on the walker only by telling it. -/
theorem State.finishSheet_unblocked {w : Walker} {s : State} (sl : SheetSlot) (hw : Unblocked w s.walker) :
    Unblocked w (s.finishSheet sl).walker := by
  unfold State.finishSheet
  try dsimp only
  (repeat' split) <;>
    (repeat first | with_reducible exact hw | with_reducible apply State.letGo_unblocked | (simp; with_reducible exact hw))

/-- `spoil` acts on the walker only by telling it. -/
theorem State.spoil_unblocked {w : Walker} {s : State} (a : Attempt) (d : Detail) (hw : Unblocked w s.walker) :
    Unblocked w (s.spoil a d).walker := by
  unfold State.spoil
  try dsimp only
  (repeat' split) <;>
    (repeat first | with_reducible exact hw | with_reducible apply State.endSheet_unblocked | (simp; with_reducible exact hw))

/-- `spoilAttempt` acts on the walker only by telling it. -/
theorem State.spoilAttempt_unblocked {w : Walker} {s : State} (a : Attempt) (d : Detail) (hw : Unblocked w s.walker) :
    Unblocked w (s.spoilAttempt a d).walker := by
  unfold State.spoilAttempt
  try dsimp only
  (repeat first | with_reducible exact hw | with_reducible apply State.spoil_unblocked | with_reducible apply State.letGo_unblocked | (simp; with_reducible exact hw))

/-- `abandonSheet` acts on the walker only by telling it. -/
theorem State.abandonSheet_unblocked {w : Walker} {s : State} (sl : SheetSlot) (hw : Unblocked w s.walker) :
    Unblocked w (s.abandonSheet sl).walker := by
  unfold State.abandonSheet
  try dsimp only
  (repeat' split) <;>
    (repeat first | with_reducible exact hw | with_reducible apply State.endSheet_unblocked | (simp; with_reducible exact hw))

/-- `abandonBarrier` acts on the walker only by telling it. -/
theorem State.abandonBarrier_unblocked {w : Walker} {s : State}  (hw : Unblocked w s.walker) :
    Unblocked w (s.abandonBarrier).walker := by
  unfold State.abandonBarrier
  try dsimp only
  (repeat' split) <;>
    (repeat first | with_reducible exact hw | with_reducible apply State.finishBarrier_unblocked | (simp; with_reducible exact hw))

/-- `abandonOrders` acts on the walker only by telling it. -/
theorem State.abandonOrders_unblocked {w : Walker} {s : State}  (hw : Unblocked w s.walker) :
    Unblocked w (s.abandonOrders).walker := by
  unfold State.abandonOrders
  try dsimp only
  (repeat first | with_reducible exact hw | with_reducible apply State.abandonBarrier_unblocked | with_reducible apply State.abandonSheet_unblocked | with_reducible apply State.letGo_unblocked | (simp; with_reducible exact hw))

/-- `startSheet` acts on the walker only by telling it. -/
theorem State.startSheet_unblocked {w : Walker} {s : State} (r : OrderRecord) (sl : SheetSlot) (hw : Unblocked w s.walker) :
    Unblocked w (s.startSheet r sl).walker := by
  unfold State.startSheet
  try dsimp only
  (repeat' split) <;>
    (repeat first | with_reducible exact hw | with_reducible apply State.enterPlanning_unblocked | with_reducible apply State.endSheet_unblocked | (simp; with_reducible exact hw))

/-- `startOrder` acts on the walker only by telling it. -/
theorem State.startOrder_unblocked {w : Walker} {s : State} (r : OrderRecord) (sl : Option SheetSlot) (hw : Unblocked w s.walker) :
    Unblocked w (s.startOrder r sl).walker := by
  unfold State.startOrder
  try dsimp only
  (repeat' split) <;>
    (repeat first | with_reducible exact hw | with_reducible apply State.startSheet_unblocked | (simp; with_reducible exact hw))

/-- `loadProfile` acts on the walker only by telling it. -/
theorem State.loadProfile_unblocked {w : Walker} {s : State} (n : Fin 16) (p : Profile) (ms : BitVec 5) (hw : Unblocked w s.walker) :
    Unblocked w (s.loadProfile n p ms).walker := by
  unfold State.loadProfile
  try dsimp only
  (repeat' split) <;>
    (repeat first | with_reducible exact hw | with_reducible apply State.finishBarrier_unblocked | (simp; with_reducible exact hw))

/-- `loadGlyphs` acts on the walker only by telling it. -/
theorem State.loadGlyphs_unblocked {w : Walker} {s : State} (l : GlyphLoad) (gs : List Glyph) (hw : Unblocked w s.walker) :
    Unblocked w (s.loadGlyphs l gs).walker := by
  unfold State.loadGlyphs
  try dsimp only
  (repeat' split) <;>
    (repeat first | with_reducible exact hw | with_reducible apply State.finishBarrier_unblocked | (simp; with_reducible exact hw))

/-- `receiveGlyphUnit` acts on the walker only by telling it. -/
theorem State.receiveGlyphUnit_unblocked {w : Walker} {s : State} (l : GlyphLoad) (bs : List Byte) (hw : Unblocked w s.walker) :
    Unblocked w (s.receiveGlyphUnit l bs).walker := by
  unfold State.receiveGlyphUnit
  try dsimp only
  (repeat' split) <;>
    (repeat first | with_reducible exact hw | with_reducible apply State.loadGlyphs_unblocked | with_reducible apply State.finishBarrier_unblocked | (simp; with_reducible exact hw))

/-- `takeTicket` acts on the walker only by telling it. -/
theorem State.takeTicket_unblocked {w : Walker} {s : State} (sl : SheetSlot) (t : Ticket) (hw : Unblocked w s.walker) :
    Unblocked w (s.takeTicket sl t).walker := by
  unfold State.takeTicket
  try dsimp only
  (repeat' split) <;>
    (repeat first | with_reducible exact hw | with_reducible apply State.planningEnds_unblocked | (simp; with_reducible exact hw))

/-- `layoutRead` acts on the walker only by telling it. -/
theorem State.layoutRead_unblocked {w : Walker} {s : State} (j : PlanJob) (t : Ticket) (es : List LayoutEntry) (d c : Nat) (hw : Unblocked w s.walker) :
    Unblocked w (s.layoutRead j t es d c).walker := by
  unfold State.layoutRead
  try dsimp only
  (repeat' split) <;>
    (repeat first | with_reducible exact hw | with_reducible apply State.planningEnds_unblocked | (simp; with_reducible exact hw))

/-- `offerPress` acts on the walker only by telling it. -/
theorem State.offerPress_unblocked {w : Walker} {s : State} (a : Attempt) (t : Ticket) (hw : Unblocked w s.walker) :
    Unblocked w (s.offerPress a t).walker := by
  unfold State.offerPress
  try dsimp only
  (repeat' split) <;>
    (repeat first | with_reducible exact hw | with_reducible apply State.endSheet_unblocked | (simp; with_reducible exact hw))

/-- `enterComposing` acts on the walker only by telling it. -/
theorem State.enterComposing_unblocked {w : Walker} {s : State} (sl : SheetSlot) (t : Ticket) (hw : Unblocked w s.walker) :
    Unblocked w (s.enterComposing sl t).walker := by
  unfold State.enterComposing
  try dsimp only
  (repeat' split) <;>
    (repeat first | with_reducible exact hw | with_reducible apply State.offerPress_unblocked | (simp; with_reducible exact hw))

/-- `underrun` acts on the walker only by telling it. -/
theorem State.underrun_unblocked {w : Walker} {s : State} (h : LinkHold) (hw : Unblocked w s.walker) :
    Unblocked w (s.underrun h).walker := by
  unfold State.underrun
  try dsimp only
  (repeat first | with_reducible exact hw | with_reducible apply State.spoilAttempt_unblocked | (simp; with_reducible exact hw))

/-- `bandDue` acts on the walker only by telling it. -/
theorem State.bandDue_unblocked {w : Walker} {s : State} (h : LinkHold) (hw : Unblocked w s.walker) :
    Unblocked w (s.bandDue h).walker := by
  unfold State.bandDue
  try dsimp only
  (repeat' split) <;>
    (repeat first | with_reducible exact hw | with_reducible apply State.underrun_unblocked | (simp; with_reducible exact hw))

/-- `printed` acts on the walker only by telling it. -/
theorem State.printed_unblocked {w : Walker} {s : State} (h : LinkHold) (hw : Unblocked w s.walker) :
    Unblocked w (s.printed h).walker := by
  unfold State.printed
  try dsimp only
  (repeat first | with_reducible exact hw | with_reducible apply State.finishSheet_unblocked | (simp; with_reducible exact hw))

/-- `sendClose` acts on the walker only by telling it. -/
theorem State.sendClose_unblocked {w : Walker} {s : State} (h : LinkHold) (hw : Unblocked w s.walker) :
    Unblocked w (s.sendClose h).walker := by
  unfold State.sendClose
  try dsimp only
  (repeat' split) <;>
    (repeat first | with_reducible exact hw | with_reducible apply State.printed_unblocked | (simp; with_reducible exact hw))

/-- `afterSend` acts on the walker only by telling it. -/
theorem State.afterSend_unblocked {w : Walker} {s : State} (h : LinkHold) (b : Nat) (hw : Unblocked w s.walker) :
    Unblocked w (s.afterSend h b).walker := by
  unfold State.afterSend
  try dsimp only
  (repeat' split) <;>
    (repeat first | with_reducible exact hw | with_reducible apply State.sendClose_unblocked | with_reducible apply State.letGo_unblocked | (simp; with_reducible exact hw))

/-- `pressRejects` acts on the walker only by telling it. -/
theorem State.pressRejects_unblocked {w : Walker} {s : State} (h : LinkHold) (hw : Unblocked w s.walker) :
    Unblocked w (s.pressRejects h).walker := by
  unfold State.pressRejects
  try dsimp only
  (repeat first | with_reducible exact hw | with_reducible apply State.letGo_unblocked | with_reducible apply State.endSheet_unblocked | (simp; with_reducible exact hw))

/-- `pressSpoils` acts on the walker only by telling it. -/
theorem State.pressSpoils_unblocked {w : Walker} {s : State} (h : LinkHold) (d : Detail) (hw : Unblocked w s.walker) :
    Unblocked w (s.pressSpoils h d).walker := by
  unfold State.pressSpoils
  try dsimp only
  (repeat first | with_reducible exact hw | with_reducible apply State.spoil_unblocked | with_reducible apply State.letGo_unblocked | (simp; with_reducible exact hw))

/-- `bandWritten` acts on the walker only by telling it. -/
theorem State.bandWritten_unblocked {w : Walker} {s : State} (a : Attempt) (hw : Unblocked w s.walker) :
    Unblocked w (s.bandWritten a).walker := by
  unfold State.bandWritten
  try dsimp only
  (repeat' split) <;>
    (repeat first | with_reducible exact hw | with_reducible apply State.finishSheet_unblocked | (simp; with_reducible exact hw))

/-- `painterFindsDamage` acts on the walker only by telling it. -/
theorem State.painterFindsDamage_unblocked {w : Walker} {s : State} (l : CheckLoc) (hw : Unblocked w s.walker) :
    Unblocked w (s.painterFindsDamage l).walker := by
  unfold State.painterFindsDamage
  try dsimp only
  (repeat' split) <;>
    (repeat first | with_reducible exact hw | with_reducible apply State.spoilAttempt_unblocked | (simp; with_reducible exact hw))

/-- `sendFindsDamage` acts on the walker only by telling it. -/
theorem State.sendFindsDamage_unblocked {w : Walker} {s : State} (h : LinkHold) (b : Nat) (hw : Unblocked w s.walker) :
    Unblocked w (s.sendFindsDamage h b).walker := by
  unfold State.sendFindsDamage
  try dsimp only
  (repeat first | with_reducible exact hw | with_reducible apply State.spoil_unblocked | with_reducible apply State.letGo_unblocked | (simp; with_reducible exact hw))

/-- `takeDamage` acts on the walker only by telling it. -/
theorem State.takeDamage_unblocked {w : Walker} {s : State} (l : CheckLoc) (r : Reader) (n : Nat) (hw : Unblocked w s.walker) :
    Unblocked w (s.takeDamage l r n).walker := by
  unfold State.takeDamage
  try dsimp only
  (repeat' split) <;>
    (repeat first | with_reducible exact hw | with_reducible apply State.sendFindsDamage_unblocked | with_reducible apply State.painterFindsDamage_unblocked | (simp; with_reducible exact hw))

/-- `planReadFails` acts on the walker only by telling it. -/
theorem State.planReadFails_unblocked {w : Walker} {s : State} (sl : SheetSlot) (hw : Unblocked w s.walker) :
    Unblocked w (s.planReadFails sl).walker := by
  unfold State.planReadFails
  try dsimp only
  (repeat first | with_reducible exact hw | with_reducible apply State.takeWaiting_unblocked | with_reducible apply State.planningEnds_unblocked | (simp; with_reducible exact hw))

end Sys2Proof.Machine
end

