-- ==== Sys2Proof/Tests/Slice0.lean ====
section
/-! SUPPORT. Tests: the checks of WellFormed, the manual's worked examples, small tests of the commands, and for each
statement with hypotheses a witness that meets them, clause by clause. -/

namespace Sys2Proof.Tests

open Sys2Proof Sys2Proof.Machine

-- One theorem at a time: the kernel's evaluations, run side by side, take many threads.
set_option Elab.async false

/-! ## WellFormed refuses an ill-formed term for each of its checks -/

theorem test_wf_refuses :
    [Instr.registerWrite 96 4 0#64, .recordReadDone .current (.data (List.replicate 65 0#8)),
     .recordReadDone .current (.data []), .trailerReadDone .current (.data (List.replicate 63 0#8)),
     .profileBlockReadDone .current (.data (List.replicate 31 0#8)), .glyphUnitDone .current (.data []),
     .ticketReadDone .current (.data (List.replicate 127 0#8)), .layoutReadDone .current (.data (List.replicate 33 0#8)),
     .rosterReadDone .current (.data (List.replicate 15 0#8)), .subjectReadDone .current (.data (List.replicate 129 0#8)),
     .bannerTextReadDone .current (.data [0#8]), .sourceReadDone .current (.data []) false,
     .correctableError (.band .x) .captionFitting, .uncorrectableError (.glyph 0 0#16) .pressLink 0,
     .bandWriteDone .current 65, .bandWriteFail .current (List.replicate 65 false),
     .bandWriteFail .current [true], .bandWriteFail .current []].map Instr.wf = List.replicate 18 false := by decide +kernel

theorem test_wf_accepts :
    [Instr.registerWrite 95 4 0#64, .recordReadDone .current (.data (List.replicate 512 0#8)),
     .trailerReadDone .discarded .busError, .layoutReadDone .current (.data (List.replicate 256 0#8)),
     .correctableError (.band .x) .proofWriter, .bandWriteDone .current 64, .bandWriteFail .current
      (false :: List.replicate 63 true)].map Instr.wf = List.replicate 7 true := by decide +kernel

theorem test_no_word_spells_a_command : decodeTableWord 32 0xFFFFFFFF = none := by decide

/-! ## Small states -/

/-- The state after a command. -/
def after (c : Instr) (s : State) : State :=
  match exec c s with
  | .next t => t
  | _ => s

/-- RUNNING, the walker IDLE with the cursor at slot 60 of folio 0x1000, nothing in flight. -/
def live : State := { State.reset with
  control := { State.reset.control with engine := .running }
  walker := { State.reset.walker with state := .idle, cursor := some ⟨0x1000#64, .slot 60⟩ } }

/-- `live` with another walker state and unit. -/
def walking (st : WalkerState) (u : WalkerUnit) : State :=
  { live with walker := { live.walker with state := st, unit := u, readLimit := 4 } }

/-- The walker SEEKING at the trailer of folio 0x1000, with a unit. -/
def atTrailer (u : WalkerUnit) : State := { live with walker := { live.walker with
  state := .seeking, cursor := some ⟨0x1000#64, .trailer⟩, unit := u } }

/-- A record of slot 60 with a kind and argument bytes (record bytes 4 to 31). -/
def record (k : OrderKind) (args : List Byte) : OrderRecord := ⟨slotAddr 0x1000#64 60, 60, k, true, args⟩

/-- A ticket for a sheet of 256 × 256 with a retry budget of 1. -/
def ticket (d : Dest) : Ticket :=
  ⟨7#32, d, none, 1, 256, 256, ⟨250#8, 245#8, 235#8⟩, 0x100000#64, 768, 0, 0#64, 0#64, 0, 0, 0#64⟩

/-- A sheet that ranks first, with no cells and no frames. -/
def sheet (st : SheetState) (d : Dest) : Sheet :=
  ⟨st, true, 128#64, some (ticket d), 0, 1, 0, false, 0, 0, [], [], none, false, .none⟩

/-- The ACTIVE entry of a SHEET order in slot A. -/
def entryA : QueueEntry := ⟨record .sheet [], false, Results.blank, some .a⟩

/-- `live` with a sheet in slot A. -/
def holding (sh : Sheet) : State := { live with control := { live.control with slotA := some sh, queue := [entryA] } }

/-- The first attempt of the sheet in slot A. -/
def att : Attempt := ⟨.a, 1⟩

/-- The link's hold of that attempt. -/
def hold (m : PressMode) : LinkHold := ⟨att, 7#32, 256, 256, 4, m⟩

/-- A link that holds the attempt in a state. -/
def linkIn (st : LinkState) (m : PressMode) : Link :=
  { Link.closedWith PressConfig.powerOn true with state := st, held := some (hold m) }

/-- A buffer in a state with a band of the attempt. -/
def bufIn (st : BufferState) (b : Nat) : Buffer := ⟨st, some ⟨att, b, 64⟩, [1#8, 2#8, 3#8], false⟩

/-- A PRESS sheet at work with the link in a state. -/
def pressing (sst : SheetState) (l : Link) : State := { holding (sheet sst .press) with link := l }

/-- A PROOF sheet at work with the Writer in a state. -/
def proofing (w : Writer) : State := { holding (sheet .composing .proof) with writer := w }

/-- A planner's job for slot A at a stage. -/
def job (st : PlanStage) (fl : Bool) : PlanJob := { PlanJob.fresh .a st with inFlight := fl }

/-- A sheet of slot A in PLANNING with a job. -/
def planning (t : Option Ticket) (j : PlanJob) : State :=
  { holding { sheet .planning .proof with ticket := t } with planner := ⟨some j, none, [], none⟩ }

/-! ## Face fit (the worked examples of chapter 4) -/

/-- The profile of the worked examples. -/
def profile3 : Profile :=
  ⟨300, 375, 180, 150, 150, .shift, 65536, ⟨0, 0, 0⟩, 1, 2, .givenFirst, 12, ⟨20, 20, 20⟩, ⟨0, 0, 0⟩⟩

theorem test_fit_full_marked :
    (computeFit ⟨1, 2400, 3000, 7200, .rgb8, .full 600 1560 1020 1190⟩ profile3).record = ⟨12288, 2, 97, 55, 0, 0, 0#11⟩ ∧
    (computeFit ⟨1, 2400, 3000, 7200, .rgb8, .full 600 1560 1020 1190⟩ profile3).step = 341 := by decide +kernel

theorem test_fit_source_area :
    (let f := computeFit ⟨1, 2400, 3000, 7200, .rgb8, .full 600 1560 1020 1190⟩ profile3
     ((sourceArea f profile3).map (·.x), (sourceArea f profile3).map (·.y),
      sampleParts 600 (samplePos f 97 150), sampleParts 750 (samplePos f 55 374))) =
      (some 388, some 220, (296, 248, 297), (553, 88, 554)) := by decide +kernel

theorem test_fit_unmarked :
    (computeFit ⟨1, 2000, 2500, 6000, .rgb8, .none⟩ profile3).record = ⟨9830, 2, 0, 0, 0, 0, 0#11⟩ ∧
    sampleParts 500 127758 = (499, 0, 499) := by decide +kernel

theorem test_fit_small_face :
    (computeFit ⟨1, 200, 240, 600, .rgb8, .full 100 116 108 90⟩
      { profile3 with cellWidth := 480, cellHeight := 640, headTarget := 600, eyeLine := 320, centreColumn := 240,
                      maxScale := 131072 }).record = ⟨131072, 0, -20, -40, 10, 12, 0x700#11⟩ ∧
    (computeFit ⟨1, 200, 240, 600, .rgb8, .full 100 116 108 90⟩
      { profile3 with cellWidth := 480, cellHeight := 640, headTarget := 600, eyeLine := 320, centreColumn := 240,
                      maxScale := 131072, edge := .pad }).record = ⟨131072, 0, -30, -52, 0, 0, 0x500#11⟩ := by
  decide +kernel

theorem test_fit_large_face :
    (computeFit ⟨1, 8192, 8192, 24576, .rgb8, .full 0 8190 3000 4096⟩
      { profile3 with cellWidth := 128, cellHeight := 160, headTarget := 16, eyeLine := 40, centreColumn := 64 }).record =
      ⟨1024, 5, 0, -32, 0, -45, 0x700#11⟩ := by decide +kernel

theorem test_blend_of_samples :
    blendStep 200#8 180#8 42 = 197#8 ∧ blendStep 160#8 140#8 42 = 157#8 ∧ blendStep 197#8 157#8 248 = 158#8 ∧
    mean4 199#8 201#8 200#8 201#8 = 200#8 := by decide

/-! ## Captions (the worked examples of chapter 6) -/

theorem test_alpha_blend :
    blendColour ⟨20, 20, 20⟩ ⟨250, 245, 235⟩ 128 = ⟨135, 132, 127⟩ ∧ blendAlpha 20#8 135#8 64 = 106#8 ∧
    blendAlpha 20#8 135#8 255 = 20#8 := by decide

/-- Glyph set 1 of the example: letters 65 and 66 of advance 16, substitute 63, space 32, ellipsis 46, code 67 missing. -/
def set1 : GlyphSet := ⟨24, 32#16, 46#16, 63#16,
  [⟨65#16, 16, 0, [], false, false⟩, ⟨66#16, 16, 0, [], false, false⟩, ⟨32#16, 6, 0, [], false, false⟩,
   ⟨46#16, 12, 0, [], false, false⟩, ⟨63#16, 16, 0, [], false, false⟩], []⟩

/-- The cell of the example: a given name of 11 codes, the fifth missing, and a family name of 20. -/
def longName : Cell :=
  { kind := .placeholder, rect := ⟨1900, 1190, 300, 435⟩, clip := ⟨0, 0, 2400, 3600⟩, profile := 3, rosterIndex := some 17
    subject := 5012, serial := 1#8, role := .student
    given := [65#16, 65#16, 65#16, 65#16, 67#16, 65#16, 65#16, 65#16, 65#16, 65#16, 65#16]
    family := List.replicate 20 66#16, source := none, ref := none, fit := none, notes := 0#11, caption := [] }

/-- A state with glyph set 1 and profile 3. -/
def withSet1 (p : Profile) : State :=
  { live with profiles := live.profiles.set 3 (some p), glyphs := live.glyphs.set 1 (some set1) }

theorem test_caption_of_two_lines :
    ((((withSet1 profile3).fitCaption longName).2.1.map fun l => (l.glyphs.length, l.width, l.offset)),
     ((withSet1 profile3).fitCaption longName).2.2.toNat) = ([(11, 176, 62), (19, 300, 0)], 96) := by decide +kernel

theorem test_caption_of_one_line :
    ((((withSet1 { profile3 with lines := 1 }).fitCaption longName).2.1.map fun l => (l.glyphs.length, l.width, l.offset))) =
      [(19, 290, 5)] := by decide +kernel

theorem test_banner_centred :
    (((withSet1 profile3).fitBanner ⟨200, 100, 2000, 1, ⟨0, 0, 0⟩, .centre, ⟨0, 0, 2400, 3600⟩, 0#64, 0,
      List.replicate 75 65#16, 0#11, none⟩).2.1.map fun l => (l.width, l.offset)) = some (1200, 400) := by decide +kernel

/-- A glyph block with codes 65, 66, 65, 67 and 32, no bitmaps, and advances 6 to 10, the third given. -/
def block (third : Byte) : List Byte :=
  [24, 0, 32, 0, 46, 0, 63, 0, 0, 0, 0, 0, 0, 0, 0, 0, 65, 0, 6, 0, 66, 0, 7, 0, 65, 0, third, 0, 67, 0, 9, 0, 32, 0, 10, 0]

/-- A GLYPHS order for set 1 with its block in flight. -/
def loading : State := { live with control := { live.control with
  queue := [⟨record .glyphs [], false, Results.blank, none⟩]
  barrier := .glyphs ⟨1, 5, 0x2000#64, [], true, false, false, false⟩ } }

theorem test_glyph_load_duplicate :
    (let t := after (.glyphUnitDone .current (.data (block 8))) loading
     ((t.glyphs[1]).map fun g => g.map.map fun h => (h.code.toNat, h.advance),
      t.control.queue.map fun e => (e.results.outcome, e.results.detail))) =
      (some [(65, 8), (66, 7), (67, 9), (32, 10)], [(.noted, .duplicate)]) := by decide +kernel

theorem test_glyph_load_refused :
    (let t := after (.glyphUnitDone .current (.data (block 70))) loading
     (t.glyphs[1], t.control.queue.map fun e => (e.results.outcome, e.results.detail))) = (none, [(.refused, .glyph)]) := by
  decide +kernel

/-! ## Profiles (the worked example of chapter 2) -/

/-- The first block of the example, with a cell width. -/
def profileBytes (w : Nat) : List Byte :=
  leBytes 2 w ++ leBytes 2 375 ++ leBytes 2 400 ++ leBytes 2 380 ++ leBytes 2 150 ++ [0, 1, 2, 0, 12, 0] ++
    leBytes 4 200000 ++ List.replicate 12 7

/-- A PROFILE order for profile 3 with its block read in flight. -/
def loadingProfile : State := { live with control := { live.control with
  queue := [⟨record .profile [], false, Results.blank, none⟩], barrier := .profile 3 0x2000#64 true false } }

theorem test_profile_clamped :
    (let t := after (.profileBlockReadDone .current (.data (profileBytes 300))) loadingProfile
     ((t.profiles[3]).map fun p => (p.headTarget, p.eyeLine, p.centreColumn, p.maxScale, p.captionGap),
      t.control.queue.map fun e => (e.results.outcome, e.results.detail))) =
      (some (375, 374, 150, 131072, 12), [(.noted, .marks 0b01011#5)]) := by decide +kernel

theorem test_profile_refused :
    (let t := after (.profileBlockReadDone .current (.data (profileBytes 20))) loadingProfile
     (t.profiles[3], t.control.queue.map fun e => (e.results.outcome, e.results.detail))) =
      (none, [(.refused, .cellWidth)]) := by decide +kernel

/-! ## The tile store (the worked example of chapter 5) -/

/-- Set 68 with two ways FILLING for sheet A, mark at way 0. -/
def set68 : State :=
  { holding (sheet .planning .proof) with
    store := live.store.setSet 68 {
      way0 := ⟨.filling, some ⟨5012, 3, 1⟩, ⟨true, false⟩, [], none, false⟩
      way1 := ⟨.filling, some ⟨5140, 3, 1⟩, ⟨true, false⟩, [], none, false⟩
      lru := .w0 } }

/-- A source description. -/
def src : Source := ⟨0x3000#64, 64, 64, 192, .rgb8, .none⟩

theorem test_key_sets :
    [keySet ⟨5012, 3, 1⟩, keySet ⟨5140, 3, 1⟩, keySet ⟨5268, 3, 1⟩, keySet ⟨5108, 5, 1⟩] = [68, 68, 68, 68] := by decide

theorem test_lookup_goes_to_scratch :
    (set68.lookup .b ⟨5268, 3, 1⟩ src).2.ref = .scratch .b 0 ∧
    (set68.lookup .b ⟨5268, 3, 1⟩ src).1.builder.queue.length = 1 := by decide +kernel

theorem test_lookup_joins :
    (set68.lookup .b ⟨5012, 3, 1⟩ src).2.ref = .store 68 .w0 ∧
    ((set68.lookup .b ⟨5012, 3, 1⟩ src).1.store.slot 68 .w0).holders = ⟨true, true⟩ ∧
    (set68.lookup .b ⟨5012, 3, 1⟩ src).1.store.sets[68].lru = .w0 := by decide +kernel

/-- Set 68 with way 0 READY and held by B, way 1 READY and unheld, the mark at way 0. -/
def set68' : State :=
  { holding (sheet .planning .proof) with
    store := live.store.setSet 68 {
      way0 := ⟨.ready, some ⟨5012, 3, 1⟩, ⟨false, true⟩, [], none, false⟩
      way1 := ⟨.ready, some ⟨5140, 3, 1⟩, ⟨false, false⟩, [], none, false⟩
      lru := .w0 } }

theorem test_lookup_takes_the_other_way :
    (set68'.lookup .a ⟨5108, 5, 1⟩ src).2.ref = .store 68 .w1 ∧
    (set68'.lookup .a ⟨5108, 5, 1⟩ src).1.store.sets[68].lru = .w0 := by decide +kernel

/-! ## Bands (the worked example of chapter 7) -/

theorem test_bands : bandCount 3600 = 57 ∧ bandLines 3600 55 = 64 ∧ bandLines 3600 56 = 16 ∧ bufferFor 11 = .y := by decide

/-! ## Results and reports (the worked example of chapter 12) -/

theorem test_result_bytes :
    (Results.bytes ⟨.noted, .none, 1, 1, 22, 0, { Counts.zero with placeholders := 1 }⟩) =
      [1, 1, 0, 0, 1, 0, 22, 0, 0, 0, 1] ++ List.replicate 21 0 := by decide +kernel

theorem test_report_bytes :
    ({ longName with kind := .portrait, fit := some ⟨12288, 2, 97, 55, 0, 0, 0⟩, notes := 96 } : Cell).reportBytes =
      [0, 0, 17, 0, 148, 19, 0, 0, 108, 7, 0, 0, 166, 4, 0, 0, 0, 48, 0, 0, 2, 1, 97, 0, 55, 0, 0, 0, 0, 0, 96, 0] := by
  decide +kernel

/-! ## Registers, the hold and the check log (the worked examples of chapters 10 and 11) -/

theorem test_bring_up :
    (let t := after .scrubEnd (after (.chainHeadWrite 0x5000#64) (after (.enablesWrite 0x183#9) State.reset))
     (t.control.engine, t.window.chainHead, t.window.events, t.interrupt)) = (.stopped, 0#64, 0x140#9, true) := by
  decide +kernel

theorem test_start :
    (let t := after .runStart (after (.chainHeadWrite 0x5FFF#64) (after .scrubEnd State.reset))
     (t.control.engine, t.walker.state, t.walker.cursor)) = (.running, .seeking, some ⟨0x5000#64, .slot 0⟩) := by
  decide +kernel

theorem test_run_in_scrub :
    (let t := after .scrubEnd (after .runStart State.reset)
     (t.control.engine, t.walker.state)) = (.running, .idle) := by decide +kernel

theorem test_control_write :
    (let t := after (.registerWrite 0x10 8 0x000A0151#64) (after .scrubEnd State.reset)
     (t.control.engine, t.window.depth, t.window.pressMode, t.window.sweepPreset)) = (.running, 5, .loop, 10#16) := by
  decide +kernel

theorem test_status_reads :
    readWindow live 0x20 8 = [0x42, 0, 0, 0, 0, 0, 0, 0] ∧ readWindow live 0x30 4 = [0x40, 0, 0, 0] ∧
    readWindow live 0x10 4 = [0x40, 0, 0, 0] := by decide +kernel

theorem test_depth_cut :
    (let s := { live with walker := { live.walker with
        state := .taking
        window := [record .skip [], ⟨slotAddr 0x1000#64 61, 61, .skip, false, []⟩]
        cursor := some ⟨0x1000#64, .slot 62⟩ } }
     let t := after (.depthWrite 1#4) s
     (t.walker.window.length, t.walker.cursor)) = (1, some ⟨0x1000#64, .slot 61⟩) := by decide +kernel

/-- Two units in progress. -/
def busy : State := { live with port := { live.port with outstanding := 2 } }

theorem test_hold_drains :
    (let t := after (.holdRequest 4#3 true) busy
     (t.port.hold, t.port.windowTimer, t.port.lastResult, (t.endUnit).port.hold, (t.endUnit.endUnit).port.hold,
      (t.endUnit.endUnit).hasEvent .holdSettled)) = (.draining, some 8, .none, .draining, .held, true) := by decide +kernel

theorem test_hold_rejected :
    (after (.holdRequest 0#3 false) busy).port.lastResult = .rejected ∧
    (after .windowTimerExpiry (after (.holdRequest 2#3 false) busy)).port.hold = .free ∧
    (after (.holdRequest 4#3 true) { holding (sheet .filling .press) with port := busy.port }).port.lastResult = .rejected := by
  decide +kernel

theorem test_hold_withdrawn :
    (after (.holdRelease 1#3 false) (after (.holdRequest 4#3 false) busy)).port.lastResult = .withdrawn ∧
    (after (.holdRelease 1#3 false) (after (.holdRequest 4#3 false) live)).port.lastResult = .accepted := by decide +kernel

/-- A band write of buffer Y in flight. -/
def writingY : State := { proofing ⟨.writing, some att, 1, false, false, none⟩ with
  composer := { live.composer with bufY := bufIn .writing 1 } }

theorem test_correctable_counted :
    (let t := after (.correctableError (.band .y) .proofWriter) writingY
     (t.check.correctable, t.check.count, t.check.locked, t.hasEvent .integrity)) = (some (.band .y), 1#8, false, true) := by
  decide +kernel

theorem test_log_locked_and_cleared :
    (let t := after (.uncorrectableError (.band .y) .proofWriter 0) writingY
     ((after (.correctableError (.band .y) .proofWriter) t).check.count, t.writer.damage,
      (after .checkLogClear t).check.locked)) = (0#8, true, false) := by decide +kernel

/-! ## The order chain (the worked example of chapter 1) -/

/-- 64 bytes of a record: hand, kind, flags. -/
def recordBytes (hand kind flags : Byte) : List Byte := [hand, kind, flags] ++ List.replicate 61 0#8

/-- Three handed records: SHEET, SKIP, SHEET. -/
def threeRecords : List Byte := recordBytes 1 1 0 ++ recordBytes 1 9 0 ++ recordBytes 1 1 0

theorem test_read_across_the_folio_end :
    (let s := after .recordReadStart (after (.wake 0#64) live)
     let t := after (.recordReadDone .current (.data threeRecords)) s
     (s.walker.unit, s.port.outstanding, t.walker.window.map (·.slot), t.walker.cursor, t.walker.state)) =
      (.recordRead 3 false, 1, [60, 61, 62], some ⟨0x1000#64, .trailer⟩, .taking) := by decide +kernel

theorem test_read_finds_none_handed :
    (let t := after (.recordReadDone .current (.data (recordBytes 0 1 0 ++ recordBytes 1 1 0 ++ recordBytes 1 1 0)))
      (walking .seeking (.recordRead 3 false))
     (t.walker.state, t.walker.cursor, t.walker.window, t.hasEvent .chainIdle)) =
      (.idle, some ⟨0x1000#64, .slot 60⟩, [], true) := by decide +kernel

/-- The head of the window is a SHEET order. -/
def sheetAtHead : State := { live with walker := { live.walker with state := .taking, window := [record .sheet (List.replicate 28 0)] } }

theorem test_take_sheet :
    (let s := after .takeStart sheetAtHead
     let t := after (.takenWriteDone .current true) s
     (s.out.serverWrites, t.control.queue.map (·.slot), t.sheet .a |>.map (·.state), t.walker.state)) =
      ([⟨0x1F00#64, [2]⟩], [some .a], some .planning, .seeking) := by decide +kernel

/-- A trailer of 64 bytes with a Next field. -/
def trailer (next : Nat) : List Byte := leBytes 8 next ++ List.replicate 56 0#8

theorem test_trailer_next_and_bad_link :
    (after (.trailerReadDone .current (.data (trailer 0x2000))) (atTrailer (.trailerRead false))).walker.cursor =
      some ⟨0x2000#64, .slot 0⟩ ∧
    (after (.trailerReadDone .current (.data (trailer 0x2000))) (atTrailer (.trailerRead false))).walker.spentDue =
      [0x1000#64] ∧
    (after (.trailerReadDone .current (.data (trailer 0x1000))) (atTrailer (.trailerRead false))).control.cause = .badLink := by
  decide +kernel

/-- A FINISHED SKIP order at the head, with Notify. -/
def skipDone : State := { live with control := { live.control with
  queue := [⟨record .skip [], true, Results.blank, none⟩] } }

theorem test_retire :
    (let t := after (.doneWriteDone .current true) (after (.resultsWriteDone .current true) (after .retireStart skipDone))
     (t.control.queue, t.hasEvent .doneNote, t.hasEvent .chainIdle, t.port.outstanding, t.out.serverWrites.map (·.addr))) =
      ([], true, true, 0, [0x1F20#64, 0x1F00#64]) := by decide +kernel

theorem test_press_order_clamps :
    (let t := after (.takenWriteDone .current true) (walking .taking (.taken (record .press
        (leBytes 2 600 ++ leBytes 2 600 ++ leBytes 2 50 ++ leBytes 2 10 ++ leBytes 2 60 ++ List.replicate 18 0)) none false))
     (t.link.config, t.control.queue.map fun e => (e.results.outcome, e.results.detail))) =
      (⟨500, 500, 100, 10, 60⟩, [(.noted, .marks 0b00111#5)]) := by decide +kernel

/-! ## Composing, the link and the Writer -/

theorem test_enter_composing :
    (let t := after .sheetEnterComposing (holding (sheet .ready .proof))
     (t.composer.attempt, t.composer.bufX.state, t.writer.attempt, t.sheet .a |>.map (·.state))) =
      (some att, .filling, some att, some .composing) := by decide +kernel

theorem test_open_accept_and_send :
    (let s := { pressing .composing { linkIn .awaitReady .live with ready := false, waitTimer := some 60000 } with
        composer := { live.composer with bufX := bufIn .full 0, attempt := some att, nextBand := 1, state := .waiting } }
     let t := after (.accept 7#32) (after .readyRise s)
     ((after .readyRise s).out.pressMessages, t.link.state, t.link.sending, t.composer.bufX.state)) =
      ([.opened 7#32 256 256 4], .streaming, some 0, .sending) := by decide +kernel

theorem test_jam_spoils :
    (let t := after (.result 7#32 .jammed) (pressing .closing (linkIn .closing .live))
     (t.hasEvent .sheetSpoiled, t.link.state, t.sheet .a |>.map fun sh => (sh.state, sh.attempt))) =
      (true, .closed, some (.ready, 2)) := by decide +kernel

theorem test_printed_frees_the_slot :
    (let t := after (.result 7#32 .printed) (pressing .closing (linkIn .closing .live))
     (t.sheet .a, t.control.queue.map fun e => (e.finished, e.results.outcome, e.results.sheetsMade))) =
      (none, [(true, .ok, 1)]) := by decide +kernel

theorem test_result_timer :
    (let t := after .resultTimerExpiry (pressing .closing { linkIn .closing .live with resultTimer := some 10000 })
     (t.sheet .a, t.control.queue.map fun e => (e.results.outcome, e.results.detail))) =
      (none, [(.pressSilent, .result)]) := by decide +kernel

theorem test_abandon :
    (let t := after .abandon (pressing .composing (linkIn .opening .live))
     (t.control.engine, t.window.abandon, t.out.pressMessages, t.control.queue.map fun e => e.results.outcome)) =
      (.draining, true, [.abort 7#32], [.abandoned]) := by decide +kernel

theorem test_engine_reset :
    (let t := after .reset (pressing .composing (linkIn .streaming .live))
     (t.control.engine, t.link.state, t.out.pressMessages, t.sheet .a, t.window.events)) =
      (.stopped, .closed, [.abort 7#32], none, 0x040#9) := by decide +kernel

theorem test_reset_keeps_pixels :
    (let t := after .reset writingY
     (t.composer.bufY.state, t.composer.bufY.tag, t.composer.bufY.pixels)) = (.empty, none, [1#8, 2#8, 3#8]) := by
  decide +kernel

theorem test_proof_fault :
    (let t := after (.bandWriteFail .current [false]) writingY
     (t.sheet .a, t.control.queue.map fun e => (e.results.outcome, e.results.detail), t.writer.state)) =
      (none, [(.memoryFault, .proofWrite)], .idle) := by decide +kernel

/-! ## Witnesses: the queue, the invariants, the whole part -/

/-- A state with a wake at the front of its queue. -/
def queued (s : State) : State := { s with pending := [.wake 0#64] }

theorem witness_StepRunsTheFrontCommand : (queued live).pending = .wake 0#64 :: [] ∧ live.pending = [] := by decide +kernel

theorem witness_StepKeepsRegisters :
    RegistersOk (queued live) ∧ FaultRecordOk (queued live).control ∧ ∃ t, step (queued live) = .next t :=
  ⟨⟨by decide +kernel, by decide +kernel, by decide +kernel, by decide +kernel, by decide +kernel, by decide +kernel,
    fun _ _ h => nomatch h⟩, by constructor <;> decide +kernel, _, rfl⟩

theorem witness_StepKeepsWalker : WalkerOk (queued live) ∧ ∃ t, step (queued live) = .next t :=
  ⟨by constructor <;> decide +kernel, _, rfl⟩

theorem witness_StepKeepsHoldAndQueue :
    HoldOk (queued busy).port ∧ QueueOk (queued busy) ∧ ∃ t, step (queued busy) = .next t :=
  ⟨by constructor <;> decide +kernel, by unfold QueueOk; decide +kernel, _, rfl⟩

/-- Band 0 on its way to the press. -/
def sendingLink : Link := { linkIn .streaming .live with nextBand := 1, sending := some 0, bandTimer := some 40 }

theorem witness_StepKeepsLink :
    LinkOk (queued (pressing .composing sendingLink)).link ∧
    PressConfigOk (queued (pressing .composing sendingLink)).link.config ∧
    ∃ t, step (queued (pressing .composing sendingLink)) = .next t :=
  ⟨⟨by decide +kernel, by decide +kernel, by decide +kernel, by decide +kernel, by decide +kernel, by decide +kernel,
    by decide +kernel, fun b h => by cases h; rfl, by decide +kernel, by decide +kernel, fun h hh => by cases hh; decide +kernel⟩,
   by constructor <;> decide +kernel, _, rfl⟩

theorem witness_StepKeepsWriterAndLog :
    WriterOk (queued writingY).writer ∧ CheckLogOk (queued writingY).check ∧ ∃ t, step (queued writingY) = .next t :=
  ⟨by constructor <;> decide +kernel, by constructor <;> decide +kernel, _, rfl⟩

theorem witness_EventsStaySet :
    (∃ t, exec (.wake 0#64) live = .next t) ∧ live.hasEvent .storeLost = true ∧ (∀ v, Instr.wake 0#64 ≠ .eventsWrite v) ∧
    (∀ o n v, Instr.wake 0#64 ≠ .registerWrite o n v) ∧ (∃ t, exec .reset live = .next t) :=
  ⟨⟨_, rfl⟩, by decide +kernel, nofun, nofun, ⟨_, rfl⟩⟩

/-- A hold HELD with nothing in progress. -/
def held : State := { live with port := { live.port with hold := .held } }

/-- A hold DRAINING with one unit in progress. -/
def draining : State := { live with port := { live.port with hold := .draining, outstanding := 1, windowTimer := some 8 } }

theorem witness_NoUnitStartsUnlessFree :
    (∃ t, exec .takeStart held = .next t) ∧ held.port.hold ≠ .free ∧ draining.port.hold ≠ .free :=
  ⟨⟨_, rfl⟩, by decide +kernel, by decide +kernel⟩

theorem witness_ServerFieldsKept :
    (∃ t, exec .recordReadStart live = .next t) ∧ Instr.recordReadStart ≠ .powerOn ∧
    (∀ o n v, Instr.recordReadStart ≠ .registerWrite o n v) ∧ (∀ v, Instr.recordReadStart ≠ .depthWrite v) :=
  ⟨⟨_, rfl⟩, nofun, nofun, nofun⟩

/-! ## Witnesses: the window -/

/-- SCRUBBING with RUN written 1. -/
def scrubRun : State := { State.reset with window := { State.reset.window with run := true } }

theorem witness_PowerOnAndScrub :
    (State.reset.control.engine = .scrubbing ∧ State.reset.window.run = false) ∧
    (scrubRun.control.engine = .scrubbing ∧ scrubRun.window.run = true ∧ scrubRun.walker.cursor = none ∧
      scrubRun.window.chainHead = 0#64) ∧ live.control.engine ≠ .scrubbing := by decide +kernel

theorem witness_EngineReset :
    (Instr.functionReset = .reset ∨ Instr.functionReset = .functionReset) ∧
    (pressing .composing sendingLink).link.held = some (hold .live) ∧ (hold .live).mode = .live ∧
    (pressing .composing sendingLink).link.state = .streaming ∧ live.link.state ≠ .opening ∧ live.link.state ≠ .streaming := by
  decide +kernel

/-- STOPPED with the cursor cleared and a CHAIN_HEAD. -/
def stoppedAt (head : Addr) : State := { State.reset with
  control := { State.reset.control with engine := .stopped }
  window := { State.reset.window with chainHead := head } }

theorem witness_RunWrites :
    live.control.engine ≠ .stopped ∧
    (let s := { stoppedAt 0 with walker := { Walker.cleared with cursor := some ⟨0x1000#64, .trailer⟩ } }
     s.control.engine = .stopped ∧ s.walker.cursor = some ⟨0x1000#64, .trailer⟩) ∧
    ((stoppedAt 0x1000#64).control.engine = .stopped ∧ (stoppedAt 0x1000#64).walker.cursor = none ∧
      (stoppedAt 0x1000#64).window.chainHead ≠ 0#64) ∧
    ((stoppedAt 0).control.engine = .stopped ∧ (stoppedAt 0).walker.cursor = none ∧ (stoppedAt 0).window.chainHead = 0#64) ∧
    State.reset.control.engine ≠ .running ∧
    ((walking .seeking (.recordRead 3 false)).control.engine = .running ∧
      (walking .seeking (.recordRead 3 false)).walker.unit ≠ .none ∧
      (walking .seeking (.recordRead 3 false)).walker.state ≠ .stopped) ∧
    (skipDone.control.engine = .running ∧ skipDone.walker.unit = .none ∧ skipDone.control.queue ≠ []) ∧
    (live.control.engine = .running ∧ live.walker.unit = .none ∧ live.control.queue = [] ∧ live.walker.spentDue = [] ∧
      live.walker.spentInFlight = none) := by decide +kernel

/-- The engine in a state, with ABANDON reading a value. -/
def engineIn (e : EngineState) (ab : Bool) : State := { live with
  control := { live.control with engine := e }, window := { live.window with abandon := ab } }

/-- A state with `live` and a running barrier at the head of its queue. -/
def loadingOf (b : Barrier) (k : OrderKind) : State := { live with control := { live.control with
  barrier := b, queue := [⟨record k [], false, Results.blank, none⟩] } }

/-- `live` with a sheet in each slot. -/
def both (a b : Sheet) : State := { holding a with control := { (holding a).control with
  slotB := some b, queue := [entryA, ⟨record .sheet [], false, Results.blank, some .b⟩] } }

theorem witness_AbandonWritten :
    live.control.engine = .running ∧
    (let s := both (sheet .filling .proof) { sheet .finished .proof with report := .due }
     let t := after .abandon s
     s.control.engine = .running ∧ s.sheet .a = some (sheet .filling .proof) ∧ t.linkHolds .a = false ∧
      t.writerServes .a = false ∧ (t.control.queue.map (·.results.outcome)) = [.abandoned, .ok] ∧
      (t.sheet .b).map (·.ending) = some (some (.abandoned, .none)) ∧ s.link.held = none) ∧
    (let s := both (sheet .filling .proof) { sheet .finished .proof with ending := some (.spoiled, .damage) }
     (s.sheet .b).map (·.ending) = some (some (.spoiled, .damage)) ∧
      (after .abandon s).control.queue.map (·.results.outcome) = [.abandoned, .spoiled]) ∧
    ([linkIn .awaitReady .live, linkIn .opening .live, linkIn .streaming .live, sendingLink].map fun l =>
      let s := pressing .composing l
      ((after .abandon s).link.state, (after .abandon s).out.pressMessages,
        s.link.held.map (·.attempt) == some att && (s.sheet .a).map (·.attempt) == some 1)) =
      [(.closed, [], true), (.closed, [.abort 7#32], true), (.closed, [.abort 7#32], true), (.streaming, [], true)] ∧
    (after .abandon (pressing .closing (linkIn .closing .live))).control.queue.map (·.results.detail) = [.afterClose] ∧
    (let s := planning none (job .layout true)
     s.planner.job = some (job .layout true) ∧ DiscardedUnit.layoutRead ∈ (after .abandon s).port.discarded) ∧
    ([(loadingOf (.profile 3 0#64 false false) .profile), (loadingOf (.profile 3 0#64 true false) .profile),
      (loadingOf (.glyphs ⟨1, 5, 0#64, [], false, false, false, false⟩) .glyphs),
      (loadingOf (.glyphs ⟨1, 5, 0#64, [], true, false, false, false⟩) .glyphs)].map fun s =>
        (after .abandon s).control.queue.map fun e => (e.finished, e.results.outcome)) =
      [[(true, .abandoned)], [(false, .ok)], [(true, .abandoned)], [(false, .ok)]] ∧
    ((engineIn .draining false).control.engine = .draining ∧ (engineIn .draining false).window.abandon = false) ∧
    (engineIn .stopped false).control.engine = .stopped ∧ State.reset.control.engine = .scrubbing ∧
    (engineIn .faulted false).control.engine = .faulted ∧
    ((engineIn .draining true).control.engine = .draining ∧ (engineIn .draining true).window.abandon = true) := by
  decide +kernel

/-- Slots 60 and 61 in the window. -/
def twoInWindow : State := { live with walker := { live.walker with
  window := [record .skip [], ⟨slotAddr 0x1000#64 61, 61, .skip, false, []⟩] } }

theorem witness_DepthWritten :
    (1 ≤ (8#4).toNat ∧ (8#4).toNat ≤ 8 ∧ live.walker.window.length ≤ (8#4).toNat) ∧
    (1 ≤ (1#4).toNat ∧ (1#4).toNat ≤ 8 ∧
      twoInWindow.walker.window = [record .skip []] ++ ⟨slotAddr 0x1000#64 61, 61, .skip, false, []⟩ :: [] ∧
      [record .skip []].length = (1#4).toNat) ∧ (0#4).toNat = 0 ∧ 8 < (9#4).toNat ∧ 8 < (15#4).toNat ∧
    (2#4).toNat ≤ (walking .seeking (.recordRead 3 false)).walker.readLimit := by decide +kernel

/-- A depth lowered and raised again during a read limits that read to the lowest (R6). -/
theorem test_depth_lowered_then_raised :
    (let s := after .recordReadStart (after (.wake 0#64) live)
     let t := after (.recordReadDone .current (.data threeRecords)) (after (.depthWrite 8#4) (after (.depthWrite 2#4) s))
     (s.walker.readLimit, t.walker.window.map (·.slot), t.walker.cursor, t.window.depth)) =
      (4, [60, 61], some ⟨0x1000#64, .slot 62⟩, 8) := by decide +kernel

theorem witness_FieldWrites : (stoppedAt 0).control.engine = .stopped ∧ live.control.engine ≠ .stopped := by decide +kernel

/-- The sweep timer running. -/
def sweeping : State := { live with walker := { live.walker with sweepRunning := true } }

theorem witness_SweepAndWake :
    (live.walker.state = .idle ∧ 1#16 ≠ live.window.sweepPreset) ∧
    ({ live with window := { live.window with sweepPreset := 5#16 } } : State).window.sweepPreset ≠ 0#16 ∧
    (State.reset.walker.state ≠ .idle ∧ 0#16 = live.window.sweepPreset) ∧
    live.walker.cursor = some ⟨0x1000#64, .slot 60⟩ ∧
    (sweeping.walker.state = .idle ∧ sweeping.walker.sweepRunning = true ∧
      sweeping.walker.cursor = some ⟨0x1000#64, .slot 60⟩) ∧
    (let s := { live with walker := { live.walker with cursor := none } }
     s.walker.state = .idle ∧ s.walker.cursor = none) := by decide +kernel

theorem witness_HoldRequested :
    ((holding (sheet .filling .press)).port.hold = .free ∧
      (holding (sheet .filling .press)).sheet .a = some (sheet .filling .press) ∧
      (sheet .filling .press).ticket.map (·.dest) = some .press) ∧
    (busy.port.hold = .free ∧ 0 < busy.port.outstanding) ∧ (live.port.hold = .free ∧ live.port.outstanding = 0) ∧
    (held.port.hold ≠ .free ∧ draining.port.hold ≠ .free) ∧
    ∀ sl sh, (holding (sheet .planning .proof)).sheet sl = some sh → (sh.state ≠ .planning ∧ sh.state ≠ .filling) ∨
      sh.ticket.map (·.dest) = some .proof := by
  refine ⟨by decide +kernel, by decide +kernel, by decide +kernel, by decide +kernel, fun sl sh h => .inr ?_⟩
  cases sl <;> cases h
  rfl

theorem witness_HoldEnds :
    (draining.port.hold = .draining ∧ draining.port.windowTimer ≠ none ∧ draining.port.outstanding = 1) ∧
    held.port.hold = .held ∧ live.port.hold = .free ∧ busy.port.hold ≠ .draining ∧ 1 < busy.port.outstanding := by
  decide +kernel

theorem witness_RegisterWritten :
    (1#64).getLsbD 0 = true ∧ (0#64).getLsbD 0 = false ∧ (4#64).getLsbD 2 = true ∧
    (State.reset.control.engine = .scrubbing ∧ (2#64).getLsbD 1 = true ∧ (2#64).getLsbD 2 = false) ∧
    (live.control.engine = .running ∧ (stoppedAt 0).control.engine = .stopped) ∧
    ((0xFFFF0281#64).getLsbD 2 = false ∧ (0xFFFF0281#64).getLsbD 1 = false ∧ (0xFFFF0281#64).getLsbD 0 = true ∧
      live.control.engine ≠ .stopped ∧ (walking .seeking .none).walker.state ≠ .idle ∧
      ((0xFFFF0281#64).extractLsb' 4 4).toNat = 8 ∧ (walking .seeking .none).walker.window.length ≤ 8 ∧
      ((0xFFFF0281#64).extractLsb' 8 2).toNat = PressMode.off.code) ∧
    ((0x30#64).extractLsb' 4 2).toNat = Poison.glyph.code ∧
    (3 ≠ 4 ∧ 3 ≠ 8) ∧ 0x0C % 8 ≠ 0 ∧ 7 < 8 ∧ (0x20 ≤ 0x2F ∧ 0x2F < 0x30) ∧ 0x50 ≤ 0x50 ∧ (4 = 4 ∧ 0x4C = 0x4C) ∧
    live.window.depth ≤ 8 := by decide +kernel

theorem test_chain_head_halves :
    (after (.registerWrite 0x0C 4 0x12345678#64) (stoppedAt 0x5000#64)).window.chainHead = 0x1234567800005000#64 ∧
    (after (.registerWrite 0x08 4 0xABCDEFFF#64) (stoppedAt 0x500000000#64)).window.chainHead = 0x5ABCDE000#64 := by
  decide +kernel

/-! ## Witnesses: the order chain -/

/-- The walker TAKING with a head of a kind, and another state of the slots. -/
def headOf (k : OrderKind) (a b : Option Sheet) : State := { live with
  walker := { live.walker with state := .taking, window := [record k []] }
  control := { live.control with slotA := a, slotB := b } }

theorem witness_ChainUnitsStart :
    (let s := walking .seeking .none
     s.walker.cursor = some ⟨0x1000#64, .slot 60⟩ ∧ s.walker.state = .seeking ∧ s.walker.window = [] ∧
      s.walker.unit = .none ∧ s.port.hold = .free) ∧
    (let s := atTrailer .none
     s.walker.cursor = some ⟨0x1000#64, .trailer⟩ ∧ s.walker.state = .seeking ∧ s.walker.window = [] ∧
      s.walker.unit = .none ∧ s.port.hold = .free) ∧
    (let s := headOf .sheet (some (sheet .ready .proof)) none
     s.walker.window = [record .sheet []] ∧ s.walker.state = .taking ∧ s.walker.unit = .none ∧ s.port.hold = .free ∧
      s.control.queue.length < 16 ∧ s.control.barrier = .none ∧ s.control.slotA ≠ none ∧ s.control.slotB = none) ∧
    (headOf .sheet none none).control.slotA = none ∧
    ((record .flush []).kind.isBarrier = true ∧ (headOf .flush none none).control.slotA = none ∧
      (headOf .flush none none).control.slotB = none) ∧ (record .unknown []).kind = .unknown ∧ held.port.hold ≠ .free := by
  decide +kernel

theorem witness_RecordReadCompletes :
    (let s := walking .seeking (.recordRead 3 false)
     s.walker.unit = .recordRead 3 false ∧ s.walker.cursor = some ⟨0x1000#64, .slot 60⟩ ∧ threeRecords.length = 64 * 3 ∧
      s.walker.pendingWake = false) ∧
    (let s := { walking .seeking (.recordRead 3 true) with
        control := { skipDone.control with engine := .draining } }
     s.walker.unit = .recordRead 3 true ∧ s.control.engine = .draining ∧ s.control.queue ≠ []) ∧
    [false, true].map (fun run =>
      let s := { walking .seeking (.recordRead 3 true) with
        control := { live.control with engine := .draining }, window := { live.window with run := run } }
      let t := after (.recordReadDone .current (.data threeRecords)) s
      (s.control.queue == [] && s.walker.spentDue == [] && s.walker.spentInFlight == none, t.control.engine,
        t.walker.state, t.port.outstanding)) = [(true, .stopped, .stopped, 0), (true, .running, .seeking, 0)] ∧
    ({ walking .faulted (.recordRead 3 true) with control := { live.control with engine := .faulted } } :
      State).control.engine = .faulted := by decide +kernel

theorem witness_TrailerReadCompletes :
    (let s := atTrailer (.trailerRead false)
     s.walker.unit = .trailerRead false ∧ s.walker.cursor = some ⟨0x1000#64, .trailer⟩ ∧ (trailer 0).length = 64 ∧
      addrAt (trailer 0) 0 = 0#64 ∧ addrAt (trailer 0x2000) 0 = 0x2000#64 ∧ (0x2000#64).extractLsb' 0 12 = 0#12 ∧
      (∀ e ∈ s.control.queue, e.record.addr ≠ slotAddr 0x1000#64 62) ∧ s.control.engine = .running ∧
      (addrAt (trailer 0x2001) 0).extractLsb' 0 12 ≠ 0#12 ∧ addrAt (trailer 0x1000) 0 = 0x1000#64) ∧
    (let s := { atTrailer (.trailerRead true) with control := { skipDone.control with engine := .draining } }
     s.walker.unit = .trailerRead true ∧ s.control.engine = .draining ∧ s.control.queue ≠ []) ∧
    [false, true].map (fun run =>
      let s := { atTrailer (.trailerRead true) with
        control := { live.control with engine := .draining }, window := { live.window with run := run } }
      (s.control.queue == [] && s.walker.spentDue == [] && s.walker.spentInFlight == none,
        (after (.trailerReadDone .current (.data (trailer 0))) s).control.engine)) =
      [(true, .stopped), (true, .running)] ∧
    ({ atTrailer (.trailerRead true) with control := { live.control with engine := .faulted } } : State).control.engine =
      .faulted ∧
    ∃ e ∈ [(⟨⟨slotAddr 0x1000#64 62, 62, .mark, false, []⟩, false, Results.blank, none⟩ : QueueEntry)],
      e.record.addr = slotAddr 0x1000#64 62 :=
  ⟨by decide +kernel, by decide +kernel, by decide +kernel, by decide +kernel, _, List.mem_singleton_self _, rfl⟩

/-- A take in flight of an order with argument bytes. -/
def takingOf (k : OrderKind) (args : List Byte) (sl : Option SheetSlot) : State :=
  walking .taking (.taken (record k args) sl false)

theorem witness_PlainOrdersRun :
    ((takingOf .skip [] none).walker.unit = .taken (record .skip []) none false ∧
      (takingOf .skip [] none).control.engine = .running) ∧
    (∀ e ∈ (takingOf .mark [] none).control.queue.head?, ¬(e.record.kind = .mark ∧ e.finished = false)) ∧
    ((record .purge [0, 0, 0, 0]).arg32 4 = 0 ∧ (record .purge [255, 255, 255, 0]).arg32 4 = 16777215 ∧
      16777215 < (record .purge [0, 0, 0, 1]).arg32 4) ∧ (record .flush []).kind = .flush ∧
    ((record .storeMode [2]).arg8 4 < 3 ∧ ¬(record .storeMode [3]).arg8 4 < 3) ∧ (record .press []).kind = .press := by
  decide +kernel

/-- A take in flight while ABANDON reads 1. -/
def abandonedTake (k : OrderKind) (args : List Byte) (sl : Option SheetSlot) : State :=
  { takingOf k args sl with
    control := { live.control with engine := .draining }, window := { live.window with abandon := true } }

theorem witness_SheetsAndLoadsStart :
    ((takingOf .sheet [] (some .a)).walker.unit = .taken (record .sheet []) (some .a) false ∧
      (takingOf .sheet [] (some .a)).control.engine = .running ∧ (takingOf .sheet [] (some .a)).window.abandon = false) ∧
    ((record .profile [15]).arg8 4 < 16 ∧ 16 ≤ (record .profile [16]).arg8 4) ∧
    ((record .glyphs [2, 0, 0, 2]).arg8 4 < 3 ∧ (record .glyphs [2, 0, 0, 2]).arg16 6 ≤ 512 ∧
      3 ≤ (record .glyphs [3]).arg8 4 ∧ 512 < (record .glyphs [0, 0, 1, 2]).arg16 6) ∧
    [abandonedTake .sheet [] (some .a), abandonedTake .profile [3] none, abandonedTake .profile [16] none,
      abandonedTake .glyphs [2, 0, 0, 2] none, abandonedTake .glyphs [3] none].map (fun s =>
        (s.control.engine, s.window.abandon && (s.sheet .a).isNone && !(s.linkHolds .a || s.writerServes .a),
          (after (.takenWriteDone .current true) s).control.queue.map fun e => (e.results.outcome, e.results.detail))) =
      [[(OrderOutcome.abandoned, Detail.none)], [(.abandoned, .none)], [(.refused, .number)], [(.abandoned, .none)],
        [(.refused, .number)]].map (fun q => (EngineState.draining, true, q)) := by decide +kernel

/-- The retirement of the head at a phase. -/
def retiring (p : RetirePhase) : State := { skipDone with control := { skipDone.control with retire := p } }

/-- A SPENT write due, or in flight. -/
def spending (due : List Addr) (fl : Option Addr) : State := { live with walker := { live.walker with
  spentDue := due, spentInFlight := fl } }

/-- DRAINING with the walker STOPPED. -/
def drained (q : List QueueEntry) (p : RetirePhase) (fl : Option Addr) : State := { live with
  control := { live.control with engine := .draining, queue := q, retire := p }
  walker := { live.walker with state := .stopped, spentInFlight := fl } }

theorem witness_RetirementRuns :
    (∃ e rest, skipDone.control.queue = e :: rest ∧ e.finished = true ∧ skipDone.control.retire = .none ∧
      skipDone.port.hold = .free ∧ skipDone.control.engine ≠ .faulted) ∧
    (∃ e rest, (retiring .results).control.queue = e :: rest ∧ (retiring .results).control.retire = .results) ∧
    (∃ e rest, (retiring .done).control.queue = e :: rest ∧ (retiring .done).control.retire = .done ∧
      (retiring .done).control.engine = .running) ∧
    (∃ e, (drained skipDone.control.queue .done none).control.queue = [e] ∧
      (drained skipDone.control.queue .done none).control.engine = .draining ∧
      (drained skipDone.control.queue .done none).walker.state = .stopped ∧
      (drained skipDone.control.queue .done none).walker.pendingSpent = none ∧
      (drained skipDone.control.queue .done none).window.run = false) ∧
    ((spending [0x1000#64] none).walker.spentDue = 0x1000#64 :: [] ∧ (spending [0x1000#64] none).walker.spentInFlight = none) ∧
    (spending [0x2000#64] (some 0x1000#64)).walker.spentInFlight ≠ none ∧
    ((spending [] (some 0x1000#64)).walker.spentInFlight = some 0x1000#64 ∧
      (spending [] (some 0x1000#64)).control.engine ≠ .draining) ∧
    ((drained [] .none (some 0x1000#64)).walker.spentInFlight = some 0x1000#64 ∧
      (drained [] .none (some 0x1000#64)).control.engine = .draining ∧ (drained [] .none (some 0x1000#64)).control.queue = [] ∧
      (drained [] .none (some 0x1000#64)).walker.state = .stopped ∧ (drained [] .none (some 0x1000#64)).walker.spentDue = [] ∧
      (drained [] .none (some 0x1000#64)).window.run = false) :=
  ⟨⟨_, _, rfl, by decide +kernel⟩, ⟨_, _, rfl, rfl⟩, ⟨_, _, rfl, rfl, rfl⟩, ⟨_, rfl, by decide +kernel⟩, by decide +kernel, by decide +kernel,
   by decide +kernel, by decide +kernel⟩

theorem witness_BusErrorsFault :
    ((walking .seeking (.recordRead 1 true)).control.engine = .running ∧
      (walking .seeking (.recordRead 1 true)).walker.unit = .recordRead 1 true ∧
      (walking .seeking (.recordRead 1 true)).walker.cursor = some ⟨0x1000#64, .slot 60⟩) ∧
    ((atTrailer (.trailerRead false)).walker.unit = .trailerRead false ∧
      (atTrailer (.trailerRead false)).walker.cursor = some ⟨0x1000#64, .trailer⟩) ∧
    (takingOf .skip [] none).walker.unit = .taken (record .skip []) none false ∧
    (retiring .results).control.retire = .results ∧ (retiring .done).control.retire = .done ∧
    (spending [] (some 0x1000#64)).walker.spentInFlight = some 0x1000#64 ∧
    (let s := { walking .faulted (.recordRead 1 true) with control := { live.control with engine := .faulted } }
     s.control.engine = .faulted ∧ s.walker.unit = .recordRead 1 true ∧ s.walker.cursor = some ⟨0x1000#64, .slot 60⟩) ∧
    ((atTrailer (.trailerRead true)).walker.unit = .trailerRead true ∧
      (walking .faulted (.taken (record .skip []) none true)).walker.unit = .taken (record .skip []) none true) ∧
    [RetirePhase.results, .done].map (fun p =>
      let s := { retiring p with control := { (retiring p).control with engine := .faulted, cause := .badLink } }
      let t := after (if p = .results then .resultsWriteDone .current false else .doneWriteDone .current false) s
      (s.control.queue.length, t.control.retire, t.control.cause, t.control.queue.length)) =
      [(1, .none, .badLink, 1), (1, .none, .badLink, 1)] := by
  decide +kernel

/-! ## Witnesses: barrier loads -/

/-- A PROFILE order that waits to read, or reads. -/
def profileIn (fl ab : Bool) : State := { live with control := { live.control with barrier := .profile 15 0x2000#64 fl ab } }

/-- A GLYPHS load of a count with bytes received. -/
def glyphsIn (count : Nat) (bs : List Byte) (fl ab : Bool) : State := { live with control := { live.control with
  barrier := .glyphs ⟨2, count, 0x2000#64, bs, fl, ab, false, false⟩ } }

theorem witness_LoadReadsStart :
    ((profileIn false false).control.barrier = .profile 15 0x2000#64 false false ∧ (profileIn false false).port.hold = .free) ∧
    ((glyphsIn 512 [] false false).control.barrier = .glyphs ⟨2, 512, 0x2000#64, [], false, false, false, false⟩) ∧
    held.port.hold ≠ .free ∧ draining.port.hold ≠ .free := by decide +kernel

/-- A block that passes, every field at an end of its range. -/
def goodBlock : List Byte :=
  leBytes 2 512 ++ leBytes 2 32 ++ leBytes 2 32 ++ leBytes 2 31 ++ leBytes 2 511 ++ [1, 2, 2, 1, 32, 0] ++
    leBytes 4 1024 ++ List.replicate 12 0

theorem witness_ProfileBlockCompletes :
    (profileIn true true).control.barrier = .profile 15 0x2000#64 true true ∧
    (profileIn true false).control.barrier = .profile 15 0x2000#64 true false ∧
    ((profileBytes 20).length = 32 ∧ ¬(32 ≤ u16 (profileBytes 20) 0 ∧ u16 (profileBytes 20) 0 ≤ 512)) ∧
    ((profileBytes 513).length = 32 ∧ ¬(32 ≤ u16 (profileBytes 513) 0 ∧ u16 (profileBytes 513) 0 ≤ 512)) ∧
    (goodBlock.length = 32 ∧ 32 ≤ u16 goodBlock 0 ∧ u16 goodBlock 0 ≤ 512 ∧ 32 ≤ u16 goodBlock 2 ∧ u16 goodBlock 2 ≤ 640 ∧
      u8 goodBlock 10 ≤ 1 ∧ u8 goodBlock 11 < 3 ∧ 1 ≤ u8 goodBlock 12 ∧ u8 goodBlock 12 ≤ 2 ∧ u8 goodBlock 13 ≤ 1) := by
  decide +kernel

theorem witness_GlyphUnitCompletes :
    (∃ l, (glyphsIn 5 [] true true).control.barrier = .glyphs l ∧ l.inFlight = true ∧ l.abandoned = true) ∧
    (∃ l, (glyphsIn 5 [] true false).control.barrier = .glyphs l ∧ l.inFlight = true ∧ l.abandoned = false ∧
      0 < (block 8).length ∧ (block 8).length ≤ 4096 ∧ (glyphsIn 5 [] true false).check.poison ≠ .glyph ∧
      l.poisoned = false ∧ scanGlyphBlock (l.bytes ++ block 70) l.count = .refused .glyph ∧
      scanGlyphBlock (l.bytes ++ (block 8).take 20) l.count = .more 1 ∧
      (scanGlyphBlock (l.bytes ++ block 8) l.count).isWhole = true) :=
  ⟨⟨_, rfl, by decide +kernel⟩, ⟨_, rfl, by decide +kernel⟩⟩

/-- A glyph of the greatest advance with one column. -/
def oneGlyph : Glyph := ⟨65#16, 64, 1, List.replicate 24 255#8, false, false⟩

theorem witness_GlyphBlocksScan :
    ([7#8] ≠ [] ∧ u8 [7#8] 0 < 8 ∧ 48 < u8 [49#8] 0) ∧
    (((block 8).take 16).length = 16 ∧ 8 ≤ u8 ((block 8).take 16) 0 ∧ u8 ((block 8).take 16) 0 ≤ 48 ∧
      ∀ g ∈ [oneGlyph], 1 ≤ g.advance ∧ g.advance ≤ 64 ∧ g.width ≤ 48 ∧
        g.alpha.length = g.width * u8 ((block 8).take 16) 0 ∧ g.damaged = false ∧ g.poisoned = false) ∧
    ([oneGlyph].length < 2 ∧ 4 ≤ [66#8, 0#8, 65#8, 0#8].length ∧ 64 < u8 [66#8, 0#8, 65#8, 0#8] 2) ∧
    48 < u8 [66#8, 0#8, 1#8, 49#8] 3 ∧ u8 [66#8, 0#8, 0#8, 0#8] 2 < 1 := by decide +kernel

/-! ## Witnesses: planning -/

/-- The sheet of `planning`. -/
def planned (t : Option Ticket) : Sheet := { sheet .planning .proof with ticket := t }

theorem planning_alone (t : Option Ticket) (j : PlanJob) (h : j.slot = .a) : PlansAlone (planning t j) j (planned t) :=
  ⟨rfl, by rw [h]; rfl, rfl, rfl, rfl, by rw [h]; rfl, by rw [h]; rfl, rfl⟩

/-- The seed of an inset cell. -/
def seed : CellSeed := ⟨⟨0, 0, 64, 64⟩, ⟨0, 0, 256, 256⟩, 0, none, .student, 0⟩

/-- A sheet in PLANNING with a ticket address that refuses. -/
def badAddress (a : Addr) : State :=
  { holding { planned none with ticketAddr := a } with planner := ⟨some (job .ticket false), none, [], none⟩ }

theorem witness_PlanningReadsStart :
    (let s := planning none (job .ticket false)
     s.planner.job = some (job .ticket false) ∧ (job .ticket false).inFlight = false ∧ s.port.hold = .free ∧
      s.sheet .a = some (planned none) ∧ (planned none).ticketAddr ≠ 0#64 ∧ (planned none).ticketAddr.toNat % 128 = 0 ∧
      (job .ticket false).stage = .ticket) ∧
    ((job .layout false).stage = .layout ∧ (job .roster false).stage = .roster ∧
      (job (.subject 0x4000#64 seed) false).stage = .subject 0x4000#64 seed ∧
      (job (.text 0x4000#64 64 0) false).stage = .text 0x4000#64 64 0) ∧
    (let s := { planning none (job .ticket false) with port := held.port }
     s.port.hold ≠ .free ∧ s.planner.job = some (job .ticket false) ∧ s.sheet .a = some (planned none)) ∧
    (PlansAlone (badAddress 0#64) (job .ticket false) { planned none with ticketAddr := 0#64 } ∧
      PlansAlone (badAddress 64#64) (job .ticket false) { planned none with ticketAddr := 64#64 } ∧
      (64#64).toNat % 128 ≠ 0) :=
  ⟨by decide +kernel, by decide +kernel, by decide +kernel, ⟨rfl, rfl, rfl, rfl, rfl, rfl, rfl, rfl⟩,
   ⟨rfl, rfl, rfl, rfl, rfl, rfl, rfl, rfl⟩, by decide⟩

theorem witness_PlanningReadFails :
    (PlansAlone (planning none (job .ticket true)) (job .ticket true) (planned none) ∧ (job .ticket true).inFlight = true) ∧
    PlansAlone (planning (some (ticket .proof)) (job .layout true)) (job .layout true) (planned (some (ticket .proof))) ∧
    PlansAlone (planning (some (ticket .proof)) (job .roster true)) (job .roster true) (planned (some (ticket .proof))) ∧
    PlansAlone (planning (some (ticket .proof)) (job (.subject 0x4000#64 seed) true)) (job (.subject 0x4000#64 seed) true)
      (planned (some (ticket .proof))) ∧
    PlansAlone (planning (some (ticket .proof)) (job (.text 0x4000#64 64 0) true)) (job (.text 0x4000#64 64 0) true)
      (planned (some (ticket .proof))) :=
  ⟨⟨planning_alone _ _ rfl, rfl⟩, planning_alone _ _ rfl, planning_alone _ _ rfl, planning_alone _ _ rfl,
   planning_alone _ _ rfl⟩

/-- A ticket's bytes: destination, width, entry count, roster count and start, with the proof fields of a proof. -/
def ticketBytes (dest : Byte) (width entries count start : Nat) : List Byte :=
  leBytes 4 7 ++ [dest, 0, 0, 3] ++ leBytes 2 width ++ leBytes 2 256 ++ [250, 245, 235, 0] ++ leBytes 8 0x100000 ++
    leBytes 4 (3 * width) ++ leBytes 2 entries ++ [0, 0] ++ leBytes 8 0x2000 ++ leBytes 8 0x3000 ++ leBytes 2 count ++
    leBytes 2 start ++ List.replicate 4 0 ++ leBytes 8 0 ++ List.replicate 64 0

theorem witness_TicketChecked :
    (∃ t, ticketCheck (ticketBytes 1 3072 48 4096 4096) = .ok t ∧ t.dest = .proof ∧ t.width = 3072 ∧ t.rosterStart = 4096) ∧
    ticketCheck (ticketBytes 0 255 0 0 0) = .error .geometry ∧ ticketCheck (ticketBytes 1 3073 0 0 0) = .error .geometry ∧
    ticketCheck (ticketBytes 0 256 49 0 0) = .error .geometry ∧ ticketCheck (ticketBytes 0 256 0 4097 0) = .error .roster ∧
    ticketCheck (ticketBytes 0 256 0 3 4) = .error .roster :=
  ⟨⟨_, rfl, by decide +kernel⟩, by decide +kernel, by decide +kernel, by decide +kernel, by decide +kernel, by decide +kernel⟩

theorem witness_TicketReadCompletes :
    (PlansAlone (planning none (job .ticket true)) (job .ticket true) (planned none) ∧ (job .ticket true).stage = .ticket ∧
      (job .ticket true).inFlight = true ∧ (ticketBytes 0 256 0 0 0).length = 128) ∧
    ticketCheck (ticketBytes 0 255 0 0 0) = .error .geometry ∧
    (∃ k, ticketCheck (ticketBytes 0 256 1 0 0) = .ok k ∧ k.dest = .press ∧ 0 < k.entryCount) ∧
    ({ planning none (job .ticket true) with window := { live.window with pressMode := .off } } : State).window.pressMode =
      .off ∧
    (∃ k, ticketCheck (ticketBytes 1 256 0 0 0) = .ok k ∧ k.dest = .proof ∧ k.entryCount = 0 ∧
      (planned none).pendingBuilds = 0) :=
  ⟨⟨planning_alone _ _ rfl, by decide +kernel⟩, by decide +kernel, ⟨_, rfl, by decide +kernel⟩, rfl,
   ⟨_, rfl, by decide +kernel⟩⟩

/-- A ticket with a number of layout entries and of roster entries. -/
def bigTicket (entries roster : Nat) : Ticket :=
  { ticket .proof with entryCount := entries, layoutAddr := 0x2000#64, rosterAddr := 0x3000#64, rosterCount := roster }

/-- A layout entry of a kind, with zeros. -/
def entryBytes (kind : Byte) : List Byte := kind :: List.replicate 31 0

theorem witness_LayoutReadCompletes :
    (PlansAlone (planning (some (bigTicket 1 0)) (job .layout true)) (job .layout true) (planned (some (bigTicket 1 0))) ∧
      (planned (some (bigTicket 1 0))).ticket = some (bigTicket 1 0) ∧ (entryBytes 6).length = 32 * 1 ∧
      (job .layout true).entries.length + 1 ≤ (bigTicket 1 0).entryCount) ∧
    (let s := planning (some (bigTicket 2 0)) (job .layout true)
     s.validate 0 0 (layoutEntries (entryBytes 7) 1) = .error .kind ∧
      s.validate 0 0 (layoutEntries (entryBytes 6) 1) = .ok (0, 0) ∧
      s.validate 0 0 (layoutEntries (entryBytes 1) 1) = .ok (1, 0) ∧
      (job .layout true).entries.length + 1 < (bigTicket 2 0).entryCount) ∧
    ((planned (some (bigTicket 1 0))).frames = [] ∧ (planned (some (bigTicket 1 0))).pendingBuilds = 0 ∧
      layoutEntries (entryBytes 6) 1 = [(0, 0, 0, 0, ⟨0, 0, 0⟩)].map
        (fun (q : Int × Int × Nat × Nat × Colour) => .rule q.1 q.2.1 q.2.2.1 q.2.2.2.1 q.2.2.2.2)) :=
  ⟨⟨planning_alone _ _ rfl, by decide +kernel⟩, by decide +kernel, by decide +kernel⟩

/-- A grid of one row and two columns. -/
def grid : GridFrame := ⟨0, 0, ⟨0, 0, 256, 256⟩, 0, 1, 2, 0, 0, false, 64, 64, 0, 0⟩

/-- A job that waits for the roster at the first place of the grid. -/
def atGrid : PlanJob := { job .roster true with steps := [.cell 0 0 0, .cell 0 0 1], grids := [(1, 2)] }

/-- A sheet at its grid. -/
def planningGrid : State :=
  { holding { planned (some (bigTicket 1 16)) with frames := [.grid grid] } with planner := ⟨some atGrid, none, [], some ⟨0, 0, 0⟩⟩ }

/-- A roster of a student and 15 more entries. -/
def rosterBytes : List Byte := leBytes 8 0x4000 ++ List.replicate 8 0 ++ List.replicate 240 0

theorem witness_RosterReadCompletes :
    PlansAlone planningGrid atGrid { planned (some (bigTicket 1 16)) with frames := [.grid grid] } ∧
    (rosterBytes.length = 16 * 16 ∧ atGrid.rosterIndex + 16 ≤ (bigTicket 1 16).rosterCount ∧ atGrid.stage = .roster ∧
      atGrid.steps = .cell 0 0 0 :: [.cell 0 0 1] ∧ [Frame.grid grid][0]? = some (.grid grid) ∧ 0 < grid.cols ∧
      (rosterEntries rosterBytes 16).head? = some ⟨0x4000#64, 0⟩) :=
  ⟨⟨rfl, rfl, rfl, rfl, rfl, rfl, rfl, rfl⟩, by decide +kernel⟩

/-- A subject record: number, serial, status, form, marks, names of 20 and 21 codes, a raster of 64 × 64. -/
def subjectBytes (n : Nat) (status : Byte) : List Byte :=
  leBytes 4 n ++ [1, status, 0, 0] ++ leBytes 8 0x5000 ++ leBytes 2 64 ++ leBytes 2 64 ++ leBytes 4 192 ++
    List.replicate 8 0 ++ [20, 21] ++ List.replicate 94 0

theorem witness_SubjectReadCompletes :
    (let j := job (.subject 0x4000#64 seed) true
     PlansAlone (planning (some (bigTicket 1 0)) j) j (planned (some (bigTicket 1 0))) ∧
      j.stage = .subject 0x4000#64 seed ∧ j.inFlight = true) ∧
    ((subjectBytes 16777215 0).length = 128 ∧ 0 < u32 (subjectBytes 16777215 0) 0 ∧
      u32 (subjectBytes 16777215 0) 0 ≤ 16777215 ∧ u8 (subjectBytes 16777215 0) 5 = 0 ∧
      (rasterDescription (subjectBytes 16777215 0)).isSome = true) ∧
    16777215 < u32 (subjectBytes 16777216 0) 0 ∧ u8 (subjectBytes 1 1) 5 = 1 ∧ 1 < u8 (subjectBytes 1 2) 5 :=
  ⟨⟨planning_alone _ _ rfl, rfl, rfl⟩, by decide +kernel⟩

/-- A banner frame. -/
def banner : BannerFrame := ⟨0, 0, 100, 0, ⟨0, 0, 0⟩, .left, ⟨0, 0, 256, 256⟩, 0x4000#64, 64, [], 0#11, none⟩

theorem witness_BannerTextReadCompletes :
    (let j := job (.text 0x4000#64 64 0) true
     let sh := { planned (some (bigTicket 1 0)) with frames := [.banner banner] }
     PlansAlone { holding sh with planner := ⟨some j, none, [], none⟩ } j sh ∧ sh.ticket = some (bigTicket 1 0) ∧
      j.stage = .text 0x4000#64 64 0 ∧ j.inFlight = true ∧ (List.replicate 128 0#8).length = 2 * 64 ∧
      sh.frames[0]? = some (.banner banner) ∧ ∀ m, .text m ∈ j.steps → m ≠ 0) :=
  ⟨⟨rfl, rfl, rfl, rfl, rfl, rfl, rfl, rfl⟩, rfl, rfl, rfl, by decide +kernel, rfl, nofun⟩

/-! ## Witnesses: building -/

/-- A build entry of a store slot. -/
def buildEntry : BuildEntry := ⟨.store 5 .w0, ⟨5, 0, 1⟩, src⟩

/-- A build of it. -/
def build (fl portDone : Bool) : Build :=
  let f := computeFit src profile3
  ⟨buildEntry, f, sourceRanges src f profile3, [], portDone, fl, false, false⟩

/-- A state with a build, for a FILLING sheet in slot A. -/
def building (b : Build) : State := { holding { sheet .filling .proof with pendingBuilds := 1 } with
  profiles := live.profiles.set 0 (some profile3), builder := ⟨[], some b⟩
  store := live.store.setSlot 5 .w0 ⟨.filling, some ⟨5, 0, 1⟩, ⟨true, false⟩, [], none, false⟩ }

theorem witness_BuildStarts :
    (let s := { live with builder := ⟨[buildEntry], none⟩ }
     s.builder.current = none ∧ s.builder.queue = buildEntry :: [] ∧ s.port.hold = .free) ∧
    ((building (build false false)).builder.current ≠ none ∧ live.builder.queue = [] ∧ held.port.hold ≠ .free) ∧
    ((sourceArea (computeFit src profile3) profile3).map fun a => (a.x, a.cols, a.y, a.rows)) = some (0, 64, 0, 64) ∧
    (0x3000#64).toNat + (63 * 192 + 63 * 3 + 2) < 2 ^ 64 ∧
    (let p := { profile3 with cellWidth := 64, cellHeight := 64, headTarget := 16, eyeLine := 32, centreColumn := 0, edge := .pad }
     sourceArea (computeFit ⟨0x3000#64, 95, 1024, 285, .rgb8, .full 0 1023 500 94⟩ p) p = none) := by
  decide +kernel

/-- The manual's example of 2400 × 3000 from chapter 4: the runs of its build. -/
theorem test_source_runs :
    (let f := computeFit ⟨0x1000#64, 2400, 3000, 7200, .rgb8, .full 600 1560 1020 1190⟩ profile3
     (sourceRanges ⟨0x1000#64, 2400, 3000, 7200, .rgb8, .full 600 1560 1020 1190⟩ f profile3).head?.map (·.addr)) =
      some (BitVec.ofNat 64 (0x1000 + 220 * 7200 + 388 * 3)) := by decide +kernel

theorem witness_SourceReadCompletes :
    (let s := building (build false false)
     s.builder.current = some (build false false) ∧ (build false false).portDone = false ∧
      (build false false).failing = false ∧ [0#8] ≠ [] ∧
      (build false false).got.length + [0#8].length ≤ rangeBytes (build false false).ranges) ∧
    ((building (build true false)).builder.current = some (build true false) ∧ (build true false).failing = true) := by
  decide +kernel

theorem witness_BuildCompletes :
    (building (build false true)).builder.current = some (build false true) ∧ (build false true).portDone = true ∧
    (build false true).failing = false ∧ (building (build false true)).sheet .a ≠ none ∧
    SheetSlot.a ∈ (building (build false true)).store.holdersOf (build false true).entry.ref ∧
    SheetSlot.b ∉ (building (build false true)).store.holdersOf (build false true).entry.ref := by decide +kernel

theorem witness_BuildFails :
    (building (build true true)).builder.current = some (build true true) ∧ (build true true).failing = true ∧
    (building (build true false)).builder.current = some (build true false) ∧
    SheetSlot.a ∈ (building (build true true)).store.holdersOf (build true true).entry.ref := by decide +kernel

/-! ## Witnesses: composing -/

/-- A second sheet beside one in slot A. -/
def beside (a b : Sheet) : State := { holding a with control := { (holding a).control with slotB := some b } }

/-- A sheet with a cell of two names and a banner, and glyph set 1. -/
def captioned : State := { holding { sheet .ready .proof with
    cells := [longName, { longName with kind := .empty }]
    frames := [.banner ⟨0, 0, 30, 1, ⟨0, 0, 0⟩, .right, ⟨0, 0, 256, 256⟩, 0#64, 0, List.replicate 3 65#16, 0#11, none⟩] } with
  profiles := live.profiles.set 3 (some profile3), glyphs := live.glyphs.set 1 (some set1) }

theorem test_entry_counts_notes :
    (let t := after .sheetEnterComposing captioned
     (t.control.queue.map fun e => (e.results.counts.clippedCaptions, e.results.counts.substituted),
      (t.sheet .a).map fun sh => sh.frames.map Frame.notes)) = ([(2, 1)], some [32#11]) := by decide +kernel

theorem witness_SheetEntersComposing :
    (GlyphsGood captioned ∧ (captioned.sheet .a).isSome = true ∧ (captioned.orderResults .a).isSome = true ∧
      (set1.find 65#16).isSome = true ∧ set1.find 67#16 = none ∧ (set1.find set1.substitute).isSome = true ∧
      (captioned.glyphSetOf 0).find 65#16 = none ∧
      (captioned.glyphSetOf 0).find (captioned.glyphSetOf 0).substitute = none) ∧
    (let s := holding (sheet .ready .proof)
     s.sheet .a = some (sheet .ready .proof) ∧ (sheet .ready .proof).first = true ∧
      (sheet .ready .proof).ticket = some (ticket .proof) ∧ (ticket .proof).dest = .proof ∧ s.sheet .b = none ∧
      s.writer.attempt = none) ∧
    (let s := { holding (sheet .ready .press) with composer := live.composer }
     (ticket .press).dest = .press ∧ s.link.state = .closed ∧ s.window.pressMode ≠ .off ∧ s.bandFull att 0 = false ∧
      s.link.held = none ∧ s.writerServes .a = false ∧ (sheet .ready .press).ending = none) ∧
    (beside (sheet .ready .proof) { sheet .closing .press with first := false }).sheet .b =
      some { sheet .closing .press with first := false } ∧
    ∀ sl sh, (beside (sheet .composing .proof) { sheet .ready .proof with first := false }).sheet sl = some sh →
      sh.state = .ready → ∃ o, (beside (sheet .composing .proof) { sheet .ready .proof with first := false }).sheet
        (otherSlot sl) = some o ∧
        (o.state = .composing ∨ (o.first = true ∧ (o.state = .planning ∨ o.state = .filling))) := by
  refine ⟨⟨by unfold GlyphsGood; decide +kernel, by decide +kernel⟩, by decide +kernel, by decide +kernel,
    by decide +kernel, fun sl sh h hr => ?_⟩
  cases sl <;> cases h
  · cases hr
  · exact ⟨_, rfl, .inl rfl⟩

/-- The Composer painting a band of the sheet in slot A. -/
def painting (b : Nat) (d : Dest) (l : Link) : State := { holding (sheet .composing d) with
  link := l
  composer := { (live.composer.setBuf (bufferFor b) (bufIn .filling b)) with
    state := .painting, attempt := some att, nextBand := b } }

/-- `painting` of a proof with a RULE in a poisoned buffer. -/
def paintingPoison : State :=
  let s := painting 0 .proof live.link
  { s with
    control := { s.control with slotA := some { sheet .composing .proof with
      frames := [.rule ⟨⟨0, 0, 8, 8⟩, ⟨0, 0, 0⟩, ⟨0, 0, 256, 256⟩⟩] } }
    composer := s.composer.setBuf .x { bufIn .filling 0 with poisoned := true } }

theorem witness_BandPainted :
    (let s := painting 3 .proof live.link
     s.composer.state = .painting ∧ s.composer.attempt = some att ∧ s.sheet .a = some (sheet .composing .proof) ∧
      s.composer.nextBand = 3 ∧ 3 + 1 = (256 + 63) / 64 ∧ s.link.held = none ∧
      paintingFails (s.composer.buf (bufferFor 3)).poisoned 3 (s.bandOps (sheet .composing .proof) (ticket .proof) 3) =
        false) ∧
    (let s := painting 0 .press (linkIn .awaitReady .live)
     s.link.held = some (hold .live) ∧ (hold .live).attempt = att ∧ s.link.state = .awaitReady ∧ s.link.nextBand = 0 ∧
      s.link.ready = true ∧ s.composer.bufX.tag = some ⟨att, 0, 64⟩ ∧ (s.composer.buf (bufferFor 1)).state = .empty ∧
      paintingFails (s.composer.buf (bufferFor 0)).poisoned 0 (s.bandOps (sheet .composing .press) (ticket .press) 0) =
        false) ∧
    (linkIn .awaitReady .loop).held = some (hold .loop) ∧
    (let s := painting 1 .press { linkIn .streaming .live with nextBand := 1, graceTimer := some 10 }
     s.link.state = .streaming ∧ s.link.graceTimer = some 10 ∧ s.link.nextBand = 1 ∧ s.link.sending = none) ∧
    (paintingPoison.composer.attempt = some att ∧
      ∃ sh k, paintingPoison.sheet .a = some sh ∧ sh.ticket = some k ∧
        paintingFails (paintingPoison.composer.buf (bufferFor 0)).poisoned 0 (paintingPoison.bandOps sh k 0) = true) ∧
    live.composer.state ≠ .painting :=
  ⟨by decide +kernel, by decide +kernel, rfl, by decide +kernel, ⟨by decide +kernel, _, _, rfl, rfl, by decide +kernel⟩,
   by decide +kernel⟩

theorem witness_CorrectableErrorLogged :
    (writingY.canRead (.band .y) .proofWriter = true ∧ writingY.check.locked = false) ∧
    (let s := { writingY with check := { writingY.check with locked := true, count := 255 } }
     s.canRead (.band .y) .proofWriter = true ∧ s.check.locked = true) ∧
    (pressing .composing sendingLink).canRead (.band .x) .pressLink = true ∧
    writingY.canRead (.band .x) .proofWriter = false ∧ paintingPoison.canRead (.band .x) .composer = true ∧
    (∃ sh k, paintingPoison.sheet .a = some sh ∧ sh.ticket = some k ∧
      (paintingPoison.bandOps sh k 0).any (·.covers 7 7) = true) ∧
    (painting 0 .proof live.link).canRead (.band .x) .composer = false :=
  ⟨by decide +kernel, by decide +kernel, by decide +kernel, by decide +kernel, by decide +kernel,
    ⟨_, _, rfl, rfl, by decide +kernel⟩, by decide +kernel⟩

/-- A sheet in COMPOSING with a RULE and a text of set 0, its glyph to be painted in band 0. -/
def glyphPainting : State :=
  let s := painting 0 .proof live.link
  { s with
    control := { s.control with slotA := some { sheet .composing .proof with
      frames := [.banner { banner with text := [65], line := some ⟨[⟨65, 16⟩], 16, 0⟩ }] } }
    glyphs := live.glyphs.set 0 (some ⟨24, 0, 0, 0, [⟨65, 16, 1, List.replicate 24 255, false, false⟩], []⟩)
    check := { live.check with locked := true, uncorrectable := some (.band .x) } }

/-- A sheet whose one cell shows a store tile in band 0. -/
def tilePainting : State :=
  let s := painting 0 .proof live.link
  { s with
    profiles := live.profiles.set 0 (some profile3)
    store := live.store.setSlot 5 .w0 ⟨.ready, some ⟨5, 0, 1⟩, ⟨true, false⟩, [], none, false⟩
    control := { s.control with slotA := some { sheet .composing .proof with
      cells := [{ longName with kind := .portrait, rect := ⟨0, 0, 64, 64⟩, profile := 0, ref := some (.store 5 .w0) }]
      frames := [.inset ⟨0, 0, ⟨0, 0, 256, 256⟩, 0, 0x4000#64, 0, 0⟩] } } }

/-- A sheet in COMPOSING whose one cell shows a scratch tile in band 0, with a retry budget. -/
def scratchPainting (budget : Nat) : State :=
  let s := tilePainting
  let k := { ticket .proof with retryBudget := budget }
  { s with
    store := live.store.setScratch .a 7 ⟨.ready, some ⟨5, 0, 1⟩, [], none, false⟩
    control := { s.control with slotA := some { sheet .composing .proof with
      ticket := some k
      cells := [{ longName with
        kind := .portrait, rect := ⟨0, 0, 64, 64⟩, profile := 0, source := some src, ref := some (.scratch .a 7) }] } } }

theorem test_damaged_scratch_tile_is_rebuilt :
    (let t := after (.uncorrectableError (.scratchTile .a 7) .composer 0) (scratchPainting 1)
     ((t.store.pool .a).slots[7].state, t.builder.queue.map (·.ref), (t.sheet .a).map (·.state))) =
      (.filling, [.scratch .a 7], some .filling) := by decide +kernel

/-- A READY sheet with a text of set 0, in its turn to compose. -/
def glyphFitting : State := { holding { sheet .ready .proof with frames := [.banner { banner with text := [65] }] } with
  glyphs := glyphPainting.glyphs }

theorem witness_UncorrectableErrorTakesEffect :
    ((scratchPainting 1).canRead (.scratchTile .a 7) .composer = true ∧ (scratchPainting 1).composer.attempt = some att ∧
      ((scratchPainting 1).sheet .a).map (fun sh => (sh.cells.find? fun d => d.ref = some (.scratch .a 7)).map (·.source)) =
        some (some (some src)) ∧ (scratchPainting 0).canRead (.scratchTile .a 7) .composer = true ∧
      (∃ sh, InHand (scratchPainting 1) att sh { ticket .proof with retryBudget := 1 }) ∧
      ∃ sh, InHand (scratchPainting 0) att sh { ticket .proof with retryBudget := 0 }) ∧
    (writingY.canRead (.band .y) .proofWriter = true ∧ writingY.check.locked = false) ∧
    ((pressing .composing sendingLink).link.sending = some 0 ∧ (pressing .composing sendingLink).link.held = some (hold .live) ∧
      InHand (pressing .composing sendingLink) att (sheet .composing .press) (ticket .press) ∧
      (pressing .composing sendingLink).composer.attempt = none) ∧
    (let s := { writingY with check := { live.check with locked := true, uncorrectable := some (.band .x) } }
     s.writer.state = .writing ∧ s.writer.damage = false ∧ s.check.locked = true) ∧
    (tilePainting.canRead (.storeTile 5 .w0) .composer = true ∧ tilePainting.composer.attempt = some att ∧
      tilePainting.canRead (.band .x) .composer = true ∧ ∃ sh, InHand tilePainting att sh (ticket .proof)) ∧
    (glyphPainting.glyphs[0] ≠ none ∧ glyphPainting.check.locked = true ∧
      glyphPainting.canRead (.glyph 0 65) .captionPainting = true ∧ glyphPainting.composer.silenced = []) ∧
    glyphFitting.canRead (.glyph 0 65) .captionFitting = true :=
  ⟨⟨by decide +kernel, rfl, by decide +kernel, by decide +kernel, ⟨_, rfl, rfl, .inl rfl, rfl, rfl, rfl⟩,
    _, rfl, rfl, .inl rfl, rfl, rfl, rfl⟩,
   by decide +kernel, ⟨rfl, rfl, ⟨rfl, rfl, .inl rfl, rfl, rfl, rfl⟩, rfl⟩, by decide +kernel,
   ⟨by decide +kernel, rfl, by decide +kernel, _, ⟨rfl, rfl, .inl rfl, rfl, rfl, rfl⟩⟩, by decide +kernel, by decide +kernel⟩

/-! ## Witnesses: the link -/

theorem witness_ReadyLevel :
    (let s := { pressing .composing { linkIn .awaitReady .live with ready := false, waitTimer := some 60000 } with
        composer := { live.composer with bufX := bufIn .full 0 } }
     s.link.state = .awaitReady ∧ s.link.held = some (hold .live) ∧ s.link.ready = false ∧ s.bandFull att 0 = true ∧
      s.link.waitTimer ≠ none) ∧
    (pressing .composing (linkIn .awaitReady .live)).bandFull att 0 = false ∧ (linkIn .awaitReady .live).ready = true ∧
    (linkIn .awaitReady .loop).held.map (·.mode) = some .loop ∧ (linkIn .closing .live).state ≠ .awaitReady ∧
    (linkIn .awaitReady .live).waitTimer = none := by decide +kernel

/-- STREAMING with the band timer running, a next band, and buffers. -/
def streaming (next : Nat) (snd : Option Nat) (b : Buffer) : State :=
  { pressing .composing { linkIn .streaming .live with nextBand := next, sending := snd, bandTimer := some 40 } with
    composer := live.composer.setBuf (bufferFor next) b }

theorem witness_StreamingGoesOn :
    ((linkIn .opening .live).state = .opening ∧ (linkIn .opening .live).held = some (hold .live) ∧
      (hold .live).mode ≠ .loop ∧ (linkIn .opening .live).abortPending = false) ∧
    ((linkIn .streaming .live).state ≠ .opening ∧ (hold .live).sheetId ≠ 8#32 ∧ (hold .loop).mode = .loop) ∧
    ((streaming 4 none Buffer.blank).link.bandTimer ≠ none ∧ (hold .live).bands ≤ (streaming 4 none Buffer.blank).link.nextBand) ∧
    ((streaming 3 none (bufIn .full 3)).link.nextBand < (hold .live).bands ∧
      (streaming 3 none (bufIn .full 3)).bandFull att 3 = true ∧ (streaming 3 none (bufIn .full 3)).link.sending = none) ∧
    ((streaming 1 (some 0) (bufIn .full 1)).bandFull att 1 = true ∧
      (streaming 1 (some 0) (bufIn .full 1)).link.sending ≠ none) ∧
    ((streaming 1 none Buffer.blank).bandFull att 1 = false ∧ 0 < (streaming 1 none Buffer.blank).link.config.grace) ∧
    (let s := { streaming 1 none Buffer.blank with link := { (streaming 1 none Buffer.blank).link with
        config := ⟨40, 0, 2000, 10, 60⟩ } }
     s.link.config.grace = 0 ∧ InHand s att (sheet .composing .press) (ticket .press)) ∧
    (linkIn .streaming .live).bandTimer = none :=
  ⟨by decide +kernel, by decide +kernel, by decide +kernel, by decide +kernel, by decide +kernel, by decide +kernel,
   ⟨rfl, rfl, rfl, .inl rfl, rfl, rfl, rfl⟩, by decide +kernel⟩

theorem witness_LinkTimersEndAttempts :
    (let s := pressing .composing { linkIn .streaming .live with nextBand := 1, graceTimer := some 10 }
     s.link.state = .streaming ∧ s.link.held = some (hold .live) ∧ s.link.graceTimer ≠ none ∧ s.link.sending = none ∧
      InHand s att (sheet .composing .press) (ticket .press)) ∧
    ({ linkIn .streaming .live with nextBand := 1, graceTimer := some 10, sending := some 0 } : Link).sending ≠ none ∧
    (let s := pressing .composing { linkIn .opening .live with acceptTimer := some 2000 }
     s.link.state = .opening ∧ s.link.acceptTimer ≠ none ∧ InHand s att (sheet .composing .press) (ticket .press) ∧
      s.writerServes .a = false) ∧
    (let s := pressing .closing { linkIn .closing .live with resultTimer := some 10000 }
     s.link.state = .closing ∧ s.link.resultTimer ≠ none ∧ InHand s att (sheet .closing .press) (ticket .press) ∧
      s.writerServes .a = false) ∧
    ((linkIn .closing .live).graceTimer = none ∧ (linkIn .closing .live).state ≠ .opening) :=
  ⟨⟨rfl, rfl, nofun, rfl, rfl, rfl, .inl rfl, rfl, rfl, rfl⟩, nofun,
   ⟨rfl, nofun, ⟨rfl, rfl, .inl rfl, rfl, rfl, rfl⟩, rfl⟩, ⟨rfl, nofun, ⟨rfl, rfl, .inr rfl, rfl, rfl, rfl⟩, rfl⟩,
   by decide +kernel⟩

/-- A send of a band in flight, with a due band or a pending ABORT. -/
def sendingBand (b : Nat) (due ab : Bool) : State :=
  { pressing .composing { linkIn .streaming .live with nextBand := b + 1, sending := some b, due := due, abortPending := ab } with
    composer := live.composer.setBuf (bufferFor b) (bufIn .sending b) }

/-- The last band of a sheet on its way under LOOP. -/
def sendingLoop : State :=
  { pressing .closing { linkIn .streaming .loop with nextBand := 4, sending := some 3 } with
    composer := live.composer.setBuf .y (bufIn .sending 3) }

/-- A send of band b in flight while the Composer waits for the buffer of a band. -/
def sendingWaiting (b next : Nat) : State :=
  let s := sendingBand b false false
  { s with composer := { (s.composer.setBuf (bufferFor (b + 1)) (bufIn .full (b + 1))) with
    state := .waiting, attempt := some att, nextBand := next } }

theorem witness_BandSent :
    (let s := sendingBand 0 false false
     s.link.sending = some 0 ∧ s.link.held = some (hold .live) ∧ (s.composer.buf (bufferFor 0)).poisoned = false ∧
      (s.composer.buf (bufferFor 0)).tag = some ⟨att, 0, 64⟩ ∧ s.composer.state ≠ .waiting ∧ s.link.abortPending = false ∧
      0 + 1 ≠ (hold .live).bands ∧ s.link.due = false) ∧
    ((sendingBand 3 false false).link.sending = some 3 ∧ 3 + 1 = (hold .live).bands) ∧
    ((sendingBand 0 true false).link.due = true ∧ (sendingBand 0 true false).link.nextBand = 0 + 1) ∧
    (sendingBand 0 false true).link.abortPending = true ∧ live.link.sending = none ∧
    (let s := { sendingBand 0 false false with
        composer := live.composer.setBuf .x { bufIn .sending 0 with poisoned := true } }
     s.link.sending = some 0 ∧ (s.composer.buf (bufferFor 0)).poisoned = true) ∧
    (sendingLoop.link.sending = some 3 ∧ sendingLoop.link.held = some (hold .loop) ∧ (hold .loop).mode = .loop ∧
      3 + 1 = (hold .loop).bands ∧ InHand sendingLoop att (sheet .closing .press) (ticket .press) ∧
      sendingLoop.writerServes .a = false) ∧
    (sendingWaiting 1 2).composer.state = .waiting ∧ (sendingWaiting 1 2).composer.attempt = some att ∧
    (sendingWaiting 0 2).ticketOf .a = some (ticket .press) ∧ bufferFor 2 = bufferFor 0 ∧ bufferFor 2 ≠ bufferFor 1 ∧
    ((sendingWaiting 1 2).composer.buf (bufferFor 2)).state = .full :=
  ⟨by decide +kernel, by decide +kernel, by decide +kernel, by decide +kernel, by decide +kernel, by decide +kernel,
   ⟨rfl, rfl, rfl, rfl, ⟨rfl, rfl, .inr rfl, rfl, rfl, rfl⟩, rfl⟩, by decide +kernel⟩

theorem test_loop_makes_the_sheet :
    (let t := after .bandSendDone sendingLoop
     (t.link.state, t.sheet .a, t.out.pressMessages, t.control.queue.map (·.results.sheetsMade))) = (.closed, none, [], [1]) := by
  decide +kernel

theorem test_send_end_starts_the_painting :
    (let t := after .bandSendDone (sendingWaiting 0 2)
     (t.composer.state, t.composer.bufX.tag)) = (.painting, some ⟨att, 2, 64⟩) := by decide +kernel

theorem witness_ResultTaken :
    (let s := pressing .closing (linkIn .closing .live)
     s.link.held = some (hold .live) ∧ s.link.abortPending = false ∧ InHand s att (sheet .closing .press) (ticket .press) ∧
      s.writerServes .a = false ∧ s.link.state = .closing) ∧
    (InHand (pressing .composing (linkIn .opening .live)) att (sheet .composing .press) (ticket .press) ∧
      (linkIn .opening .live).state = .opening) ∧
    (InHand (pressing .composing (linkIn .streaming .live)) att (sheet .composing .press) (ticket .press) ∧
      (linkIn .streaming .live).state = .streaming) ∧
    ((hold .live).sheetId ≠ 8#32 ∧ live.link.state = .closed ∧ (linkIn .opening .live).state = .opening ∧
      PressCode.printed ≠ .rejected) :=
  ⟨⟨rfl, rfl, ⟨rfl, rfl, .inr rfl, rfl, rfl, rfl⟩, rfl, rfl⟩, ⟨⟨rfl, rfl, .inl rfl, rfl, rfl, rfl⟩, rfl⟩,
   ⟨⟨rfl, rfl, .inl rfl, rfl, rfl, rfl⟩, rfl⟩, by decide +kernel⟩

/-! ## Witnesses: the Writer and the report -/

/-- A proof whose band is being written. -/
def writing (b : Nat) (pend dmg : Bool) : State := { proofing ⟨.writing, some att, b, pend, dmg, none⟩ with
  composer := live.composer.setBuf (bufferFor b) (bufIn .writing b) }

theorem witness_BandWrites :
    (let s := { proofing ⟨.waiting, some att, 0, false, false, none⟩ with
        composer := { live.composer with bufX := bufIn .full 0 } }
     s.writer.attempt = some att ∧ s.writer.state = .waiting ∧ s.bandFull att s.writer.nextBand = true ∧
      s.port.hold = .free) ∧ held.port.hold ≠ .free ∧
    (let s := writing 3 false false
     s.writer.attempt = some att ∧ s.writer.state = .writing ∧ s.writer.damage = false ∧ s.writer.endPending = false ∧
      s.writer.nextBand = 3 ∧ s.ticketOf .a = some (ticket .proof) ∧ (s.composer.buf (bufferFor 3)).poisoned = false ∧
      64 = min 64 (256 - 64 * 3) ∧ (∀ r < 64, 0x100000 + (64 * 3 + r) * 768 < 2 ^ 64) ∧ 3 + 1 = (256 + 63) / 64 ∧
      s.linkHolds .a = false ∧ s.writer.queued = none) ∧
    InHand (writing 3 false false) att (sheet .composing .proof) (ticket .proof) ∧
    (64 ≤ (writing 0 false false).currentRows.length ∧ 63 < (writing 0 false true).currentRows.length ∧
      (writing 0 false true).writer.damage = true ∧ false ∈ List.replicate 63 true ++ [false] ∧
      (List.replicate 63 true ++ [false]).length = 64) ∧
    ((writing 0 true false).writer.endPending = true ∧ 64 = (writing 0 true false).currentRows.length) ∧
    (let s := { writing 0 false false with composer := { (writing 0 false false).composer with
        state := .waiting, attempt := some att, nextBand := 2 } }
     s.composer.state = .waiting ∧ s.ticketOf .a = some (ticket .proof) ∧ bufferFor 2 = bufferFor 0) :=
  ⟨by decide +kernel, by decide +kernel, by decide +kernel, ⟨rfl, rfl, .inl rfl, rfl, rfl, rfl⟩, by decide +kernel,
   by decide +kernel, by decide +kernel⟩

/-- The rows behind the one that fails are written, and of those issued before a damaged read too. -/
theorem test_rows_behind_a_failing_row :
    [false, true].map (fun d => (after (.bandWriteFail .current [true, false, true, true]) (writing 0 false d)).out.serverWrites.map (·.addr)) =
      List.replicate 2 [0x100000#64, 0x100600#64, 0x100900#64] := by decide +kernel

/-- A FINISHED proof with cells and a report. -/
def reported (r : ReportState) (cells : List Cell) : Sheet :=
  { sheet .finished .proof with ticket := some { ticket .proof with reportAddr := 0x200000#64 }, made := true, report := r, cells := cells }

theorem witness_ReportWrites :
    (let s := holding (reported .due [longName])
     s.sheet .a = some (reported .due [longName]) ∧ (reported .due [longName]).report = .due ∧ s.port.hold = .free ∧
      s.control.engine ≠ .faulted ∧ (reported .due [longName]).cells ≠ [] ∧
      ∀ i < 1, 0x200000 + (0 * 2048 + 32 * i) < 2 ^ 64) ∧
    (let s := holding (reported .due [])
     (reported .due []).cells = [] ∧ (reported .due []).state = .finished ∧ s.linkHolds .a = false ∧
      s.writerServes .a = false ∧ (reported .due []).carry = false ∧ (reported .due []).ending = none) ∧
    held.port.hold ≠ .free ∧ (engineIn .faulted false).control.engine = .faulted ∧
    (let s := holding (reported .inFlight [longName])
     s.sheet .a = some (reported .inFlight [longName]) ∧ (reported .inFlight [longName]).report = .inFlight ∧
      (reported .inFlight [longName]).made = true ∧ s.linkHolds .a = false ∧ s.writerServes .a = false) ∧
    ({ reported .inFlight [longName] with ending := some (.abandoned, .none) } : Sheet).ending = some (.abandoned, .none) := by
  decide +kernel

/-- Units left at the port. -/
def leaving (us : List DiscardedUnit) : State := { live with port := { live.port with outstanding := us.length, discarded := us } }

theorem witness_DiscardedUnitsEnd :
    (DiscardedUnit.build ∈ (leaving [.recordRead, .build]).port.discarded ∧
      (leaving [.recordRead, .build]).port.hold ≠ .draining) ∧
    (let s := { leaving [.doneWrite, .build] with port := { (leaving [.doneWrite, .build]).port with hold := .draining } }
     s.port.hold = .draining ∧ 1 < s.port.outstanding) ∧
    (DiscardedUnit.bandWrite [⟨0x100000#64, [1]⟩] ∈ (leaving [.bandWrite [⟨0x100000#64, [1]⟩]]).port.discarded ∧
      ∀ ws', DiscardedUnit.bandWrite ws' ∈ (leaving [.bandWrite [⟨0x100000#64, [1]⟩]]).port.discarded →
        ws' = [⟨0x100000#64, [1]⟩]) := by
  refine ⟨by decide +kernel, by decide +kernel, by decide +kernel, fun ws' h => ?_⟩
  simpa [leaving] using h

/-! ## Witnesses: arithmetic -/

/-- A READY or PLANNING sheet in slot A with a cell that shows a tile, in a store. -/
def showing (st : SheetState) (r : TileRef) (store : TileStore) : State := { holding { sheet st .proof with
    cells := [{ longName with kind := .portrait, subject := 5012, source := some src, ref := some r }] } with
  store := store }

/-- A store with a scratch slot of pool A for a key. -/
def withScratch (st : ScratchState) : TileStore :=
  (live.store.setScratch .a 3 ⟨st, some ⟨5, 0, 1⟩, [], none, false⟩).setPool .a
    { (live.store.setScratch .a 3 ⟨st, some ⟨5, 0, 1⟩, [], none, false⟩).pool .a with directory := [(⟨5, 0, 1⟩, 3)] }

/-- Set 68 with the tile of `longName`'s key at way 0 in a state, held by A, and another READY tile at way 1. -/
def pair (st : StoreState) (k1 : TileKey) : TileStore := live.store.setSet 68 {
  way0 := ⟨st, some ⟨5012, 3, 1⟩, ⟨true, false⟩, [], none, false⟩
  way1 := ⟨.ready, some k1, ⟨false, false⟩, [], some ⟨1024, 5, 0, 0, 0, 0, 0#11⟩, false⟩
  lru := .w0 }

theorem test_condemned_tile_is_replaced :
    (let t := (showing .ready (.store 68 .w0) (pair .ready ⟨5140, 3, 1⟩)).condemn 68 .w0
     ((t.store.slot 68 .w0).state, t.builder.queue.map (·.ref), (t.sheet .a).map fun sh => (sh.state, sh.pendingBuilds))) =
      (.filling, [.store 68 .w0], some (.filling, 1)) := by decide +kernel

theorem witness_DamagedReferences :
    (let s := showing .ready (.scratch .a 3) { withScratch .ready with mode := .bypass }
     s.store.mode = .bypass ∧ (s.sheet .a).isSome = true ∧ (s.store.pool .a).directory = [] ++ (⟨5, 0, 1⟩, 3) :: [] ∧
      (s.store.pool .a).slots[3].state = .ready ∧ ((withScratch .filling).pool .a).slots[3].state ≠ .ready) ∧
    (let s := showing .composing (.store 68 .w0) (pair .ready ⟨5140, 3, 1⟩)
     (s.store.slot 68 .w0).state ≠ .condemned ∧ (s.store.slot 68 .w0).holders.has .a = true ∧
      (s.sheet .a).map (·.state) = some .composing ∧ s.sheet .b = none) ∧
    (let s := showing .ready (.store 68 .w0) (pair .ready ⟨5140, 3, 1⟩)
     s.store.mode = .normal ∧ (s.sheet .a).map (fun sh => (sh.state, (sh.cells.find?
        fun d => d.ref = some (.store 68 .w0)).map fun c =>
          c.source == some src && (⟨c.subject, c.profile, c.serial⟩ : TileKey) == ⟨5012, 3, 1⟩)) =
        some (.ready, some true) ∧ keySet ⟨5012, 3, 1⟩ = 68 ∧ (s.store.slot 68 .w0).state ≠ .condemned ∧
      (s.store.slot 68 .w0).holders = ⟨true, false⟩ ∧ (s.store.slot 68 (otherWay .w0)).state ≠ .empty ∧
      (s.store.slot 68 (otherWay .w0)).answers ⟨5012, 3, 1⟩ = false) ∧
    (let s := showing .ready (.store 68 .w0) (pair .condemned ⟨5012, 3, 1⟩)
     (s.store.slot 68 .w0).state = .condemned ∧ Way.w1 ≠ .w0 ∧ s.store.sets[keySet ⟨5012, 3, 1⟩].search ⟨5012, 3, 1⟩ = some .w1 ∧
      (s.store.slot 68 .w1).state = .ready ∧ (s.store.slot 68 .w1).fit.isSome = true ∧
      (s.sheet .a).map (fun sh => sh.cells.all fun d => d.ref ≠ some (.store 68 .w1)) = some true) ∧
    (let s := showing .ready (.scratch .a 3) (withScratch .rebuild)
     (s.sheet .a).map (fun sh => (sh.cells.find? fun d => d.ref = some (.scratch .a 3)).map (·.source)) =
        some (some (some src)) ∧ (s.store.pool .a).slots[3].state = .rebuild) :=
  ⟨by decide +kernel, by decide +kernel, by decide +kernel, by decide +kernel, by decide +kernel⟩

theorem witness_TileLookup :
    (set68'.store.sets[keySet ⟨5012, 3, 1⟩].search ⟨5012, 3, 1⟩ = some .w0 ∧
      (set68'.store.slot (keySet ⟨5012, 3, 1⟩) .w0).state = .ready ∧ set68'.store.mode ≠ .bypass) ∧
    (set68.store.sets[keySet ⟨5140, 3, 1⟩].search ⟨5140, 3, 1⟩ = some .w1 ∧
      (set68.store.slot (keySet ⟨5140, 3, 1⟩) .w1).state = .filling ∧ set68.sheet .a ≠ none) ∧
    (let t := set68'.store.sets[keySet ⟨5108, 5, 1⟩]
     t.search ⟨5108, 5, 1⟩ = none ∧ set68'.store.mode = .normal ∧ t.way0.state ≠ .empty ∧ t.way1.state ≠ .empty ∧
      .w1 = otherWay t.lru ∧ (t.way t.lru).holders ≠ ⟨false, false⟩ ∧ (t.way .w1).holders = ⟨false, false⟩) ∧
    (let t := set68.store.sets[keySet ⟨5268, 3, 1⟩]
     t.search ⟨5268, 3, 1⟩ = none ∧ t.way0.holders ≠ ⟨false, false⟩ ∧ t.way1.holders ≠ ⟨false, false⟩ ∧
      (∀ e ∈ (set68.store.pool .a).directory, e.1 ≠ ⟨5268, 3, 1⟩) ∧ (set68.store.pool .a).slots[0].state = .empty) ∧
    (∀ (i : Fin 128) (w : Way) (q : TileKey), (live.store.slot i w).key = some q → keySet q = i) ∧
    (∀ (i : Fin 128) (q : TileKey), ¬((live.store.slot i .w0).answers q = true ∧ (live.store.slot i .w1).answers q = true)) := by
  have h : ∀ (i : Fin 128) (w : Way), live.store.slot i w = StoreSlot.blank := by
    intro i w
    cases w <;> simp [live, State.reset, TileStore.powerOn, TileStore.slot, TileSet.way]
  refine ⟨by decide +kernel, by decide +kernel, by decide +kernel, by decide +kernel, fun i w q hq => ?_, fun i q hq => ?_⟩
  · rw [h] at hq
    cases hq
  · rw [h] at hq
    exact absurd hq.1 (by simp [StoreSlot.answers, StoreSlot.blank])

theorem witness_FitInRange :
    (64 ≤ src.width ∧ src.width ≤ 8192 ∧ 64 ≤ src.height ∧ src.height ≤ 8192 ∧ 32 ≤ profile3.cellWidth ∧
      profile3.cellWidth ≤ 512 ∧ 32 ≤ profile3.cellHeight ∧ profile3.cellHeight ≤ 640 ∧ 16 ≤ profile3.headTarget ∧
      profile3.headTarget ≤ profile3.cellHeight ∧ profile3.eyeLine < profile3.cellHeight ∧
      profile3.centreColumn < profile3.cellWidth ∧ 1024 ≤ profile3.maxScale ∧ profile3.maxScale ≤ 131072) ∧
    (0 < 8 ∧ 8 < 16 ∧ 0 + 16 ≤ 16 ∧ 16 < src.height ∧ 63 < src.width) ∧ (0 + 8 ≤ 8 ∧ 8 < src.width ∧ 63 < src.height) := by
  decide +kernel

theorem witness_PixelsPainted :
    rectHas (bandRect (ticket .proof) 3) 255 255 = true ∧ (255 : Nat) ≤ 255 ∧ 255 < (ticket .proof).width ∧
    63 < bandLines (ticket .proof).height 3 ∧
    (let s := captioned
     let c := { longName with rect := ⟨0, 0, 64, 64⟩, clip := ⟨0, 0, 100, 100⟩ }
     (s.profileOf c.profile).cellWidth = 300 ∧ rectHas c.clip 99 99 = true ∧ rectHas c.clip 100 99 = false ∧
      c.kind = .placeholder ∧ ([c][0]?).isSome = true) ∧
    ([([] : List FitLine), [⟨[], 0, 0⟩], [⟨[], 0, 0⟩, ⟨[], 0, 0⟩]].map fun l => ({ longName with caption := l }).caption.length) =
      [0, 1, 2] ∧
    (let g : Glyph := ⟨65, 16, 1, List.replicate 24 255, false, false⟩
     [g].find? (fun h => h.code == 65#16) = some g ∧ g.alpha.length = g.width * 24 ∧ ∀ h ∈ [g], h.code ≠ 66#16) ∧
    live.composer.silenced = [] ∧ (⟨0, 65#16, 2, 0⟩ : Silenced).band < 3 := by decide +kernel

/-! ## Witnesses: a sheet made, and the one that follows it -/

/-- A PRESS sheet that is made with its roster not used up, under AUTO with a limit. -/
def carrying (m : PressMode) : State :=
  let s := pressing .closing (linkIn .closing .live)
  { s with
    window := { s.window with pressMode := m }
    control := { s.control with slotA := some { sheet .closing .press with
      carry := true, reached := 5, ticket := some { ticket .press with autoLimit := some 3 } } } }

/-- The continuation with the planner free: planned at once, or refused under OFF. -/
theorem witness_SheetMade_next :
    ((carrying .live).sheet .a).map (·.carry) = some true ∧ (carrying .live).planner.job = none ∧
    (carrying .live).planner.waiting = none ∧ (carrying .off).window.pressMode = .off ∧
    ((carrying .live).orderResults .a).map (·.sheetsMade) = some 0 ∧
    [PressMode.live, .off].map (fun m =>
      let t := after (.result 7#32 .printed) (carrying m)
      ((t.sheet .a).map fun sh => (sh.state, sh.index, sh.start),
        t.control.queue.map fun e => (e.results.outcome, e.results.detail, e.results.sheetsMade))) =
      [(some (.ready, 1, 5), [(.ok, .none, 1)]), (none, [(.refused, .pressOff, 1)])] := by decide +kernel

/-! ## Witnesses: IDLE, takes in a drain, BLOCKED, and what a fault ends -/

theorem witness_IdleEntered :
    (scrubRun.walker.pendingWake = false ∧ (stoppedAt 0).walker.pendingWake = false ∧
      State.reset.window.sweepPreset = 0#16) ∧
    (let s := { sweeping with walker := { sweeping.walker with cursor := none } }
     s.walker.state = .idle ∧ s.walker.sweepRunning = true ∧ s.walker.cursor = none) ∧
    [false, true].map (fun wake =>
      let s := { atTrailer (.trailerRead false) with
        walker := { (atTrailer (.trailerRead false)).walker with pendingWake := wake }
        window := { live.window with sweepPreset := 5#16 } }
      let t := after (.trailerReadDone .current (.data (trailer 0))) s
      (s.walker.pendingWake, t.walker.state, t.walker.sweepTimer, t.walker.sweepRunning, t.walker.pendingWake,
        t.hasEvent .chainIdle)) = [(false, .idle, 5, true, false, true), (true, .seeking, 0, false, false, false)] ∧
    [false, true].map (fun wake =>
      let s := { walking .seeking (.recordRead 1 false) with
        walker := { (walking .seeking (.recordRead 1 false)).walker with pendingWake := wake } }
      let t := after (.recordReadDone .current (.data (recordBytes 0 1 0))) s
      (s.walker.pendingWake, t.walker.window.length, t.walker.state)) = [(false, 0, .idle), (true, 0, .seeking)] ∧
    skipDone.control.queue ≠ [] := by decide +kernel

/-- The two ways of the top slots of the store, with keys of a subject, at a set. -/
def keyed (i : Fin 128) (n : Nat) (p : Fin 16) (h : Holders) : State := { takingOf .purge (leBytes 4 n) none with
  store := live.store.setSlot i .w1 ⟨.ready, some ⟨n, p, 7#8⟩, h, [1#8], none, false⟩ }

theorem witness_PlainOrdersRun_purge :
    [(keyed 127 16777215 0 ⟨false, false⟩, (127 : Fin 128)), (keyed 111 16777215 15 ⟨false, false⟩, 111),
      (keyed 1 1 8 ⟨false, false⟩, 1), (keyed 2 1 8 ⟨false, false⟩, 2), (keyed 1 1 0 ⟨true, false⟩, 1)].map (fun q =>
        let n := ((q.1.store.slot q.2 .w1).key.map (·.subject)).getD 0
        (purges n q.2 (q.1.store.slot q.2 .w1),
          (after (.takenWriteDone .current true) q.1).control.queue.map (·.results.slotsEmptied))) =
      [(true, [1]), (true, [1]), (true, [1]), (false, [0]), (false, [0])] := by decide +kernel

theorem witness_PlainOrdersRun_drain :
    [(OrderKind.skip, ([] : List Byte), (none : Option SheetSlot)), (.mark, [], none), (.purge, [1, 0, 0, 0], none),
      (.flush, [], none), (.storeMode, [1], none), (.press, [], none), (.profile, [3], none), (.glyphs, [2], none),
      (.sheet, [], some .a), (.unknown, [], none)].map (fun q =>
        let s := { takingOf q.1 q.2.1 q.2.2 with control := { live.control with engine := .draining } }
        let t := after (.takenWriteDone .current true) s
        (s.control.engine, s.window.abandon, t.control.engine, t.walker.state, t.control.queue.length)) =
      List.replicate 10 (.draining, false, .draining, .stopped, 1) := by decide +kernel

/-- BLOCKED behind the last FINISHED entry, with a head of a kind in the window. -/
def blockedAt (k : OrderKind) (a b : Option Sheet) : State := { retiring .done with
  walker := { live.walker with state := .blocked, window := [record k []] }
  control := { (retiring .done).control with slotA := a, slotB := b, queue := List.replicate 16 ⟨record .skip [], true, Results.blank, none⟩ } }

theorem witness_RetirementRuns_blocked :
    [blockedAt .skip none none, blockedAt .flush none none, blockedAt .flush (some (sheet .closing .press)) none,
      blockedAt .sheet (some (sheet .closing .press)) none,
      blockedAt .sheet (some (sheet .closing .press)) (some (sheet .ready .proof))].map (fun s =>
        (s.walker.state, s.walker.window.length, s.control.queue.length, (after (.doneWriteDone .current true) s).walker.state)) =
      [(.blocked, 1, 16, .taking), (.blocked, 1, 16, .taking), (.blocked, 1, 16, .blocked), (.blocked, 1, 16, .taking),
        (.blocked, 1, 16, .blocked)] := by decide +kernel

/-- A chain read in flight beside other work. -/
def readingBeside (s : State) : State := { s with walker := { s.walker with state := .seeking, unit := .recordRead 1 false } }

theorem witness_FaultedFrom :
    (let s := readingBeside (both (sheet .filling .proof) { sheet .finished .proof with report := .due })
     let t := after (.recordReadDone .current .busError) s
     s.control.engine = .running ∧ s.link.held = none ∧ t.control.queue.map (·.results.outcome) = [.abandoned, .abandoned] ∧
      t.sheet .b = none) ∧
    ([linkIn .awaitReady .live, linkIn .opening .live, linkIn .streaming .live, sendingLink].map fun l =>
      let t := after (.recordReadDone .current .busError) (readingBeside (pressing .composing l))
      (t.link.state, t.out.pressMessages)) =
      [(.closed, []), (.closed, [.abort 7#32]), (.closed, [.abort 7#32]), (.streaming, [])] ∧
    (after (.recordReadDone .current .busError) (readingBeside (pressing .closing (linkIn .closing .live)))).control.queue.map
      (·.results.detail) = [.afterClose] ∧
    (let s := readingBeside (both (sheet .filling .proof) { sheet .finished .proof with ending := some (.spoiled, .damage) })
     (after (.recordReadDone .current .busError) s).control.queue.map (·.results.outcome) = [.abandoned, .spoiled]) ∧
    ([loadingOf (.profile 3 0#64 false false) .profile, loadingOf (.profile 3 0#64 true false) .profile].map fun s =>
      let t := after (.recordReadDone .current .busError) (readingBeside s)
      (t.control.barrier, t.control.queue.map (·.finished))) =
      [(.none, [true]), (.profile 3 0#64 true true, [false])] :=
  ⟨by decide +kernel, by decide +kernel, by decide +kernel, by decide +kernel, by decide +kernel⟩

/-! ## Witnesses: the planner with a sheet that waits for it -/

/-- The planner at work for slot A, the sheet of slot B waiting with its ticket not read. -/
def planningBeside (t : Option Ticket) (j : PlanJob) : State :=
  { both (planned t) { planned none with first := false } with planner := ⟨some j, some .b, [], none⟩ }

theorem planning_beside (t : Option Ticket) (j : PlanJob) (h : j.slot = .a) :
    PlansBeside (planningBeside t j) j (planned t) .b { planned none with first := false } :=
  ⟨rfl, by rw [h]; rfl, rfl, rfl, rfl, by rw [h]; rfl, by rw [h]; rfl, rfl, by rw [h]; rfl, rfl, rfl⟩

theorem witness_PlanningReadFails_beside :
    (∀ st ∈ [PlanStage.ticket, .layout, .roster, .subject 0x4000#64 seed, .text 0x4000#64 64 0],
      PlansBeside (planningBeside (some (ticket .proof)) (job st true)) (job st true) (planned (some (ticket .proof))) .b
        { planned none with first := false } ∧ (job st true).inFlight = true) ∧
    (let t := after (.layoutReadDone .current .busError) (planningBeside (some (ticket .proof)) (job .layout true))
     (t.sheet .a, (t.sheet .b).map (·.first), t.planner.job.map (·.slot), t.planner.waiting) =
      (none, some true, some .b, none)) :=
  ⟨fun _ _ => ⟨planning_beside _ _ rfl, rfl⟩, by decide +kernel⟩

/-- A continuation in slot B that waits for a planner that is free, in a press mode. -/
def waitingNext (d : Dest) (m : PressMode) : State :=
  { both (sheet .ready .proof) { sheet .planning d with first := false, index := 1, start := 5 } with
    planner := ⟨none, some .b, [], none⟩, window := { live.window with pressMode := m } }

theorem witness_TicketReadCompletes_beside :
    (PlansBeside (planningBeside none (job .ticket true)) (job .ticket true) (planned none) .b
        { planned none with first := false } ∧ (∃ k, ticketCheck (ticketBytes 1 256 0 0 0) = .ok k ∧ k.dest = .proof ∧
          k.entryCount = 0) ∧ (planned none).pendingBuilds = 0) ∧
    ([waitingNext .proof .off, waitingNext .press .live, waitingNext .press .off].map fun s =>
      (s.planner.job.isNone, s.planner.waiting, (s.sheet .b).map fun sh => (sh.state, sh.ticket.isSome, sh.ending.isNone))) =
      List.replicate 3 (true, some .b, some (.planning, true, true)) ∧
    ([waitingNext .proof .off, waitingNext .press .live, waitingNext .press .off].map fun s =>
      ((s.takeWaiting.sheet .b).map fun sh => (sh.state, sh.reached), s.takeWaiting.planner.waiting)) =
      [(some (.ready, 5), none), (some (.ready, 5), none), (none, none)] ∧
    ((waitingNext .press .off).linkHolds .b = false ∧ (waitingNext .press .off).writerServes .b = false) ∧
    (planning none (job .ticket true)).planner.job ≠ none ∧ live.planner.waiting = none :=
  ⟨⟨planning_beside _ _ rfl, ⟨_, rfl, by decide +kernel⟩, rfl⟩, by decide +kernel, by decide +kernel, by decide +kernel,
    by decide +kernel, rfl⟩

/-! ## Witnesses: layout checks and the placement pass -/

/-- Profile 3 and its glyph set 1 LOADED, and nothing else. -/
def loaded : State := withSet1 profile3

theorem witness_LayoutChecks :
    (ProfileUsable loaded 3 ∧ SetUsable loaded 1 ∧ ¬ ProfileUsable loaded 16 ∧ ¬ SetUsable loaded 3) ∧
    ([(5, .panel 0 0 0 0), (6, .panel 0 0 0 0), (1, .endPanel), (0, .endPanel)].map fun q =>
      loaded.validateEntry q.1 0 q.2) = [.ok (6, 0), .error .nesting, .ok (0, 0), .error .unbalanced] ∧
    ([(0, LayoutEntry.grid 3 16 4 0 0 0 0 1), (1, .grid 3 16 4 0 0 0 0 1), (0, .grid 3 17 1 0 0 0 0 0),
      (0, .grid 3 1 0 0 0 0 0 0), (0, .grid 3 1 1 0 0 0 0 2), (0, .grid 15 1 1 0 0 0 0 0), (63, .inset 3 0 0 0#64 0),
      (64, .inset 3 0 0 0#64 0), (0, .inset 16 0 0 0#64 0), (64, .banner 0 0 0 1 ⟨0, 0, 0⟩ 2 0#64 0),
      (0, .banner 0 0 0 1 ⟨0, 0, 0⟩ 3 0#64 0), (0, .banner 0 0 0 2 ⟨0, 0, 0⟩ 2 0#64 0)].map fun q =>
        loaded.validateEntry 0 q.1 q.2) =
      [.ok (0, 64), .error .tooLarge, .error .grid, .error .grid, .error .kind, .error .unset, .ok (0, 64),
        .error .tooLarge, .error .unset, .ok (0, 64), .error .kind, .error .unset] :=
  ⟨⟨⟨by decide, profile3, set1, rfl, rfl⟩, ⟨by decide, set1, rfl⟩, fun h => absurd h.1 (by decide),
    fun h => absurd h.1 (by decide)⟩, by decide +kernel, by decide +kernel⟩

theorem witness_LayoutEntryReads :
    ([1, 2, 3, 4, 5, 6, 0, 7, 255].map fun k => u8 (entryBytes k) 0) = [1, 2, 3, 4, 5, 6, 0, 7, 255] := by decide +kernel

/-- A grid of profile 3 of two rows and two columns, centred, with gutters of 4 and 6. -/
def grid3 : GridFrame := ⟨10, 20, ⟨0, 0, 2400, 3600⟩, 3, 2, 2, 4, 6, true, 304, 441, 0, 0⟩

/-- A banner frame with a count and an address for its text. -/
def bannerOf (n : Nat) (a : Addr) : BannerFrame := ⟨0, 0, 100, 1, ⟨0, 0, 0⟩, .left, ⟨0, 0, 256, 256⟩, a, n, [], 0#11, none⟩

/-- The sheet of a pass: a grid, an inset, and three banners. -/
def passSheet : Sheet := { planned (some (bigTicket 4 3)) with
  frames := [.grid grid3, .inset ⟨0, 0, ⟨0, 0, 256, 256⟩, 3, 0x4000#64, 1, 0⟩, .banner (bannerOf 64 0x4000#64),
    .banner (bannerOf 65 0x4000#64), .banner (bannerOf 1 0#64)] }

/-- A pass with roster entries at hand, a roster index, the cells the row has, and the cursor. -/
def passing (roster : List RosterEntry) (index used : Nat) (cur : PlaceCursor) : State :=
  { holding passSheet with
    profiles := loaded.profiles, glyphs := loaded.glyphs
    planner := ⟨some { job .roster false with grids := [(2, 2)], roster := roster, rosterIndex := index, rowUsed := used },
      none, [], some cur⟩ }

theorem witness_Placing (roster : List RosterEntry) (index used : Nat) (cur : PlaceCursor) :
    Placing (passing roster index used cur)
      { job .roster false with grids := [(2, 2)], roster := roster, rosterIndex := index, rowUsed := used } passSheet
      (bigTicket 4 3) ⟨0, 0, ⟨0, 0, 256, 256⟩⟩ ∧
    Placing { passing roster index used cur with planner := { (passing roster index used cur).planner with
        frameStack := [⟨5, 6, ⟨5, 6, 7, 8⟩⟩] } }
      { job .roster false with grids := [(2, 2)], roster := roster, rosterIndex := index, rowUsed := used } passSheet
      (bigTicket 4 3) ⟨5, 6, ⟨5, 6, 7, 8⟩⟩ :=
  ⟨⟨rfl, rfl, rfl, fun _ => rfl, fun _ _ h => nomatch h⟩, ⟨rfl, rfl, rfl, nofun, fun _ _ h => by cases h; rfl⟩⟩

theorem witness_CursorMoved :
    CursorMoved [(2, 2), (1, 1)] ⟨0, 0, 0⟩ ⟨0, 0, 1⟩ false ∧ CursorMoved [(2, 2), (1, 1)] ⟨0, 0, 1⟩ ⟨0, 1, 0⟩ false ∧
    CursorMoved [(2, 2), (1, 1)] ⟨0, 1, 1⟩ ⟨1, 0, 0⟩ false ∧ CursorMoved [(2, 2), (1, 1)] ⟨1, 0, 0⟩ ⟨2, 0, 0⟩ true := by
  refine ⟨⟨?_, ?_, ?_, by decide⟩, ⟨?_, ?_, ?_, by decide⟩, ⟨?_, ?_, ?_, by decide⟩, ⟨?_, ?_, ?_, by decide⟩⟩ <;>
    (rintro r c ⟨⟩; decide)

theorem witness_BareCell :
    (PlacedBare 2 0x4000#64 .spacer .empty false ∧ PlacedBare 3 0x4000#64 .spacer .empty true ∧
      PlacedBare 255 0#64 .spacer .empty true ∧ PlacedBare 0 0#64 .student .placeholder true ∧
      PlacedBare 1 0#64 .staff .placeholder true) ∧
    BareCell (gridSeed grid3 profile3 set1 1 0 1 2 0 .student) .placeholder true
      ⟨.placeholder, ⟨162, 461, 300, 435⟩, grid3.clip, 3, some 2, 0, 0#8, .student, [], [], none, none, none, 0x004#11, []⟩
      { Counts.zero with placeholders := 1 } := by
  refine ⟨by simp [PlacedBare], ⟨false, ⟨nofun, fun h => absurd (h 162 461) (by decide +kernel)⟩, by decide +kernel,
    by decide +kernel⟩⟩

/-- Passes at the place (1, 0) of the grid, with no entry at hand and with one of each kind. -/
def atPlace : List State := [[], [⟨0x4000#64, 0⟩], [⟨0x4000#64, 1⟩], [⟨0#64, 0⟩], [⟨0x4000#64, 2⟩], [⟨0x4000#64, 3⟩]].map
  fun es => (passing es 2 2 ⟨0, 1, 0⟩).runPass [.cell 0 1 0, .cell 0 1 1]

theorem witness_GridPlace :
    ([Frame.grid grid3][0]? = passSheet.frames[0]? ∧ (loaded.profiles[3]).isSome = true ∧
      (loaded.glyphs[profile3.glyphSet]).isSome = true) ∧
    (atPlace.map fun t => t.planner.job.map fun j => (j.stage.isRoster, j.stage.isSubject, j.rosterIndex, j.rowUsed)) =
      [some (true, false, 2, 2), some (false, true, 2, 1), some (false, true, 2, 1), none, none, none] ∧
    (atPlace.map fun t => (t.sheet .a).map fun sh => sh.cells.map fun c => (c.kind, c.role, c.rect.x, c.notes)) =
      [some [], some [], some [], some [(.placeholder, .student, 162, 0x004#11)], some [(.empty, .spacer, 162, 0x000#11)],
        some [(.empty, .spacer, 162, 0x004#11)]] :=
  ⟨⟨rfl, by decide +kernel, by decide +kernel⟩, by decide +kernel, by decide +kernel⟩

theorem witness_TextPlaced :
    [2, 3, 4].map (fun i => let t := (passing [] 0 0 ⟨0, 0, 0⟩).runPass [.text i]
      (t.planner.job.map fun j => (j.stage, j.counts.clippedCaptions), (t.sheet .a).map (·.state))) =
      [(some (.text 0x4000#64 64 2, 0), some .planning), (some (.text 0x4000#64 64 3, 1), some .planning),
        (none, some .ready)] ∧
    ((passing [] 0 0 ⟨0, 0, 0⟩).runPass [.inset 1]).planner.job.map (fun j => (j.stage.isSubject, j.rosterIndex)) =
      some (true, 0) := by decide +kernel

/-- A record with marks of a variant: the four mark fields in their order. -/
def markedBytes (v : Byte) (a b c d : Nat) : List Byte :=
  leBytes 4 5 ++ [1, 0, 1, v] ++ leBytes 8 (2 ^ 64 - 4096) ++ leBytes 2 64 ++ leBytes 2 64 ++ leBytes 4 64 ++ leBytes 2 a ++
    leBytes 2 b ++ leBytes 2 c ++ leBytes 2 d ++ List.replicate 96 0

theorem witness_SubjectReadCompletes_marks :
    (∀ bs ∈ [markedBytes 0 0 0 0 0, markedBytes 1 0 63 1 63, markedBytes 2 63 0 8 0], RasterValid bs .gray8) ∧
    RasterValid (subjectBytes 5 0) .rgb8 ∧
    ([markedBytes 0 0 0 0 0, markedBytes 1 0 63 1 63, markedBytes 1 0 15 1 63, markedBytes 1 0 64 1 63,
      markedBytes 1 0 63 1 64, markedBytes 2 63 0 8 0, markedBytes 2 63 0 7 0, markedBytes 2 64 0 8 0,
      markedBytes 2 0 0 64 0, markedBytes 3 0 0 0 0].map fun bs => marksInEffect bs 64 64) =
      [(.none, false), (.full 0 63 1 63, false), (.none, true), (.none, true), (.none, true), (.eyes 63 0 8, false),
        (.none, true), (.none, true), (.none, true), (.none, true)] ∧
    MarksTaken (markedBytes 1 0 16 1 63) (.full 0 16 1 63) false ∧ ¬ RasterValid (markedBytes 0 0 0 0 0) .rgb8 := by
  refine ⟨?_, ⟨.inl ⟨by decide +kernel, rfl⟩, by decide +kernel, by decide +kernel, by decide +kernel, by decide +kernel,
    by decide +kernel⟩, by decide +kernel, ?_, fun h => absurd h.pitch (by decide +kernel)⟩
  · intro bs h
    simp only [List.mem_cons, List.not_mem_nil, or_false] at h
    rcases h with rfl | rfl | rfl <;> exact ⟨.inr ⟨by decide +kernel, rfl⟩, by decide +kernel, by decide +kernel,
      by decide +kernel, by decide +kernel, by decide +kernel⟩
  · constructor <;> decide +kernel

/-! ## Witnesses: entries to COMPOSING, reports that are followed, and windows that fit -/

theorem witness_SheetEntersComposing_turns :
    (let s := beside { sheet .closing .press with first := true } { sheet .ready .proof with first := false }
     (∀ o, s.sheet (otherSlot .b) = some o → o.state = .closing ∨ o.state = .finished) ∧
      (after .sheetEnterComposing s).sheet .b ≠ s.sheet .b) ∧
    [LinkState.awaitReady, .opening, .streaming, .closing].map (fun st =>
      let s := { holding (sheet .ready .press) with link := linkIn st .live }
      (s.link.state == .closed, (sheet .ready .press).ticket.map (·.dest), decide (after .sheetEnterComposing s = s))) =
      List.replicate 4 (false, some .press, true) := by
  refine ⟨⟨fun o h => ?_, by decide +kernel⟩, by decide +kernel⟩
  cases h; exact .inl rfl

/-- A carry-pending sheet whose report is being written, with the sheets made so far. -/
def reportingCarry (auto : Option Nat) (made : Nat) (d : Dest) (m : PressMode) (p : Planner) : State :=
  let s := holding { reported .inFlight [longName] with
    carry := true, reached := 5
    ticket := some { ticket d with reportAddr := 0x200000#64, autoLimit := auto } }
  { s with
    planner := p, window := { s.window with pressMode := m }
    control := { s.control with queue := [{ entryA with results := { Results.blank with sheetsMade := made } }] } }

/-- What can follow such a report: PARTIAL under STOP and at the limit, a next sheet, a refusal, a wait for the planner. -/
def followed : List State :=
  [reportingCarry none 1 .proof .live ⟨none, none, [], none⟩, reportingCarry (some 2) 2 .proof .live ⟨none, none, [], none⟩,
    reportingCarry (some 2) 1 .proof .off ⟨none, none, [], none⟩, reportingCarry (some 2) 1 .press .off ⟨none, none, [], none⟩,
    reportingCarry (some 2) 1 .proof .live ⟨some { job .layout false with slot := .b }, none, [], none⟩]

theorem witness_ReportFollowed :
    (followed.map fun s => ((s.sheet .a).map fun sh => (sh.state, sh.made && sh.carry && sh.ending.isNone),
      s.linkHolds .a || s.writerServes .a)) = List.replicate 5 (some (.finished, true), false) ∧
    ((followed.map (after (.reportWriteDone .current .a true))).map fun t =>
      ((t.sheet .a).map fun sh => (sh.state, sh.index, sh.start), t.control.queue.map (·.results.outcome))) =
      [(none, [.partialRoster]), (none, [.partialRoster]), (some (.ready, 1, 5), [.ok]), (none, [.refused]),
        (some (.planning, 1, 5), [.ok])] ∧
    ((followed.map (after (.reportWriteDone .current .a true))).map fun t => t.planner.waiting) =
      [none, none, none, none, some .a] := by decide +kernel

theorem witness_FitInRange_window :
    (let f := computeFit ⟨1, 2400, 3000, 7200, .rgb8, .full 600 1560 1020 1190⟩ profile3
     profile3.edge = .shift ∧ (∃ x : Int, ∀ u < profile3.cellWidth, -128 ≤ 256 * x + f.offset + u * f.step ∧
        256 * x + f.offset + u * f.step ≤ ((f.reducedW : Int) - 1) * 256 + 128) ∧
      ∃ y : Int, ∀ v < profile3.cellHeight, -128 ≤ 256 * y + f.offset + v * f.step ∧
        256 * y + f.offset + v * f.step ≤ ((f.reducedH : Int) - 1) * 256 + 128) :=
  ⟨rfl, ⟨97, by decide +kernel⟩, ⟨55, by decide +kernel⟩⟩

/-! ## Witnesses: ends of attempts, held tiles, and errors that are found again -/

/-- A state with the band buffers in states, holding bands 0 and 1 of the attempt in slot A, and a Composer's attempt. -/
def buffered (x y : BufferState) (c : Option Attempt) (s : State) : State := { s with composer := { live.composer with
  state := if c.isSome then .painting else .idle, attempt := c, nextBand := 1, bufX := bufIn x 0, bufY := bufIn y 1 } }

/-- The buffers' states and the Composer's attempt. -/
def bufferView (s : State) : BufferState × BufferState × Option Attempt :=
  (s.composer.bufX.state, s.composer.bufY.state, s.composer.attempt)

/-- The Writer in a state with an attempt and one that waits. -/
def writerOf (st : WriterState) (a q : Option Attempt) : Writer := ⟨st, a, 0, false, false, q⟩

/-- Proofs in hand: the Writer WAITING or WRITING for the attempt, keeping it waiting, and serving another one. -/
def proofs : List State :=
  [(BufferState.full, writerOf .waiting (some att) none), (.writing, writerOf .writing (some att) none),
    (.full, writerOf .writing (some ⟨.b, 1⟩) (some att)), (.full, writerOf .waiting (some ⟨.b, 1⟩) none)].map fun q =>
    buffered q.1 .filling (some att) (proofing q.2)

/-- Those proofs after an abandon, and after a chain fault. -/
def endings : List State :=
  proofs.map (after .abandon) ++ proofs.map fun s => after (.recordReadDone .current .busError) (readingBeside s)

theorem witness_AttemptsAbandoned :
    InHandOf (buffered .full .filling (some att) (proofing (writerOf .waiting (some att) none))) .a
      (sheet .composing .proof) ∧
    ((endings.map fun t => bufferView t) = [(.empty, .empty, none), (.writing, .empty, none), (.empty, .empty, none),
      (.empty, .empty, none), (.empty, .empty, none), (.writing, .empty, none), (.empty, .empty, none),
      (.empty, .empty, none)]) ∧
    ((endings.map fun t => (t.writer.attempt, t.writer.endPending, t.writer.queued)) =
      [(none, false, none), (some att, true, none), (some ⟨.b, 1⟩, false, none), (some ⟨.b, 1⟩, false, none),
        (none, false, none), (some att, true, none), (some ⟨.b, 1⟩, false, none), (some ⟨.b, 1⟩, false, none)]) :=
  ⟨⟨rfl, .inl rfl, rfl⟩, by decide +kernel, by decide +kernel⟩

/-- A walker BLOCKED with a head of a kind in its window. -/
def blockedOn (k : OrderKind) (s : State) : State := { s with
  walker := { s.walker with state := .blocked, window := [record k []] } }

theorem witness_WalkerUnblocked_loads :
    [blockedOn .sheet loadingProfile, blockedOn .sheet { loadingProfile with control := { loadingProfile.control with
        queue := loadingProfile.control.queue ++ List.replicate 15 ⟨record .skip [], true, Results.blank, none⟩ } },
      loadingProfile].map (fun s =>
        (s.walker.state, (after (.profileBlockReadDone .current (.data (profileBytes 300))) s).walker.state)) =
      [(.blocked, .taking), (.blocked, .blocked), (.idle, .idle)] ∧
    (after (.glyphUnitDone .current (.data (block 70))) (blockedOn .sheet loading)).walker.state = .taking := by
  decide +kernel

/-- A walker BLOCKED on a SHEET order while both slots hold sheets. -/
def blockedBoth (a : Sheet) : State := blockedOn .sheet (both a { sheet .ready .proof with first := false })

theorem witness_WalkerUnblocked_ends :
    [(blockedBoth (reported .due []), Instr.reportWriteStart .a),
      (blockedBoth (reported .inFlight [longName]), .reportWriteDone .current .a true),
      (blockedBoth (reported .inFlight [longName]), .reportWriteDone .current .a false),
      ({ blockedBoth (sheet .closing .press) with link := linkIn .closing .live }, .result 7#32 .printed),
      ({ blockedBoth (sheet .closing .press) with link := { linkIn .closing .live with resultTimer := some 1 } },
        .resultTimerExpiry),
      (blockedOn .flush (both (reported .due []) (sheet .ready .proof)), .reportWriteStart .a)].map (fun q =>
        (q.1.walker.state, (after q.2 q.1).sheet .a, (after q.2 q.1).walker.state)) =
      List.replicate 5 (.blocked, none, .taking) ++ [(.blocked, none, .blocked)] := by decide +kernel

theorem witness_LinkTimersEndAttempts_buffers :
    ([(linkIn .opening .live, Instr.acceptTimerExpiry), (linkIn .closing .live, .resultTimerExpiry),
      (linkIn .streaming .live, .graceTimerExpiry), (sendingLink, .graceTimerExpiry),
      (linkIn .opening .live, .result 7#32 .rejected), (sendingLink, .result 7#32 .jammed),
      (sendingLink, .result 7#32 .mediaOut)].map fun q =>
      let l := { q.1 with acceptTimer := some 1, resultTimer := some 1, graceTimer := some 1 }
      bufferView (after q.2 (buffered (if q.1.sending = none then .full else .sending) .filling (some att)
        (pressing .composing l)))) =
      [(.empty, .empty, none), (.empty, .empty, none), (.empty, .empty, none), (.sending, .empty, none),
        (.empty, .empty, none), (.empty, .empty, none), (.empty, .empty, none)] ∧
    (let s := buffered .full .filling (some ⟨.b, 1⟩) (pressing .composing (linkIn .closing .live))
     s.composer.attempt = some ⟨.b, 1⟩ ∧ (⟨.b, 1⟩ : Attempt) ≠ att) ∧
    (let s := { streaming 1 none Buffer.blank with link := { (streaming 1 none Buffer.blank).link with
        config := ⟨40, 0, 2000, 10, 60⟩ } }
     (after .bandTimerExpiry s).out.pressMessages = [.abort 7#32]) :=
  ⟨by decide +kernel, by decide +kernel, by decide +kernel⟩

theorem witness_BandWrites_buffers :
    [(false, Instr.bandWriteFail .current [false]), (true, .bandWriteFail .current [true, false]),
      (true, .bandWriteDone .current 1)].map (fun q =>
        bufferView (after q.2 (buffered .writing .filling (some att) (proofing ⟨.writing, some att, 0, false, q.1, none⟩)))) =
      List.replicate 3 (.empty, .empty, none) := by decide +kernel

/-- A link beside a painting of a PRESS sheet with a RULE, which reads its band. -/
def pressPainting (l : Link) : State := { paintingPoison with
  link := l
  control := { paintingPoison.control with slotA := some { sheet .composing .press with
    frames := [.rule ⟨⟨0, 0, 8, 8⟩, ⟨0, 0, 0⟩, ⟨0, 0, 256, 256⟩⟩] } } }

/-- Links that hold the attempt, state by state. -/
def links : List Link :=
  [linkIn .awaitReady .live, linkIn .opening .live, linkIn .streaming .live, sendingLink, linkIn .streaming .loop]

theorem witness_UncorrectableErrorTakesEffect_link :
    ((links.map pressPainting).map fun s => (s.canRead (.band .x) .composer, s.check.locked)) =
      List.replicate 5 (true, false) ∧
    ((links.map fun l => after (.uncorrectableError (.band .x) .composer 0) (pressPainting l)).map fun t =>
      (t.link.state, t.link.abortPending, t.out.pressMessages, (t.sheet .a).map (·.attempt))) =
      [(.closed, false, [], some 2), (.closed, false, [.abort 7#32], some 2), (.closed, false, [.abort 7#32], some 2),
        (.streaming, true, [], some 2), (.closed, false, [], some 2)] := by decide +kernel

/-- A store tile painted by a sheet that has no second pass and alone holds it. -/
def lastPass : State := { tilePainting with control := { tilePainting.control with
  slotA := (tilePainting.sheet .a).map fun sh => { sh with ticket := some { ticket .proof with retryBudget := 0 } } } }

theorem witness_UncorrectableErrorTakesEffect_last :
    (lastPass.canRead (.storeTile 5 .w0) .composer = true ∧ (lastPass.store.slot 5 .w0).holders = ⟨true, false⟩ ∧
      ∃ sh, InHand lastPass att sh { ticket .proof with retryBudget := 0 }) ∧
    (let t := after (.uncorrectableError (.storeTile 5 .w0) .composer 0) lastPass
     ((t.store.slot 5 .w0).state, t.sheet .a, t.control.queue.map fun e => (e.results.outcome, e.results.detail))) =
      (.empty, none, [(.spoiled, .damage)]) ∧
    (let s := { glyphPainting with composer := { glyphPainting.composer with silenced := [⟨0, 65#16, 0, 3⟩] } }
     s.canRead (.glyph 0 65) .captionPainting = true ∧ ∃ z ∈ s.composer.silenced, z.set = 0 ∧ z.code = 65#16) ∧
    (let s := { glyphPainting with check := live.check }
     let t := after (.uncorrectableError (.glyph 0 65) .captionPainting 3) s
     s.check.locked = false ∧ t.check.uncorrectable = some (.glyph 0 65) ∧ t.check.locked = true ∧
      t.composer.silenced = [⟨0, 65#16, 0, 3⟩]) :=
  ⟨⟨by decide +kernel, by decide +kernel, _, rfl, rfl, .inl rfl, rfl, rfl, rfl⟩, by decide +kernel,
    ⟨by decide +kernel, _, List.mem_singleton_self _, rfl, rfl⟩, by decide +kernel⟩

/-- The state of a check log in which correctable errors stand. -/
def standingAt (ls : List CheckLoc) (s : State) : State := { s with check := { s.check with standing := ls } }

theorem witness_FoundAgain :
    ((tilePainting.sheet .a).map fun sh => [CheckLoc.storeTile 5 .w0, .storeTile 5 .w1, .band .x].map
      (tilePainting.paintingReads sh (ticket .proof))) = some [true, false, false] ∧
    [CheckLoc.glyph 0 65, .glyph 0 66, .glyph 1 65].map (glyphFitting.fittingReads .a) = [true, false, false] ∧
    (standingAt [.band .x] (sendingBand 0 false false)).check.standing = [.band .x] ∧
    (standingAt [.band .y] (sendingBand 0 false false)).check.standing ≠ [.band .x] ∧
    (after .bandSendDone (standingAt [.band .y] (sendingBand 0 false false))).check.count = 0#8 ∧
    (let t := after (.correctableError (.band .y) .proofWriter) writingY
     (t.check.standing, (after (.correctableError (.band .y) .proofWriter) t).check.count)) = ([.band .y], 2#8) ∧
    (after (.correctableError (.band .x) .composer) paintingPoison).check.standing = [] := by decide +kernel

/-- A painting of a PRESS band, with the link in a state. -/
def paintingFor (b : Nat) (l : Link) : State := painting b .press l

theorem witness_BandPainted_link :
    ([(1, linkIn .opening .live), (2, { sendingLink with nextBand := 2, sending := some 1 }),
      (1, { linkIn .streaming .live with nextBand := 1, bandTimer := some 40 }),
      (2, { linkIn .streaming .live with nextBand := 1, graceTimer := some 40 }),
      (1, { linkIn .awaitReady .live with ready := false, waitTimer := some 60000 }), (3, linkIn .closing .live)].map fun q =>
        let s := paintingFor q.1 q.2
        let t := after .bandPaintDone s
        (s.composer.state, decide (t.link = s.link), decide (t.out = s.out), (t.composer.buf (bufferFor q.1)).state)) =
      List.replicate 6 (.painting, true, true, .full) ∧
    (let x : Buffer := { bufIn .filling 0 with pixels := List.replicate 20 9#8 }
     (x.write (bandBytes { ticket .proof with width := 5, height := 1 } 0 [])).pixels.drop 11) =
      [235#8, 250#8, 245#8, 235#8, 0#8, 9#8, 9#8, 9#8, 9#8] := by decide +kernel

/-- A store with slots held by the sheet in slot A: FILLING, CONDEMNED, READY, one shared, and its scratch slot in use. -/
def heldTiles : State := { building (build false false) with
  store := ((((withScratch .filling).setSlot 5 .w0 ⟨.filling, some ⟨5, 0, 1⟩, ⟨true, false⟩, [], none, false⟩).setSlot 6 .w0
    ⟨.condemned, some ⟨6, 0, 1⟩, ⟨true, false⟩, [], none, false⟩).setSlot 7 .w0
    ⟨.ready, some ⟨7, 0, 1⟩, ⟨true, false⟩, [], none, false⟩).setSlot 8 .w0
    ⟨.filling, some ⟨8, 0, 1⟩, ⟨true, true⟩, [], none, false⟩
  builder := ⟨[⟨.scratch .a 3, ⟨5, 0, 1⟩, src⟩, ⟨.store 8 .w0, ⟨8, 0, 1⟩, src⟩], some (build false false)⟩ }

theorem witness_HoldsReleased :
    (let t := heldTiles.releaseSheet .a
     ([5, 6, 7, 8].map fun i : Fin 128 => ((t.store.slot i .w0).state, (t.store.slot i .w0).holders),
      t.builder.queue.map (·.ref), t.builder.current, t.port.discarded, (t.store.pool .a).slots[3].state)) =
      ([(.empty, ⟨false, false⟩), (.empty, ⟨false, false⟩), (.ready, ⟨false, false⟩), (.filling, ⟨false, true⟩)],
        [.store 8 .w0], none, [.build], .empty) ∧
    (LostBy heldTiles .a (.store 5 .w0) ∧ ¬ LostBy heldTiles .a (.store 8 .w0) ∧ LostBy heldTiles .a (.scratch .a 3)) :=
  ⟨by decide +kernel, ⟨by decide +kernel, by decide +kernel, by decide +kernel⟩, by unfold LostBy; decide +kernel, rfl⟩

/-- A cell of the sheet with the key of a subject record of profile 0 that is to be placed. -/
def sharing (ref : Option TileRef) : State :=
  { holding { planned (some (bigTicket 1 0)) with
      cells := [{ longName with kind := .portrait, subject := 5, profile := 0, serial := 1#8, ref := ref }]
      frames := [.inset ⟨0, 0, ⟨0, 0, 256, 256⟩, 0, 0x4000#64, 0, 0⟩] } with
    planner := ⟨some (job (.subject 0x4000#64 seed) true), none, [], none⟩ }

theorem witness_TileClaimed :
    ([sharing (some (.store 9 .w1)), planning (some (bigTicket 1 0)) (job (.subject 0x4000#64 seed) true)].map fun s =>
      let t := after (.subjectReadDone .current (.data (subjectBytes 5 0))) s
      ((t.sheet .a).map fun sh => (sh.cells.map (·.ref), sh.pendingBuilds), t.builder.queue.length)) =
      [(some ([some (.store 9 .w1), some (.store 9 .w1)], 0), 0), (some ([some (.store 5 .w0)], 1), 1)] := by
  decide +kernel

/-- A fit that needs no halving and one that needs two, and the raster of a picture of one colour. -/
theorem witness_TileBuilt :
    ((computeFit src profile3).record.k = 0 ∧ 1 ≤ (computeFit src profile3).reducedW ∧
      (computeFit ⟨1, 2400, 3000, 7200, .rgb8, .full 600 1560 1020 1190⟩ profile3).record.k = 2) ∧
    (∀ a, SourceTaken src a (List.replicate 3 0#8) fun _ _ => ⟨0#8, 0#8, 0#8⟩) ∧
    Halved (fun _ _ => ⟨7#8, 8#8, 9#8⟩) (fun _ _ => ⟨7#8, 8#8, 9#8⟩) ∧
    Halved (fun x _ => if x = 0 then ⟨199#8, 0#8, 0#8⟩ else ⟨201#8, 1#8, 0#8⟩)
      (fun x _ => if x = 0 then ⟨200#8, 1#8, 0#8⟩ else ⟨201#8, 1#8, 0#8⟩) := by
  have hz : ∀ i, byteAt (List.replicate 3 0#8) i = 0#8 := by
    intro i
    rcases i with _ | _ | _ | i <;> simp [byteAt, List.getD]
  refine ⟨by decide +kernel, fun a => ⟨fun _ x y _ _ _ _ => ?_, fun h => nomatch h⟩, fun i j => ?_, fun i j => ?_⟩
  · simp only [hz]
  · simp
  · rcases i with _ | i
    · simp
    · simp

/-- A window that no origin fits is centred, and a computed origin beyond the bounds takes the nearest one. -/
theorem witness_OriginShifted :
    (let f := computeFit ⟨1, 8192, 8192, 24576, .rgb8, .full 0 8190 3000 4096⟩
        { profile3 with cellWidth := 128, cellHeight := 160, headTarget := 16, eyeLine := 40, centreColumn := 64 }
     (originMin f.offset, originMax f.reducedH 160 f.step f.offset, f.record.y0, f.record.y0 - f.record.shiftY)) =
      (-1, -63, -32, 13) ∧
    (originMin 42, originMax 600 300 341 42) = (0, 201) := by decide +kernel

/-! ## Witnesses: Composers that wait, ends that are pending, LOOP, and whole granules -/

/-- A link under LOOP. -/
def looped (l : Link) : Link := { l with held := some (hold .loop) }

/-- The last band of the sheet in slot A on its way while the Composer waits for its buffer for a sheet in slot B. -/
def sendingBeside (m : PressMode) : State :=
  { both (sheet .closing .press) { sheet .composing .proof with first := false } with
    link := { linkIn .streaming m with nextBand := 4, sending := some 3 }
    composer := { live.composer.setBuf .y (bufIn .sending 3) with
      state := .waiting, attempt := some ⟨.b, 1⟩, nextBand := 1 } }

theorem witness_BandSent_waiting :
    (let s := { sendingWaiting 0 2 with link := { (sendingWaiting 0 2).link with due := true } }
     s.link.due = true ∧ s.link.nextBand = 0 + 1 ∧ s.composer.state = .waiting ∧
      (s.composer.buf (bufferFor (0 + 1))).state ≠ .empty ∧
      (after .bandSendDone s).composer.bufX.tag = some ⟨att, 2, 64⟩ ∧ bufferView (after .bandSendDone s) =
        (.filling, .sending, some att)) ∧
    (let s := { sendingWaiting 0 2 with link := { (sendingWaiting 0 2).link with abortPending := true } }
     s.link.abortPending = true ∧ s.composer.state = .waiting ∧
      bufferView (after .bandSendDone s) = (.filling, .full, some att)) ∧
    ((sendingBeside .live).link.sending = some 3 ∧ 3 + 1 = (hold .live).bands ∧
      (sendingBeside .live).composer.state = .waiting ∧ bufferFor (sendingBeside .live).composer.nextBand = bufferFor 3 ∧
      (sendingBeside .live).ticketOf .b = some (ticket .proof)) ∧
    InHand (sendingBeside .loop) att (sheet .closing .press) (ticket .press) ∧
    [PressMode.live, .loop].map (fun m =>
      let t := after .bandSendDone (sendingBeside m)
      (t.link.state, t.composer.state, t.composer.bufY.state, t.composer.bufY.tag, (t.sheet .a).isNone)) =
      [(.closing, .painting, .filling, some ⟨⟨.b, 1⟩, 1, 64⟩, false),
        (.closed, .painting, .filling, some ⟨⟨.b, 1⟩, 1, 64⟩, true)] :=
  ⟨by decide +kernel, by decide +kernel, by decide +kernel, ⟨rfl, rfl, .inr rfl, rfl, rfl, rfl⟩, by decide +kernel⟩

/-- A sheet whose attempt ended before its consumer: FINISHED with an ending, its report not done, and in its second pass. -/
def endedBefore : List Sheet :=
  [{ sheet .finished .press with ending := some (.spoiled, .underrun) },
    { sheet .finished .press with ending := some (.spoiled, .underrun), report := .due },
    { sheet .filling .press with attempt := 2 }]

/-- A state with another sheet in slot A. -/
def withA (sh : Sheet) (s : State) : State := { s with control := { s.control with slotA := some sh } }

/-- What became of the sheet in slot A and of its order. -/
def orderView (t : State) : Option SheetState × List (Bool × OrderOutcome) :=
  ((t.sheet .a).map (·.state), t.control.queue.map fun e => (e.finished, e.results.outcome))

theorem witness_EndedLetGo :
    ((endedBefore.map fun sh => withA sh (sendingBand 0 false true)).map fun s =>
      (s.link.abortPending, orderView (after .bandSendDone s), (after .bandSendDone s).link.state)) =
      [(true, (none, [(true, .spoiled)]), .closed), (true, (some .finished, [(false, .ok)]), .closed),
        (true, (some .filling, [(false, .ok)]), .closed)] := by decide +kernel

theorem witness_Loop_sends_no_abort :
    (let s := pressing .composing { looped (linkIn .streaming .live) with graceTimer := some 10 }
     s.link.state = .streaming ∧ s.link.held = some (hold .loop) ∧ s.link.graceTimer ≠ none ∧ s.link.sending = none) ∧
    (let s := { sendingBand 0 false false with link := looped (sendingBand 0 false false).link }
     s.link.sending = some 0 ∧ s.link.held = some (hold .loop) ∧ s.composer.attempt = none) ∧
    [(pressing .composing { looped (linkIn .streaming .live) with graceTimer := some 10 }, Instr.graceTimerExpiry),
      (pressing .composing { looped sendingLink with graceTimer := some 10 }, .graceTimerExpiry),
      (pressing .composing { looped (linkIn .opening .live) with acceptTimer := some 1 }, .acceptTimerExpiry),
      ({ sendingBand 0 false false with link := looped (sendingBand 0 false false).link },
        .uncorrectableError (.band .x) .pressLink 0),
      (pressing .composing (looped sendingLink), .reset)].map (fun q =>
        ((after q.2 q.1).link.state, (after q.2 q.1).out.pressMessages, (orderView (after q.2 q.1)).1)) =
      [(.closed, [], some .ready), (.streaming, [], some .ready), (.closed, [], none), (.closed, [], some .ready),
        (.closed, [], none)] := by decide +kernel

/-- A band write with its end pending, for a sheet in slot A and an attempt that waits for the Writer. -/
def endPending (sh : Sheet) (dmg : Bool) (q : Option Attempt) : State :=
  let s := withA sh (writing 0 true dmg)
  { s with writer := { s.writer with queued := q } }

/-- The second attempt of the sheet in slot A. -/
def secondPass : Sheet := { sheet .composing .proof with attempt := 2 }

/-- A second pass at work behind the band write of the first: the Composer paints for it and the Writer keeps it waiting. -/
def secondBehind (c : Option Attempt) : State :=
  { endPending secondPass false (some ⟨.a, 2⟩) with
    composer := { live.composer with
      state := if c.isSome then .waiting else .idle, attempt := c, nextBand := 2, bufX := bufIn .writing 0
      bufY := { bufIn .full 1 with tag := some ⟨⟨.a, 2⟩, 1, 64⟩ } } }

theorem witness_BandWrites_pending :
    RowsFailed (endPending { sheet .filling .proof with attempt := 2 } false (some ⟨.b, 1⟩)) [true, false] ∧
    ((endPending secondPass false none).writer.endPending = true ∧
      64 = (endPending secondPass false none).currentRows.length ∧ 63 < (endPending secondPass true none).currentRows.length ∧
      secondPass.attempt ≠ att.number) ∧
    (InHand (secondBehind (some ⟨.a, 2⟩)) ⟨.a, 2⟩ secondPass (ticket .proof) ∧
      (secondBehind (some ⟨.a, 2⟩)).writer.queued = some ⟨.a, 2⟩ ∧ RowsFailed (secondBehind (some ⟨.a, 2⟩)) [false]) ∧
    (endedBefore.flatMap fun sh => [(false, Instr.bandWriteDone .current 64), (true, .bandWriteDone .current 63),
        (false, .bandWriteFail .current [false])].map fun q =>
      let t := after q.2 (endPending sh q.1 (some ⟨.b, 1⟩))
      (orderView t, t.writer.state, t.writer.attempt)) =
      List.replicate 3 ((none, [(true, .spoiled)]), .waiting, some ⟨.b, 1⟩) ++
      List.replicate 3 ((some .finished, [(false, .ok)]), .waiting, some ⟨.b, 1⟩) ++
      List.replicate 2 ((some .filling, [(false, .ok)]), .waiting, some ⟨.b, 1⟩) ++
      [((none, [(true, .memoryFault)]), .waiting, some ⟨.b, 1⟩)] ∧
    ∀ c ∈ [none, some (⟨.a, 2⟩ : Attempt)], let t := after (.bandWriteFail .current [false]) (secondBehind c)
      orderView t = (none, [(true, .memoryFault)]) ∧ t.writer = Writer.cleared ∧ bufferView t = (.empty, .empty, none) ∧
        t.composer.state = .idle :=
  ⟨⟨by decide, by decide +kernel, nofun, rfl⟩, by decide +kernel,
    ⟨⟨rfl, rfl, .inl rfl, rfl, rfl, rfl⟩, rfl, ⟨by decide, by decide +kernel, nofun, rfl⟩⟩, by decide +kernel,
    by decide +kernel⟩

/-- A poisoned band that is being written. -/
def writingPoisoned (dmg : Bool) : State := { writing 0 false dmg with
  composer := live.composer.setBuf .x { bufIn .writing 0 with poisoned := true } }

theorem witness_BandWrites_poisoned :
    ((writingPoisoned false).composer.buf (bufferFor (writingPoisoned false).writer.nextBand)).poisoned = true ∧
    (writingPoisoned false).writer.damage = false ∧ live.writer.state ≠ .writing ∧
    [(false, Instr.bandWriteDone .current 64), (true, .bandWriteDone .current 1), (false, .bandWriteFail .current [false]),
      (true, .bandWriteDone .current 0)].map (fun q =>
        let t := after q.2 (writingPoisoned q.1)
        (t.writer.state, t.out.serverWrites, t.composer.bufX.state, (orderView t).1)) =
      List.replicate 3 (.writing, [], .writing, some .composing) ++ [(.idle, [], .empty, some .ready)] := by decide +kernel

/-- A glyph load of 36 bytes and a tile of 33 × 33 pixels fill out their last granules with zero bytes. -/
theorem test_last_granule_filled :
    ((after (.glyphUnitDone .current (.data (block 8))) loading).glyphs[1]).map (fun g => (g.area.length, g.area.drop 32)) =
      some (40, [32#8, 0#8, 10#8, 0#8, 0#8, 0#8, 0#8, 0#8]) ∧
    (wholeGranules (List.replicate (3 * (33 * 33)) 7#8)).length = 3272 ∧
    (wholeGranules (List.replicate (3 * (33 * 33)) 7#8)).drop 3265 = [7#8, 7#8, 0#8, 0#8, 0#8, 0#8, 0#8] := by decide +kernel

end Sys2Proof.Tests
end

section
/-! The walker's agreement with the engine (sections 1.2 and 1.4): the forms that `WalkerOk` allows, and the moves of the
order chain, of the register window and of a fault, each taking a walker in one of these forms to another. -/

namespace Sys2Proof.Machine

/-! ## The forms of a walker that is in order -/

/-- The forms of a walker in agreement with the engine: STOPPED, at work or waiting in RUNNING with no unit, with a read or a
take of its own in RUNNING, with one left over in DRAINING, and FAULTED (R7, R8, R11, R20, R24). -/
inductive WalkerForm (e : EngineState) : WalkerState → WalkerUnit → List OrderRecord → Prop where
  | stopped (h : e = .stopped ∨ e = .scrubbing ∨ e = .draining) : WalkerForm e .stopped .none []
  | seeking (h : e = .running) : WalkerForm e .seeking .none []
  | idle (h : e = .running) : WalkerForm e .idle .none []
  | taking (h : e = .running) {w : List OrderRecord} (hw : w ≠ []) : WalkerForm e .taking .none w
  | blocked (h : e = .running) {w : List OrderRecord} (hw : w ≠ []) : WalkerForm e .blocked .none w
  | reads (h : e = .running) {u : WalkerUnit} (hu : u.isRead = true) : WalkerForm e .seeking u []
  | takes (h : e = .running) (r : OrderRecord) (sl : Option SheetSlot) (w : List OrderRecord) :
      WalkerForm e .taking (.taken r sl false) w
  | drainReads (h : e = .draining) {u : WalkerUnit} (hu : u.isRead = true) (hd : u.isDiscarded = true) :
      WalkerForm e .seeking u []
  | drainTakes (h : e = .draining) (r : OrderRecord) (sl : Option SheetSlot) : WalkerForm e .taking (.taken r sl false) []
  | faulted (h : e = .faulted) {u : WalkerUnit} (hd : u.isDiscarded = true) : WalkerForm e .faulted u []

/-- The form of the walker of a state. -/
abbrev State.WalkerFormed (s : State) : Prop :=
  WalkerForm s.control.engine s.walker.state s.walker.unit s.walker.window

theorem WalkerForm.walkerOk {s : State} (h : s.WalkerFormed) : WalkerOk s := by
  unfold State.WalkerFormed at h
  generalize he : s.control.engine = e at h
  generalize hs : s.walker.state = st at h
  generalize hu : s.walker.unit = u at h
  generalize hw : s.walker.window = w at h
  cases h with
  | stopped h => constructor <;> rcases h with h | h | h <;> simp [he, hs, hu, hw, h, WalkerUnit.isRead, WalkerUnit.isTake]
  | seeking h => constructor <;> simp [he, hs, hu, hw, h, WalkerUnit.isRead, WalkerUnit.isTake]
  | idle h => constructor <;> simp [he, hs, hu, hw, h, WalkerUnit.isRead, WalkerUnit.isTake]
  | taking h hne => constructor <;> simp [he, hs, hu, hw, h, hne, WalkerUnit.isRead, WalkerUnit.isTake]
  | blocked h hne => constructor <;> simp [he, hs, hu, hw, h, hne, WalkerUnit.isRead, WalkerUnit.isTake]
  | reads h hr =>
    cases u <;> simp [WalkerUnit.isRead] at hr <;> constructor <;>
      simp [he, hs, hu, hw, h, WalkerUnit.isRead, WalkerUnit.isTake]
  | takes h r sl w => constructor <;> simp [he, hs, hu, h, WalkerUnit.isRead, WalkerUnit.isTake, WalkerUnit.isDiscarded]
  | drainReads h hr hd =>
    cases u <;> simp [WalkerUnit.isRead] at hr <;> constructor <;>
      simp [he, hs, hu, hw, h, hd, WalkerUnit.isRead, WalkerUnit.isTake]
  | drainTakes h r sl =>
    constructor <;> simp [he, hs, hu, hw, h, WalkerUnit.isRead, WalkerUnit.isTake, WalkerUnit.isDiscarded]
  | faulted h hd => constructor <;> simp [he, hs, hu, hw, h, hd]

theorem WalkerOk.form {s : State} (h : WalkerOk s) : s.WalkerFormed := by
  obtain ⟨idleEngine, running, draining, drainReads, drainWindow, faulted, faultedUnit, takeLost, resting, reads, takes,
    seekingEmpty, headWaits⟩ := h
  unfold State.WalkerFormed
  generalize s.control.engine = e at *
  generalize s.walker.state = st at *
  generalize s.walker.unit = u at *
  generalize s.walker.window = w at *
  cases st with
  | stopped =>
    obtain rfl := resting (by simp)
    obtain rfl := seekingEmpty (by simp)
    cases e <;> simp at running faulted <;> constructor <;> simp
  | seeking =>
    obtain rfl := seekingEmpty (by simp)
    cases e with
    | running => cases u <;> simp [WalkerUnit.isTake] at takes <;> constructor <;> rfl
    | draining =>
      cases u <;> simp [WalkerUnit.isTake, WalkerUnit.isRead] at takes drainReads draining
      · exact .drainReads rfl rfl drainReads
      · exact .drainReads rfl rfl drainReads
    | stopped => simp at idleEngine
    | scrubbing => simp at idleEngine
    | faulted => simp at faulted
  | taking =>
    cases e with
    | running =>
      cases u <;> simp [WalkerUnit.isRead, WalkerUnit.isTake] at reads headWaits takeLost
      · exact .taking rfl headWaits
      · rw [WalkerUnit.isDiscarded] at takeLost; subst takeLost; exact .takes rfl _ _ w
    | draining =>
      cases u <;> simp [WalkerUnit.isRead, WalkerUnit.isTake] at reads draining takeLost drainWindow
      subst drainWindow; rw [WalkerUnit.isDiscarded] at takeLost; subst takeLost; exact .drainTakes rfl _ _
    | stopped => simp at idleEngine
    | scrubbing => simp at idleEngine
    | faulted => simp at faulted
  | blocked =>
    obtain rfl := resting (by simp)
    cases e <;> simp at idleEngine draining faulted headWaits
    exact .blocked rfl headWaits
  | idle =>
    obtain rfl := resting (by simp)
    obtain rfl := seekingEmpty (by simp)
    cases e <;> simp at idleEngine draining faulted
    exact .idle rfl
  | faulted =>
    obtain rfl := seekingEmpty (by simp)
    obtain rfl := faulted.1 rfl
    exact .faulted rfl (faultedUnit rfl)


/-- A step keeps the agreement exactly when it keeps the form. -/
theorem walkerOk_iff {s : State} : WalkerOk s ↔ s.WalkerFormed := ⟨WalkerOk.form, WalkerForm.walkerOk⟩

/-! ## The moves of the walker -/

/-- The walker that enters IDLE: the sweep timer loaded and running, or stopped for a preset of 0 (R15). -/
@[simp] theorem State.enterIdle_walker (s : State) : s.enterIdle.walker = { s.walker with
    state := .idle
    sweepRunning := s.window.sweepPreset != 0#16
    sweepTimer := if s.window.sweepPreset = 0#16 then s.walker.sweepTimer else s.window.sweepPreset.toNat } := by
  unfold State.enterIdle
  dsimp only
  split <;> split <;> simp

@[simp] theorem State.endWalkerUnit_walker (s : State) : s.endWalkerUnit.walker = { s.walker with unit := .none } := by
  simp [State.endWalkerUnit]

namespace State.WalkerFormed

/-- A walker that is kept, or brought from BLOCKED to TAKING, stays in order under the same engine state (R14). -/
theorem of_unblocked {s t : State} (h : s.WalkerFormed) (hw : Unblocked s.walker t.walker)
    (he : t.control.engine = s.control.engine) : t.WalkerFormed := by
  unfold State.WalkerFormed at *
  rw [he]
  rcases hw with hw | ⟨hb, hne, hw⟩
  · rwa [hw]
  · rw [hb] at h
    rw [hw]
    generalize hu : s.walker.unit = u at h
    generalize hx : s.walker.window = x at h
    cases h with
    | blocked hr _ => simpa [hr, hu, ← hx] using WalkerForm.taking rfl hne

theorem of_same {s t : State} (h : s.WalkerFormed) (hw : t.walker = s.walker) (he : t.control.engine = s.control.engine) :
    t.WalkerFormed := h.of_unblocked (.inl hw) he

/-- In the states in which it has no unit, a STOPPED walker's window is empty. -/
theorem of_stopped {s : State} (h : s.WalkerFormed) (hs : s.walker.state = .stopped) :
    s.walker.unit = .none ∧ s.walker.window = [] := by
  unfold State.WalkerFormed at h
  rw [hs] at h
  generalize hu : s.walker.unit = u at h
  generalize hx : s.walker.window = x at h
  cases h
  exact ⟨rfl, rfl⟩

theorem of_idle {s : State} (h : s.WalkerFormed) (hs : s.walker.state = .idle) :
    s.control.engine = .running ∧ s.walker.unit = .none ∧ s.walker.window = [] := by
  unfold State.WalkerFormed at h
  rw [hs] at h
  generalize hu : s.walker.unit = u at h
  generalize hx : s.walker.window = x at h
  cases h with
  | idle hr => exact ⟨hr, rfl, rfl⟩

theorem of_engineStopped {s : State} (h : s.WalkerFormed) (he : s.control.engine = .stopped ∨ s.control.engine = .scrubbing) :
    s.walker.state = .stopped := (walkerOk_iff.2 h).idleEngine he

theorem arriveIdle {s : State} (he : s.control.engine = .running) (hu : s.walker.unit = .none) (hw : s.walker.window = []) :
    s.arriveIdle.WalkerFormed := by
  have hs : s.arriveIdle.walker.state = .idle ∨ s.arriveIdle.walker.state = .seeking := by
    unfold State.arriveIdle
    split
    · dsimp only
      split <;> simp
    · simp
  unfold State.WalkerFormed
  rcases hs with hs | hs <;> simp only [hs, State.arriveIdle_frame, he, hu, hw]
  · exact .idle rfl
  · exact .seeking rfl

theorem seekFromIdle {s : State} (he : s.control.engine = .running) (hu : s.walker.unit = .none)
    (hw : s.walker.window = []) : s.seekFromIdle.WalkerFormed := by
  unfold State.seekFromIdle
  split
  · exact arriveIdle he hu hw
  · simpa [State.WalkerFormed, he, hu, hw] using WalkerForm.seeking rfl

theorem startEngine {s : State} (hu : s.walker.unit = .none) (hw : s.walker.window = []) : s.startEngine.WalkerFormed := by
  unfold State.startEngine
  split
  · simpa [State.WalkerFormed, hu, hw] using WalkerForm.seeking rfl
  · split
    · exact arriveIdle rfl hu hw
    · simpa [State.WalkerFormed, hu, hw] using WalkerForm.seeking rfl

theorem engineStops {s : State} (hs : s.walker.state = .stopped) (hu : s.walker.unit = .none) (hw : s.walker.window = []) :
    s.engineStops.WalkerFormed := by
  unfold State.engineStops
  split
  · exact startEngine hu hw
  · simpa [State.WalkerFormed, hs, hu, hw] using WalkerForm.stopped (.inl rfl)

theorem stopIfDrained {s : State} (h : s.WalkerFormed) : s.stopIfDrained.WalkerFormed := by
  unfold State.stopIfDrained
  split
  · rename_i hd
    have hs : s.walker.state = .stopped := by
      simp only [State.drained, Bool.and_eq_true, beq_iff_eq] at hd
      exact hd.1.1.2
    exact engineStops hs (h.of_stopped hs).1 (h.of_stopped hs).2
  · exact h

/-- Entering a drain or an abandon: no unit leaves the walker STOPPED, and one of its own goes on (R20). -/
theorem drainWalker {s t : State} (h : s.WalkerFormed) (hr : s.control.engine = .running ∨ s.control.engine = .draining)
    (hw : t.walker = s.walker) (he : t.control.engine = .draining) : t.drainWalker.WalkerFormed := by
  unfold State.WalkerFormed at *
  simp only [State.drainWalker, State.setWalker_control, State.setWalker_walker, hw, he]
  generalize s.walker.unit = u at *
  generalize s.walker.window = x at *
  generalize s.walker.state = st at *
  cases h with
  | stopped | seeking | idle | taking | blocked => exact .stopped (.inr (.inr rfl))
  | reads _ hu | drainReads _ hu _ => cases u <;> simp [WalkerUnit.isRead] at hu <;> exact .drainReads rfl rfl rfl
  | takes _ r sl | drainTakes _ r sl => exact .drainTakes rfl r sl
  | faulted hf => simp [hf] at hr

/-- A walker with no unit walks on in a running engine (R7, R11). -/
theorem walkOn {s : State} (he : s.control.engine = .running) (hu : s.walker.unit = .none) : s.walkOn.WalkerFormed := by
  simp only [State.WalkerFormed, State.walkOn, State.setWalker_control, State.setWalker_walker, he, hu]
  split
  · rename_i hw
    rw [hw]
    exact .seeking rfl
  · rename_i hw
    split
    · exact .taking rfl hw
    · exact .blocked rfl hw

/-- A walker whose unit has ended in a drain is STOPPED; in RUNNING it must be in order already (R20). -/
theorem walkerRests {s : State} (h : s.control.engine = .draining → s.walker.unit = .none ∧ s.walker.window = [])
    (ho : s.control.engine ≠ .draining → s.WalkerFormed) : s.walkerRests.WalkerFormed := by
  unfold State.walkerRests
  split
  · rename_i he
    obtain ⟨hu, hw⟩ := h he
    refine stopIfDrained ?_
    simpa [State.WalkerFormed, he, hu, hw] using WalkerForm.stopped (.inr (.inr rfl))
  · exact ho ‹_›

theorem abandonOrders {s : State} (h : s.WalkerFormed) : s.abandonOrders.WalkerFormed :=
  h.of_unblocked (State.abandonOrders_unblocked (.refl _)) (by simp)

theorem dropDueReport {s : State} (h : s.WalkerFormed) (sl : SheetSlot) : (s.dropDueReport sl).WalkerFormed :=
  h.of_same (by simp) (by simp)

theorem faultWalker {s : State} (h : s.control.engine = .faulted) : s.faultWalker.WalkerFormed := by
  simp only [State.WalkerFormed, State.faultWalker, State.setWalker_control, State.setWalker_walker, h]
  exact .faulted rfl (by cases s.walker.unit <;> rfl)

/-- A fault leaves the walker FAULTED with the result of its unit discarded (R24); where there is no fault, the walker must be
in order already. -/
theorem engineFaults {s : State} (c : FaultCause) (a : Addr)
    (h : s.control.engine ≠ .running → s.control.engine ≠ .draining → s.WalkerFormed) : (s.engineFaults c a).WalkerFormed := by
  unfold State.engineFaults
  split
  · exact ((faultWalker (by simp)).dropDueReport .a |>.dropDueReport .b).abandonOrders
  · rename_i hn
    simp only [not_or] at hn
    exact h hn.1 hn.2

end State.WalkerFormed

end Sys2Proof.Machine
end

section
/-! The commands that lie outside the order chain: each leaves the engine state and what the server wrote as they are, and
acts on the walker only by telling it that its head may now be taken (R14). -/

namespace Sys2Proof.Machine

/-- What the server writes in the window and in HOLD and nothing else changes but power-on (R5, R6, R17, R164, R190, R210). -/
structure ServerFields where
  chainHead : Addr
  depth : Nat
  pressMode : PressMode
  sweepPreset : BitVec 16
  enables : BitVec 9
  windowCode : BitVec 3
  pressFirst : Bool

/-- The server's fields of a state. -/
@[simp] def State.serverFields (s : State) : ServerFields :=
  ⟨s.window.chainHead, s.window.depth, s.window.pressMode, s.window.sweepPreset, s.window.enables, s.port.windowCode,
    s.port.pressFirst⟩

/-- The commands outside the order chain that write no field of the server's. -/
def outsideChain (c : Instr) : Bool :=
  match c with
  | .powerOn | .scrubEnd | .functionReset | .reset | .runStart | .runDrain | .abandon | .depthWrite _ |
    .pressModeWrite _ | .sweepPresetWrite _ | .chainHeadWrite _ | .wake _ | .enablesWrite _ | .holdRequest _ _ |
    .holdRelease _ _ | .registerWrite _ _ _ | .sweepExpiry | .recordReadStart | .recordReadDone _ _ |
    .trailerReadStart | .trailerReadDone _ _ | .takeStart | .takenWriteDone _ _ | .resultsWriteDone _ _ |
    .doneWriteDone _ _ | .spentWriteStart | .spentWriteDone _ _ => false
  | _ => true

/-- The effect of a command outside the order chain. -/
structure OutsideChain (s t : State) : Prop where
  walker : Unblocked s.walker t.walker
  engine : t.control.engine = s.control.engine
  fields : t.serverFields = s.serverFields

namespace OutsideChain

variable {s t : State}

theorem refl (s : State) : OutsideChain s s := ⟨.refl _, rfl, rfl⟩

/-- An effect that leaves the walker, the engine state and the server's fields as they are. -/
theorem of_kept (h : t.walker = s.walker ∧ t.control.engine = s.control.engine ∧ t.serverFields = s.serverFields) :
    OutsideChain s t := ⟨.inl h.1, h.2.1, h.2.2⟩

/-- An effect that tells the walker and leaves the engine state and the server's fields as they are. -/
theorem of_told (hw : Unblocked s.walker t.walker)
    (h : t.control.engine = s.control.engine ∧ t.serverFields = s.serverFields) : OutsideChain s t := ⟨hw, h.1, h.2⟩

theorem finishDiscarded (s : State) (u : DiscardedUnit) : OutsideChain s (s.finishDiscarded u) :=
  of_kept (by simp)

/-- A command that answers a state outside the chain. -/
theorem of_next {t' : State} (h : Host.Outcome.next t' = (.next t : Out)) (h' : OutsideChain s t') : OutsideChain s t := by
  injection h with h
  exact h ▸ h'

/-! ### Barrier orders -/

theorem profileBlockReadStart (h : exec .profileBlockReadStart s = .next t) : OutsideChain s t := by
  refine of_next h ?_
  split
  · split
    · exact of_kept (by simp)
    · exact refl s
  · exact refl s

theorem profileBlockReadDone {u : UnitOf} {r : ReadResult} (h : exec (.profileBlockReadDone u r) s = .next t) :
    OutsideChain s t := by
  refine of_next h ?_
  split
  · exact finishDiscarded s _
  · split
    · split
      · exact of_told (State.finishBarrier_unblocked _ (.inl (by simp))) (by simp)
      · split
        · exact of_told (State.finishBarrier_unblocked _ (.inl (by simp))) (by simp)
        · split
          · split
            · exact of_told (State.finishBarrier_unblocked _ (.inl (by simp))) (by simp)
            · exact of_told (State.loadProfile_unblocked _ _ _ (.inl (by simp))) (by simp)
          · exact refl s
    · exact refl s

theorem glyphUnitStart (h : exec .glyphUnitStart s = .next t) : OutsideChain s t := by
  refine of_next h ?_
  split
  · split
    · exact of_kept (by simp)
    · exact refl s
  · exact refl s

theorem glyphUnitDone {u : UnitOf} {r : ReadResult} (h : exec (.glyphUnitDone u r) s = .next t) : OutsideChain s t := by
  refine of_next h ?_
  split
  · exact finishDiscarded s _
  · split
    · split
      · exact refl s
      · split
        · exact of_told (State.finishBarrier_unblocked _ (.inl (by simp))) (by simp)
        · split
          · exact of_told (State.finishBarrier_unblocked _ (.inl (by simp))) (by simp)
          · split
            · exact of_told (State.receiveGlyphUnit_unblocked _ _ (.inl (by simp))) (by simp)
            · exact refl s
    · exact refl s

/-! ### Planning -/

/-- The start of a planning read, where its conditions hold. -/
theorem startPlanRead (s : State) (p : Prop) [Decidable p] : OutsideChain s (if p then s.startPlanRead else s) := by
  split
  · exact of_kept (by simp)
  · exact refl s

theorem planReadFails (s : State) (sl : SheetSlot) : OutsideChain s (s.planReadFails sl) :=
  of_told (State.planReadFails_unblocked sl (.refl _)) (by simp)

/-- A planning read that ends its sheet's planning, whereupon a waiting sheet begins. -/
theorem takeWaiting {s' : State} (h : OutsideChain s s') : OutsideChain s s'.takeWaiting where
  walker := State.takeWaiting_unblocked h.walker
  engine := by simp [h.engine]
  fields := by simpa [State.serverFields] using h.fields

theorem planningEnds {s' : State} (h : OutsideChain s s') (sl : SheetSlot) (o : OrderOutcome) (d : Detail) :
    OutsideChain s (s'.planningEnds sl o d) where
  walker := State.planningEnds_unblocked sl o d h.walker
  engine := by simp [h.engine]
  fields := by simpa [State.serverFields] using h.fields

theorem ticketReadStart (h : exec .ticketReadStart s = .next t) : OutsideChain s t := by
  refine of_next h ?_
  split
  · split
    · split
      · exact refl s
      · split
        · exact ((refl s).planningEnds _ _ _).takeWaiting
        · exact startPlanRead s _
    · exact refl s
  · exact refl s

theorem ticketReadDone {u : UnitOf} {r : ReadResult} (h : exec (.ticketReadDone u r) s = .next t) : OutsideChain s t := by
  refine of_next h ?_
  split
  · exact finishDiscarded s _
  · split
    · exact refl s
    · split
      · exact planReadFails s _
      · split
        · dsimp only
          split
          · exact (planningEnds (of_kept (by simp)) _ _ _).takeWaiting
          · exact takeWaiting (of_told (State.takeTicket_unblocked _ _ (.inl (by simp))) (by simp))
        · exact refl s

theorem layoutReadStart (h : exec .layoutReadStart s = .next t) : OutsideChain s t := of_next h (startPlanRead s _)

theorem layoutReadDone {u : UnitOf} {r : ReadResult} (h : exec (.layoutReadDone u r) s = .next t) : OutsideChain s t := by
  refine of_next h ?_
  split
  · exact finishDiscarded s _
  · split
    · exact refl s
    · split
      · exact planReadFails s _
      · dsimp only
        split
        · split
          · exact (planningEnds (of_kept (by simp)) _ _ _).takeWaiting
          · exact takeWaiting (of_told (State.layoutRead_unblocked _ _ _ _ _ (.inl (by simp))) (by simp))
        · exact refl s
      · exact refl s

theorem rosterReadStart (h : exec .rosterReadStart s = .next t) : OutsideChain s t := of_next h (startPlanRead s _)

theorem rosterReadDone {u : UnitOf} {r : ReadResult} (h : exec (.rosterReadDone u r) s = .next t) : OutsideChain s t := by
  refine of_next h ?_
  split
  · exact finishDiscarded s _
  · split
    · exact refl s
    · split
      · exact planReadFails s _
      · dsimp only
        split
        · exact takeWaiting (of_kept (by simp))
        · exact refl s
      · exact refl s

theorem subjectReadStart (h : exec .subjectReadStart s = .next t) : OutsideChain s t := of_next h (startPlanRead s _)

theorem subjectReadDone {u : UnitOf} {r : ReadResult} (h : exec (.subjectReadDone u r) s = .next t) : OutsideChain s t := by
  refine of_next h ?_
  split
  · exact finishDiscarded s _
  · split
    · exact refl s
    · split
      · exact planReadFails s _
      · split
        · exact takeWaiting (of_kept (by simp))
        · exact refl s
      · exact refl s

theorem bannerTextReadStart (h : exec .bannerTextReadStart s = .next t) : OutsideChain s t := of_next h (startPlanRead s _)

theorem bannerTextReadDone {u : UnitOf} {r : ReadResult} (h : exec (.bannerTextReadDone u r) s = .next t) :
    OutsideChain s t := by
  refine of_next h ?_
  split
  · exact finishDiscarded s _
  · split
    · exact refl s
    · split
      · exact planReadFails s _
      · split
        · exact takeWaiting (of_kept (by simp))
        · exact refl s
      · exact refl s

/-! ### Building -/

theorem buildStart (h : exec .buildStart s = .next t) : OutsideChain s t := by
  refine of_next h ?_
  split
  · split
    · dsimp only
      split <;> exact of_kept (by simp)
    · exact refl s
  · exact refl s

theorem sourceReadDone {u : UnitOf} {r : ReadResult} {last : Bool} (h : exec (.sourceReadDone u r last) s = .next t) :
    OutsideChain s t := by
  refine of_next h ?_
  split
  · split
    · exact finishDiscarded s _
    · exact refl s
  · split
    · exact refl s
    · split
      · exact refl s
      · split
        · split
          · exact of_kept (by simp)
          · exact refl s
        · split
          · split <;> exact of_kept (by simp)
          · split
            · exact of_kept (by simp)
            · exact refl s

theorem buildComplete (h : exec .buildComplete s = .next t) : OutsideChain s t := by
  refine of_next h ?_
  split
  · split
    · exact of_kept (by simp)
    · exact refl s
  · exact refl s

theorem buildFailure (h : exec .buildFailure s = .next t) : OutsideChain s t := by
  refine of_next h ?_
  split
  · split
    · dsimp only
      split <;> exact of_kept (by simp)
    · exact refl s
  · exact refl s

/-! ### Composing and errors in card memory -/

theorem sheetEnterComposing (h : exec .sheetEnterComposing s = .next t) : OutsideChain s t := by
  refine of_next h ?_
  split
  · cases s.ticketOf _ with
    | none => exact refl s
    | some k => exact of_told (State.enterComposing_unblocked _ k (.inl (by simp))) (by simp)
  · exact refl s

theorem bandPaintDone (h : exec .bandPaintDone s = .next t) : OutsideChain s t := by
  refine of_next h ?_
  split
  · exact refl s
  · split
    · exact refl s
    · split
      · exact refl s
      · dsimp only
        split
        · exact of_kept (by simp)
        · exact refl s

theorem correctableError {loc : CheckLoc} {rd : Reader} (h : exec (.correctableError loc rd) s = .next t) :
    OutsideChain s t := by
  refine of_next h ?_
  split
  · split <;> exact of_kept (by simp)
  · exact refl s

theorem uncorrectableError {loc : CheckLoc} {rd : Reader} {n : Nat} (h : exec (.uncorrectableError loc rd n) s = .next t) :
    OutsideChain s t := by
  refine of_next h ?_
  split
  · exact of_told (State.takeDamage_unblocked _ _ _ (.inl (by simp))) (by simp)
  · exact refl s

/-! ### The Press Link -/

theorem readyRise (h : exec .readyRise s = .next t) : OutsideChain s t := by
  refine of_next h ?_
  dsimp only
  split
  · split <;> exact of_kept (by simp)
  · exact of_kept (by simp)

theorem readyFall (h : exec .readyFall s = .next t) : OutsideChain s t := by
  refine of_next h ?_
  dsimp only
  split
  · split <;> exact of_kept (by simp)
  · exact of_kept (by simp)

theorem waitTimerExpiry (h : exec .waitTimerExpiry s = .next t) : OutsideChain s t := by
  refine of_next h ?_
  split
  · exact of_kept (by simp)
  · exact refl s

theorem accept {i : BitVec 32} (h : exec (.accept i) s = .next t) : OutsideChain s t := by
  refine of_next h ?_
  split
  · split
    · exact of_kept (by simp)
    · exact refl s
  · exact refl s

theorem acceptTimerExpiry (h : exec .acceptTimerExpiry s = .next t) : OutsideChain s t := by
  refine of_next h ?_
  split
  · split
    · exact of_told (State.letGo_unblocked _ (State.endSheet_unblocked _ _ _ (.inl (by simp)))) (by simp)
    · exact refl s
  · exact refl s

theorem bandTimerExpiry (h : exec .bandTimerExpiry s = .next t) : OutsideChain s t := by
  refine of_next h ?_
  split
  · split
    · dsimp only
      split
      · exact of_told (State.bandDue_unblocked _ (.inl (by simp))) (by simp)
      · exact of_kept (by simp)
    · exact refl s
  · exact refl s

theorem graceTimerExpiry (h : exec .graceTimerExpiry s = .next t) : OutsideChain s t := by
  refine of_next h ?_
  split
  · split
    · exact of_told (State.underrun_unblocked _ (.refl _)) (by simp)
    · exact refl s
  · exact refl s

theorem bandSendDone (h : exec .bandSendDone s = .next t) : OutsideChain s t := by
  refine of_next h ?_
  split
  · dsimp only
    split
    · exact refl s
    · exact of_told (State.afterSend_unblocked _ _ (.inl (by simp))) (by simp)
  · exact refl s

theorem result {i : BitVec 32} {code : PressCode} (h : exec (.result i code) s = .next t) : OutsideChain s t := by
  have rejects (a : LinkHold) : OutsideChain s (s.pressRejects a) :=
    of_told (State.pressRejects_unblocked a (.refl _)) (by simp)
  have spoils (a : LinkHold) (d : Detail) : OutsideChain s (s.pressSpoils a d) :=
    of_told (State.pressSpoils_unblocked a d (.refl _)) (by simp)
  refine of_next h ?_
  split
  · exact refl s
  · split
    · exact refl s
    · split
      · exact rejects _
      · exact rejects _
      · exact rejects _
      · exact spoils _ _
      · exact spoils _ _
      · exact spoils _ _
      · exact spoils _ _
      · exact of_told (State.printed_unblocked _ (.refl _)) (by simp)
      · exact refl s

theorem resultTimerExpiry (h : exec .resultTimerExpiry s = .next t) : OutsideChain s t := by
  refine of_next h ?_
  split
  · split
    · exact of_told (State.letGo_unblocked _ (State.endSheet_unblocked _ _ _ (.inl (by simp)))) (by simp)
    · exact refl s
  · exact refl s

/-! ### The Proof Writer and the cell report -/

theorem bandWriteStart (h : exec .bandWriteStart s = .next t) : OutsideChain s t := by
  refine of_next h ?_
  split
  · exact refl s
  · split
    · exact of_kept (by simp)
    · exact refl s

theorem bandWriteDone {u : UnitOf} {n : Nat} (h : exec (.bandWriteDone u n) s = .next t) : OutsideChain s t := by
  refine of_next h ?_
  split
  · exact of_kept (by simp)
  · split
    · exact refl s
    · split
      · exact refl s
      · split
        · split
          · exact of_told (State.letGo_unblocked _ (State.spoil_unblocked _ _ (.inl (by simp)))) (by simp)
          · exact refl s
        · split
          · split
            · exact of_told (State.letGo_unblocked _ (.inl (by simp))) (by simp)
            · exact of_told (State.bandWritten_unblocked _ (.inl (by simp))) (by simp)
          · exact refl s

theorem bandWriteFail {u : UnitOf} {rows : List Bool} (h : exec (.bandWriteFail u rows) s = .next t) :
    OutsideChain s t := by
  refine of_next h ?_
  split
  · exact of_kept (by simp)
  · split
    · exact refl s
    · rename_i a _
      split
      · refine of_told (State.letGo_unblocked _ ?_) (by simp)
        simpa using State.endOrder_unblocked a.slot .memoryFault .proofWrite (s := s.endAttempt a) (.inl (by simp))
      · exact refl s

theorem reportWriteStart {sl : SheetSlot} (h : exec (.reportWriteStart sl) s = .next t) : OutsideChain s t := by
  refine of_next h ?_
  split
  · exact refl s
  · split
    · exact refl s
    · split
      · split
        · exact of_told (State.letGo_unblocked _ (.inl (by simp))) (by simp)
        · exact of_kept (by simp)
      · exact refl s

theorem reportWriteDone {u : UnitOf} {sl : SheetSlot} {ok : Bool} (h : exec (.reportWriteDone u sl ok) s = .next t) :
    OutsideChain s t := by
  refine of_next h ?_
  split
  · exact finishDiscarded s _
  · split
    · dsimp only
      split <;> exact of_told (State.letGo_unblocked _ (.inl (by simp))) (by simp)
    · exact refl s

/-! ### The register window, the hold and retirement's start -/

theorem eventsWrite {v : BitVec 9} (h : exec (.eventsWrite v) s = .next t) : OutsideChain s t := of_next h (of_kept (by simp))

theorem checkLogClear (h : exec .checkLogClear s = .next t) : OutsideChain s t := of_next h (of_kept (by simp))

theorem poisonSelect {v : BitVec 2} (h : exec (.poisonSelect v) s = .next t) : OutsideChain s t := of_next h (of_kept (by simp))

theorem windowTimerExpiry (h : exec .windowTimerExpiry s = .next t) : OutsideChain s t := by
  refine of_next h ?_
  split
  · exact of_kept (by simp)
  · exact refl s

theorem retireStart (h : exec .retireStart s = .next t) : OutsideChain s t := by
  refine of_next h ?_
  split
  · split
    · exact of_kept (by simp)
    · exact refl s
  · exact refl s

/-- Every command outside the order chain has such an effect. -/
theorem exec {c : Instr} (hc : outsideChain c = true) (hx : Machine.exec c s = .next t) : OutsideChain s t := by
  cases c with
  | eventsWrite v => exact eventsWrite hx
  | checkLogClear => exact checkLogClear hx
  | poisonSelect v => exact poisonSelect hx
  | profileBlockReadStart => exact profileBlockReadStart hx
  | profileBlockReadDone u r => exact profileBlockReadDone hx
  | glyphUnitStart => exact glyphUnitStart hx
  | glyphUnitDone u r => exact glyphUnitDone hx
  | ticketReadStart => exact ticketReadStart hx
  | ticketReadDone u r => exact ticketReadDone hx
  | layoutReadStart => exact layoutReadStart hx
  | layoutReadDone u r => exact layoutReadDone hx
  | rosterReadStart => exact rosterReadStart hx
  | rosterReadDone u r => exact rosterReadDone hx
  | subjectReadStart => exact subjectReadStart hx
  | subjectReadDone u r => exact subjectReadDone hx
  | bannerTextReadStart => exact bannerTextReadStart hx
  | bannerTextReadDone u r => exact bannerTextReadDone hx
  | buildStart => exact buildStart hx
  | buildComplete => exact buildComplete hx
  | buildFailure => exact buildFailure hx
  | sheetEnterComposing => exact sheetEnterComposing hx
  | bandPaintDone => exact bandPaintDone hx
  | correctableError loc rd => exact correctableError hx
  | uncorrectableError loc rd n => exact uncorrectableError hx
  | readyRise => exact readyRise hx
  | readyFall => exact readyFall hx
  | waitTimerExpiry => exact waitTimerExpiry hx
  | accept i => exact accept hx
  | acceptTimerExpiry => exact acceptTimerExpiry hx
  | bandTimerExpiry => exact bandTimerExpiry hx
  | graceTimerExpiry => exact graceTimerExpiry hx
  | bandSendDone => exact bandSendDone hx
  | result i code => exact result hx
  | resultTimerExpiry => exact resultTimerExpiry hx
  | bandWriteStart => exact bandWriteStart hx
  | bandWriteDone u n => exact bandWriteDone hx
  | bandWriteFail u rows => exact bandWriteFail hx
  | reportWriteStart sl => exact reportWriteStart hx
  | reportWriteDone u sl ok => exact reportWriteDone hx
  | retireStart => exact retireStart hx
  | windowTimerExpiry => exact windowTimerExpiry hx
  | sourceReadDone u r last => exact sourceReadDone hx
  | _ => exact absurd hc Bool.false_ne_true

end OutsideChain
end Sys2Proof.Machine
end

section
/-! Every command keeps the walker in agreement with the engine and with its own unit: the commands of the order chain, of the
register window and of retirement, one lemma each, and the invariant. -/

namespace Sys2Proof.Machine

namespace State.WalkerFormed

variable {s t : State}

theorem outside (h : s.WalkerFormed) (ho : OutsideChain s t) : t.WalkerFormed := h.of_unblocked ho.walker ho.engine

/-- A command that answers a state in order. -/
theorem of_next {t' : State} (h : Host.Outcome.next t' = (.next t : Out)) (h' : t'.WalkerFormed) : t.WalkerFormed := by
  injection h with h
  exact h ▸ h'

/-- The engine's state where the walker works on with no result to discard. -/
theorem running_of_read (h : s.WalkerFormed) (hr : s.walker.unit.isRead = true) (hd : s.walker.unit.isDiscarded = false) :
    s.control.engine = .running ∧ s.walker.state = .seeking ∧ s.walker.window = [] := by
  unfold State.WalkerFormed at h
  generalize s.walker.unit = u at *
  generalize s.walker.state = st at *
  generalize s.walker.window = w at *
  cases h with
  | reads he _ => exact ⟨he, rfl, rfl⟩
  | drainReads _ _ hd' => simp [hd] at hd'
  | faulted _ hd' => simp [hd] at hd'
  | stopped | seeking | idle | taking | blocked | takes | drainTakes => simp [WalkerUnit.isRead] at hr

theorem of_read (h : s.WalkerFormed) (hr : s.walker.unit.isRead = true) : s.walker.window = [] ∧
    ((s.control.engine = .running ∧ s.walker.state = .seeking) ∨ s.control.engine = .draining ∨
      (s.control.engine = .faulted ∧ s.walker.state = .faulted)) := by
  unfold State.WalkerFormed at h
  generalize s.walker.unit = u at *
  generalize s.walker.state = st at *
  generalize s.walker.window = w at *
  cases h with
  | reads he _ => exact ⟨rfl, .inl ⟨he, rfl⟩⟩
  | drainReads he _ _ => exact ⟨rfl, .inr (.inl he)⟩
  | faulted he _ => exact ⟨rfl, .inr (.inr ⟨he, rfl⟩)⟩
  | stopped | seeking | idle | taking | blocked | takes | drainTakes => simp [WalkerUnit.isRead] at hr

/-- A take that a fault has not discarded is in flight in TAKING, in RUNNING or, with the window discarded, in DRAINING. -/
theorem of_take {r : OrderRecord} {sl : Option SheetSlot} (h : s.WalkerFormed) (hu : s.walker.unit = .taken r sl false) :
    s.walker.state = .taking ∧
      (s.control.engine = .running ∨ (s.control.engine = .draining ∧ s.walker.window = [])) := by
  unfold State.WalkerFormed at h
  rw [hu] at h
  generalize s.walker.state = st at *
  generalize s.walker.window = w at *
  cases h with
  | takes he => exact ⟨rfl, .inl he⟩
  | drainTakes he => exact ⟨rfl, .inr ⟨he, rfl⟩⟩
  | faulted _ hd => simp [WalkerUnit.isDiscarded] at hd
  | reads _ hr | drainReads _ hr _ => simp [WalkerUnit.isRead] at hr

theorem of_discardedTake {r : OrderRecord} {sl : Option SheetSlot} (h : s.WalkerFormed)
    (hu : s.walker.unit = .taken r sl true) :
    s.control.engine = .faulted ∧ s.walker.state = .faulted ∧ s.walker.window = [] := by
  unfold State.WalkerFormed at h
  rw [hu] at h
  generalize s.walker.state = st at *
  generalize s.walker.window = w at *
  cases h with
  | faulted he _ => exact ⟨he, rfl, rfl⟩
  | reads _ hr | drainReads _ hr _ => simp [WalkerUnit.isRead] at hr

/-- A unit that ends in a FAULTED engine leaves the walker FAULTED (R24). -/
theorem faulted_ends (he : s.control.engine = .faulted) (hs : s.walker.state = .faulted) (hw : s.walker.window = []) :
    s.endWalkerUnit.WalkerFormed := by
  simpa [State.WalkerFormed, he, hs, hw] using WalkerForm.faulted rfl rfl

/-- A bus error at the end of a unit of the walker: a fault, or, in FAULTED, the end of the unit. -/
theorem unit_fails (h : s.WalkerFormed) (hu : s.walker.unit ≠ .none) (c : FaultCause) (a : Addr) :
    (s.endWalkerUnit.engineFaults c a).WalkerFormed := by
  refine engineFaults c a fun hr hd => ?_
  simp only [State.endWalkerUnit_frame] at hr hd
  unfold State.WalkerFormed at h
  generalize hx : s.walker.unit = u at *
  generalize hs : s.walker.state = st at *
  generalize hw : s.walker.window = w at *
  cases h with
  | faulted he _ => exact faulted_ends he hs hw
  | reads he | takes he => exact absurd he hr
  | drainReads he | drainTakes he => exact absurd he hd
  | stopped | seeking | idle | taking | blocked => exact absurd rfl hu

/-- A read whose result is discarded ends (R20, R24). -/
theorem discardedRead_ends (h : s.WalkerFormed) (hr : s.walker.unit.isRead = true) :
    s.endWalkerUnit.walkerRests.WalkerFormed := by
  obtain ⟨hw, he⟩ := h.of_read hr
  refine walkerRests (fun _ => ⟨by simp, by simpa using hw⟩) fun hd => ?_
  rcases he with ⟨he, hs⟩ | he | ⟨he, hs⟩
  · simpa [State.WalkerFormed, he, hs, hw] using WalkerForm.seeking rfl
  · exact absurd (by simpa using he) hd
  · exact faulted_ends he hs hw

/-- A walker without a unit that seeks or takes does so in RUNNING alone (section 1.2). -/
theorem of_atWork (h : s.WalkerFormed) (hu : s.walker.unit = .none)
    (hs : s.walker.state = .seeking ∨ s.walker.state = .taking) : s.control.engine = .running := by
  unfold State.WalkerFormed at h
  rw [hu] at h
  generalize s.walker.state = st at *
  generalize s.walker.window = w at *
  cases h with
  | seeking he | taking he => exact he
  | stopped | idle | blocked | faulted => simp at hs
  | reads _ hr | drainReads _ hr _ => simp [WalkerUnit.isRead] at hr

/-! ### Record and trailer reads -/

/-- A read that starts: the walker SEEKING with its window empty (R7, R8). -/
theorem read_starts {u : WalkerUnit} {n : Nat} (h : s.WalkerFormed) (hs : s.walker.state = .seeking)
    (hw : s.walker.window = []) (hu : s.walker.unit = .none) (hr : u.isRead = true) :
    (s.setWalker { s.walker with unit := u, readLimit := n }).beginUnit.WalkerFormed := by
  simpa [State.WalkerFormed, hs, hw, h.of_atWork hu (.inl hs)] using WalkerForm.reads rfl hr

theorem recordReadStart (h : s.WalkerFormed) (hx : exec .recordReadStart s = .next t) : t.WalkerFormed := by
  refine of_next hx ?_
  split
  · split
    · rename_i hc
      obtain ⟨hs, hw, hu, -⟩ := hc
      exact h.read_starts hs hw hu rfl
    · exact h
  · exact h

theorem trailerReadStart (h : s.WalkerFormed) (hx : exec .trailerReadStart s = .next t) : t.WalkerFormed := by
  refine of_next hx ?_
  split
  · split
    · rename_i hc
      obtain ⟨hs, hw, hu, -⟩ := hc
      exact h.read_starts hs hw hu rfl
    · exact h
  · exact h

theorem recordReadDone {u : UnitOf} {r : ReadResult} (h : s.WalkerFormed) (hx : exec (.recordReadDone u r) s = .next t) :
    t.WalkerFormed := by
  refine of_next hx ?_
  split
  · exact h.outside (.finishDiscarded s _)
  · split
    · rename_i n d f i hu hc
      have hr : s.walker.unit.isRead = true := by rw [hu]; rfl
      split
      · exact h.unit_fails (by simp [hu]) _ _
      · split
        · split
          · exact h.discardedRead_ends hr
          · rename_i hd
            obtain ⟨he, -, -⟩ := h.running_of_read hr (by simpa [hu, WalkerUnit.isDiscarded] using hd)
            unfold State.afterRecords
            split
            · exact arriveIdle (by simpa using he) (by simp [State.placeRecords]) ‹_›
            · exact walkOn (by simpa using he) (by simp [State.placeRecords])
        · exact h
    · exact h

theorem trailerReadDone {u : UnitOf} {r : ReadResult} (h : s.WalkerFormed) (hx : exec (.trailerReadDone u r) s = .next t) :
    t.WalkerFormed := by
  refine of_next hx ?_
  split
  · exact h.outside (.finishDiscarded s _)
  · split
    · rename_i d f hu hc
      have hr : s.walker.unit.isRead = true := by rw [hu]; rfl
      split
      · exact h.unit_fails (by simp [hu]) _ _
      · split
        · split
          · exact h.discardedRead_ends hr
          · rename_i hd
            obtain ⟨he, -, hw⟩ := h.running_of_read hr (by simpa [hu, WalkerUnit.isDiscarded] using hd)
            unfold State.followNext
            split
            · exact arriveIdle (by simpa using he) (by simp) (by simpa using hw)
            · split
              · exact engineFaults _ _ fun hn => absurd (by simpa using he) hn
              · unfold State.leaveFolio
                split <;> simpa [State.WalkerFormed, he, hw] using WalkerForm.seeking rfl
        · exact h
    · exact h

/-! ### Takes -/

theorem takeStart (h : s.WalkerFormed) (hx : exec .takeStart s = .next t) : t.WalkerFormed := by
  refine of_next hx ?_
  split
  · rename_i r rest _
    split
    · rename_i hc
      obtain ⟨hs, hu, -, -⟩ := hc
      simpa [State.WalkerFormed, hs, h.of_atWork hu (.inr hs)] using WalkerForm.takes rfl r _ rest
    · exact h
  · exact h

theorem takenWriteDone {u : UnitOf} {ok : Bool} (h : s.WalkerFormed) (hx : exec (.takenWriteDone u ok) s = .next t) :
    t.WalkerFormed := by
  refine of_next hx ?_
  split
  · exact h.outside (.finishDiscarded s _)
  · split
    · rename_i r sl d hu
      split
      · rename_i hd
        obtain ⟨he, hs, hw⟩ := h.of_discardedTake (hd ▸ hu)
        exact faulted_ends he hs hw
      · rename_i hd
        obtain ⟨hs, he⟩ := h.of_take (by simpa [hd] using hu)
        split
        · have hk : (s.endWalkerUnit.startOrder r sl).walker = s.endWalkerUnit.walker := by
            rcases State.startOrder_unblocked r sl (.refl s.endWalkerUnit.walker) with hk | ⟨hb, -, -⟩
            · exact hk
            · simp [hs] at hb
          unfold State.afterTake
          rcases he with he | ⟨he, hw⟩
          · rw [if_pos (by simpa using he)]
            exact walkOn (by simpa using he) (by simp [hk])
          · rw [if_neg (by simp [he])]
            exact walkerRests (fun _ => by simp [hk, hw]) fun hn => absurd (by simpa using he) hn
        · exact h.unit_fails (by simp [hu]) _ _
    · exact h

/-! ### Sweeps and wakes -/

theorem sweepExpiry (h : s.WalkerFormed) (hx : exec .sweepExpiry s = .next t) : t.WalkerFormed := by
  refine of_next hx ?_
  split
  · rename_i hc
    obtain ⟨he, hu, hw⟩ := h.of_idle hc.1
    exact seekFromIdle (by simpa using he) (by simpa using hu) (by simpa using hw)
  · exact h

theorem wakeUp (h : s.WalkerFormed) : s.wakeUp.WalkerFormed := by
  unfold State.wakeUp
  split
  · obtain ⟨he, hu, hw⟩ := h.of_idle ‹_›
    exact seekFromIdle he hu hw
  · exact h

/-! ### Retirement and SPENT writes -/

theorem resultsWriteDone {u : UnitOf} {ok : Bool} (h : s.WalkerFormed) (hx : exec (.resultsWriteDone u ok) s = .next t) :
    t.WalkerFormed := by
  refine of_next hx ?_
  split
  · exact h.outside (.finishDiscarded s _)
  · split
    · split
      · exact h.of_same (by simp) (by simp)
      · split
        · exact h.of_same (by simp) (by simp)
        · exact engineFaults _ _ fun _ _ => h.of_same (by simp) (by simp)
    · exact h

theorem retireHead (h : s.WalkerFormed) (e : QueueEntry) (rest : List QueueEntry) :
    (s.retireHead e rest).WalkerFormed := by
  have unblock {u : State} (hu : u.WalkerFormed) : u.unblock.idleIfEmpty.WalkerFormed :=
    hu.of_unblocked (by simpa using State.unblock_unblocked (.refl u.walker)) (by simp)
  unfold State.retireHead
  refine stopIfDrained (unblock ?_)
  unfold State.WalkerFormed
  dsimp only
  split <;> simpa using h

theorem doneWriteDone {u : UnitOf} {ok : Bool} (h : s.WalkerFormed) (hx : exec (.doneWriteDone u ok) s = .next t) :
    t.WalkerFormed := by
  refine of_next hx ?_
  split
  · exact h.outside (.finishDiscarded s _)
  · split
    · have h1 : (s.setRetire .none).endUnit.WalkerFormed := h.of_same (by simp) (by simp)
      dsimp only
      split
      · exact h1.retireHead _ _
      · exact engineFaults _ _ fun _ _ => h1
    · exact h

theorem spentWriteStart (h : s.WalkerFormed) (hx : exec .spentWriteStart s = .next t) : t.WalkerFormed := by
  refine of_next hx ?_
  split
  · split
    · simpa [State.WalkerFormed] using h
    · exact h
  · exact h

theorem spentWriteDone {u : UnitOf} {ok : Bool} (h : s.WalkerFormed) (hx : exec (.spentWriteDone u ok) s = .next t) :
    t.WalkerFormed := by
  refine of_next hx ?_
  split
  · exact h.outside (.finishDiscarded s _)
  · split
    · have h1 : (s.setWalker { s.walker with spentInFlight := none }).endUnit.WalkerFormed := by
        simpa [State.WalkerFormed] using h
      dsimp only
      split
      · exact h1.stopIfDrained
      · exact engineFaults _ _ fun _ _ => h1
    · exact h

/-! ### Power-on, engine reset and the scrub -/

theorem powerOn (hx : exec .powerOn s = .next t) : t.WalkerFormed := of_next hx (.stopped (.inr (.inl rfl)))

theorem engineReset (s : State) : s.engineReset.WalkerFormed := by
  refine WalkerForm.stopped ?_
  simp only [State.engineReset]
  split <;> simp

theorem scrubEnd (h : s.WalkerFormed) (hx : exec .scrubEnd s = .next t) : t.WalkerFormed := by
  refine of_next hx ?_
  split
  · have hs := h.of_engineStopped (.inr ‹_›)
    obtain ⟨hu, hw⟩ := h.of_stopped hs
    exact engineStops (by simpa using hs) (by simpa using hu) (by simpa using hw)
  · exact h

/-! ### RUN, ABANDON and the fields of CONTROL -/

theorem writeRunOne (h : s.WalkerFormed) : s.writeRunOne.WalkerFormed := by
  unfold State.writeRunOne
  dsimp only
  split
  · obtain ⟨hu, hw⟩ := h.of_stopped (h.of_engineStopped (.inl ‹_›))
    exact startEngine hu hw
  · exact h

theorem writeRunZero (h : s.WalkerFormed) : s.writeRunZero.WalkerFormed := by
  unfold State.writeRunZero
  dsimp only
  split
  · exact stopIfDrained (h.drainWalker (.inl ‹_›) (by simp) (by simp))
  · exact h

theorem writeAbandon (h : s.WalkerFormed) : s.writeAbandon.WalkerFormed := by
  unfold State.writeAbandon
  split
  · rename_i ha
    dsimp only
    split
    · exact h
    · refine stopIfDrained (abandonOrders (h.drainWalker ?_ (by simp) (by simp)))
      cases he : s.control.engine <;> simp_all [State.abandonActs]
  · exact h

theorem writeDepth (h : s.WalkerFormed) (v : Nat) : (s.writeDepth v).WalkerFormed := by
  unfold State.writeDepth
  dsimp only
  split
  · exact h
  · rename_i hv
    have hne : ∀ {w : List OrderRecord}, w ≠ [] → w.take v ≠ [] := by
      intro w hw
      simp [List.take_eq_nil_iff, hw]
      omega
    unfold State.WalkerFormed at *
    simp only [State.setWalker_control, State.setWindow_control, State.setWalker_walker]
    generalize s.walker.unit = u at *
    generalize s.walker.state = st at *
    generalize s.walker.window = w at *
    cases h with
    | stopped he => simpa using WalkerForm.stopped he
    | seeking he => simpa using WalkerForm.seeking he
    | idle he => simpa using WalkerForm.idle he
    | taking he hw => exact .taking he (hne hw)
    | blocked he hw => exact .blocked he (hne hw)
    | reads he hu => simpa using WalkerForm.reads he hu
    | takes he r sl => exact .takes he r sl _
    | drainReads he hu hd => simpa using WalkerForm.drainReads he hu hd
    | drainTakes he r sl => simpa using WalkerForm.drainTakes he r sl
    | faulted he hd => simpa using WalkerForm.faulted he hd

theorem writePressMode (h : s.WalkerFormed) (v : Nat) : (s.writePressMode v).WalkerFormed :=
  h.of_same (by simp) (by simp)

theorem writeSweepPreset (h : s.WalkerFormed) (v : BitVec 16) : (s.writeSweepPreset v).WalkerFormed := by
  simpa [State.WalkerFormed] using h

theorem writeChainHead (h : s.WalkerFormed) (v : Addr) : (s.writeChainHead v).WalkerFormed :=
  h.of_same (by simp) (by simp)

theorem requestHold (h : s.WalkerFormed) (k : BitVec 3) (p : Bool) : (s.requestHold k p).WalkerFormed :=
  h.of_same (by simp) (by simp)

theorem releaseHold (h : s.WalkerFormed) (k : BitVec 3) (p : Bool) : (s.releaseHold k p).WalkerFormed :=
  h.of_same (by simp) (by simp)

theorem writeControl (h : s.WalkerFormed) (v : BitVec 32) : (s.writeControl v).WalkerFormed := by
  unfold State.writeControl
  dsimp only
  split
  · exact engineReset s
  · split
    · exact (h.writeAbandon.writeDepth _ |>.writePressMode _).writeSweepPreset _
    · split
      · exact (h.writeDepth _ |>.writePressMode _ |>.writeSweepPreset _).writeRunOne
      · exact (h.writeDepth _ |>.writePressMode _ |>.writeSweepPreset _).writeRunZero

theorem writeHalf (h : s.WalkerFormed) (i : Nat) (high : Bool) (v : BitVec 32) : (s.writeHalf i high v).WalkerFormed := by
  unfold State.writeHalf
  split
  · exact h.writeChainHead _
  · exact h.writeControl _
  · exact h.wakeUp
  · exact h.of_same (by simp) (by simp)
  · exact h.of_same (by simp) (by simp)
  · unfold State.writeHold
    dsimp only
    split
    · exact h.requestHold _ _
    · exact h.releaseHold _ _
  · unfold State.writeCheckLog
    dsimp only
    split <;> exact h.of_same (by simp) (by simp)
  · exact h

theorem writeRegister (h : s.WalkerFormed) (o n : Nat) (v : BitVec 64) : (s.writeRegister o n v).WalkerFormed := by
  unfold State.writeRegister
  split
  · unfold State.writeWhole
    split
    · exact h.writeChainHead _
    · exact h.wakeUp
    · exact h.writeHalf _ _ _
  · split
    · exact h.writeHalf _ _ _
    · exact h

/-! ### The invariant -/

/-- Every command takes a walker in one of its forms to another. -/
theorem exec {c : Instr} (h : s.WalkerFormed) (hx : exec c s = .next t) : t.WalkerFormed := by
  cases c with
  | powerOn => exact powerOn hx
  | scrubEnd => exact h.scrubEnd hx
  | functionReset => exact of_next hx (engineReset s)
  | reset => exact of_next hx (engineReset s)
  | runStart => exact of_next hx h.writeRunOne
  | runDrain => exact of_next hx h.writeRunZero
  | abandon => exact of_next hx h.writeAbandon
  | depthWrite v => exact of_next hx (h.writeDepth _)
  | pressModeWrite v => exact of_next hx (h.writePressMode _)
  | sweepPresetWrite v => exact of_next hx (h.writeSweepPreset _)
  | chainHeadWrite v => exact of_next hx (h.writeChainHead _)
  | wake v => exact of_next hx h.wakeUp
  | enablesWrite v => exact of_next hx (h.of_same (by simp) (by simp))
  | holdRequest k p => exact of_next hx (h.requestHold k p)
  | holdRelease k p => exact of_next hx (h.releaseHold k p)
  | registerWrite o n v => exact of_next hx (h.writeRegister o n v)
  | sweepExpiry => exact h.sweepExpiry hx
  | recordReadStart => exact h.recordReadStart hx
  | recordReadDone u r => exact h.recordReadDone hx
  | trailerReadStart => exact h.trailerReadStart hx
  | trailerReadDone u r => exact h.trailerReadDone hx
  | takeStart => exact h.takeStart hx
  | takenWriteDone u ok => exact h.takenWriteDone hx
  | resultsWriteDone u ok => exact h.resultsWriteDone hx
  | doneWriteDone u ok => exact h.doneWriteDone hx
  | spentWriteStart => exact h.spentWriteStart hx
  | spentWriteDone u ok => exact h.spentWriteDone hx
  | _ => exact h.outside (.exec rfl hx)

end State.WalkerFormed

/-- Settles O5: the walker's forms are kept by every command, and an idle step changes nothing. -/
theorem stepKeepsWalker : Obligations.StepKeepsWalker := by
  intro s t h hx
  unfold step at hx
  split at hx
  · injection hx with hx
    exact hx ▸ h
  · rename_i c rest _
    have h' : (s.setPending rest).WalkerFormed := h.form.of_same rfl rfl
    exact (h'.exec hx).walkerOk

end Sys2Proof.Machine
end

section
/-! The fields that the server writes: only its own writes, and power-on, change them (R5, R6, R17, R164, R190, R210). -/

namespace Sys2Proof.Machine

namespace State

/-- A command that answers a state with the server's fields as they were. -/
theorem serverFields_of_next {s t t' : State} (h : Host.Outcome.next t' = (.next t : Out))
    (h' : t'.serverFields = s.serverFields) : t.serverFields = s.serverFields := by
  injection h with h
  exact h ▸ h'

theorem engineReset_serverFields (s : State) : s.engineReset.serverFields = s.serverFields := rfl

end State

variable {s t : State}

theorem recordReadDone_serverFields {u : UnitOf} {r : ReadResult} (h : exec (.recordReadDone u r) s = .next t) :
    t.serverFields = s.serverFields := by
  refine State.serverFields_of_next h ?_
  split
  · simp
  · split
    · split
      · simp
      · split
        · split <;> simp
        · rfl
    · rfl

theorem trailerReadDone_serverFields {u : UnitOf} {r : ReadResult} (h : exec (.trailerReadDone u r) s = .next t) :
    t.serverFields = s.serverFields := by
  refine State.serverFields_of_next h ?_
  split
  · simp
  · split
    · split
      · simp
      · split
        · split <;> simp
        · rfl
    · rfl

theorem takenWriteDone_serverFields {u : UnitOf} {ok : Bool} (h : exec (.takenWriteDone u ok) s = .next t) :
    t.serverFields = s.serverFields := by
  refine State.serverFields_of_next h ?_
  split
  · simp
  · split
    · split
      · simp
      · split <;> simp
    · rfl

theorem resultsWriteDone_serverFields {u : UnitOf} {ok : Bool} (h : exec (.resultsWriteDone u ok) s = .next t) :
    t.serverFields = s.serverFields := by
  refine State.serverFields_of_next h ?_
  split
  · simp
  · split
    · split
      · simp
      · split <;> simp
    · rfl

theorem doneWriteDone_serverFields {u : UnitOf} {ok : Bool} (h : exec (.doneWriteDone u ok) s = .next t) :
    t.serverFields = s.serverFields := by
  refine State.serverFields_of_next h ?_
  split
  · simp
  · split
    · dsimp only
      split <;> simp
    · rfl

theorem spentWriteDone_serverFields {u : UnitOf} {ok : Bool} (h : exec (.spentWriteDone u ok) s = .next t) :
    t.serverFields = s.serverFields := by
  refine State.serverFields_of_next h ?_
  split
  · simp
  · split
    · dsimp only
      split <;> simp
    · rfl

/-- The starts of the order chain and the sweep timer's expiry leave the server's fields alone. -/
theorem chainStart_serverFields {c : Instr} (hx : exec c s = .next t) (hc : c = .recordReadStart ∨ c = .trailerReadStart ∨
    c = .takeStart ∨ c = .spentWriteStart ∨ c = .sweepExpiry) : t.serverFields = s.serverFields := by
  rcases hc with rfl | rfl | rfl | rfl | rfl <;> refine State.serverFields_of_next hx ?_
  · split
    · split <;> rfl
    · rfl
  · split
    · split <;> rfl
    · rfl
  · split
    · split <;> rfl
    · rfl
  · split
    · split <;> rfl
    · rfl
  · split
    · simp
    · rfl

/-- Settles O11: outside power-on and the writes of whole registers, a command changes no field of the server's, or it is
the server's write of one field and changes no other. -/
theorem serverFieldsKept : Obligations.ServerFieldsKept := by
  intro c s t hx hp hr
  have whole (h : t.serverFields = s.serverFields) :
      t.window.chainHead = s.window.chainHead ∧ t.window.depth = s.window.depth ∧
      t.window.pressMode = s.window.pressMode ∧ t.window.sweepPreset = s.window.sweepPreset ∧
      t.window.enables = s.window.enables ∧ t.port.windowCode = s.port.windowCode ∧
      t.port.pressFirst = s.port.pressFirst := by
    simpa [State.serverFields] using h
  suffices h : t.serverFields = s.serverFields ∨
      (∃ v, c = .chainHeadWrite v) ∨ (∃ v, c = .depthWrite v) ∨ (∃ v, c = .pressModeWrite v) ∨
      (∃ v, c = .sweepPresetWrite v) ∨ (∃ v, c = .enablesWrite v) ∨ (∃ k p, c = .holdRequest k p) ∨
      ∃ k p, c = .holdRelease k p by
    rcases h with h | ⟨v, rfl⟩ | ⟨v, rfl⟩ | ⟨v, rfl⟩ | ⟨v, rfl⟩ | ⟨v, rfl⟩ | ⟨k, p, rfl⟩ | ⟨k, p, rfl⟩
    · obtain ⟨h1, h2, h3, h4, h5, h6, h7⟩ := whole h
      exact ⟨fun _ => h1, fun _ => h2, fun _ => h3, fun _ => h4, fun _ => h5, fun _ _ => ⟨h6, h7⟩⟩
    all_goals
      injection hx with hx
      subst hx
      simp
  cases c with
  | powerOn => exact absurd rfl hp
  | registerWrite o n v => exact absurd rfl (hr o n v)
  | scrubEnd =>
    refine .inl (State.serverFields_of_next hx ?_)
    split
    · simp
    · rfl
  | functionReset => exact .inl (State.serverFields_of_next hx s.engineReset_serverFields)
  | reset => exact .inl (State.serverFields_of_next hx s.engineReset_serverFields)
  | runStart => exact .inl (State.serverFields_of_next hx (by simp))
  | runDrain => exact .inl (State.serverFields_of_next hx (by simp))
  | abandon => exact .inl (State.serverFields_of_next hx (by simp))
  | wake v => exact .inl (State.serverFields_of_next hx (by simp))
  | depthWrite v => exact .inr (by simp)
  | pressModeWrite v => exact .inr (by simp)
  | sweepPresetWrite v => exact .inr (by simp)
  | chainHeadWrite v => exact .inr (by simp)
  | enablesWrite v => exact .inr (by simp)
  | holdRequest k p => exact .inr (by simp)
  | holdRelease k p => exact .inr (by simp)
  | sweepExpiry => exact .inl (chainStart_serverFields hx (by simp))
  | recordReadStart => exact .inl (chainStart_serverFields hx (by simp))
  | trailerReadStart => exact .inl (chainStart_serverFields hx (by simp))
  | takeStart => exact .inl (chainStart_serverFields hx (by simp))
  | spentWriteStart => exact .inl (chainStart_serverFields hx (by simp))
  | recordReadDone u r => exact .inl (recordReadDone_serverFields hx)
  | trailerReadDone u r => exact .inl (trailerReadDone_serverFields hx)
  | takenWriteDone u ok => exact .inl (takenWriteDone_serverFields hx)
  | resultsWriteDone u ok => exact .inl (resultsWriteDone_serverFields hx)
  | doneWriteDone u ok => exact .inl (doneWriteDone_serverFields hx)
  | spentWriteDone u ok => exact .inl (spentWriteDone_serverFields hx)
  | _ => exact .inl (OutsideChain.exec rfl hx).fields

end Sys2Proof.Machine
end

section
/-! What the moves of the order chain give: units that end, the walker's arrival at IDLE, the depth, the sweep timer, and the
starts of reads and takes (chapter 1, section 10.1). -/

namespace Sys2Proof.Machine

/-! ## Units that end (R189) -/

namespace State

theorem setWalker_endUnit (s : State) (w : Walker) : (s.setWalker w).endUnit = s.endUnit.setWalker w := by
  unfold endUnit
  dsimp only
  by_cases h : s.port.hold = .draining ∧ s.port.outstanding - 1 = 0
  · rw [if_pos (c := s.port.hold = _ ∧ _) h]
    exact if_pos h
  · rw [if_neg (c := s.port.hold = _ ∧ _) h]
    exact if_neg h

theorem setControl_endUnit (s : State) (c : Control) : (s.setControl c).endUnit = s.endUnit.setControl c := by
  unfold endUnit
  dsimp only
  by_cases h : s.port.hold = .draining ∧ s.port.outstanding - 1 = 0
  · rw [if_pos (c := s.port.hold = _ ∧ _) h]
    exact if_pos h
  · rw [if_neg (c := s.port.hold = _ ∧ _) h]
    exact if_neg h

/-- A unit of the walker that ends: the port's unit ends, and the walker has none (R189). -/
theorem endWalkerUnit_eq (s : State) : s.endWalkerUnit = s.endUnit.setWalker { s.walker with unit := .none } :=
  s.setWalker_endUnit _

theorem endWalkerUnit_port (s : State) : s.endWalkerUnit.port = s.endUnit.port := by simp [endWalkerUnit_eq]

/-- A unit that ends settles no hold when none is draining or it is not the last (R192). -/
theorem endUnit_quiet (s : State) (h : s.port.hold ≠ .draining ∨ 1 < s.port.outstanding) :
    s.endUnit = s.setPort { s.port with outstanding := s.port.outstanding - 1 } := by
  unfold endUnit
  dsimp only
  rw [if_neg (by rintro ⟨hd, hn⟩; rcases h with h | h <;> [exact h hd; omega])]

theorem hasEvent_endUnit (s : State) (e : Event) (he : e ≠ .holdSettled) : s.endUnit.hasEvent e = s.hasEvent e := by
  unfold endUnit
  dsimp only
  split
  · rw [hasEvent_raise, beq_false_of_ne he.symm, Bool.or_false]
    rfl
  · rfl

theorem hasEvent_endWalkerUnit (s : State) (e : Event) (he : e ≠ .holdSettled) :
    s.endWalkerUnit.hasEvent e = s.hasEvent e :=
  hasEvent_endUnit _ e he

theorem finishDiscarded_quiet (s : State) (u : DiscardedUnit) (hu : u ∈ s.port.discarded)
    (h : s.port.hold ≠ .draining ∨ 1 < s.port.outstanding) : s.finishDiscarded u =
      s.setPort { s.port with discarded := s.port.discarded.erase u, outstanding := s.port.outstanding - 1 } := by
  unfold finishDiscarded
  rw [if_pos hu, endUnit_quiet]
  · rfl
  · exact h

/-! ## Arriving at IDLE (R15, R18) -/

/-- The walker enters IDLE with no wake pending. -/
theorem enterIdle_entered (s : State) (h : s.walker.pendingWake = false) : IdleEntered s s.enterIdle where
  state := by simp
  wake := by simpa using h
  stopped := fun hp => by simp [hp]
  loaded := fun hp => by simp [hp]
  raised := fun hq => by
    unfold enterIdle
    dsimp only
    rw [if_pos hq, hasEvent_raise]
    simp
  kept := fun hq => by
    unfold enterIdle
    dsimp only
    rw [if_neg hq]
    rfl

end State

theorem IdleEntered.congr {s s' t : State} (h : IdleEntered s t) (h1 : s'.window.sweepPreset = s.window.sweepPreset)
    (h2 : s'.control.queue = s.control.queue) (h3 : s'.hasEvent .chainIdle = s.hasEvent .chainIdle) : IdleEntered s' t where
  state := h.state
  wake := h.wake
  stopped := h1 ▸ h.stopped
  loaded := h1 ▸ h.loaded
  raised := h2 ▸ h.raised
  kept := h2 ▸ h3 ▸ h.kept

theorem SeeksAgain.congr {s s' t : State} (h : SeeksAgain s t) (h1 : s'.walker.sweepTimer = s.walker.sweepTimer)
    (h2 : s'.walker.sweepRunning = s.walker.sweepRunning) (h3 : s'.hasEvent .chainIdle = s.hasEvent .chainIdle) :
    SeeksAgain s' t where
  state := h.state
  wake := h.wake
  timer := by rw [h1, h2]; exact h.timer
  kept := h3 ▸ h.kept

namespace State

/-- The walker arrives at IDLE and enters it: no wake is pending, or the cursor is cleared (R5, R15). -/
theorem arriveIdle_entered (s : State) (h : s.walker.pendingWake = false ∨ s.walker.cursor = none) :
    IdleEntered s s.arriveIdle := by
  unfold arriveIdle
  split
  · rename_i hp
    have hc : s.walker.cursor = none := by simpa [hp] using h
    rw [if_pos hc]
    exact (enterIdle_entered _ rfl).congr rfl rfl rfl
  · rename_i hp
    exact enterIdle_entered s (by simpa using hp)

/-- A pending wake with a cursor to seek at turns the arrival at IDLE into a new read (R15). -/
theorem arriveIdle_wakes (s : State) (h : s.walker.pendingWake = true) (hc : s.walker.cursor ≠ none) :
    s.arriveIdle = s.setWalker { s.walker with pendingWake := false, state := .seeking } := by
  simp [arriveIdle, h, hc]

theorem arriveIdle_seeksAgain (s : State) (h : s.walker.pendingWake = true) (hc : s.walker.cursor ≠ none) :
    SeeksAgain s s.arriveIdle := by
  rw [arriveIdle_wakes s h hc]
  exact ⟨rfl, rfl, ⟨rfl, rfl⟩, rfl⟩

end State

/-! ## The depth (R6) -/

/-- The cursor goes back to the folio and the slot that the oldest discarded entry was read from. -/
theorem cursorBack_cons (c : Option Cursor) (r : OrderRecord) (rest : List OrderRecord) (folio : Addr) (n : Fin 63)
    (hs : r.slot = n.val) (ha : r.addr = slotAddr folio n.val) : cursorBack c (r :: rest) = some ⟨folio, .slot n⟩ := by
  simp [cursorBack, hs, ha, slotAddr]

theorem State.writeDepth_accepted (s : State) (v : Nat) (h1 : 1 ≤ v) (h8 : v ≤ 8) : s.writeDepth v =
    (s.setWindow { s.window with depth := v }).setWalker { s.walker with
      window := s.walker.window.take v
      cursor := cursorBack s.walker.cursor (s.walker.window.drop v)
      readLimit := min s.walker.readLimit v } := by
  unfold State.writeDepth
  rw [if_neg (by simp [Config.maxDepth]; omega)]

theorem State.writeDepth_fits (s : State) (v : Nat) (h1 : 1 ≤ v) (h8 : v ≤ 8) (hw : s.walker.window.length ≤ v) :
    s.writeDepth v = (s.setWindow { s.window with depth := v }).setWalker
      { s.walker with readLimit := min s.walker.readLimit v } := by
  rw [writeDepth_accepted s v h1 h8, List.take_of_length_le hw, List.drop_of_length_le hw]
  rfl

/-- Settles O17, by the cases of the depth written: within the window's length, below it, and outside 1 to 8. -/
theorem depthWritten : Obligations.DepthWritten := by
  refine ⟨?_, ?_, ?_, ?_⟩
  · intro s v h1 h8 hw
    exact congrArg Host.Outcome.next (s.writeDepth_fits v.toNat h1 h8 hw)
  · intro s v kept rest r folio n h1 h8 hw hk hs ha
    have hx := s.writeDepth_accepted v.toNat h1 h8
    rw [hw, ← hk, List.take_left, List.drop_left, cursorBack_cons _ r rest folio n hs ha, hk] at hx
    exact congrArg Host.Outcome.next hx
  · intro s v w h1 hvw h8 hw hl
    refine ⟨s.writeDepth v.toNat, (s.writeDepth v.toNat).writeDepth w.toNat, rfl, rfl, ?_⟩
    rw [s.writeDepth_fits v.toNat h1 (by omega) (by simp [hw]), State.writeDepth_fits _ _ (by omega) h8 (by simp [hw])]
    simp
    omega
  · intro s v h
    refine congrArg Host.Outcome.next ?_
    unfold State.writeDepth
    rw [if_pos (by simp [Config.maxDepth]; omega)]

/-! ## Sweeps and wakes (R15 to R17) -/

/-- A wake or the timer's expiry in IDLE with a cursor: SEEKING with the timer stopped (R16, R17). -/
theorem State.seekFromIdle_cursor (s : State) (h : s.walker.cursor ≠ none) :
    s.seekFromIdle = s.setWalker { s.walker with state := .seeking, sweepRunning := false } := by
  simp [State.seekFromIdle, h]

/-- With the cursor cleared the walker comes back to IDLE without a read, entering it anew (R5). -/
theorem State.seekFromIdle_entered (s : State) (h : s.walker.cursor = none) : IdleEntered s s.seekFromIdle := by
  unfold State.seekFromIdle
  dsimp only
  rw [if_pos h]
  exact (State.arriveIdle_entered _ (.inr (by simpa using h))).congr rfl rfl rfl

theorem State.wakeUp_idle (s : State) (h : s.walker.state = .idle) : s.wakeUp = s.seekFromIdle := by
  simp [State.wakeUp, h]

/-- Settles O19: the cases of the preset written, of a wake and of the timer's expiry. -/
theorem sweepAndWake : Obligations.SweepAndWake := by
  refine ⟨?_, ?_, ?_, ?_, ?_, ?_, ?_, ?_⟩
  · intro s v hs hv
    refine congrArg Host.Outcome.next ?_
    unfold State.writeSweepPreset
    dsimp only
    rw [if_pos ⟨hs, hv⟩]
    by_cases h0 : v = 0#16
    · rw [if_pos h0, if_pos h0, h0]
      rfl
    · rw [if_neg h0, if_neg h0, beq_false_of_ne h0]
      rfl
  · intro s v h
    refine congrArg Host.Outcome.next ?_
    unfold State.writeSweepPreset
    dsimp only
    rw [if_neg (by rintro ⟨hs, hv⟩; exact h.elim (· hs) hv)]
    rfl
  · intro s v c hs hc
    exact congrArg Host.Outcome.next ((s.wakeUp_idle hs).trans (s.seekFromIdle_cursor (by simp [hc])))
  · intro s v hs
    exact congrArg Host.Outcome.next (if_neg hs)
  · intro s c hs hr hc
    refine congrArg Host.Outcome.next ?_
    rw [if_pos ⟨hs, hr⟩, State.seekFromIdle_cursor _ (by simp [hc])]
    rfl
  · intro s v hs hc
    have he := s.seekFromIdle_entered hc
    exact ⟨s.seekFromIdle, congrArg Host.Outcome.next (s.wakeUp_idle hs), he.state, by simpa using hc, by simp, by simp, he⟩
  · intro s hs hr hc
    let s1 := s.setWalker { s.walker with sweepTimer := s.window.sweepPreset.toNat }
    have he : IdleEntered s1 s1.seekFromIdle := s1.seekFromIdle_entered hc
    exact ⟨s1.seekFromIdle, congrArg Host.Outcome.next (if_pos ⟨hs, hr⟩), he.state, by simpa [s1] using hc, by simp [s1],
      by simp [s1], he.congr rfl rfl rfl⟩
  · intro s h
    exact congrArg Host.Outcome.next (if_neg (by rintro ⟨hs, hr⟩; rcases h with h | h <;> simp_all))

/-! ## Starts of reads and takes (R7, R8, R11) -/

/-- The unit a walker starts when it may: SEEKING with an empty window, no unit of its own and the hold FREE (R21, R189). -/
theorem State.holdFree_iff (s : State) : s.holdFree = true ↔ s.port.hold = .free := by simp [State.holdFree]

/-- The head can be taken into a sheet slot, or needs none (R11, R13). -/
theorem State.canTakeKind_of (s : State) (k : OrderKind) (slot : Option SheetSlot) (hq : s.control.queue.length < 16)
    (hu : s.walker.unit = .none) (hb : s.control.barrier = .none)
    (hk : (k = .sheet ∧ s.control.slotA = none ∧ slot = some .a) ∨
      (k = .sheet ∧ s.control.slotA ≠ none ∧ s.control.slotB = none ∧ slot = some .b) ∨
      (k.isBarrier = true ∧ s.control.slotA = none ∧ s.control.slotB = none ∧ slot = none) ∨
      ((k = .mark ∨ k = .skip ∨ k = .unknown) ∧ slot = none)) :
    s.canTakeKind k = true ∧ (if k = .sheet then s.freeSlotFor else none) = slot := by
  have room : decide (s.control.queue.length + s.walker.reserved < Config.retireCapacity) && !s.control.barrier.running := by
    simp [Walker.reserved, hu, hb, Barrier.running, Config.retireCapacity, hq]
  simp only [State.canTakeKind, room, Bool.true_and]
  rcases hk with ⟨rfl, ha, rfl⟩ | ⟨rfl, ha, hb, rfl⟩ | ⟨hk, ha, hb, rfl⟩ | ⟨hk, rfl⟩
  · simp [State.freeSlotFor, ha]
  · simp [State.freeSlotFor, ha, hb]
  · have hs : k ≠ .sheet := by rintro rfl; simp [OrderKind.isBarrier] at hk
    simp [hs, hk, ha, hb]
  · rcases hk with rfl | rfl | rfl <;> simp [OrderKind.isBarrier]

/-- Settles O23: each start by its conditions, and none of the three while the hold is not FREE. -/
theorem chainUnitsStart : Obligations.ChainUnitsStart := by
  refine ⟨?_, ?_, ?_, ?_⟩
  · intro s f n hc hs hw hu hf
    refine congrArg Host.Outcome.next ?_
    rw [hc]
    exact if_pos ⟨hs, hw, hu, s.holdFree_iff.2 hf⟩
  · intro s f hc hs hw hu hf
    refine congrArg Host.Outcome.next ?_
    rw [hc]
    exact if_pos ⟨hs, hw, hu, s.holdFree_iff.2 hf⟩
  · intro s r rest slot hw hs hu hf hq hb hk
    obtain ⟨ht, hslot⟩ := s.canTakeKind_of r.kind slot hq hu hb hk
    refine congrArg Host.Outcome.next ?_
    rw [hw]
    refine (if_pos ⟨hs, hu, ht, s.holdFree_iff.2 hf⟩).trans ?_
    rw [hslot]
    rfl
  · intro s hf
    have hn : ¬ s.holdFree = true := fun h => hf (s.holdFree_iff.1 h)
    refine ⟨congrArg Host.Outcome.next ?_, congrArg Host.Outcome.next ?_, congrArg Host.Outcome.next ?_⟩
    · split
      · exact if_neg fun h => hn h.2.2.2
      · rfl
    · split
      · exact if_neg fun h => hn h.2.2.2
      · rfl
    · split
      · exact if_neg fun h => hn h.2.2.2
      · rfl

/-! ## Discarded units (R25, R189) -/

/-- A unit that is discarded and ends quietly, in the terms of the whole state. -/
theorem State.finishDiscarded_next (s : State) (u : DiscardedUnit) (hu : u ∈ s.port.discarded)
    (h : s.port.hold ≠ .draining ∨ 1 < s.port.outstanding) : (.next (s.finishDiscarded u) : Out) = .next { s with
      port := { s.port with discarded := s.port.discarded.erase u, outstanding := s.port.outstanding - 1 } } :=
  congrArg Host.Outcome.next (s.finishDiscarded_quiet u hu h)

/-- The rows that reached server memory, row by row, also where more rows are answered for than the band has (R169). -/
theorem rowsReached_rows (ws : List ServerWrite) (ends : List Bool) : rowsReached ws ends =
    ((List.range ends.length).filter fun r => ends[r]? = some true).filterMap fun r => ws[r]? := by
  induction ends generalizing ws with
  | nil => simp [rowsReached]
  | cons e es ih =>
    cases ws with
    | nil => simp [rowsReached]
    | cons w ws =>
      have ih' := ih ws
      simp only [rowsReached] at ih'
      simp only [List.length_cons, List.range_succ_eq_map, List.filter_cons, List.filter_map, rowsReached,
        List.zip_cons_cons]
      cases e <;> simp [ih', List.filterMap_map, Function.comp_def]

theorem rowsReached_replicate (ws : List ServerWrite) (n : Nat) : rowsReached ws (List.replicate n true) = ws.take n := by
  induction n generalizing ws with
  | zero => simp [rowsReached]
  | succ n ih =>
    cases ws with
    | nil => simp [rowsReached]
    | cons w ws => simpa [rowsReached, List.replicate_succ] using ih ws

/-- The oldest discarded band write ends, where all that are discarded name the same rows (R170). -/
theorem State.finishDiscardedBand_quiet (s : State) (ws : List ServerWrite) (ends : List Bool)
    (hm : .bandWrite ws ∈ s.port.discarded) (hall : ∀ ws', .bandWrite ws' ∈ s.port.discarded → ws' = ws)
    (h : s.port.hold ≠ .draining ∨ 1 < s.port.outstanding) : s.finishDiscardedBand ends =
      (s.writeServerAll (rowsReached ws ends)).setPort { s.port with
        discarded := s.port.discarded.erase (.bandWrite ws), outstanding := s.port.outstanding - 1 } := by
  unfold State.finishDiscardedBand
  split
  · rename_i ws' hf
    obtain rfl := hall ws' (List.mem_of_find?_eq_some hf)
    exact State.finishDiscarded_quiet _ _ hm h
  · rename_i x hn
    exfalso
    generalize hf : List.find? _ s.port.discarded = o at hn
    cases o with
    | none => simpa using List.find?_eq_none.1 hf _ hm
    | some u =>
      have hb := List.find?_some hf
      cases u <;> simp at hb
      exact hn _ rfl

/-- Settles O57: each completion of a discarded unit is `finishDiscarded`, and of a band write `finishDiscardedBand`. -/
theorem discardedUnitsEnd : Obligations.DiscardedUnitsEnd := by
  refine ⟨?_, ?_⟩
  · intro s u c hu h hc
    have hf := s.finishDiscarded_next u hu h
    rcases hc with ⟨r, hc⟩ | ⟨ok, hc⟩
    · rcases hc with ⟨rfl, rfl⟩ | ⟨rfl, rfl⟩ | ⟨rfl, rfl⟩ | ⟨rfl, rfl⟩ | ⟨rfl, rfl⟩ | ⟨rfl, rfl⟩ | ⟨rfl, rfl⟩ | ⟨rfl, rfl⟩ |
        ⟨rfl, rfl⟩ | ⟨rfl, rfl⟩ <;> exact hf
    · rcases hc with ⟨rfl, rfl⟩ | ⟨rfl, rfl⟩ | ⟨rfl, rfl⟩ | ⟨rfl, rfl⟩ | ⟨sl, rfl, rfl⟩ <;> exact hf
  · intro s ws rows ends hm hall h
    refine ⟨congrArg Host.Outcome.next ?_, congrArg Host.Outcome.next ?_⟩
    · rw [s.finishDiscardedBand_quiet ws _ hm hall h, rowsReached_replicate]
      rfl
    · rw [s.finishDiscardedBand_quiet ws _ hm hall h, rowsReached_rows]
      rfl

end Sys2Proof.Machine
end

section
/-! The completions of record reads: what a read places, and where the walker goes (R6, R7, R15, R20). -/

namespace Sys2Proof.Machine

/-! ## The walker walks on (R7, R11) -/

theorem State.canTake_iff (s : State) {r : OrderRecord} {rest : List OrderRecord} (hw : s.walker.window = r :: rest) :
    s.canTake = true ↔ HeadTakeable s r := by
  simp only [State.canTake, hw]
  exact s.canTakeKind_iff r

theorem State.walkOn_state (s : State) (h : s.walker.window ≠ []) :
    s.walkOn.walker.state = if s.walkOn.canTake then .taking else .blocked := if_neg h

theorem State.walkOn_walksOn (s : State) : WalksOn s.walkOn where
  seeks := fun h => if_pos h
  takes := fun r rest hw ht => by
    rw [s.walkOn_state (by simp at hw; simp [hw]), (s.walkOn.canTake_iff hw).2 ht]
    rfl
  blocked := fun r rest hw hn => by
    rw [s.walkOn_state (by simp at hw; simp [hw]), if_neg (mt (s.walkOn.canTake_iff hw).1 hn)]

/-! ## Settings -/

theorem SettingsKept.refl (s : State) : SettingsKept s s := by constructor <;> rfl

theorem SettingsKept.trans {s t u : State} (h : SettingsKept s t) (h' : SettingsKept t u) : SettingsKept s u where
  pending := h'.pending.trans h.pending
  chainHead := h'.chainHead.trans h.chainHead
  depth := h'.depth.trans h.depth
  pressMode := h'.pressMode.trans h.pressMode
  sweepPreset := h'.sweepPreset.trans h.sweepPreset
  enables := h'.enables.trans h.enables
  windowCode := h'.windowCode.trans h.windowCode
  pressFirst := h'.pressFirst.trans h.pressFirst
  storeMode := h'.storeMode.trans h.storeMode
  config := h'.config.trans h.config
  ready := h'.ready.trans h.ready

/-! ## The records of a read (R2, R7) -/

/-- The indices of a range before the first that fails a test are a range themselves. -/
theorem takeWhile_range (p : Nat → Bool) (n : Nat) : ∃ m, (List.range n).takeWhile p = List.range m ∧ m ≤ n ∧
    (∀ j < m, p j = true) ∧ (m = n ∨ p m = false) := by
  induction n with
  | zero => exact ⟨0, by simp⟩
  | succ n ih =>
    obtain ⟨m, hm, hle, hall, hend⟩ := ih
    have hlen : ((List.range n).takeWhile p).length = m := by simp [hm]
    rw [List.range_succ, List.takeWhile_append, List.length_range, hlen]
    by_cases hmn : m = n
    · subst hmn
      cases hp : p m with
      | true =>
        refine ⟨m + 1, by simp [hp, List.range_succ], le_rfl, fun j hj => ?_, .inl rfl⟩
        rcases Nat.lt_succ_iff_lt_or_eq.1 hj with h | rfl
        · exact hall j h
        · exact hp
      | false => exact ⟨m, by simp [hp], by omega, hall, .inr hp⟩
    · exact ⟨m, by simp [hmn, hm], by omega, hall, .inr (hend.resolve_left hmn)⟩

/-- The records that a read places: those that read as HANDED before the first that does not, up to the read's limit. -/
theorem handedRecords_take (folio : Addr) (slot n limit : Nat) (bs : List Byte) :
    ∃ k, (handedRecords folio slot n bs).take limit = (List.range k).map (fun j =>
        orderRecord (slotAddr folio (slot + j)) (slot + j) (slice bs (64 * j) 64)) ∧ k ≤ n ∧ k ≤ limit ∧
      (∀ j < k, isHanded (slice bs (64 * j) 64) = true) ∧
      (k = n ∨ k = limit ∨ isHanded (slice bs (64 * k) 64) = false) := by
  obtain ⟨m, hm, hle, hall, hend⟩ := takeWhile_range (fun i => isHanded (slice bs (64 * i) 64)) n
  refine ⟨min limit m, ?_, by omega, by omega, fun j hj => hall j (by omega), ?_⟩
  · rw [handedRecords, hm, ← List.map_take, List.take_range]
  · rcases Nat.le_total limit m with h | h
    · exact .inr (.inl (by omega))
    · rw [Nat.min_eq_right h]
      exact hend.imp_right .inr

/-! ## Reads whose result is discarded (R20, R24, R185) -/

theorem State.drained_iff (s : State) : s.drained = true ↔ s.control.engine = .draining ∧ s.control.queue = [] ∧
    s.walker.state = .stopped ∧ s.walker.spentDue = [] ∧ s.walker.spentInFlight = none := by
  simp [State.drained, and_assoc]

theorem State.stopIfDrained_stays (s : State) (h : ¬ s.drained = true) : s.stopIfDrained = s := if_neg h

/-- A complete drain brings the engine to STOPPED where RUN reads 0 (R185). -/
theorem State.stopIfDrained_stops (s : State) (h : s.drained = true) (hr : s.window.run = false) : s.stopIfDrained =
    (s.setControl { s.control with engine := .stopped }).setWindow { s.window with abandon := false } := by
  simp [State.stopIfDrained, h, State.engineStops, hr]

/-- A complete drain leads to RUNNING at once where RUN reads 1, the walker seeking at its cursor (R206). -/
theorem State.stopIfDrained_runs (s : State) (h : s.drained = true) (hr : s.window.run = true)
    (hc : s.walker.cursor ≠ none) : s.stopIfDrained =
    (((s.setControl { s.control with engine := .running }).setWindow { s.window with abandon := false }).setWalker
      { s.walker with state := .seeking }) := by
  obtain ⟨c, hc⟩ := Option.ne_none_iff_exists'.1 hc
  simp only [State.stopIfDrained, h, if_true, State.engineStops]
  rw [if_pos hr]
  simp only [State.startEngine, State.setWindow_walker, State.setControl_walker, hc]
  rfl

/-- The end of a read whose result is discarded, for a command that answers it so. -/
theorem State.discardedReadEnds (s : State) (c : Instr) (hx : exec c s = .next s.endWalkerUnit.walkerRests)
    (hc : s.walker.cursor ≠ none) : DiscardedReadEnds s c := by
  have rests (he : s.control.engine = .draining) : s.endWalkerUnit.walkerRests =
      (s.endUnit.setWalker { s.walker with unit := .none, state := .stopped }).stopIfDrained := by
    rw [State.walkerRests, if_pos (by simpa using he), State.endWalkerUnit_eq]
    rfl
  have drained (he : s.control.engine = .draining) (hq : s.control.queue = []) (hd : s.walker.spentDue = [])
      (hi : s.walker.spentInFlight = none) :
      (s.endUnit.setWalker { s.walker with unit := .none, state := .stopped }).drained = true := by
    simp [State.drained_iff, he, hq, hd, hi]
  refine ⟨fun he hleft => ?_, fun he hq hd hi hr => ?_, fun he hq hd hi hr => ?_, fun he => ?_⟩
  · rw [hx, rests he, State.stopIfDrained_stays]
    · rfl
    · simp only [State.drained_iff, State.setWalker_control, State.setWalker_walker, State.endUnit_frame]
      rintro ⟨-, hq, -, hd, hi⟩
      rcases hleft with h | h | h <;> contradiction
  · rw [hx, rests he, State.stopIfDrained_stops _ (drained he hq hd hi) (by simpa using hr)]
    simp [State.setWindow, State.setControl, State.setWalker]
  · rw [hx, rests he, State.stopIfDrained_runs _ (drained he hq hd hi) (by simpa using hr) (by simpa using hc)]
    simp [State.setWindow, State.setControl, State.setWalker]
  · rw [hx, State.walkerRests, if_neg (by simp [he]), State.endWalkerUnit_eq]
    rfl

/-! ## Record reads (R7) -/

/-- The state after a record read that placed its records and moved the cursor past them. -/
theorem exec_recordReadDone_data (s : State) (f : Addr) (i : Fin 63) (n : Nat) (bs : List Byte)
    (hu : s.walker.unit = .recordRead n false) (hc : s.walker.cursor = some ⟨f, .slot i⟩) (hb : bs.length = 64 * n) :
    exec (.recordReadDone .current (.data bs)) s =
      .next (s.endWalkerUnit.placeRecords f i.val n bs).afterRecords := by
  refine congrArg Host.Outcome.next ?_
  simp [hu, hc, hb]

theorem exec_recordReadDone_discarded (s : State) (f : Addr) (i : Fin 63) (n : Nat) (bs : List Byte)
    (hu : s.walker.unit = .recordRead n true) (hc : s.walker.cursor = some ⟨f, .slot i⟩) (hb : bs.length = 64 * n) :
    exec (.recordReadDone .current (.data bs)) s = .next s.endWalkerUnit.walkerRests := by
  refine congrArg Host.Outcome.next ?_
  simp [hu, hc, hb]

theorem State.afterRecords_empty (s : State) (h : s.walker.window = []) : s.afterRecords = s.arriveIdle := if_pos h

theorem State.afterRecords_some (s : State) (h : s.walker.window ≠ []) : s.afterRecords = s.walkOn := if_neg h

/-- Settles O24: the records placed are a range's, and the walker goes to IDLE, or seeks again, or walks on. -/
theorem recordReadCompletes : Obligations.RecordReadCompletes := by
  refine ⟨?_, ?_⟩
  · intro s f i n bs hu hc hb
    obtain ⟨k, hk, hkn, hkl, hall, hend⟩ := handedRecords_take f i.val n s.walker.readLimit bs
    let p := s.endWalkerUnit.placeRecords f i.val n bs
    have hw : p.walker.window = (List.range k).map (fun j =>
        orderRecord (slotAddr f (i.val + j)) (i.val + j) (slice bs (64 * j) 64)) := by
      simpa [p, State.placeRecords] using hk
    have hcur : p.walker.cursor = some ⟨f, chainPosAt (i.val + k)⟩ := by simp [p, State.placeRecords, hk]
    have hwake : p.walker.pendingWake = s.walker.pendingWake := by simp [p]
    have hne : 0 < k → p.walker.window ≠ [] := by
      intro hk0
      rw [hw]
      simp [Nat.pos_iff_ne_zero.1 hk0]
    have hempty : k = 0 → p.walker.window = [] := by
      rintro rfl
      simp [hw]
    have hev : s.hasEvent .chainIdle = p.hasEvent .chainIdle := (s.hasEvent_endWalkerUnit _ (by decide)).symm
    refine ⟨p.afterRecords, k, exec_recordReadDone_data s f i n bs hu hc hb, hkn, hkl, hall, hend, by simp [hw],
      by simp [hcur], by simp [p, State.placeRecords], fun hk0 => ?_, fun hk0 hp => ?_, fun hk0 hp => ?_, ?_⟩
    · rw [p.afterRecords_some (hne hk0)]
      exact ⟨p.walkOn_state (hne hk0), p.walkOn_walksOn⟩
    · rw [p.afterRecords_empty (hempty hk0)]
      exact (p.arriveIdle_entered (.inl (hwake.trans hp))).congr (by simp [p]) (by simp [p]) hev
    · rw [p.afterRecords_empty (hempty hk0)]
      exact (p.arriveIdle_seeksAgain (hwake.trans hp) (by simp [hcur])).congr (by simp [p]) (by simp [p]) hev
    · refine ⟨by simp [p, State.endWalkerUnit_port], by simp [p], by simp [p], by simp [p], by simp [p], by simp [p],
        by simp [p], by simp [p], by simp [p], ?_⟩
      constructor <;> simp [p]
  · intro s f i n bs hu hc hb
    exact s.discardedReadEnds _ (exec_recordReadDone_discarded s f i n bs hu hc hb) (by simp [hc])

end Sys2Proof.Machine
end

section
/-! What an abandon's ends leave of each slot, its order and the link: a chain of moves of which one ends the slot's order, one
lets the slot go, and the others leave the slot alone (R161, R175, R179, R186). -/

namespace Sys2Proof.Machine

/-! ## Entries of the retire queue that stay -/

/-- The entries of a retire queue that meet a condition stand where they stood, and no entry joins or leaves. -/
structure EntriesKept (p : QueueEntry → Prop) (q q' : List QueueEntry) : Prop where
  length : q'.length = q.length
  entry : ∀ (i : Nat) (e : QueueEntry), q[i]? = some e → p e → q'[i]? = some e

namespace EntriesKept

variable {p : QueueEntry → Prop} {q q' q'' : List QueueEntry}

theorem refl (p : QueueEntry → Prop) (q : List QueueEntry) : EntriesKept p q q := ⟨rfl, fun _ _ h _ => h⟩

theorem of_eq (h : q' = q) : EntriesKept p q q' := h ▸ .refl p q

theorem trans (h : EntriesKept p q q') (h' : EntriesKept p q' q'') : EntriesKept p q q'' :=
  ⟨h'.length.trans h.length, fun i e he hp => h'.entry i e (h.entry i e he hp) hp⟩

theorem mono {p' : QueueEntry → Prop} (h : EntriesKept p q q') (hp : ∀ e, p' e → p e) : EntriesKept p' q q' :=
  ⟨h.length, fun i e he h' => h.entry i e he (hp e h')⟩

theorem map {f : QueueEntry → QueueEntry} (hf : ∀ e, p e → f e = e) : EntriesKept p q (q.map f) :=
  ⟨List.length_map f, fun i e he hp => by rw [List.getElem?_map, he, Option.map_some, hf e hp]⟩

end EntriesKept

/-! ## Freeing a slot -/

theorem otherSlot_otherSlot (sl : SheetSlot) : otherSlot (otherSlot sl) = sl := by cases sl <;> rfl

namespace State

theorem freeSlot_entries (s : State) (sl : SheetSlot) :
    EntriesKept (fun e => e.slot ≠ some sl) s.control.queue (s.freeSlot sl).control.queue := by
  unfold freeSlot
  split
  · exact .refl _ _
  · simp only [unblock_frame, mapSheet_frame, setSheet_frame]
    exact .map fun e he => if_neg he

theorem freeSlot_other (s : State) (sl : SheetSlot) : (s.freeSlot sl).sheet (otherSlot sl) = s.sheet (otherSlot sl) ∨
    (s.freeSlot sl).sheet (otherSlot sl) = (s.sheet (otherSlot sl)).map fun x => { x with first := true } := by
  have hu (x : State) : x.unblock.control = x.control := by simp
  unfold freeSlot
  split
  · exact .inl rfl
  · right
    dsimp only
    rw [sheet_of_control (hu _), sheet_mapSheet, if_pos rfl, sheet_setSheet, if_neg (otherSlot_ne sl), sheet_mapQueue]

/-- An ending that reaches a sheet: its slot is FREE, or waits FINISHED for what still holds it (R175, R179). -/
theorem endSheet_cases (s : State) (sl : SheetSlot) (sh : Sheet) (o : OrderOutcome) (d : Detail)
    (h : s.sheet sl = some sh) (hs : sh.state ≠ .finished) (he : sh.ending = none) :
    ∃ u : State, u.sheet sl = some { sh with ending := some (o, d), state := .finished, pendingBuilds := 0 } ∧
      u.control.queue = s.control.queue ∧ u.link = s.link ∧ u.writer = s.writer ∧
      s.endSheet sl o d = if u.partsDone sl then u.freeSlot sl else u := by
  have hi : s.sheetIs sl (fun sh => sh.ending.isNone && sh.state != .finished) = true := by
    simp [sheetIs, h, he, hs]
  set u := (s.mapSheet sl fun sh => { sh with ending := some (o, d), state := .finished }).releaseSheet sl with hu
  have hsh : u.sheet sl = some { sh with ending := some (o, d), state := .finished, pendingBuilds := 0 } := by
    rw [hu, releaseSheet_sheet, if_pos rfl, sheet_mapSheet, if_pos rfl, h]
    rfl
  refine ⟨u, hsh, by simp [hu], by simp [hu], by simp [hu], ?_⟩
  rw [endSheet, if_pos hi, ← hu, freeIfEnded]
  simp [sheetIs, hsh]

theorem endSheet_entries (s : State) (sl : SheetSlot) (o : OrderOutcome) (d : Detail) :
    EntriesKept (fun e => e.slot ≠ some sl) s.control.queue (s.endSheet sl o d).control.queue := by
  unfold endSheet
  split
  · unfold freeIfEnded
    split
    · exact (EntriesKept.of_eq (by simp)).trans (freeSlot_entries _ sl)
    · exact .of_eq (by simp)
  · exact .refl _ _

/-- A slot whose order has an ending does not go on as a continuation (R68, R175). -/
theorem letGo_cases (s : State) (sl : SheetSlot) (he : ∀ sh, s.sheet sl = some sh → sh.ending ≠ none) :
    s.letGo sl = s ∨ s.letGo sl = s.freeSlot sl := by
  cases h : s.sheet sl with
  | none => exact .inl (s.letGo_free sl h)
  | some sh =>
    obtain ⟨⟨o, d⟩, hod⟩ := Option.ne_none_iff_exists'.1 (he sh h)
    by_cases hs : sh.state = .finished
    · rw [s.letGo_ended sl sh o d h hs hod]
      split
      · exact .inr rfl
      · exact .inl rfl
    · exact .inl (s.letGo_stays sl sh h hs)

theorem linkHolds_of_link {s t : State} (h : t.link = s.link) (sl : SheetSlot) : t.linkHolds sl = s.linkHolds sl := by
  simp [linkHolds, h]

theorem writerServes_of_writer {s t : State} (h : t.writer = s.writer) (sl : SheetSlot) :
    t.writerServes sl = s.writerServes sl := by
  simp [writerServes, h]

end State

/-! ## The link and the Writer at the end of an attempt -/

namespace State

theorem linkStop_idle (s : State) (a : Attempt) (h : s.link.held = none) : s.linkStop a = s := by
  simp [linkStop, h]

theorem linkStop_other (s : State) (a : Attempt) (k : LinkHold) (h : s.link.held = some k) (hk : k.attempt ≠ a) :
    s.linkStop a = s := by
  simp [linkStop, h, hk]

/-- The link that ends the attempt it holds, by its state (R161, R162). -/
theorem linkStop_stopped (s : State) (k : LinkHold) (h : s.link.held = some k) :
    LinkStopped s (s.linkStop k.attempt) k := by
  have tell (m : PressMessage) : (s.tell k m).out.pressMessages =
      s.out.pressMessages ++ (if k.mode = .live then [m] else []) := by
    unfold State.tell
    cases k.mode <;> simp [tellPress]
  simp only [linkStop, h, ne_eq, not_true_eq_false, if_false]
  cases hs : s.link.state with
  | closed => constructor <;> simp [hs]
  | awaitReady => constructor <;> simp [hs, linkClose, Link.closedWith]
  | opening => constructor <;> simp [hs, linkClose, Link.closedWith, tell]
  | streaming => by_cases hn : s.link.sending = none <;> constructor <;> simp [hs, hn, h, linkClose, Link.closedWith, tell]
  | closing => constructor <;> simp [hs, linkClose, Link.closedWith]

/-- A link that has ended its attempt holds none, or the same until its send ends (R161). -/
theorem linkStop_held (s : State) (k : LinkHold) (h : s.link.held = some k) :
    (s.linkStop k.attempt).link.held = none ∨ (s.linkStop k.attempt).link.held = some k := by
  simp only [linkStop, h, ne_eq, not_true_eq_false, if_false]
  cases s.link.state with
  | closed => exact .inr h
  | awaitReady => exact .inl rfl
  | opening => exact .inl rfl
  | streaming =>
    dsimp only
    split
    · exact .inl rfl
    · exact .inr rfl
  | closing => exact .inl rfl

theorem stopAttempt_link (s : State) (a : Attempt) : (s.stopAttempt a).link = ((s.endAttempt a).linkStop a).link ∧
    (s.stopAttempt a).out = ((s.endAttempt a).linkStop a).out := by
  simp [stopAttempt]

theorem stopAttempt_writer (s : State) (a : Attempt) : (s.stopAttempt a).writer = s.writer.stopped a := by
  simpa [stopAttempt] using ((s.endAttempt a).linkStop a).writerStop_writer a

end State

/-- The end of an attempt gives the Writer no attempt that it had not. -/
theorem Writer.stopped_serves (w : Writer) (a z : Attempt) (h : (w.stopped a).attempt = some z ∨ (w.stopped a).queued = some z) :
    w.attempt = some z ∨ w.queued = some z := by
  unfold Writer.stopped at h
  by_cases hq : w.queued = some a
  · simp only [hq, if_true] at h
    exact h.elim .inl (by simp)
  · by_cases ha : w.attempt = some a
    · by_cases hw : w.state = .writing
      · simpa [hq, ha, hw] using h
      · cases hx : w.queued <;> simp_all [Writer.cleared]
    · simpa [hq, ha] using h

theorem State.writerServes_iff (s : State) (sl : SheetSlot) :
    s.writerServes sl = true ↔ ∃ z : Attempt, z.slot = sl ∧ (s.writer.attempt = some z ∨ s.writer.queued = some z) := by
  simp only [State.writerServes, Bool.or_eq_true, beq_iff_eq, Option.map_eq_some_iff]
  constructor
  · rintro (⟨z, hz, hs⟩ | ⟨z, hz, hs⟩)
    · exact ⟨z, hs, .inl hz⟩
    · exact ⟨z, hs, .inr hz⟩
  · rintro ⟨z, hs, hz | hz⟩
    · exact .inl ⟨z, hz, hs⟩
    · exact .inr ⟨z, hz, hs⟩

/-! ## Moves that leave a slot alone -/

/-- Moves that leave a sheet slot, its order, and the link's and the Writer's service of it alone, but for the sheet's rank. -/
structure LeavesSlot (sl : SheetSlot) (s t : State) : Prop where
  sheet : t.sheet sl = s.sheet sl ∨ t.sheet sl = (s.sheet sl).map fun x => { x with first := true }
  entries : EntriesKept (fun e => e.record.kind = .sheet ∧ e.slot ≠ some (otherSlot sl)) s.control.queue t.control.queue
  link : (t.link = s.link ∧ t.out.pressMessages = s.out.pressMessages) ∨
    (∃ h, s.link.held = some h ∧ h.attempt.slot ≠ sl) ∧ t.linkHolds sl = false
  writer : s.writerServes sl = false → t.writerServes sl = false

/-- A slot whose sheet, if it holds one, has an ending. -/
def SlotHasEnding (s : State) (sl : SheetSlot) : Prop := ∀ sh, s.sheet sl = some sh → sh.ending ≠ none

namespace LeavesSlot

variable {sl : SheetSlot} {s t u : State}

theorem of_eq (hc : t.control = s.control) (hl : t.link = s.link) (ho : t.out.pressMessages = s.out.pressMessages)
    (hw : t.writer = s.writer) : LeavesSlot sl s t where
  sheet := .inl (State.sheet_of_control hc sl)
  entries := .of_eq (by rw [hc])
  link := .inl ⟨hl, ho⟩
  writer := fun h => by rw [State.writerServes_of_writer hw, h]

theorem linkHolds (h : LeavesSlot sl s t) (hs : s.linkHolds sl = false) : t.linkHolds sl = false := by
  rcases h.link with ⟨hl, -⟩ | ⟨-, ht⟩
  · rw [State.linkHolds_of_link hl, hs]
  · exact ht

/-- Where the link holds the slot's attempt or none, it stays as it is. -/
theorem link_eq (h : LeavesSlot sl s t) (hs : ∀ k, s.link.held = some k → k.attempt.slot = sl) :
    t.link = s.link ∧ t.out.pressMessages = s.out.pressMessages := by
  rcases h.link with h | ⟨⟨k, hk, hn⟩, -⟩
  · exact h
  · exact absurd (hs k hk) hn

theorem some {sh : Sheet} (h : LeavesSlot sl s t) (hs : s.sheet sl = some sh) :
    ∃ b, t.sheet sl = Option.some { sh with first := b } := by
  rcases h.sheet with h | h
  · exact ⟨sh.first, by rw [h, hs]⟩
  · exact ⟨true, by rw [h, hs]; rfl⟩

theorem none (h : LeavesSlot sl s t) (hs : s.sheet sl = none) : t.sheet sl = Option.none := by
  rcases h.sheet with h | h <;> simp [h, hs]

theorem trans (h : LeavesSlot sl s t) (h' : LeavesSlot sl t u) : LeavesSlot sl s u where
  sheet := by
    rcases h.sheet with h1 | h1 <;> rcases h'.sheet with h2 | h2 <;> simp only [h1] at h2
    · exact .inl h2
    · exact .inr h2
    · exact .inr h2
    · exact .inr (by rw [h2, Option.map_map]; rfl)
  entries := h.entries.trans h'.entries
  link := by
    rcases h.link with ⟨hl, ho⟩ | ⟨hk, hf⟩
    · rcases h'.link with ⟨hl', ho'⟩ | ⟨hk', hf'⟩
      · exact .inl ⟨hl'.trans hl, ho'.trans ho⟩
      · exact .inr ⟨hl ▸ hk', hf'⟩
    · exact .inr ⟨hk, h'.linkHolds hf⟩
  writer := fun hs => h'.writer (h.writer hs)

theorem hasEnding (h : LeavesSlot sl s t) (hs : SlotHasEnding s sl) : SlotHasEnding t sl := by
  intro sh hsh
  cases h0 : s.sheet sl with
  | none => simp [h.none h0] at hsh
  | some sh0 =>
    obtain ⟨b, hb⟩ := h.some h0
    rw [hb] at hsh
    cases hsh
    exact hs sh0 h0

/-! ### The other slot's moves -/

/-- A change of the other slot alone. -/
theorem of_other {f : Sheet → Sheet} : LeavesSlot sl s (s.mapSheet (otherSlot sl) f) where
  sheet := .inl (by rw [State.sheet_mapSheet, if_neg (ne_otherSlot sl)])
  entries := .of_eq (by simp)
  link := .inl ⟨by simp, by simp⟩
  writer := (State.writerServes_of_writer (s := s) (by simp) sl).trans

theorem freeSlot : LeavesSlot sl s (s.freeSlot (otherSlot sl)) where
  sheet := by simpa only [otherSlot_otherSlot] using s.freeSlot_other (otherSlot sl)
  entries := (s.freeSlot_entries _).mono fun _ h => h.2
  link := .inl ⟨by simp, by simp⟩
  writer := (State.writerServes_of_writer (s := s) (by simp) sl).trans

theorem endSheet (o : OrderOutcome) (d : Detail) : LeavesSlot sl s (s.endSheet (otherSlot sl) o d) where
  sheet := by simpa only [otherSlot_otherSlot] using s.endSheet_other (otherSlot sl) o d
  entries := (s.endSheet_entries _ o d).mono fun _ h => h.2
  link := .inl ⟨by simp, by simp⟩
  writer := (State.writerServes_of_writer (s := s) (by simp) sl).trans

theorem letGo (he : SlotHasEnding s (otherSlot sl)) : LeavesSlot sl s (s.letGo (otherSlot sl)) := by
  rcases s.letGo_cases (otherSlot sl) he with h | h <;> rw [h]
  · exact of_eq rfl rfl rfl rfl
  · exact freeSlot

/-- The end of an attempt of the other slot's sheet at the buffers, the link and the Writer (R144, R161, R170). -/
theorem stopAttempt {a : Attempt} (ha : a.slot ≠ sl) : LeavesSlot sl s (s.stopAttempt a) where
  sheet := .inl (State.sheet_of_control (by simp) sl)
  entries := .of_eq (by simp)
  link := by
    obtain ⟨hl, ho⟩ := s.stopAttempt_link a
    rw [State.linkHolds_of_link hl, hl, ho]
    cases hk : s.link.held with
    | none =>
      rw [State.linkStop_idle _ a (by simpa using hk)]
      exact .inl ⟨by simp, by simp⟩
    | some k =>
      have hk' : (s.endAttempt a).link.held = Option.some k := by simpa using hk
      by_cases hka : k.attempt = a
      · refine .inr ⟨⟨k, rfl, hka ▸ ha⟩, ?_⟩
        rcases hka ▸ State.linkStop_held _ k hk' with h | h <;> simp [State.linkHolds, h, hka, ha]
      · rw [State.linkStop_other _ a k hk' hka]
        exact .inl ⟨by simp, by simp⟩
  writer := fun h => by
    by_contra hn
    obtain ⟨z, hz, hs⟩ := (State.writerServes_iff _ sl).1 (by simpa using hn)
    rw [s.stopAttempt_writer] at hs
    exact absurd ((s.writerServes_iff sl).2 ⟨z, hz, s.writer.stopped_serves a z hs⟩) (by simp [h])

theorem clearPlacement : LeavesSlot sl s (s.clearPlacement (otherSlot sl)) := of_other

theorem abandonSheet : LeavesSlot sl s (s.abandonSheet (otherSlot sl)) := by
  unfold State.abandonSheet
  split
  · exact of_eq rfl rfl rfl rfl
  · rename_i sh _
    split
    · exact of_eq rfl rfl rfl rfl
    · have stop : LeavesSlot sl s (s.stopAttempt (sh.attemptIn (otherSlot sl))) := stopAttempt (otherSlot_ne sl)
      split
      · exact clearPlacement.trans (endSheet _ _)
      · exact endSheet _ _
      · exact endSheet _ _
      · exact stop.trans (endSheet _ _)
      · exact stop.trans (endSheet _ _)
      · exact of_other

theorem finishBarrier (r : Results) : LeavesSlot sl s (s.finishBarrier r) where
  sheet := .inl (by cases sl <;> simp [State.sheet])
  entries := by
    simp only [State.finishBarrier, State.unblock_frame, State.setControl_control, State.mapQueue]
    refine .map fun e he => if_neg ?_
    simp [he.1]
  link := .inl ⟨by simp, by simp⟩
  writer := (State.writerServes_of_writer (s := s) (by simp) sl).trans

theorem abandonBarrier : LeavesSlot sl s s.abandonBarrier := by
  have keep {t : State} (hc : t.control = s.control) (hl : t.link = s.link) (ho : t.out = s.out)
      (hw : t.writer = s.writer) : LeavesSlot sl s (t.finishBarrier (barrierResults .abandoned .none 0)) :=
    (of_eq hc hl (by rw [ho]) hw).trans (LeavesSlot.finishBarrier _)
  have mark (b : Barrier) : LeavesSlot sl s (s.setControl { s.control with barrier := b }) :=
    ⟨.inl (by cases sl <;> rfl), .refl _ _, .inl ⟨rfl, rfl⟩, id⟩
  unfold State.abandonBarrier
  split
  · exact of_eq rfl rfl rfl rfl
  · split
    · exact mark _
    · exact keep rfl rfl rfl rfl
  · split
    · exact mark _
    · exact keep rfl rfl rfl rfl

theorem stopPlanner : LeavesSlot sl s s.stopPlanner := of_eq (by simp) (by simp) (by simp) (by simp)

end LeavesSlot

/-! ## The slot whose order ends -/

/-- The order of a slot with an ending: the sheet waits in FINISHED with it, or its slot is FREE and the order FINISHED, where
no report, link or Writer holds the slot (R175, R179). -/
inductive SlotEnding (q : List QueueEntry) (sl : SheetSlot) (o : OrderOutcome) (d : Detail) (rp : ReportState) (t : State) :
    Prop where
  | kept (sh : Sheet) (hsh : t.sheet sl = some sh) (hs : sh.state = .finished) (he : sh.ending = some (o, d))
      (hr : sh.report = rp)
      (hq : EntriesKept (fun e => e.record.kind = .sheet ∧ e.slot ≠ some (otherSlot sl)) q t.control.queue)
  | freed (hr : rp = .none) (hl : t.linkHolds sl = false) (hw : t.writerServes sl = false) (hsh : t.sheet sl = none)
      (hq : ∀ (i : Nat) (e : QueueEntry), q[i]? = some e → e.slot = some sl → e.record.kind = .sheet →
        t.control.queue[i]? =
          some { e with finished := true, slot := none, results := { e.results with outcome := o, detail := d } })

namespace SlotEnding

variable {q : List QueueEntry} {sl : SheetSlot} {o : OrderOutcome} {d : Detail} {rp : ReportState} {s t : State}

theorem leaves (h : SlotEnding q sl o d rp s) (hl : LeavesSlot sl s t) : SlotEnding q sl o d rp t := by
  cases h with
  | kept sh hsh hs he hr hq =>
    obtain ⟨b, hb⟩ := hl.some hsh
    exact .kept _ hb hs he hr (hq.trans hl.entries)
  | freed hr hk hw hsh hq =>
    refine .freed hr (hl.linkHolds hk) (hl.writer hw) (hl.none hsh) fun i e he hs hkind => ?_
    exact hl.entries.entry i _ (hq i e he hs hkind) ⟨hkind, by simp⟩

/-- A slot with an ending that is let go when its three parts are done. -/
theorem free (sh : Sheet) (hsh : s.sheet sl = some sh) (hs : sh.state = .finished) (he : sh.ending = some (o, d))
    (hr : sh.report = rp)
    (hq : EntriesKept (fun e => e.record.kind = .sheet ∧ e.slot ≠ some (otherSlot sl)) q s.control.queue) :
    SlotEnding q sl o d rp (if s.partsDone sl then s.freeSlot sl else s) ∧
      ((if s.partsDone sl then s.freeSlot sl else s).sheet sl = none ∨
        (if s.partsDone sl then s.freeSlot sl else s).partsDone sl = false) := by
  cases hp : s.partsDone sl with
  | false => exact ⟨.kept sh hsh hs he hr hq, .inr hp⟩
  | true =>
    obtain ⟨hqe, hnone, -⟩ := s.freeSlot_ended sl sh o d hsh he
    simp only [State.partsDone, State.sheetIs, hsh, Bool.and_eq_true, Bool.not_eq_true', beq_iff_eq] at hp
    obtain ⟨⟨hl, hw⟩, hrep⟩ := hp
    refine ⟨.freed (hr.symm.trans hrep) ?_ ?_ hnone fun i e hi hslot hkind => ?_, .inl hnone⟩
    · exact (State.linkHolds_of_link (s := s) (by simp) sl).trans hl
    · exact (State.writerServes_of_writer (s := s) (by simp) sl).trans hw
    · have hi' := hq.entry i e hi ⟨hkind, by rw [hslot]; simpa using ne_otherSlot sl⟩
      simp only [if_true, hqe, queueEnded, List.getElem?_map, hi', Option.map_some, hslot]

theorem letGo (h : SlotEnding q sl o d rp s) :
    SlotEnding q sl o d rp (s.letGo sl) ∧ ((s.letGo sl).sheet sl = none ∨ (s.letGo sl).partsDone sl = false) := by
  cases h with
  | kept sh hsh hs he hr hq =>
    rw [s.letGo_ended sl sh o d hsh hs he]
    exact free sh hsh hs he hr hq
  | freed hr hk hw hsh hq =>
    rw [s.letGo_free sl hsh]
    exact ⟨.freed hr hk hw hsh hq, .inl hsh⟩

/-- A slot that could not be let go any further: FREE exactly when its three parts are done. -/
theorem sheetEnded {sh : Sheet} (h : SlotEnding s.control.queue sl o d sh.report t)
    (hd : t.sheet sl = none ∨ t.partsDone sl = false) : SheetEnded s t sl sh o d := by
  cases h with
  | kept sh' hsh hs he hr hq =>
    refine ⟨fun h1 h2 h3 => ?_, fun _ => ⟨⟨sh', hsh, hs, he, hr⟩, fun i e hi hslot hkind =>
      hq.entry i e hi ⟨hkind, by rw [hslot]; simpa using ne_otherSlot sl⟩⟩⟩
    have hp : t.partsDone sl = true := by simp [State.partsDone, State.sheetIs, h2, h3, hsh, hr, h1]
    rcases hd with hd | hd
    · simp [hsh] at hd
    · simp [hp] at hd
  | freed hr hk hw hsh hq =>
    refine ⟨fun _ _ _ => ⟨hsh, hq⟩, fun h => ?_⟩
    rcases h with h | h | h
    · exact absurd hr h
    · simp [hk] at h
    · simp [hw] at h

end SlotEnding

/-- The detail that an abandon gives a sheet without an ending: AFTER_CLOSE when the link is CLOSING for it (R161). -/
def abandonedDetail (s : State) (sl : SheetSlot) (sh : Sheet) : Detail :=
  if (sh.state = .composing ∨ sh.state = .closing) ∧ s.link.state = .closing ∧
    s.link.held.map (·.attempt) = some ⟨sl, sh.attempt⟩ then .afterClose else .none

namespace State

theorem endSheet_slotEnding (s : State) (sl : SheetSlot) (sh : Sheet) (o : OrderOutcome) (d : Detail)
    (h : s.sheet sl = some sh) (hs : sh.state ≠ .finished) (he : sh.ending = none) :
    SlotEnding s.control.queue sl o d sh.report (s.endSheet sl o d) := by
  obtain ⟨u, hu, hq, -, -, heq⟩ := s.endSheet_cases sl sh o d h hs he
  rw [heq]
  exact (SlotEnding.free _ hu rfl rfl rfl (.of_eq hq)).1

theorem abandonSheet_ended (s : State) (sl : SheetSlot) (sh : Sheet) (h : s.sheet sl = some sh) (he : sh.ending ≠ none) :
    s.abandonSheet sl = s := by
  simp [abandonSheet, h, Option.isSome_iff_ne_none.2 he]

theorem abandonSheet_inHand (s : State) (sl : SheetSlot) (sh : Sheet) (h : s.sheet sl = some sh)
    (hs : sh.state = .composing ∨ sh.state = .closing) (he : sh.ending = none) : s.abandonSheet sl =
    (s.stopAttempt (sh.attemptIn sl)).endSheet sl .abandoned (s.abandonDetail (sh.attemptIn sl)) := by
  rcases hs with hs | hs <;> simp [abandonSheet, h, hs, he]

/-- The end that an abandon or a fault gives an order without one (R186). -/
theorem abandonSheet_slotEnding (s : State) (sl : SheetSlot) (sh : Sheet) (h : s.sheet sl = some sh)
    (he : sh.ending = none) :
    SlotEnding s.control.queue sl .abandoned (abandonedDetail s sl sh) sh.report (s.abandonSheet sl) := by
  have hstop (d : Detail) (hs : sh.state ≠ .finished) : SlotEnding s.control.queue sl .abandoned d sh.report
      ((s.stopAttempt (sh.attemptIn sl)).endSheet sl .abandoned d) := by
    have := (s.stopAttempt (sh.attemptIn sl)).endSheet_slotEnding sl sh .abandoned d
      ((sheet_of_control (by simp) sl).trans h) hs he
    simpa using this
  have hd : sh.attemptIn sl = ⟨sl, sh.attempt⟩ := rfl
  simp only [abandonSheet, h, he, Option.isSome_none, Bool.false_eq_true, if_false]
  cases hs : sh.state with
  | planning =>
    have hc : (s.clearPlacement sl).sheet sl = some { sh with frames := [], cells := [] } := by
      rw [clearPlacement, sheet_mapSheet, if_pos rfl, h]
      rfl
    have := (s.clearPlacement sl).endSheet_slotEnding sl _ .abandoned .none hc (by simp [hs]) he
    simpa [abandonedDetail, hs] using this
  | filling => simpa [abandonedDetail, hs] using s.endSheet_slotEnding sl sh .abandoned .none h (by simp [hs]) he
  | ready => simpa [abandonedDetail, hs] using s.endSheet_slotEnding sl sh .abandoned .none h (by simp [hs]) he
  | composing =>
    simpa [abandonedDetail, abandonDetail, hs, hd] using hstop (s.abandonDetail (sh.attemptIn sl)) (by simp [hs])
  | closing =>
    simpa [abandonedDetail, abandonDetail, hs, hd] using hstop (s.abandonDetail (sh.attemptIn sl)) (by simp [hs])
  | finished =>
    refine .kept { sh with ending := some (.abandoned, .none) } ?_ hs ?_ rfl (.of_eq (by simp))
    · rw [sheet_mapSheet, if_pos rfl, h]
      rfl
    · simp [abandonedDetail, hs]

theorem abandonSheet_hasEnding (s : State) (sl : SheetSlot) : SlotHasEnding (s.abandonSheet sl) sl := by
  intro sh' hsh'
  cases h : s.sheet sl with
  | none => simp [abandonSheet, h] at hsh'
  | some sh =>
    by_cases he : sh.ending = none
    · cases s.abandonSheet_slotEnding sl sh h he with
      | kept x hx _ hxe =>
        rw [hx] at hsh'
        cases hsh'
        simp [hxe]
      | freed _ _ _ hx => simp [hx] at hsh'
    · rw [s.abandonSheet_ended sl sh h he, h] at hsh'
      cases hsh'
      exact he

end State
end Sys2Proof.Machine
end

section
/-! What a chain fault leaves (R23, R24, R186, R188): the slots, the link, the running load and the walker, put together from
the moves of an abandon's ends. -/

namespace Sys2Proof.Machine

/-! ## The path of one slot through an abandon's ends -/

/-- A slot through the ends that an abandon gives: moves that leave it alone, its own end, moves that leave it alone, its
letting-go, and moves that leave it, the link and the Writer alone. -/
structure AbandonPath (sl : SheetSlot) (s s1 s3 t : State) : Prop where
  before : LeavesSlot sl s s1
  between : LeavesSlot sl (s1.abandonSheet sl) s3
  after : LeavesSlot sl (s3.letGo sl) t
  link : t.link = s3.link ∧ t.out.pressMessages = s3.out.pressMessages
  writer : t.writer = s3.writer

/-- Each slot's path through `abandonOrders`. -/
theorem State.abandonOrders_path (s : State) (sl : SheetSlot) : ∃ s1 s3, AbandonPath sl s s1 s3 s.abandonOrders := by
  have endA : SlotHasEnding (s.stopPlanner.abandonSheet .a) .a := State.abandonSheet_hasEnding _ _
  have endB : SlotHasEnding ((s.stopPlanner.abandonSheet .a).abandonSheet .b) .b := State.abandonSheet_hasEnding _ _
  have sheetB : LeavesSlot .a (s.stopPlanner.abandonSheet .a) ((s.stopPlanner.abandonSheet .a).abandonSheet .b) :=
    LeavesSlot.abandonSheet
  have goA : LeavesSlot .b ((s.stopPlanner.abandonSheet .a).abandonSheet .b).abandonBarrier
      (((s.stopPlanner.abandonSheet .a).abandonSheet .b).abandonBarrier.letGo .a) :=
    LeavesSlot.letGo (sl := .b) (LeavesSlot.abandonBarrier.hasEnding (sheetB.hasEnding endA))
  cases sl with
  | a =>
    refine ⟨s.stopPlanner, ((s.stopPlanner.abandonSheet .a).abandonSheet .b).abandonBarrier, .stopPlanner,
      sheetB.trans .abandonBarrier, ?_, by simp [State.abandonOrders], by simp [State.abandonOrders]⟩
    exact LeavesSlot.letGo (sl := .a) (goA.hasEnding (LeavesSlot.abandonBarrier.hasEnding endB))
  | b =>
    exact ⟨s.stopPlanner.abandonSheet .a, ((s.stopPlanner.abandonSheet .a).abandonSheet .b).abandonBarrier.letGo .a,
      LeavesSlot.stopPlanner.trans (LeavesSlot.abandonSheet (sl := .b)), LeavesSlot.abandonBarrier.trans goA,
      .of_eq rfl rfl rfl rfl, by simp [State.abandonOrders], by simp [State.abandonOrders]⟩

namespace AbandonPath

variable {sl : SheetSlot} {s s1 s3 t : State}

theorem partsDone (h : AbandonPath sl s s1 s3 t)
    (hd : (s3.letGo sl).sheet sl = none ∨ (s3.letGo sl).partsDone sl = false) :
    t.sheet sl = none ∨ t.partsDone sl = false := by
  cases hs : (s3.letGo sl).sheet sl with
  | none => exact .inl (h.after.none hs)
  | some sh =>
    obtain ⟨b, hb⟩ := h.after.some hs
    refine .inr ?_
    have hp : (s3.letGo sl).partsDone sl = false := by simpa [hs] using hd
    have hl : t.linkHolds sl = (s3.letGo sl).linkHolds sl := State.linkHolds_of_link (by simp [h.link.1]) sl
    have hw : t.writerServes sl = (s3.letGo sl).writerServes sl := State.writerServes_of_writer (by simp [h.writer]) sl
    simpa [State.partsDone, State.sheetIs, hs, hb, hl, hw] using hp

theorem detail (h : AbandonPath sl s s1 s3 t) (sh : Sheet) (b : Bool) :
    abandonedDetail s1 sl { sh with first := b } = abandonedDetail s sl sh := by
  unfold abandonedDetail
  rcases h.before.link with ⟨hl, -⟩ | ⟨⟨k, hk, hn⟩, hf⟩
  · rw [hl]
  · have hs : s.link.held.map (·.attempt) ≠ some ⟨sl, sh.attempt⟩ := by
      intro e
      rw [hk] at e
      simp only [Option.map_some, Option.some.injEq] at e
      simp [e] at hn
    have hs1 : s1.link.held.map (·.attempt) ≠ some ⟨sl, sh.attempt⟩ := by
      cases hx : s1.link.held with
      | none => simp
      | some x =>
        simp only [State.linkHolds, hx, beq_eq_false_iff_ne] at hf
        intro e
        simp only [Option.map_some, Option.some.injEq] at e
        simp [e] at hf
    simp [hs, hs1]

/-- An order without an ending ends ABANDONED (R186). -/
theorem ends (h : AbandonPath sl s s1 s3 t) (sh : Sheet) (hsh : s.sheet sl = some sh) (he : sh.ending = none) :
    SheetEnded s t sl sh .abandoned (abandonedDetail s sl sh) := by
  obtain ⟨b, hb⟩ := h.before.some hsh
  have h1 := s1.abandonSheet_slotEnding sl _ hb he
  rw [h.detail sh b] at h1
  obtain ⟨h4, hd⟩ := (h1.leaves h.between).letGo
  have h5 := h4.leaves h.after
  refine SlotEnding.sheetEnded ?_ (h.partsDone hd)
  cases h5 with
  | kept sh' a1 a2 a3 a4 a5 => exact .kept sh' a1 a2 a3 a4 (h.before.entries.trans a5)
  | freed a1 a2 a3 a4 a5 =>
    refine .freed a1 a2 a3 a4 fun i e hi hs hk => a5 i e (h.before.entries.entry i e hi ⟨hk, ?_⟩) hs hk
    rw [hs]
    simpa using ne_otherSlot sl

/-- A FINISHED sheet whose order has an ending keeps it (R186). -/
theorem keeps (h : AbandonPath sl s s1 s3 t) (sh : Sheet) (o : OrderOutcome) (d : Detail) (hsh : s.sheet sl = some sh)
    (hs : sh.state = .finished) (he : sh.ending = some (o, d)) : SheetEnded s t sl sh o d := by
  obtain ⟨b, hb⟩ := h.before.some hsh
  have h1 : SlotEnding s.control.queue sl o d sh.report (s1.abandonSheet sl) := by
    rw [s1.abandonSheet_ended sl _ hb (by simp [he])]
    exact .kept _ hb hs he rfl h.before.entries
  obtain ⟨h4, hd⟩ := (h1.leaves h.between).letGo
  exact (h4.leaves h.after).sheetEnded (h.partsDone hd)

theorem hasEnding (h : AbandonPath sl s s1 s3 t) : SlotHasEnding t sl := by
  refine h.after.hasEnding ?_
  have h3 : SlotHasEnding s3 sl := h.between.hasEnding (s1.abandonSheet_hasEnding sl)
  rcases s3.letGo_cases sl h3 with e | e <;> rw [e]
  · exact h3
  · intro sh hsh
    cases hx : s3.sheet sl with
    | none => simp [State.freeSlot, hx] at hsh
    | some x =>
      obtain ⟨⟨o, d⟩, hod⟩ := Option.ne_none_iff_exists'.1 (h3 x hx)
      simp [(s3.freeSlot_ended sl x o d hx hod).2.1] at hsh

/-- The link where it holds no attempt stays as it is. -/
theorem linkIdle (h : AbandonPath sl s s1 s3 t) (hk : s.link.held = none) :
    t.link = s.link ∧ t.out.pressMessages = s.out.pressMessages := by
  obtain ⟨l1, o1⟩ := h.before.link_eq (by simp [hk])
  obtain ⟨l2, o2⟩ : (s1.abandonSheet sl).link = s1.link ∧
      (s1.abandonSheet sl).out.pressMessages = s1.out.pressMessages := by
    have stop (a : Attempt) : (s1.stopAttempt a).link = s1.link ∧ (s1.stopAttempt a).out = s1.out := by
      obtain ⟨hl, ho⟩ := s1.stopAttempt_link a
      rw [State.linkStop_idle _ a (by simp [l1, hk])] at hl ho
      exact ⟨by simpa using hl, by simpa using ho⟩
    unfold State.abandonSheet
    split
    · exact ⟨rfl, rfl⟩
    · split
      · exact ⟨rfl, rfl⟩
      · split <;> simp [stop]
  obtain ⟨l3, o3⟩ := h.between.link_eq (by simp [l2, l1, hk])
  exact ⟨h.link.1.trans (l3.trans (l2.trans l1)), h.link.2.trans (o3.trans (o2.trans o1))⟩

/-- The link ends the attempt that it holds, where that is in hand (R161, R186). -/
theorem linkStopped (h : AbandonPath sl s s1 s3 t) (k : LinkHold) (sh : Sheet) (hk : s.link.held = some k)
    (hsl : k.attempt.slot = sl) (hsh : s.sheet sl = some sh) (hn : sh.attempt = k.attempt.number)
    (hs : sh.state = .composing ∨ sh.state = .closing) (he : sh.ending = none) : LinkStopped s t k := by
  obtain ⟨l1, o1⟩ := h.before.link_eq (by simp [hk, hsl])
  obtain ⟨b, hb⟩ := h.before.some hsh
  have ha : Sheet.attemptIn { sh with first := b } sl = k.attempt := by simp [Sheet.attemptIn, hn, ← hsl]
  obtain ⟨l2, o2⟩ : (s1.abandonSheet sl).link = ((s1.endAttempt k.attempt).linkStop k.attempt).link ∧
      (s1.abandonSheet sl).out = ((s1.endAttempt k.attempt).linkStop k.attempt).out := by
    rw [s1.abandonSheet_inHand sl _ hb hs he, ha]
    simpa using s1.stopAttempt_link k.attempt
  have hk1 : (s1.endAttempt k.attempt).link.held = some k := by simp [l1, hk]
  have st := (s1.endAttempt k.attempt).linkStop_stopped k hk1
  have hheld := (s1.endAttempt k.attempt).linkStop_held k hk1
  obtain ⟨l3, o3⟩ := h.between.link_eq (fun x hx => by
    rw [l2] at hx
    rcases hheld with e | e <;> rw [e] at hx <;> simp at hx
    rw [← hx, hsl])
  have hl : t.link = ((s1.endAttempt k.attempt).linkStop k.attempt).link := h.link.1.trans (l3.trans l2)
  have ho : t.out.pressMessages = ((s1.endAttempt k.attempt).linkStop k.attempt).out.pressMessages :=
    h.link.2.trans (o3.trans (congrArg _ o2))
  constructor <;> rw [hl, ho]
  · simpa [l1, o1] using st.silent
  · simpa [l1, o1] using st.aborted
  · simpa [l1, o1] using st.sending

end AbandonPath
/-! ## The retire queue, the barrier and the planner -/

namespace State

theorem abandonSheet_entries (s : State) (sl : SheetSlot) :
    EntriesKept (fun e => e.slot ≠ some sl) s.control.queue (s.abandonSheet sl).control.queue := by
  unfold abandonSheet
  split
  · exact .refl _ _
  · split
    · exact .refl _ _
    · have after {u : State} (hu : u.control.queue = s.control.queue) (d : Detail) :
          EntriesKept (fun e => e.slot ≠ some sl) s.control.queue (u.endSheet sl .abandoned d).control.queue :=
        hu ▸ u.endSheet_entries sl .abandoned d
      split
      · exact after (by simp) _
      · exact after rfl _
      · exact after rfl _
      · exact after (by simp) _
      · exact after (by simp) _
      · exact .of_eq (by simp)

theorem letGo_entries (s : State) (sl : SheetSlot) (he : SlotHasEnding s sl) :
    EntriesKept (fun e => e.slot ≠ some sl) s.control.queue (s.letGo sl).control.queue := by
  rcases s.letGo_cases sl he with h | h <;> rw [h]
  · exact .refl _ _
  · exact s.freeSlot_entries sl

theorem letGo_planner (s : State) (sl : SheetSlot) (he : SlotHasEnding s sl) : (s.letGo sl).planner = s.planner := by
  rcases s.letGo_cases sl he with h | h <;> simp [h]

/-- The barrier that ends: its order FINISHED with its results, and none running (R184). -/
@[simp] theorem finishBarrier_control (s : State) (r : Results) : (s.finishBarrier r).control =
    { s.control with queue := queueBarrierEnded s.control.queue r, barrier := .none } := by
  simp [finishBarrier, mapQueue, queueBarrierEnded]

/-- Both sheets ended, of which an abandon then lets the slots go. -/
def sheetsAbandoned (s : State) : State := (s.stopPlanner.abandonSheet .a).abandonSheet .b

theorem sheetsAbandoned_hasEnding (s : State) (sl : SheetSlot) : SlotHasEnding s.sheetsAbandoned sl := by
  cases sl with
  | a => exact (LeavesSlot.abandonSheet (sl := .a)).hasEnding (abandonSheet_hasEnding _ .a)
  | b => exact abandonSheet_hasEnding _ .b

theorem abandonOrders_eq (s : State) : s.abandonOrders = (s.sheetsAbandoned.abandonBarrier.letGo .a).letGo .b := rfl

theorem abandonBarrier_hasEnding (s : State) (sl : SheetSlot) : SlotHasEnding s.sheetsAbandoned.abandonBarrier sl :=
  LeavesSlot.abandonBarrier.hasEnding (s.sheetsAbandoned_hasEnding sl)

theorem letGoA_hasEnding (s : State) : SlotHasEnding (s.sheetsAbandoned.abandonBarrier.letGo .a) .b :=
  (LeavesSlot.letGo (sl := .b) (s.abandonBarrier_hasEnding .a)).hasEnding (s.abandonBarrier_hasEnding .b)

theorem sheetsAbandoned_entries (s : State) :
    EntriesKept (fun e => e.slot = none) s.control.queue s.sheetsAbandoned.control.queue := by
  have ha := (s.stopPlanner.abandonSheet_entries .a).mono (p' := fun e => e.slot = none) (by simp +contextual)
  have hb := ((s.stopPlanner.abandonSheet .a).abandonSheet_entries .b).mono (p' := fun e => e.slot = none)
    (by simp +contextual)
  simpa [sheetsAbandoned] using ha.trans hb

theorem abandonOrders_entries (s : State) : EntriesKept (fun e => e.slot = none)
    s.sheetsAbandoned.abandonBarrier.control.queue s.abandonOrders.control.queue :=
  ((letGo_entries _ .a (s.abandonBarrier_hasEnding .a)).mono (by simp +contextual)).trans
    ((letGo_entries _ .b s.letGoA_hasEnding).mono (by simp +contextual))

theorem abandonOrders_length (s : State) : s.abandonOrders.control.queue.length = s.control.queue.length :=
  s.abandonOrders_entries.length.trans
    ((LeavesSlot.abandonBarrier (sl := .a)).entries.length.trans s.sheetsAbandoned_entries.length)

/-- The planner is free and no sheet waits for it (R67). -/
theorem abandonOrders_planner (s : State) : s.abandonOrders.planner = ⟨none, none, [], none⟩ := by
  rw [abandonOrders_eq, letGo_planner _ .b s.letGoA_hasEnding, letGo_planner _ .a (s.abandonBarrier_hasEnding .a)]
  simp [sheetsAbandoned, stopPlanner, Planner.cleared]

/-- The running load at an abandon or a fault (R41, R121, R184). -/
theorem abandonOrders_barrier (s : State) : BarrierAbandoned s s.abandonOrders := by
  have hb : s.sheetsAbandoned.control.barrier = s.control.barrier := by simp [sheetsAbandoned]
  have hp : s.sheetsAbandoned.profiles = s.profiles := by simp [sheetsAbandoned]
  have hg : s.sheetsAbandoned.glyphs = s.glyphs := by simp [sheetsAbandoned]
  have tb : s.abandonOrders.control.barrier = s.sheetsAbandoned.abandonBarrier.control.barrier := by
    simp [abandonOrders_eq]
  have tp : s.abandonOrders.profiles = s.sheetsAbandoned.abandonBarrier.profiles := by simp [abandonOrders_eq]
  have tg : s.abandonOrders.glyphs = s.sheetsAbandoned.abandonBarrier.glyphs := by simp [abandonOrders_eq]
  constructor
  · intro h
    simp [tb, tp, tg, abandonBarrier, hb, hp, hg, h]
  · intro n a b h
    simp [tb, tp, tg, abandonBarrier, hb, hp, hg, h, unsetProfile]
  · intro l h hl
    simp [tb, tp, tg, abandonBarrier, hb, hp, hg, h, hl, unsetGlyphs]
  · intro h i e hi hslot hfin hkind
    have hw := s.sheetsAbandoned_entries.entry i e hi hslot
    refine s.abandonOrders_entries.entry i _ ?_ hslot
    have he : s.sheetsAbandoned.abandonBarrier.control.queue =
        queueBarrierEnded s.sheetsAbandoned.control.queue (barrierResults .abandoned .none 0) := by
      rcases h with ⟨n, a, b, h⟩ | ⟨l, h, hl⟩
      · simp [abandonBarrier, hb, h, unsetProfile]
      · simp [abandonBarrier, hb, h, hl, unsetGlyphs]
    rw [he, queueBarrierEnded, List.getElem?_map, hw, Option.map_some, if_pos ⟨hkind, hfin⟩]
  · intro n a b h
    simp [tb, tp, tg, abandonBarrier, hb, hp, hg, h]
  · intro l h hl
    simp [tb, tp, tg, abandonBarrier, hb, hp, hg, h, hl]

theorem abandonOrders_walker (s : State) (h : s.walker.state ≠ .blocked) : s.abandonOrders.walker = s.walker := by
  rcases abandonOrders_unblocked (.refl s.walker) with hw | ⟨hb, -, -⟩
  · exact hw
  · exact absurd hb h

/-! ## Chain faults -/

/-- The state of a fault before its abandon's ends: the fault recorded, CHAIN_FAULT raised, ABANDON reading 0, the walker
FAULTED and the due reports dropped (R23, R24, R188, R209). -/
def faultBegun (s : State) (c : FaultCause) (a : Addr) : State :=
  let s1 := (s.setControl { s.control with engine := .faulted, cause := c, faultAddr := a }).raise .chainFault
  (((s1.setWindow { s1.window with abandon := false }).faultWalker).dropDueReport .a).dropDueReport .b

theorem engineFaults_eq (s : State) (c : FaultCause) (a : Addr)
    (h : s.control.engine = .running ∨ s.control.engine = .draining) :
    s.engineFaults c a = (s.faultBegun c a).abandonOrders := if_pos h

/-- A fault in an engine that is FAULTED already leaves the record as it is (R23). -/
theorem engineFaults_faulted (s : State) (c : FaultCause) (a : Addr) (h : s.control.engine = .faulted) :
    s.engineFaults c a = s := if_neg (by simp [h])

theorem faultBegun_sheet (s : State) (c : FaultCause) (a : Addr) (sl : SheetSlot) : (s.faultBegun c a).sheet sl =
    (s.sheet sl).map fun sh => { sh with report := if sh.report = .due then .none else sh.report } := by
  simp only [faultBegun, dropDueReport, sheet_mapSheet, faultWalker, sheet_setWalker, sheet_setWindow]
  cases sl <;> simp [sheet]

end State

theorem SheetEnded.congr {s s' t : State} {sl : SheetSlot} {sh : Sheet} {o : OrderOutcome} {d : Detail}
    (h : SheetEnded s t sl sh o d) (hq : s.control.queue = s'.control.queue) : SheetEnded s' t sl sh o d :=
  ⟨hq ▸ h.freed, hq ▸ h.kept⟩

/-- A fault in RUNNING or DRAINING after the end of the unit that failed, where the end left the cursor, the pending wake and
the pending-spent folio alone. -/
theorem faultedFrom_engineFaults {s u : State} (c : FaultCause) (a : Addr) (w : Walker) (r : RetirePhase)
    (hu : u = (s.endUnit.setWalker w).setRetire r) (hc : w.cursor = s.walker.cursor)
    (hp : w.pendingWake = s.walker.pendingWake) (hs : w.pendingSpent = s.walker.pendingSpent)
    (he : s.control.engine = .running ∨ s.control.engine = .draining) :
    FaultedFrom s (u.engineFaults c a) c a ∧ (u.engineFaults c a).control.queue.length = s.control.queue.length := by
  have heu : u.control.engine = .running ∨ u.control.engine = .draining := by simpa [hu] using he
  rw [u.engineFaults_eq c a heu]
  set D := u.faultBegun c a with hD
  obtain ⟨hengine, hcause, haddr, hqueue, hbarrier⟩ : D.control.engine = .faulted ∧ D.control.cause = c ∧
      D.control.faultAddr = a ∧ D.control.queue = s.control.queue ∧ D.control.barrier = s.control.barrier := by
    simp [hD, State.faultBegun, hu]
  obtain ⟨hstate, hwindow, hsweep, hcursor, hwake, hspent⟩ : D.walker.state = .faulted ∧ D.walker.window = [] ∧
      D.walker.sweepRunning = false ∧ D.walker.cursor = s.walker.cursor ∧
      D.walker.pendingWake = s.walker.pendingWake ∧ D.walker.pendingSpent = s.walker.pendingSpent := by
    simp [hD, State.faultBegun, hu, State.faultWalker, hc, hp, hs]
  obtain ⟨hlink, hout, hcomposer, hwriter, hprofiles, hglyphs, hport, hmode⟩ : D.link = s.link ∧ D.out = s.out ∧
      D.composer = s.composer ∧ D.writer = s.writer ∧ D.profiles = s.profiles ∧ D.glyphs = s.glyphs ∧
      D.port = s.endUnit.port ∧ D.store.mode = s.store.mode := by
    simp [hD, State.faultBegun, hu]
  have hevent : D.hasEvent .chainFault = true := by
    simp [hD, State.faultBegun, State.faultWalker, State.hasEvent, State.raise, Event.bit]
  have hregs : D.window.abandon = false ∧ D.window.run = s.window.run := by simp [hD, State.faultBegun, hu]
  have hsheet (sl : SheetSlot) : D.sheet sl =
      (s.sheet sl).map fun sh => { sh with report := if sh.report = .due then .none else sh.report } := by
    rw [hD, u.faultBegun_sheet, hu]
    cases sl <;> simp [State.sheet]
  have hw := D.abandonOrders_walker (by simp [hstate])
  have path := D.abandonOrders_path
  refine ⟨?_, D.abandonOrders_length.trans (by rw [hqueue])⟩
  constructor
  case engine => simp [hengine]
  case cause => simp [hcause]
  case addr => simp [haddr]
  case event => simpa [State.hasEvent] using hevent
  case abandon => simp [hregs]
  case run => simp [hregs]
  case walker => rw [hw, hstate]
  case window => rw [hw, hwindow]
  case cursor => rw [hw, hcursor]
  case wake => rw [hw, hwake]
  case sweep => rw [hw, hsweep]
  case pendingSpent => rw [hw, hspent]
  case sheets =>
    intro sl
    obtain ⟨s1, s3, hpath⟩ := path sl
    exact hpath.hasEnding
  case ended =>
    intro sl sh hsh hen
    obtain ⟨s1, s3, hpath⟩ := path sl
    have := hpath.ends { sh with report := if sh.report = .due then .none else sh.report } (by rw [hsheet, hsh]; rfl) hen
    rw [abandonedDetail, hlink] at this
    exact this.congr hqueue
  case keeps =>
    intro sl sh o d hsh hs hen
    obtain ⟨s1, s3, hpath⟩ := path sl
    have := hpath.keeps { sh with report := if sh.report = .due then .none else sh.report } o d
      (by rw [hsheet, hsh]; rfl) hs hen
    exact this.congr hqueue
  case link =>
    intro h sh hk hsh hn hs hen
    obtain ⟨s1, s3, hpath⟩ := path h.attempt.slot
    have := hpath.linkStopped h { sh with report := if sh.report = .due then .none else sh.report } (by rw [hlink, hk]) rfl
      (by rw [hsheet, hsh]; rfl) hn hs hen
    constructor
    · simpa [hlink, hout] using this.silent
    · simpa [hlink, hout] using this.aborted
    · simpa [hlink, hout] using this.sending
  case linkIdle =>
    intro hk
    obtain ⟨s1, s3, hpath⟩ := path .a
    simpa [hlink, hout] using hpath.linkIdle (by rw [hlink, hk])
  case attempts =>
    refine D.abandonOrders_attempts.congr hcomposer.symm hwriter.symm (fun b => ?_) rfl rfl
    simp only [AttemptInHand, InHandOf, hsheet]
    cases s.sheet b.slot <;> simp
  case load =>
    obtain ⟨h1, h2, h3, h4, h5, h6⟩ := D.abandonOrders_barrier
    rw [hbarrier, hprofiles, hglyphs, hqueue] at *
    exact ⟨h1, h2, h3, h4, h5, h6⟩
  case planner => exact D.abandonOrders_planner
  case writes => simp [hout]
  case outstanding => simp [hport]
  case settings => constructor <;> simp [hD, State.faultBegun, hu]

end Sys2Proof.Machine
end

section
/-! Trailer reads, and bus errors on the transactions of the chain (R8, R9, R23, R24, R188). -/

namespace Sys2Proof.Machine

/-! ## Units of the chain that fail -/

namespace State

theorem endWalkerUnit_setRetire (s : State) : s.endWalkerUnit =
    (s.endUnit.setWalker { s.walker with unit := .none }).setRetire s.control.retire := by
  rw [endWalkerUnit_eq]
  simp [setRetire, setControl, setWalker]

theorem setRetire_endUnit (s : State) (r : RetirePhase) :
    (s.setRetire r).endUnit = (s.endUnit.setWalker s.walker).setRetire r := by
  rw [setRetire, setControl_endUnit]
  simp [setRetire, setControl, setWalker]

theorem endSpent_setRetire (s : State) : (s.setWalker { s.walker with spentInFlight := none }).endUnit =
    (s.endUnit.setWalker { s.walker with spentInFlight := none }).setRetire s.control.retire := by
  rw [setWalker_endUnit]
  simp [setRetire, setControl, setWalker]

/-- A unit of the walker that ends with a bus error faults the engine (R23). -/
theorem walkerUnit_faulted (s : State) (c : FaultCause) (a : Addr)
    (he : s.control.engine = .running ∨ s.control.engine = .draining) :
    FaultedFrom s (s.endWalkerUnit.engineFaults c a) c a :=
  (faultedFrom_engineFaults c a _ _ s.endWalkerUnit_setRetire rfl rfl rfl he).1

/-- A retirement write that ends with a bus error faults the engine, and the record's entry stays in the queue (R182). -/
theorem retirement_faulted (s : State) (a : Addr) (he : s.control.engine = .running ∨ s.control.engine = .draining)
    (hq : s.control.queue ≠ []) :
    FaultedFrom s (((s.setRetire .none).endUnit).engineFaults .writeError a) .writeError a ∧
      (((s.setRetire .none).endUnit).engineFaults .writeError a).control.queue ≠ [] := by
  obtain ⟨hf, hl⟩ := faultedFrom_engineFaults .writeError a _ _ (s.setRetire_endUnit .none) rfl rfl rfl he
  exact ⟨hf, fun h => hq (List.length_eq_zero_iff.1 (hl.symm.trans (by rw [h]; rfl)))⟩

theorem spentWrite_faulted (s : State) (a : Addr) (he : s.control.engine = .running ∨ s.control.engine = .draining) :
    FaultedFrom s (((s.setWalker { s.walker with spentInFlight := none }).endUnit).engineFaults .writeError a) .writeError
      a :=
  (faultedFrom_engineFaults .writeError a _ _ s.endSpent_setRetire rfl rfl rfl he).1

/-- In FAULTED a unit of the walker that fails ends, and nothing else changes (R23, R188). -/
theorem walkerUnit_failsFaulted (s : State) (c : FaultCause) (a : Addr) (he : s.control.engine = .faulted) :
    s.endWalkerUnit.engineFaults c a = { s.endUnit with walker := { s.walker with unit := .none } } := by
  rw [engineFaults_faulted _ _ _ (by simpa using he), endWalkerUnit_eq]
  rfl

end State

/-! ## Trailer reads -/

theorem exec_trailerReadDone_data (s : State) (f : Addr) (bs : List Byte) (hu : s.walker.unit = .trailerRead false)
    (hc : s.walker.cursor = some ⟨f, .trailer⟩) (hb : bs.length = 64) :
    exec (.trailerReadDone .current (.data bs)) s = .next (s.endWalkerUnit.followNext f (addrAt bs 0)) := by
  refine congrArg Host.Outcome.next ?_
  simp [hu, hc, hb]

theorem exec_trailerReadDone_discarded (s : State) (f : Addr) (bs : List Byte) (hu : s.walker.unit = .trailerRead true)
    (hc : s.walker.cursor = some ⟨f, .trailer⟩) (hb : bs.length = 64) :
    exec (.trailerReadDone .current (.data bs)) s = .next s.endWalkerUnit.walkerRests := by
  refine congrArg Host.Outcome.next ?_
  simp [hu, hc, hb]

theorem exec_trailerReadDone_busError (s : State) (f : Addr) (d : Bool) (hu : s.walker.unit = .trailerRead d)
    (hc : s.walker.cursor = some ⟨f, .trailer⟩) : exec (.trailerReadDone .current .busError) s =
      .next (s.endWalkerUnit.engineFaults .readError (trailerAddr f)) := by
  refine congrArg Host.Outcome.next ?_
  simp [hu, hc]

namespace State

theorem followNext_zero (s : State) (f : Addr) : s.followNext f 0#64 = s.arriveIdle := if_pos rfl

theorem followNext_bad (s : State) (f next : Addr) (h0 : next ≠ 0#64) (h : next.extractLsb' 0 12 ≠ 0#12 ∨ next = f) :
    s.followNext f next = s.engineFaults .badLink (trailerAddr f) := by
  rw [followNext, if_neg h0, if_pos h]

theorem followNext_leaves (s : State) (f next : Addr) (h0 : next ≠ 0#64) (ha : next.extractLsb' 0 12 = 0#12)
    (hf : next ≠ f) : s.followNext f next = s.leaveFolio f next := by
  rw [followNext, if_neg h0, if_neg (by simp [ha, hf])]

/-- Slot 62 of a folio waits in the retire queue (R9). -/
theorem slot62Waits_iff (s : State) (f : Addr) :
    s.slot62Waits f = true ↔ ∃ e ∈ s.control.queue, e.record.addr = slotAddr f 62 := by
  simp [slot62Waits]

end State

/-- Settles O25: by the Next that the trailer names, and by whether the read's result is discarded. -/
theorem trailerReadCompletes : Obligations.TrailerReadCompletes := by
  refine ⟨?_, ?_, ?_, ?_⟩
  · intro s f bs hu hc hb h0
    have hev : s.hasEvent .chainIdle = s.endWalkerUnit.hasEvent .chainIdle :=
      (s.hasEvent_endWalkerUnit _ (by decide)).symm
    refine ⟨s.endWalkerUnit.arriveIdle, ?_, by simp, by simp, by simp, fun hp => ?_, fun hp => ?_,
      by simp [State.endWalkerUnit_port], by simp, by simp, ?_⟩
    · rw [exec_trailerReadDone_data s f bs hu hc hb, h0, State.followNext_zero]
    · exact (State.arriveIdle_entered _ (.inl (by simpa using hp))).congr (by simp) (by simp) hev
    · exact (State.arriveIdle_seeksAgain _ (by simpa using hp) (by simp [hc])).congr (by simp) (by simp) hev
    · constructor <;> simp
  · intro s f next bs hu hc hb hn h0 ha hf
    have hx : exec (.trailerReadDone .current (.data bs)) s = .next (s.endWalkerUnit.leaveFolio f next) := by
      rw [exec_trailerReadDone_data s f bs hu hc hb, hn, State.followNext_leaves _ f next h0 ha hf]
    have hw := s.endWalkerUnit.slot62Waits_iff f
    rw [State.endWalkerUnit_eq] at hx hw
    simp only [State.setWalker_control, State.endUnit_frame] at hw
    refine ⟨fun he => ?_, fun he => ?_⟩
    · rw [hx, State.leaveFolio, if_pos (hw.2 he)]
      rfl
    · rw [hx, State.leaveFolio, if_neg fun h => by
        obtain ⟨e, hm, hae⟩ := hw.1 h
        exact he e hm hae]
      rfl
  · intro s f bs hu hc hb he h0 h
    exact ⟨_, by rw [exec_trailerReadDone_data s f bs hu hc hb, State.followNext_bad _ f _ h0 h],
      s.walkerUnit_faulted .badLink (trailerAddr f) (.inl he)⟩
  · intro s f bs hu hc hb
    exact s.discardedReadEnds _ (exec_trailerReadDone_discarded s f bs hu hc hb) (by simp [hc])

/-! ## Bus errors -/

theorem exec_recordReadDone_busError (s : State) (f : Addr) (i : Fin 63) (n : Nat) (d : Bool)
    (hu : s.walker.unit = .recordRead n d) (hc : s.walker.cursor = some ⟨f, .slot i⟩) :
    exec (.recordReadDone .current .busError) s =
      .next (s.endWalkerUnit.engineFaults .readError (slotAddr f i.val)) := by
  refine congrArg Host.Outcome.next ?_
  simp [hu, hc]

theorem exec_takenWriteDone_busError (s : State) (r : OrderRecord) (sl : Option SheetSlot)
    (hu : s.walker.unit = .taken r sl false) : exec (.takenWriteDone .current false) s =
      .next (s.endWalkerUnit.engineFaults .writeError r.addr) := by
  refine congrArg Host.Outcome.next ?_
  simp [hu]

theorem exec_takenWriteDone_discarded (s : State) (r : OrderRecord) (sl : Option SheetSlot) (ok : Bool)
    (hu : s.walker.unit = .taken r sl true) : exec (.takenWriteDone .current ok) s = .next s.endWalkerUnit := by
  refine congrArg Host.Outcome.next ?_
  simp [hu]

theorem exec_resultsWriteDone_busError (s : State) (e : QueueEntry) (rest : List QueueEntry)
    (hq : s.control.queue = e :: rest) (hr : s.control.retire = .results) (he : s.control.engine ≠ .faulted) :
    exec (.resultsWriteDone .current false) s =
      .next (((s.setRetire .none).endUnit).engineFaults .writeError e.record.addr) := by
  refine congrArg Host.Outcome.next ?_
  simp [hr, hq, he]

theorem exec_resultsWriteDone_faulted (s : State) (ok : Bool) (hq : s.control.queue ≠ [])
    (hr : s.control.retire = .results) (he : s.control.engine = .faulted) :
    exec (.resultsWriteDone .current ok) s = .next (s.setRetire .none).endUnit := by
  obtain ⟨e, rest, hq⟩ := List.exists_cons_of_ne_nil hq
  refine congrArg Host.Outcome.next ?_
  simp [hr, hq, he]

theorem exec_doneWriteDone_busError (s : State) (e : QueueEntry) (rest : List QueueEntry)
    (hq : s.control.queue = e :: rest) (hr : s.control.retire = .done) : exec (.doneWriteDone .current false) s =
      .next (((s.setRetire .none).endUnit).engineFaults .writeError e.record.addr) := by
  refine congrArg Host.Outcome.next ?_
  simp [hr, hq]

theorem exec_spentWriteDone_busError (s : State) (f : Addr) (hi : s.walker.spentInFlight = some f) :
    exec (.spentWriteDone .current false) s =
      .next (((s.setWalker { s.walker with spentInFlight := none }).endUnit).engineFaults .writeError (trailerAddr f)) := by
  refine congrArg Host.Outcome.next ?_
  simp [hi]

/-- Settles O29: the first bus error of each transaction faults the engine, and one in FAULTED ends its unit alone. -/
theorem busErrorsFault : Obligations.BusErrorsFault := by
  refine ⟨?_, ?_, ?_, ?_, ?_, ?_⟩
  · intro s f i n d he hu hc
    exact ⟨_, exec_recordReadDone_busError s f i n d hu hc, s.walkerUnit_faulted _ _ he⟩
  · intro s f d he hu hc
    exact ⟨_, exec_trailerReadDone_busError s f d hu hc, s.walkerUnit_faulted _ _ he⟩
  · intro s r sl he hu
    exact ⟨_, exec_takenWriteDone_busError s r sl hu, s.walkerUnit_faulted _ _ he⟩
  · intro s e rest he hq
    have hn : s.control.queue ≠ [] := by simp [hq]
    refine ⟨fun hr => ⟨_, exec_resultsWriteDone_busError s e rest hq hr ?_, s.retirement_faulted _ he hn⟩,
      fun hr => ⟨_, exec_doneWriteDone_busError s e rest hq hr, s.retirement_faulted _ he hn⟩⟩
    rcases he with he | he <;> simp [he]
  · intro s f he hi
    exact ⟨_, exec_spentWriteDone_busError s f hi, s.spentWrite_faulted _ he⟩
  · intro s he
    have retire : ((s.setRetire .none).endUnit) = { s.endUnit with control := { s.control with retire := .none } } := by
      rw [s.setRetire_endUnit]
      simp [State.setRetire, State.setControl, State.setWalker]
    refine ⟨fun f i n d hu hc => ?_, fun f d hu hc => ?_, fun r sl ok hu => ?_, fun ok hq hr => ?_, fun hq hr => ?_,
      fun f hi => ?_⟩
    · rw [exec_recordReadDone_busError s f i n d hu hc, s.walkerUnit_failsFaulted _ _ he]
    · rw [exec_trailerReadDone_busError s f d hu hc, s.walkerUnit_failsFaulted _ _ he]
    · rw [exec_takenWriteDone_discarded s r sl ok hu, State.endWalkerUnit_eq]
      rfl
    · rw [exec_resultsWriteDone_faulted s ok hq hr he, retire]
    · obtain ⟨e, rest, hq⟩ := List.exists_cons_of_ne_nil hq
      rw [exec_doneWriteDone_busError s e rest hq hr, State.engineFaults_faulted _ _ _ (by simpa using he), retire]
    · rw [exec_spentWriteDone_busError s f hi, State.engineFaults_faulted _ _ _ (by simpa using he),
        State.setWalker_endUnit]
      rfl

end Sys2Proof.Machine
end

section
/-! The completions of TAKEN writes: the orders that run at their take, and the starts of sheets and loads (R11 to R13, R20,
R37, R42, R43, R65, R118, R166, R171). -/

namespace Sys2Proof.Machine

/-! ## Emptying a group of slots (R40, R42, R43, R114) -/

theorem StoreSlot.emptied_iff (group : StoreSlot → Bool) (x : StoreSlot) :
    x.emptied group = true ↔ group x = true ∧ x.state ≠ .empty ∧ x.holders = ⟨false, false⟩ := by
  obtain ⟨st, k, ⟨a, b⟩, bs, d, f⟩ := x
  simp [StoreSlot.emptied, Holders.none, and_assoc]

namespace TileStore

theorem emptyGroup_lru (t : TileStore) (g : SlotGroup) (i : Fin 128) : (t.emptyGroup g).sets[i].lru = t.sets[i].lru := by
  simp [emptyGroup, TileSet.mapWays]

theorem emptyGroup_slot (t : TileStore) (g : SlotGroup) (i : Fin 128) (w : Way) :
    (t.emptyGroup g).slot i w = if (t.slot i w).emptied (g i) then StoreSlot.blank else t.slot i w := by
  have hs : (t.emptyGroup g).sets[i] = t.sets[i].mapWays fun y => if y.emptied (g i) then StoreSlot.blank else y :=
    Vector.getElem_ofFn i.isLt
  rw [slot, hs]
  cases w <;> rfl

theorem groupSize_eq (t : TileStore) (g : SlotGroup) : t.groupSize g =
    ((List.finRange 128).map fun i => (if (t.slot i .w0).emptied (g i) then 1 else 0) +
      (if (t.slot i .w1).emptied (g i) then 1 else 0)).sum := rfl

end TileStore

/-- The sets of a subject are the ones of its sixteen profiles (R42). -/
theorem subjectSets_eq (n : Nat) (i : Fin 128) :
    subjectSets n i = (List.range 16).any fun p => i.val == (n + 16 * p) % 128 := by
  rw [Bool.eq_iff_iff]
  simp only [subjectSets, List.any_eq_true, List.mem_finRange, true_and, List.mem_range, beq_iff_eq, keySet, Fin.ext_iff,
    Fin.ofNat]
  constructor
  · rintro ⟨p, h⟩
    exact ⟨p.val, p.isLt, h.symm⟩
  · rintro ⟨p, hp, h⟩
    exact ⟨⟨p, hp⟩, h.symm⟩

theorem emptied_ofSubject (n : Nat) (i : Fin 128) (x : StoreSlot) : x.emptied (ofSubject n i) = purges n i x := by
  rw [Bool.eq_iff_iff, StoreSlot.emptied_iff]
  cases hk : x.key <;> simp [ofSubject, purges, subjectSets_eq, hk, and_assoc]

/-! ## The PRESS arguments (R166) -/

theorem clampTo_eq (lo hi v : Nat) (h : lo ≤ hi) : clampTo lo hi v = max lo (min hi v) := by
  unfold clampTo
  split_ifs <;> omega

theorem clampMark_getLsbD (i j v v' : Nat) (hj : j < 5) :
    (clampMark i v v').getLsbD j = (decide (i = j) && decide (v' ≠ v)) := by
  unfold clampMark
  split
  · simp_all
  · rename_i hne
    have h1 : (1#5 <<< i).getLsbD j = decide (i = j) := by
      rw [BitVec.getLsbD_shiftLeft]
      rcases Nat.lt_trichotomy i j with h | h | h
      · have : j - i ≠ 0 := by omega
        simp [BitVec.getLsbD_one, this, Nat.ne_of_lt h]
      · simp [h, hj]
      · simp [h, Nat.ne_of_gt h]
    rw [h1]
    simp [Ne.symm hne]

/-! ## The starts of orders (R12, R184) -/

namespace State

section
variable {s : State} {r : OrderRecord} {sl : Option SheetSlot}

theorem startOrder_skip (h : r.kind = .skip) : s.startOrder r sl = s.joinFinished r .ok .none 0 := by simp [startOrder, h]

theorem startOrder_unknown (h : r.kind = .unknown) : s.startOrder r sl = s.joinFinished r .badKind .none 0 := by
  simp [startOrder, h]

theorem startOrder_mark (h : r.kind = .mark) : s.startOrder r sl = (s.joinQueue r false Results.blank none).markHead := by
  simp [startOrder, h]

theorem startOrder_purge (h : r.kind = .purge) : s.startOrder r sl = s.runPurge r := by simp [startOrder, h]

theorem startOrder_flush (h : r.kind = .flush) : s.startOrder r sl = s.runFlush r := by simp [startOrder, h]

theorem startOrder_storeMode (h : r.kind = .storeMode) : s.startOrder r sl = s.runStoreMode r := by simp [startOrder, h]

theorem startOrder_press (h : r.kind = .press) : s.startOrder r sl = s.runPress r := by simp [startOrder, h]

theorem startOrder_profile (h : r.kind = .profile) : s.startOrder r sl = s.startProfile r := by simp [startOrder, h]

theorem startOrder_glyphs (h : r.kind = .glyphs) : s.startOrder r sl = s.startGlyphs r := by simp [startOrder, h]

end

theorem startOrder_sheet (s : State) {r : OrderRecord} (sl : SheetSlot) (h : r.kind = .sheet) :
    s.startOrder r (some sl) = s.startSheet r sl := by
  simp [startOrder, h]

@[simp] theorem joinFinished_control (s : State) (r : OrderRecord) (o : OrderOutcome) (d : Detail) (n : Nat) :
    (s.joinFinished r o d n).control = { s.control with
      queue := s.control.queue ++ [⟨r, true, { Results.blank with outcome := o, detail := d, slotsEmptied := n }, none⟩] } :=
  rfl

@[simp] theorem joinQueue_control (s : State) (r : OrderRecord) (f : Bool) (x : Results) (sl : Option SheetSlot) :
    (s.joinQueue r f x sl).control = { s.control with queue := s.control.queue ++ [⟨r, f, x, sl⟩] } := rfl

/-- A MARK that joins is FINISHED at once where it is the head, and no entry before it changes (R12). -/
theorem markHead_joinQueue_control (s : State) (r : OrderRecord) (hr : r.kind = .mark)
    (hq : ∀ e ∈ s.control.queue.head?, ¬(e.record.kind = .mark ∧ e.finished = false)) :
    (s.joinQueue r false Results.blank none).markHead.control =
      { s.control with queue := s.control.queue ++ [⟨r, s.control.queue.isEmpty, Results.blank, none⟩] } := by
  cases h : s.control.queue with
  | nil => simp [markHead, h, hr]
  | cons e rest =>
    have he : ¬(e.record.kind = .mark ∧ e.finished = false) := hq e (by simp [h])
    simp [markHead, h, he]

/-- A mode of a STORE_MODE order is taken, and any other is refused. -/
theorem runStoreMode_eq (s : State) (r : OrderRecord) : s.runStoreMode r =
    (s.setStore { s.store with
      mode := if r.arg8 4 = 0 then .normal else if r.arg8 4 = 1 then .frozen else if r.arg8 4 = 2 then .bypass
        else s.store.mode }).joinFinished r
      (if r.arg8 4 < 3 then .ok else .refused) (if r.arg8 4 < 3 then .none else .mode) 0 := by
  unfold runStoreMode
  generalize r.arg8 4 = n
  match n with
  | 0 => rfl
  | 1 => rfl
  | 2 => rfl
  | n + 3 => simp [storeModeOf, State.setStore]

theorem runPress_eq (s : State) (r : OrderRecord) : s.runPress r =
    (s.setLink { s.link with config := (pressConfig r).1 }).joinFinished r
      (if (pressConfig r).2 = 0#5 then .ok else .noted)
      (if (pressConfig r).2 = 0#5 then .none else .marks (pressConfig r).2) 0 := by
  unfold runPress
  dsimp only
  split <;> rfl

/-! ## Starting a load (R37, R41, R118, R121) -/

section
variable (s : State) (r : OrderRecord)

theorem startProfile_starts (h : r.arg8 4 < 16) (ha : s.window.abandon = false) : s.startProfile r =
    s.setControl { s.control with
      queue := s.control.queue ++ [⟨r, false, Results.blank, none⟩]
      barrier := .profile ⟨r.arg8 4, h⟩ (r.argAddr 8) false false } := by
  rw [startProfile, dif_pos h, if_neg (by simp [ha])]
  rfl

theorem startProfile_abandoned (h : r.arg8 4 < 16) (ha : s.window.abandon = true) : s.startProfile r =
    (s.unsetProfile ⟨r.arg8 4, h⟩).joinFinished r .abandoned .none 0 := by
  rw [startProfile, dif_pos h, if_pos ha]

theorem startProfile_refused (h : 16 ≤ r.arg8 4) : s.startProfile r = s.joinFinished r .refused .number 0 :=
  dif_neg (by omega)

theorem startGlyphs_starts (h : r.arg8 4 < 3) (hc : r.arg16 6 ≤ 512) (ha : s.window.abandon = false) : s.startGlyphs r =
    s.setControl { s.control with
      queue := s.control.queue ++ [⟨r, false, Results.blank, none⟩]
      barrier := .glyphs ⟨⟨r.arg8 4, h⟩, r.arg16 6, r.argAddr 8, [], false, false, false, false⟩ } := by
  rw [startGlyphs, dif_pos h, if_neg (by omega), if_neg (by simp [ha])]
  rfl

theorem startGlyphs_abandoned (h : r.arg8 4 < 3) (hc : r.arg16 6 ≤ 512) (ha : s.window.abandon = true) : s.startGlyphs r =
    (s.unsetGlyphs ⟨r.arg8 4, h⟩).joinFinished r .abandoned .none 0 := by
  rw [startGlyphs, dif_pos h, if_neg (by omega), if_pos ha]

theorem startGlyphs_refused (h : 3 ≤ r.arg8 4 ∨ 512 < r.arg16 6) : s.startGlyphs r =
    s.joinFinished r .refused (if 3 ≤ r.arg8 4 then .number else .count) 0 := by
  unfold startGlyphs
  by_cases h3 : r.arg8 4 < 3
  · rw [dif_pos h3, if_pos (by omega), if_neg (by omega)]
  · rw [dif_neg h3, if_pos (by omega)]

end

/-! ## Starting an order in a drain (R20)

Outside an abandon nothing that the start of an order does depends on the engine's state. -/

/-- The engine in a state, all else kept. -/
def withEngine (s : State) (e : EngineState) : State := s.setControl { s.control with engine := e }

/-- A sheet without a ticket begins its planning with the ticket read, or waits for the planner (R65). -/
theorem enterPlanning_unread (s : State) (sl : SheetSlot) (sh : Sheet) (h : s.sheet sl = some sh) (ht : sh.ticket = none) :
    s.enterPlanning sl = s.setPlanner (match s.planner.job with
      | none => { s.planner with job := some (PlanJob.fresh sl .ticket) }
      | some _ => { s.planner with waiting := some sl }) := by
  unfold enterPlanning
  cases s.planner.job with
  | none => simp [beginPlanning, h, ht]
  | some j => rfl

/-- A new SHEET order in RUNNING or a plain drain: its sheet begins planning, or waits for the planner (R65). -/
theorem startSheet_plans (s : State) (r : OrderRecord) (sl : SheetSlot) (ha : s.window.abandon = false) :
    s.startSheet r sl = ((s.joinQueue r false Results.blank (some sl)).setSheet sl
      (some (Sheet.taken r (s.sheet (otherSlot sl)).isNone))).setPlanner (match s.planner.job with
        | none => { s.planner with job := some (PlanJob.fresh sl .ticket) }
        | some _ => { s.planner with waiting := some sl }) := by
  have hsh : ((s.joinQueue r false Results.blank (some sl)).setSheet sl
      (some (Sheet.taken r (s.sheet (otherSlot sl)).isNone))).sheet sl =
        some (Sheet.taken r (s.sheet (otherSlot sl)).isNone) := by
    rw [sheet_setSheet, if_pos rfl]
  unfold startSheet
  dsimp only
  rw [if_neg (by simp [ha]), enterPlanning_unread _ sl _ hsh rfl]
  simp

section
variable (s : State) (r : OrderRecord) (e : EngineState)

theorem markHead_withEngine : (s.withEngine e).markHead = s.markHead.withEngine e := by
  unfold markHead
  cases hq : s.control.queue with
  | nil => simp [withEngine, hq]
  | cons x rest =>
    simp only [withEngine, setControl_control, hq]
    split <;> simp [setControl, hq]

theorem startSheet_withEngine (sl : SheetSlot) (ha : s.window.abandon = false) :
    (s.withEngine e).startSheet r sl = (s.startSheet r sl).withEngine e := by
  rw [startSheet_plans s r sl ha, startSheet_plans (s.withEngine e) r sl ha]
  cases sl <;> rfl

theorem startProfile_withEngine (ha : s.window.abandon = false) :
    (s.withEngine e).startProfile r = (s.startProfile r).withEngine e := by
  by_cases h : r.arg8 4 < 16
  · rw [startProfile_starts s r h ha, startProfile_starts (s.withEngine e) r h ha]
    rfl
  · rw [startProfile_refused s r (by omega), startProfile_refused (s.withEngine e) r (by omega)]
    rfl

theorem startGlyphs_withEngine (ha : s.window.abandon = false) :
    (s.withEngine e).startGlyphs r = (s.startGlyphs r).withEngine e := by
  by_cases h : 3 ≤ r.arg8 4 ∨ 512 < r.arg16 6
  · rw [startGlyphs_refused s r h, startGlyphs_refused (s.withEngine e) r h]
    rfl
  · rw [startGlyphs_starts s r (by omega) (by omega) ha, startGlyphs_starts (s.withEngine e) r (by omega) (by omega) ha]
    rfl

theorem runPurge_withEngine : (s.withEngine e).runPurge r = (s.runPurge r).withEngine e := by
  unfold runPurge
  dsimp only
  split <;> rfl

theorem startOrder_withEngine (sl : Option SheetSlot) (ha : s.window.abandon = false) (hsl : r.kind = .sheet → sl ≠ none) :
    (s.withEngine e).startOrder r sl = (s.startOrder r sl).withEngine e := by
  unfold startOrder
  cases hk : r.kind with
  | sheet =>
    obtain ⟨x, rfl⟩ := Option.ne_none_iff_exists'.1 (hsl hk)
    exact startSheet_withEngine s r e x ha
  | profile => exact startProfile_withEngine s r e ha
  | glyphs => exact startGlyphs_withEngine s r e ha
  | purge => exact runPurge_withEngine s r e
  | storeMode => simp only [runStoreMode_eq]; rfl
  | press => simp only [runPress_eq]; rfl
  | mark => exact markHead_withEngine (s.joinQueue r false Results.blank none) e
  | flush | skip | unknown => rfl

theorem markHead_length : s.markHead.control.queue.length = s.control.queue.length := by
  unfold markHead
  cases hq : s.control.queue with
  | nil => simp [hq]
  | cons x rest =>
    dsimp only
    split <;> simp [hq]

/-- The start of an order adds one entry to the retire queue. -/
theorem startOrder_length (sl : Option SheetSlot) (ha : s.window.abandon = false) (hsl : r.kind = .sheet → sl ≠ none) :
    (s.startOrder r sl).control.queue.length = s.control.queue.length + 1 := by
  cases hk : r.kind with
  | sheet =>
    obtain ⟨x, rfl⟩ := Option.ne_none_iff_exists'.1 (hsl hk)
    rw [startOrder_sheet s x hk, startSheet_plans s r x ha]
    simp
  | profile =>
    rw [startOrder_profile hk]
    by_cases h : r.arg8 4 < 16
    · simp [startProfile_starts s r h ha]
    · simp [startProfile_refused s r (by omega)]
  | glyphs =>
    rw [startOrder_glyphs hk]
    by_cases h : 3 ≤ r.arg8 4 ∨ 512 < r.arg16 6
    · simp [startGlyphs_refused s r h]
    · simp [startGlyphs_starts s r (by omega) (by omega) ha]
  | purge =>
    rw [startOrder_purge hk, runPurge]
    split <;> simp
  | flush => simp [startOrder_flush hk, runFlush]
  | storeMode => simp [startOrder_storeMode hk, runStoreMode_eq]
  | press => simp [startOrder_press hk, runPress_eq]
  | mark => simp [startOrder_mark hk, markHead_length]
  | skip => simp [startOrder_skip hk]
  | unknown => simp [startOrder_unknown hk]

end

/-- The completion of a TAKEN write whose result is not discarded: the order starts and the walker goes on (R11, R20). -/
theorem exec_takenWriteDone (s : State) (r : OrderRecord) (sl : Option SheetSlot) (hu : s.walker.unit = .taken r sl false) :
    exec (.takenWriteDone .current true) s = .next (s.endWalkerUnit.startOrder r sl).afterTake := by
  refine congrArg Host.Outcome.next ?_
  simp [hu]

theorem endWalkerUnit_withEngine (s : State) (e : EngineState) :
    (s.withEngine e).endWalkerUnit = s.endWalkerUnit.withEngine e := by
  have hc : s.endWalkerUnit.control = s.control := by simp
  simp only [withEngine, hc]
  exact setControl_endUnit (s.setWalker { s.walker with unit := .none }) _

theorem exec_takenWriteDone_running (s : State) {r : OrderRecord} {sl : Option SheetSlot}
    (hu : s.walker.unit = .taken r sl false) (he : s.control.engine = .running) {p : State}
    (hp : s.endWalkerUnit.startOrder r sl = p) : exec (.takenWriteDone .current true) s = .next p.walkOn := by
  rw [exec_takenWriteDone s r sl hu, hp, afterTake, if_pos]
  simp [← hp, he]

/-- In a drain with an order left the walker rests STOPPED after a take (R20, R185). -/
theorem afterTake_draining (s : State) (he : s.control.engine = .draining) (hq : s.control.queue ≠ []) :
    s.afterTake = s.setWalker { s.walker with state := .stopped } := by
  rw [afterTake, if_neg (by simp [he]), walkerRests, if_pos he, stopIfDrained_stays]
  simp [drained_iff, hq]

end State

/-! ## Orders that run at their take in RUNNING (R12, R42, R43, R166) -/

/-- The press configuration that a PRESS order brings is its values in their ranges, with the marks of those that changed. -/
theorem pressConfig_config (r : OrderRecord) : (pressConfig r).1 =
    ⟨max 5 (min 500 (r.arg16 4)), min (max 5 (min 500 (r.arg16 4))) (r.arg16 6), max 100 (min 10000 (r.arg16 8)),
      max 1 (min 30 (r.arg16 10)), max 1 (min 600 (r.arg16 12))⟩ := by
  simp only [pressConfig, clampTo_eq _ _ _ (show 5 ≤ 500 by decide), clampTo_eq _ _ _ (show 100 ≤ 10000 by decide),
    clampTo_eq _ _ _ (show 1 ≤ 30 by decide), clampTo_eq _ _ _ (show 1 ≤ 600 by decide), clampTo_eq _ _ _ (Nat.zero_le _),
    Nat.zero_max]

theorem pressConfig_marks (r : OrderRecord) :
    (pressConfig r).2.getLsbD 0 = decide ((pressConfig r).1.bandPeriod ≠ r.arg16 4) ∧
    (pressConfig r).2.getLsbD 1 = decide ((pressConfig r).1.grace ≠ r.arg16 6) ∧
    (pressConfig r).2.getLsbD 2 = decide ((pressConfig r).1.acceptLimit ≠ r.arg16 8) ∧
    (pressConfig r).2.getLsbD 3 = decide ((pressConfig r).1.resultLimit ≠ r.arg16 10) ∧
    (pressConfig r).2.getLsbD 4 = decide ((pressConfig r).1.waitLimit ≠ r.arg16 12) := by
  refine ⟨?_, ?_, ?_, ?_, ?_⟩ <;> rw [Bool.eq_iff_iff, decide_eq_true_iff] <;>
    simp [-BitVec.getLsbD_eq_getElem, pressConfig, clampMark_getLsbD]

/-- Settles O26: by the kind of the order in RUNNING; in a drain the start commutes with the engine's state. -/
theorem plainOrdersRun : Obligations.PlainOrdersRun := by
  refine ⟨?_, ?_, ?_, ?_, ?_, ?_, ?_⟩
  · intro s r sl hu he hr
    have hp : s.endWalkerUnit.startOrder r sl =
        s.endWalkerUnit.joinFinished r (if r.kind = .skip then .ok else .badKind) .none 0 := by
      rcases hr with hr | hr
      · rw [State.startOrder_skip hr, if_pos hr]
      · rw [State.startOrder_unknown hr, if_neg (by simp [hr])]
    refine ⟨_, s.exec_takenWriteDone_running hu he hp, by simp [Results.blank], by simp,
      by simp [State.endWalkerUnit_port], by simp, by simp, ?_, State.walkOn_walksOn _, by simp⟩
    constructor <;> simp
  · intro s r sl hu he hr hq
    refine ⟨_, s.exec_takenWriteDone_running hu he (State.startOrder_mark hr), ?_, by simp,
      by simp [State.endWalkerUnit_port], by simp, by simp, ?_, State.walkOn_walksOn _, by simp⟩
    · have hc := s.endWalkerUnit.markHead_joinQueue_control r hr (by simpa using hq)
      simp [hc]
    · constructor <;> simp
  · intro s r sl hu he hr
    refine ⟨fun hn => ?_, fun h0 h1 => ?_⟩
    · have hp : s.endWalkerUnit.startOrder r sl = s.endWalkerUnit.joinFinished r .refused .subject 0 := by
        rw [State.startOrder_purge hr]
        exact if_pos hn
      refine ⟨_, s.exec_takenWriteDone_running hu he hp, by simp [Results.blank], by simp,
        by simp [State.endWalkerUnit_port], by simp, ?_, State.walkOn_walksOn _, by simp⟩
      constructor <;> simp
    · have hp : s.endWalkerUnit.startOrder r sl =
          (s.endWalkerUnit.setStore (s.store.emptyGroup (ofSubject (r.arg32 4)))).joinFinished r .ok .none
            (s.store.groupSize (ofSubject (r.arg32 4))) := by
        rw [State.startOrder_purge hr, State.runPurge, if_neg]
        · simp
        · simp [Config.maxSubject]
          omega
      refine ⟨_, s.store.groupSize (ofSubject (r.arg32 4)), s.exec_takenWriteDone_running hu he hp,
        by simp [Results.blank], ?_, fun i w => ⟨?_, ?_⟩, by simp, by simp, by simp [State.endWalkerUnit_port], by simp, ?_,
        State.walkOn_walksOn _, by simp⟩
      · simp only [TileStore.groupSize_eq, emptied_ofSubject]
      · simpa using s.store.emptyGroup_lru _ i
      · simp [TileStore.emptyGroup_slot, emptied_ofSubject, StoreSlot.blank]
      · constructor <;> simp
  · intro s r sl hu he hr
    have hp : s.endWalkerUnit.startOrder r sl = (s.endWalkerUnit.setStore (s.store.emptyGroup everySlot)).joinFinished r
        .ok .none (s.store.groupSize everySlot) := by
      rw [State.startOrder_flush hr, State.runFlush]
      simp
    refine ⟨_, s.exec_takenWriteDone_running hu he hp, by simp [Results.blank], fun i w => ⟨?_, ?_⟩,
      by simp [State.endWalkerUnit_port], by simp, ?_, State.walkOn_walksOn _, by simp⟩
    · simpa using s.store.emptyGroup_lru _ i
    · simp [TileStore.emptyGroup_slot, StoreSlot.emptied_iff, everySlot]
    · constructor <;> simp
  · intro s r sl hu he hr
    have hp := (State.startOrder_storeMode (sl := sl) hr).trans (State.runStoreMode_eq s.endWalkerUnit r)
    refine ⟨_, s.exec_takenWriteDone_running hu he hp, ?_, by simp, by simp [State.endWalkerUnit_port], by simp,
      State.walkOn_walksOn _, by simp⟩
    by_cases h3 : r.arg8 4 < 3 <;> simp [Results.blank, h3]
  · intro s r sl hu he hr
    have hp := (State.startOrder_press (sl := sl) hr).trans (State.runPress_eq s.endWalkerUnit r)
    obtain ⟨m0, m1, m2, m3, m4⟩ := pressConfig_marks r
    refine ⟨_, (pressConfig r).2, s.exec_takenWriteDone_running hu he hp, ?_, by simp [← pressConfig_config], m0, m1, m2, m3,
      m4, by simp, by simp [State.endWalkerUnit_port], by simp, State.walkOn_walksOn _, by simp⟩
    · split <;> simp_all [Results.blank]
  · intro s r sl hu he ha hsl
    have hrun := State.exec_takenWriteDone_running (s.withEngine .running) hu rfl
      ((congrArg (State.startOrder · r sl) (s.endWalkerUnit_withEngine .running)).trans
        (State.startOrder_withEngine _ r .running sl (by simpa using ha) hsl))
    have hlen := s.endWalkerUnit.startOrder_length r sl (by simpa using ha) hsl
    have heng : (s.endWalkerUnit.startOrder r sl).control.engine = .draining := by simpa using he
    have hdrain := s.exec_takenWriteDone r sl hu
    rw [State.afterTake_draining _ heng (by rintro h; simp [h] at hlen)] at hdrain
    refine ⟨_, _, hrun, hdrain, ?_, by simpa using hlen⟩
    generalize s.endWalkerUnit.startOrder r sl = p at heng ⊢
    rw [← heng]
    rfl

end Sys2Proof.Machine
end

section
/-! The starts of sheets and of loads at their take (R11, R20, R37, R41, R65, R118, R121, R171). -/

namespace Sys2Proof.Machine

/-- The other orders of the queue stay as they are where the one that has just joined ends. -/
theorem queueEnded_joined (q : List QueueEntry) (r : OrderRecord) (sl : SheetSlot) (o : OrderOutcome)
    (h : ∀ e ∈ q, e.slot ≠ some sl) : queueEnded (q ++ [⟨r, false, Results.blank, some sl⟩]) sl o .none =
      q ++ [⟨r, true, { Results.blank with outcome := o }, none⟩] := by
  rw [queueEnded, List.map_append, List.map_congr_left (g := id), List.map_id]
  · simp [Results.blank]
  · exact fun e he => if_neg (h e he)

theorem State.sheet_endWalkerUnit (s : State) (sl : SheetSlot) : s.endWalkerUnit.sheet sl = s.sheet sl :=
  State.sheet_of_control (by simp) sl

theorem State.sheet_walkOn (s : State) (sl : SheetSlot) : s.walkOn.sheet sl = s.sheet sl :=
  State.sheet_of_control rfl sl

theorem State.sheet_joinQueue (s : State) (r : OrderRecord) (f : Bool) (x : Results) (o : Option SheetSlot)
    (sl : SheetSlot) : (s.joinQueue r f x o).sheet sl = s.sheet sl := by
  cases sl <;> rfl

/-- A SHEET order that starts in an abandon ends ABANDONED at once, its slot FREE (R20, R171, R186). -/
theorem State.startSheet_abandoned (s : State) (r : OrderRecord) (sl : SheetSlot) (ha : s.window.abandon = true)
    (hl : s.linkHolds sl = false) (hw : s.writerServes sl = false) (hq : ∀ e ∈ s.control.queue, e.slot ≠ some sl) :
    (s.startSheet r sl).sheet sl = none ∧
    (s.startSheet r sl).control.queue = s.control.queue ++ [⟨r, true, { Results.blank with outcome := .abandoned }, none⟩] ∧
    (s.startSheet r sl).sheet (otherSlot sl) = (s.sheet (otherSlot sl)).map (fun x => { x with first := true }) ∧
    (s.startSheet r sl).planner = s.planner := by
  let u := (s.joinQueue r false Results.blank (some sl)).setSheet sl
      (some (Sheet.taken r (s.sheet (otherSlot sl)).isNone))
  have hu : s.startSheet r sl = u.endSheet sl .abandoned .none := if_pos ha
  have hsh : u.sheet sl = some (Sheet.taken r (s.sheet (otherSlot sl)).isNone) := by
    rw [State.sheet_setSheet, if_pos rfl]
  obtain ⟨hqueue, hfree, hother, -, -⟩ := u.endSheet_frees sl _ .abandoned .none hsh (by simp [Sheet.taken]) rfl rfl
    ((State.linkHolds_of_link (by simp [u]) sl).trans hl) ((State.writerServes_of_writer (by simp [u]) sl).trans hw)
  rw [hu]
  refine ⟨hfree, ?_, ?_, by simp [u]⟩
  · rw [hqueue]
    simpa [u] using queueEnded_joined s.control.queue r sl .abandoned hq
  · rw [hother, State.sheet_setSheet, if_neg (otherSlot_ne sl)]
    rfl

/-- A FINISHED order has joined in a drain, the walker STOPPED. -/
theorem State.joinFinished_stopped (s : State) (r : OrderRecord) (o : OrderOutcome) (d : Detail) :
    (s.joinFinished r o d 0).setWalker { (s.joinFinished r o d 0).walker with state := .stopped } = { s with
      walker := { s.walker with state := .stopped }
      control := { s.control with queue := s.control.queue ++
        [⟨r, true, { Results.blank with outcome := o, detail := d }, none⟩] } } := rfl

/-- Settles O27: by the kind of the order, in RUNNING and in an abandon. -/
theorem sheetsAndLoadsStart : Obligations.SheetsAndLoadsStart := by
  refine ⟨?_, ?_, ?_, ?_, ?_⟩
  · intro s r sl hu he hr ha
    have hpl : s.endWalkerUnit.planner = s.planner := by simp
    have hp := (State.startOrder_sheet s.endWalkerUnit sl hr).trans (State.startSheet_plans _ r sl (by simpa using ha))
    refine ⟨_, s.exec_takenWriteDone_running hu he hp, by simp, ?_, ?_, by rw [← hpl]; rfl, by simp,
      by simp [State.endWalkerUnit_port], by simp, by simp, by simp, ?_, State.walkOn_walksOn _, by simp⟩
    · simp [State.sheet_walkOn, State.sheet_setSheet, State.sheet_endWalkerUnit, Sheet.taken]
    · simp [State.sheet_walkOn, State.sheet_setSheet, State.sheet_joinQueue, State.sheet_endWalkerUnit, otherSlot_ne]
    · constructor <;> simp
  · intro s r sl hu he ha hr
    refine ⟨fun h => ?_, fun h => ?_⟩
    · have hp := (State.startOrder_profile (sl := sl) hr).trans
        (s.endWalkerUnit.startProfile_starts r h (by simpa using ha))
      refine ⟨_, s.exec_takenWriteDone_running hu he hp, by simp, by simp, by simp [State.endWalkerUnit_port], by simp,
        by simp, ?_, State.walkOn_walksOn _, by simp⟩
      constructor <;> simp
    · have hp := (State.startOrder_profile (sl := sl) hr).trans (s.endWalkerUnit.startProfile_refused r h)
      refine ⟨_, s.exec_takenWriteDone_running hu he hp, by simp [Results.blank], by simp, by simp [State.endWalkerUnit_port],
        by simp, by simp, ?_, State.walkOn_walksOn _, by simp⟩
      constructor <;> simp
  · intro s r sl hu he ha hr
    refine ⟨fun h hc => ?_, fun h => ?_⟩
    · have hp := (State.startOrder_glyphs (sl := sl) hr).trans
        (s.endWalkerUnit.startGlyphs_starts r h hc (by simpa using ha))
      refine ⟨_, s.exec_takenWriteDone_running hu he hp, by simp, by simp, by simp [State.endWalkerUnit_port], by simp,
        by simp, ?_, State.walkOn_walksOn _, by simp⟩
      constructor <;> simp
    · have hp := (State.startOrder_glyphs (sl := sl) hr).trans (s.endWalkerUnit.startGlyphs_refused r h)
      refine ⟨_, s.exec_takenWriteDone_running hu he hp, by simp [Results.blank], by simp, by simp [State.endWalkerUnit_port],
        by simp, by simp, ?_, State.walkOn_walksOn _, by simp⟩
      constructor <;> simp
  · intro s r sl hu he hr ha hs hl hw hq
    obtain ⟨hfree, hqueue, hother, hplan⟩ := s.endWalkerUnit.startSheet_abandoned r sl (by simpa using ha)
      (by simpa [State.linkHolds] using hl) (by simpa [State.writerServes] using hw) (by simpa using hq)
    have hx := s.exec_takenWriteDone r (some sl) hu
    rw [State.startOrder_sheet _ sl hr, State.afterTake_draining _ (by simpa using he) (by simp [hqueue])] at hx
    exact ⟨_, hx, hfree, by simpa using hqueue, by rw [← s.sheet_endWalkerUnit]; exact hother, by simpa using he, by simp,
      by simp, by simp [State.endWalkerUnit_port], by simpa using hplan, by simp⟩
  · intro s r sl hu he ha
    have rests {q : State} (hp : s.endWalkerUnit.startOrder r sl = q) (hq : q.control.queue ≠ []) : exec (.takenWriteDone .current true) s =
          .next (q.setWalker { q.walker with state := .stopped }) := by
      rw [s.exec_takenWriteDone r sl hu, hp, State.afterTake_draining]
      · simpa [← hp] using he
      · exact hq
    have ha' : s.endWalkerUnit.window.abandon = true := by simpa using ha
    refine ⟨fun h hk => ?_, fun h hk hc => ?_, fun h => ?_⟩
    · rw [rests ((State.startOrder_profile hk).trans (State.startProfile_abandoned _ r h ha')) (by simp),
        State.unsetProfile, State.joinFinished_stopped]
      simp [State.endWalkerUnit_eq, State.setWalker, Results.blank]
    · rw [rests ((State.startOrder_glyphs hk).trans (State.startGlyphs_abandoned _ r h hc ha')) (by simp),
        State.unsetGlyphs, State.joinFinished_stopped]
      simp [State.endWalkerUnit_eq, State.setWalker, Results.blank]
    · rcases h with ⟨hk, h⟩ | ⟨hk, h⟩
      · rw [rests ((State.startOrder_profile hk).trans (State.startProfile_refused _ r h)) (by simp),
          State.joinFinished_stopped]
        simp [State.endWalkerUnit_eq, State.setWalker, hk]
      · rw [rests ((State.startOrder_glyphs hk).trans (State.startGlyphs_refused _ r h)) (by simp),
          State.joinFinished_stopped]
        by_cases h3 : r.arg8 4 < 3
        · simp [State.endWalkerUnit_eq, State.setWalker, hk, h3, Nat.not_le.2 h3]
        · simp [State.endWalkerUnit_eq, State.setWalker, hk, h3, Nat.not_lt.1 h3]

end Sys2Proof.Machine
end

section
/-! The bytes that the part writes to server memory: the fields of a record's results and of a cell report's entry (R217,
R218). -/

namespace Sys2Proof.Machine

/-! ## Fields of some bytes -/

theorem leBytes_one (v : Nat) : leBytes 1 v = [BitVec.ofNat 8 v] := by
  simp [leBytes, ← BitVec.toNat_inj]

theorem leBytes_two (v : Nat) : leBytes 2 v = [BitVec.ofNat 8 v, BitVec.ofNat 8 (v / 256)] := by
  simp [leBytes, ← BitVec.toNat_inj]

theorem leBytes_four (v : Nat) : leBytes 4 v =
    [BitVec.ofNat 8 v, BitVec.ofNat 8 (v / 256), BitVec.ofNat 8 (v / 256 / 256), BitVec.ofNat 8 (v / 256 / 256 / 256)] := by
  simp [leBytes, ← BitVec.toNat_inj]

theorem twoBytes_value (v : Nat) : v % 256 + 256 * (v / 256 % 256) = v % 65536 := by omega

theorem twoHalves_value (v : Nat) : v % 65536 + 65536 * (v / 256 / 256 % 65536) = v % 4294967296 := by omega

section
variable {bs : List Byte} {i : Nat} {x : Int}

/-- A signed 16-bit field reads as the value that was written, where that lies in its range. -/
theorem s16_of (h : u16 bs i = (x % (2 ^ 16 : Nat)).toNat % 2 ^ 16) (h1 : -2 ^ 15 ≤ x) (h2 : x < 2 ^ 15) :
    s16 bs i = x := by
  rw [s16, h]
  split <;> omega

/-- A signed 32-bit field reads as the value that was written, where that lies in its range. -/
theorem s32_of (h : u32 bs i = (x % (2 ^ 32 : Nat)).toNat % 2 ^ 32) (h1 : -2 ^ 31 ≤ x) (h2 : x < 2 ^ 31) :
    (BitVec.ofNat 32 (u32 bs i)).toInt = x := by
  rw [h, BitVec.toInt_eq_toNat_cond, BitVec.toNat_ofNat]
  split <;> omega

end

/-! ## The results of a record (R217) -/

theorem OrderOutcome.byte_lt (o : OrderOutcome) : o.byte < 256 := by cases o <;> decide

theorem Detail.code_lt (d : Detail) : d.code < 65536 := by
  cases d with
  | marks m => exact Nat.lt_trans m.isLt (by decide)
  | _ => decide

theorem resultsWritten_bytes (r : Results) : ResultsWritten r r.bytes := by
  constructor <;> simp only [Results.bytes, leBytes_one, leBytes_two, List.cons_append, List.nil_append]
  all_goals simp [u8, u16, byteAt, twoBytes_value, OrderOutcome.byte_lt, Detail.code_lt]

/-! ## The entry of a cell (R218) -/

/-- The fit that an entry writes: the cell's, or zeros. -/
def Cell.writtenFit (c : Cell) : FitRecord := c.fit.getD ⟨0, 0, 0, 0, 0, 0, 0#11⟩

section
variable (c : Cell)

theorem Cell.reportBytes_head : c.reportBytes.length = 32 ∧ u8 c.reportBytes 0 = c.kind.byte % 2 ^ 8 ∧
    u8 c.reportBytes 1 = c.role.byte % 2 ^ 8 ∧ u16 c.reportBytes 2 = (c.rosterIndex.getD 65535) % 2 ^ 16 ∧
    u32 c.reportBytes 4 = c.subject % 2 ^ 32 ∧ u32 c.reportBytes 8 = (c.rect.x % (2 ^ 32 : Nat)).toNat % 2 ^ 32 ∧
    u32 c.reportBytes 12 = (c.rect.y % (2 ^ 32 : Nat)).toNat % 2 ^ 32 ∧ byteAt c.reportBytes 21 = c.serial ∧
    u16 c.reportBytes 30 = c.notes.toNat % 2 ^ 16 := by
  simp only [Cell.reportBytes, leSigned, leBytes_one, leBytes_two, leBytes_four, List.cons_append, List.nil_append]
  simp [u8, u16, u32, byteAt, twoBytes_value, twoHalves_value]

theorem Cell.reportBytes_fit : u32 c.reportBytes 16 = c.writtenFit.s % 2 ^ 32 ∧
    u8 c.reportBytes 20 = c.writtenFit.k % 2 ^ 8 ∧
    u16 c.reportBytes 22 = (c.writtenFit.x0 % (2 ^ 16 : Nat)).toNat % 2 ^ 16 ∧
    u16 c.reportBytes 24 = (c.writtenFit.y0 % (2 ^ 16 : Nat)).toNat % 2 ^ 16 ∧
    u16 c.reportBytes 26 = (c.writtenFit.shiftX % (2 ^ 16 : Nat)).toNat % 2 ^ 16 ∧
    u16 c.reportBytes 28 = (c.writtenFit.shiftY % (2 ^ 16 : Nat)).toNat % 2 ^ 16 := by
  simp only [Cell.reportBytes, leSigned, leBytes_one, leBytes_two, leBytes_four, List.cons_append, List.nil_append]
  simp [u8, u16, u32, byteAt, twoBytes_value, twoHalves_value, Cell.writtenFit]

theorem reportEntry_bytes : ReportEntry c c.reportBytes := by
  obtain ⟨hs, hk, hx, hy, hsx, hsy⟩ := c.reportBytes_fit
  obtain ⟨hlen, hkind, hrole, hroster, hsubject, hleft, htop, hserial, hnotes⟩ := c.reportBytes_head
  refine ⟨hlen, hkind.trans (by cases c.kind <;> rfl), hrole.trans (by cases c.role <;> rfl), hroster, hsubject,
    s32_of hleft, s32_of htop, hserial, fun hf => ?_, fun f hf => ?_,
    hnotes.trans (Nat.mod_eq_of_lt (Nat.lt_trans c.notes.isLt (by decide)))⟩
  · have hw : c.writtenFit = ⟨0, 0, 0, 0, 0, 0, 0#11⟩ := by simp [Cell.writtenFit, hf]
    rw [hw] at hs hk hx hy hsx hsy
    exact ⟨hs, hk, s16_of hx (by decide) (by decide), s16_of hy (by decide) (by decide),
      s16_of hsx (by decide) (by decide), s16_of hsy (by decide) (by decide)⟩
  · have hw : c.writtenFit = f := by simp [Cell.writtenFit, hf]
    rw [hw] at hs hk hx hy hsx hsy
    exact ⟨hs, hk, s16_of hx, s16_of hy, s16_of hsx, s16_of hsy⟩

end

end Sys2Proof.Machine
end

section
/-! Retirement and SPENT writes (R9, R10, R14, R18, R182, R183, R185). -/

namespace Sys2Proof.Machine

/-! ## What follows the head's leaving (R183) -/

namespace State

/-- A MARK that has become the head is FINISHED (R12, R183). -/
theorem markHead_control (s : State) : s.markHead.control = { s.control with
    queue := match s.control.queue with
      | m :: more => if m.record.kind = .mark ∧ m.finished = false then { m with finished := true } :: more
        else s.control.queue
      | [] => [] } := by
  unfold markHead
  cases hq : s.control.queue with
  | nil => simp [← hq]
  | cons m more =>
    dsimp only
    split
    · rfl
    · simp [← hq]

theorem spentAfter_due (s : State) (f : Addr) (hf : s.walker.pendingSpent = some f) : s.spentAfter (slotAddr f 62) =
    s.setWalker { s.walker with pendingSpent := none, spentDue := s.walker.spentDue ++ [f] } := by
  simp [spentAfter, hf]

theorem spentAfter_other (s : State) (a : Addr) (h : ∀ f, s.walker.pendingSpent = some f → slotAddr f 62 ≠ a) :
    s.spentAfter a = s := by
  unfold spentAfter
  cases hf : s.walker.pendingSpent with
  | none => rfl
  | some f => exact if_neg (h f hf)

theorem unblock_other (s : State) (h : s.walker.state ≠ .blocked) : s.unblock = s := if_neg fun h' => h h'.1

/-- The retired entry has left the queue, and DONE_NOTE is raised for a record with Notify. -/
def entryLeaves (s : State) (e : QueueEntry) (rest : List QueueEntry) : State :=
  if e.record.notify then (s.setControl { s.control with queue := rest }).raise .doneNote
  else s.setControl { s.control with queue := rest }

/-- The head has left the queue and all but the end of a drain has followed. -/
def headLeaves (s : State) (e : QueueEntry) (rest : List QueueEntry) : State :=
  ((s.entryLeaves e rest).spentAfter e.record.addr).markHead.unblock.idleIfEmpty

theorem retireHead_eq (s : State) (e : QueueEntry) (rest : List QueueEntry) :
    s.retireHead e rest = (s.headLeaves e rest).stopIfDrained := rfl

section
variable (s : State) (e : QueueEntry) (rest : List QueueEntry)

@[simp] theorem entryLeaves_control : (s.entryLeaves e rest).control = { s.control with queue := rest } := by
  unfold entryLeaves
  split <;> rfl

@[simp] theorem entryLeaves_walker : (s.entryLeaves e rest).walker = s.walker := by
  unfold entryLeaves
  split <;> rfl

@[simp] theorem entryLeaves_frame : (s.entryLeaves e rest).port = s.port ∧ (s.entryLeaves e rest).store = s.store ∧
    (s.entryLeaves e rest).link = s.link ∧ (s.entryLeaves e rest).out = s.out ∧
    (s.entryLeaves e rest).window.run = s.window.run := by
  unfold entryLeaves
  split <;> simp

theorem entryLeaves_settings : SettingsKept s (s.entryLeaves e rest) := by
  unfold entryLeaves
  split <;> constructor <;> simp

@[simp] theorem headLeaves_frame : (s.headLeaves e rest).port = s.port ∧ (s.headLeaves e rest).store = s.store ∧
    (s.headLeaves e rest).link = s.link ∧ (s.headLeaves e rest).out = s.out ∧
    (s.headLeaves e rest).window.run = s.window.run ∧ (s.headLeaves e rest).walker.cursor = s.walker.cursor ∧
    (s.headLeaves e rest).walker.window = s.walker.window := by
  simp [headLeaves]

theorem headLeaves_settings : SettingsKept s (s.headLeaves e rest) := by
  have h := s.entryLeaves_settings e rest
  constructor <;> simp [headLeaves, h.pending, h.chainHead, h.depth, h.pressMode, h.sweepPreset, h.enables]

theorem headLeaves_control : (s.headLeaves e rest).control = { s.control with
    queue := match rest with
      | m :: more => if m.record.kind = .mark ∧ m.finished = false then { m with finished := true } :: more else rest
      | [] => [] } := by
  have hc : ((s.entryLeaves e rest).spentAfter e.record.addr).control = { s.control with queue := rest } := by
    simp
  simp only [headLeaves, idleIfEmpty_frame, unblock_frame, markHead_control, hc]

theorem headLeaves_unblocked : WalkerUnblocked s (s.headLeaves e rest) :=
  (((s.entryLeaves e rest).spentAfter e.record.addr).markHead.unblock_walkerUnblocked).congr (by simp)
    (by simp) (by simp [headLeaves]) (by simp [headLeaves])

theorem headLeaves_spent : (s.headLeaves e rest).walker.pendingSpent =
      ((s.entryLeaves e rest).spentAfter e.record.addr).walker.pendingSpent ∧
    (s.headLeaves e rest).walker.spentDue = ((s.entryLeaves e rest).spentAfter e.record.addr).walker.spentDue := by
  simp [headLeaves]

theorem hasEvent_idleIfEmpty (f : Event) (h : s.hasEvent f = true) : s.idleIfEmpty.hasEvent f = true := by
  unfold idleIfEmpty
  split
  · simp [hasEvent_raise, h]
  · exact h

theorem headLeaves_notes (h : e.record.notify = true) : (s.headLeaves e rest).hasEvent .doneNote = true := by
  refine hasEvent_idleIfEmpty _ _ ?_
  have hw : ((s.entryLeaves e rest).spentAfter e.record.addr).markHead.unblock.window = (s.entryLeaves e rest).window := by
    simp
  have he : (s.entryLeaves e rest).hasEvent .doneNote = true := by
    rw [entryLeaves, if_pos h, hasEvent_raise]
    simp
  rw [hasEvent, hw]
  exact he

/-- CHAIN_IDLE is raised when the last entry leaves while the walker is IDLE (R18). -/
theorem headLeaves_idle (h : rest = []) (hw : s.walker.state = .idle) :
    (s.headLeaves e rest).hasEvent .chainIdle = true := by
  have hnb : ((s.entryLeaves e rest).spentAfter e.record.addr).markHead.walker.state ≠ .blocked := by simp [hw]
  rw [headLeaves, unblock_other _ hnb, idleIfEmpty, if_pos, hasEvent_raise]
  · simp
  · simp [markHead_control, h, hw]

/-- A walker that no entry's leaving concerns stays as it is. -/
theorem headLeaves_walker (h : s.walker.state ≠ .blocked)
    (hs : ∀ f, s.walker.pendingSpent = some f → slotAddr f 62 ≠ e.record.addr) : (s.headLeaves e rest).walker = s.walker := by
  have hs' : (s.entryLeaves e rest).spentAfter e.record.addr = s.entryLeaves e rest :=
    spentAfter_other _ _ (by simpa using hs)
  rw [headLeaves, hs', unblock_other _ (by simpa using h)]
  simp

end

end State

/-! ## The end of a retirement (R182) -/

/-- The retirement is over and its unit ends. -/
def State.endRetirement (s : State) : State := (s.setRetire .none).endUnit

@[simp] theorem State.endRetirement_frame (s : State) : s.endRetirement.control = { s.control with retire := .none } ∧
    s.endRetirement.walker = s.walker ∧ s.endRetirement.port = s.endUnit.port ∧ s.endRetirement.store = s.store ∧
    s.endRetirement.link = s.link ∧ s.endRetirement.out = s.out ∧ s.endRetirement.window.run = s.window.run := by
  simp [endRetirement, setRetire, setControl_endUnit]

theorem State.endRetirement_settings (s : State) : SettingsKept s s.endRetirement := by
  constructor <;> simp [endRetirement, setRetire]

/-! ## The steps of retirement and of SPENT writes -/

theorem exec_retireStart (s : State) (e : QueueEntry) (rest : List QueueEntry) (hq : s.control.queue = e :: rest)
    (hf : e.finished = true) (hr : s.control.retire = .none) (hh : s.port.hold = .free) (he : s.control.engine ≠ .faulted) :
    exec .retireStart s =
      .next (((s.setRetire .results).beginUnit).writeServer (e.record.addr + 32#64) e.results.bytes) := by
  refine congrArg Host.Outcome.next ?_
  simp [hq, hf, hr, he, s.holdFree_iff.2 hh]

theorem exec_resultsWriteDone (s : State) (e : QueueEntry) (rest : List QueueEntry) (hq : s.control.queue = e :: rest)
    (hr : s.control.retire = .results) (he : s.control.engine ≠ .faulted) : exec (.resultsWriteDone .current true) s =
      .next ((s.setRetire .done).writeServer e.record.addr [3#8]) := by
  refine congrArg Host.Outcome.next ?_
  simp [hr, hq, he]

theorem exec_doneWriteDone (s : State) (e : QueueEntry) (rest : List QueueEntry) (hq : s.control.queue = e :: rest)
    (hr : s.control.retire = .done) : exec (.doneWriteDone .current true) s =
      .next (s.endRetirement.headLeaves e rest).stopIfDrained := by
  refine congrArg Host.Outcome.next ?_
  simp [hr, hq, State.retireHead_eq, State.endRetirement]

theorem exec_spentWriteStart (s : State) (f : Addr) (rest : List Addr) (hd : s.walker.spentDue = f :: rest)
    (hi : s.walker.spentInFlight = none) (hh : s.port.hold = .free) (he : s.control.engine ≠ .faulted) :
    exec .spentWriteStart s = .next (((s.setWalker { s.walker with spentDue := rest, spentInFlight := some f }).beginUnit).writeServer
      (trailerAddr f + 8#64) [1#8]) := by
  refine congrArg Host.Outcome.next ?_
  simp [hd, hi, he, s.holdFree_iff.2 hh]

theorem exec_spentWriteDone (s : State) (f : Addr) (hi : s.walker.spentInFlight = some f) :
    exec (.spentWriteDone .current true) s =
      .next (s.endUnit.setWalker { s.walker with spentInFlight := none }).stopIfDrained := by
  refine congrArg Host.Outcome.next ?_
  simp [hi, State.setWalker_endUnit]

/-- Settles O28: by the phase of the retirement, and by whether a SPENT write is in flight. -/
theorem retirementRuns : Obligations.RetirementRuns := by
  refine ⟨?_, ?_, ?_, ?_, ?_, ?_, ?_, ?_, by decide, by decide, fun _ => rfl⟩
  · intro s e rest hq hf hr hh he
    exact ⟨resultsWritten_bytes _, exec_retireStart s e rest hq hf hr hh he⟩
  · intro s e rest hq hr he
    exact exec_resultsWriteDone s e rest hq hr he
  · intro s e rest hq hr he
    have hx := exec_doneWriteDone s e rest hq hr
    rw [State.stopIfDrained_stays _ (by simp [State.drained_iff, State.headLeaves_control, he])] at hx
    have hcontrol := s.endRetirement.headLeaves_control e rest
    rw [s.endRetirement_frame.1] at hcontrol
    obtain ⟨hpending, hdue⟩ := s.endRetirement.headLeaves_spent e rest
    obtain ⟨htakes, hblocked, hother⟩ := s.endRetirement.headLeaves_unblocked e rest
    refine ⟨_, hx, hcontrol, State.headLeaves_notes _ e rest,
      fun h hw => State.headLeaves_idle _ e rest h (by simpa using hw), fun f hf ha => ?_, fun f hf ha => ?_,
      by simpa using hother, by simp, fun r more hb hm => ⟨htakes r more (by simpa using hb) (by simpa using hm),
        hblocked r more (by simpa using hb) (by simpa using hm)⟩,
      by simp, by simp, by simp, by simp, by simp,
      s.endRetirement_settings.trans (s.endRetirement.headLeaves_settings e rest)⟩
    · rw [hpending, hdue, ← ha, State.spentAfter_due _ f (by simpa using hf)]
      simp
    · rw [hpending, hdue, State.spentAfter_other _ _ (by simpa [hf] using ha)]
      simp [hf]
  · intro s e hq hr he hw hd hi hp hrun
    have hwalker := s.endRetirement.headLeaves_walker e [] (by simp [hw]) (by simp [hp])
    refine ⟨_, exec_doneWriteDone s e [] hq hr, ?_⟩
    rw [State.stopIfDrained_stops]
    · simp [State.headLeaves_control, hwalker]
    · simp [State.drained_iff, State.headLeaves_control, hwalker, he, hw, hd, hi]
    · simp [hrun]
  · intro s f rest hd hi hh he
    exact exec_spentWriteStart s f rest hd hi hh he
  · intro s hi
    refine congrArg Host.Outcome.next ?_
    split
    · exact if_neg fun h => hi h.1
    · rfl
  · intro s f hi he
    rw [exec_spentWriteDone s f hi, State.stopIfDrained_stays _ (by simp [State.drained_iff, he])]
    rfl
  · intro s f hi he hq hw hd hrun
    refine ⟨_, exec_spentWriteDone s f hi, ?_⟩
    rw [State.stopIfDrained_stops _ (by simp [State.drained_iff, he, hq, hw, hd]) (by simpa using hrun)]
    simp

end Sys2Proof.Machine
end

section
/-! The reads of PROFILE and GLYPHS orders (R14, R38 to R41, R118 to R121). -/

namespace Sys2Proof.Machine

/-! ## The end of a barrier (R14, R184) -/

theorem State.finishBarrier_tellsWalker (s : State) (r : Results) : WalkerUnblocked s (s.finishBarrier r) := by
  unfold State.finishBarrier
  exact (State.unblock_walkerUnblocked _).congr (by simp) (by simp) rfl rfl

/-! ## The profile block (R38, R39) -/

theorem emptied_ofProfile (n : Fin 16) (i : Fin 128) (x : StoreSlot) : x.emptied (ofProfile n i) = true ↔
    (∃ k, x.key = some k ∧ k.profile = n) ∧ x.state ≠ .empty ∧ x.holders = ⟨false, false⟩ := by
  rw [StoreSlot.emptied_iff]
  cases hk : x.key <;> simp [ofProfile, hk]

section
variable (bs : List Byte)

/-- The first structural field of a block that fails, as its detail (R38). -/
def profileFault : Detail :=
  if ¬(32 ≤ u16 bs 0 ∧ u16 bs 0 ≤ 512) then .cellWidth
  else if ¬(32 ≤ u16 bs 2 ∧ u16 bs 2 ≤ 640) then .cellHeight
  else if ¬ u8 bs 10 ≤ 1 then .edgePolicy else if ¬ u8 bs 11 ≤ 2 then .glyphSet
  else if ¬(1 ≤ u8 bs 12 ∧ u8 bs 12 ≤ 2) then .lines else if ¬ u8 bs 13 ≤ 1 then .nameOrder else .none

theorem profileBlock_refused (h : profileFault bs ≠ .none) : profileBlock bs = .error (profileFault bs) := by
  unfold profileBlock
  unfold profileFault at h ⊢
  dsimp only
  by_cases h1 : 32 ≤ u16 bs 0 ∧ u16 bs 0 ≤ 512
  swap
  · rw [if_pos (by omega), if_pos h1]
  rw [if_neg (by omega), if_neg (not_not_intro h1)]
  rw [if_neg (not_not_intro h1)] at h
  by_cases h2 : 32 ≤ u16 bs 2 ∧ u16 bs 2 ≤ 640
  swap
  · rw [if_pos (by omega), if_pos h2]
  rw [if_neg (by omega), if_neg (not_not_intro h2)]
  rw [if_neg (not_not_intro h2)] at h
  by_cases h3 : u8 bs 10 ≤ 1
  swap
  · rw [if_pos (by omega), if_pos h3]
  rw [if_neg (by omega), if_neg (not_not_intro h3)]
  rw [if_neg (not_not_intro h3)] at h
  by_cases h4 : u8 bs 11 ≤ 2
  swap
  · rw [dif_neg (by omega), if_pos h4]
  rw [dif_pos (by omega), if_neg (not_not_intro h4)]
  rw [if_neg (not_not_intro h4)] at h
  by_cases h5 : 1 ≤ u8 bs 12 ∧ u8 bs 12 ≤ 2
  swap
  · rw [if_pos (by omega), if_pos h5]
  rw [if_neg (by omega), if_neg (not_not_intro h5)]
  rw [if_neg (not_not_intro h5)] at h
  by_cases h6 : u8 bs 13 ≤ 1
  swap
  · rw [if_pos (by omega), if_pos h6]
  exact absurd (if_neg (not_not_intro h6)) h

/-- The profile of a block that passes: its fine fields brought into their ranges (R39). -/
def profileRead (hg : u8 bs 11 < 3) : Profile :=
  ⟨u16 bs 0, u16 bs 2, max 16 (min (u16 bs 2) (u16 bs 4)), min (u16 bs 2 - 1) (u16 bs 6),
    min (u16 bs 0 - 1) (u16 bs 8), if u8 bs 10 = 0 then .shift else .pad, max 1024 (min 131072 (u32 bs 16)),
    colourAt bs 20, ⟨u8 bs 11, hg⟩, u8 bs 12, if u8 bs 13 = 0 then .givenFirst else .familyFirst,
    min 32 (u8 bs 14), colourAt bs 23, colourAt bs 26⟩

theorem profileBlock_loads (h1 : 32 ≤ u16 bs 0) (h2 : u16 bs 0 ≤ 512) (h3 : 32 ≤ u16 bs 2) (h4 : u16 bs 2 ≤ 640)
    (h5 : u8 bs 10 ≤ 1) (hg : u8 bs 11 < 3) (h6 : 1 ≤ u8 bs 12) (h7 : u8 bs 12 ≤ 2) (h8 : u8 bs 13 ≤ 1) :
    ∃ marks : BitVec 5, profileBlock bs = .ok (profileRead bs hg, marks) ∧
      marks.getLsbD 0 = decide ((profileRead bs hg).headTarget ≠ u16 bs 4) ∧
      marks.getLsbD 1 = decide ((profileRead bs hg).eyeLine ≠ u16 bs 6) ∧
      marks.getLsbD 2 = decide ((profileRead bs hg).centreColumn ≠ u16 bs 8) ∧
      marks.getLsbD 3 = decide ((profileRead bs hg).maxScale ≠ u32 bs 16) ∧
      marks.getLsbD 4 = decide ((profileRead bs hg).captionGap ≠ u8 bs 14) := by
  refine ⟨clampMark 0 (u16 bs 4) (profileRead bs hg).headTarget ||| clampMark 1 (u16 bs 6) (profileRead bs hg).eyeLine |||
    clampMark 2 (u16 bs 8) (profileRead bs hg).centreColumn ||| clampMark 3 (u32 bs 16) (profileRead bs hg).maxScale |||
    clampMark 4 (u8 bs 14) (profileRead bs hg).captionGap, ?_, ?_, ?_, ?_, ?_, ?_⟩
  · unfold profileBlock
    dsimp only
    rw [if_neg (by omega), if_neg (by omega), if_neg (by omega), dif_pos hg, if_neg (by omega), if_neg (by omega),
      clampTo_eq 16 _ _ (by omega), clampTo_eq _ _ _ (Nat.zero_le _), clampTo_eq _ _ _ (Nat.zero_le _),
      clampTo_eq _ _ _ (show 1024 ≤ 131072 by decide), clampTo_eq _ _ _ (Nat.zero_le _)]
    simp [profileRead]
  all_goals
    rw [Bool.eq_iff_iff, decide_eq_true_iff]
    simp [-BitVec.getLsbD_eq_getElem, clampMark_getLsbD]

end

/-! ## The completion of the block read -/

section
variable {s : State} {n : Fin 16} {block : Addr}

theorem exec_profileBlockReadDone_abandoned (r : ReadResult) (hb : s.control.barrier = .profile n block true true) :
    exec (.profileBlockReadDone .current r) s =
      .next ((s.endUnit.unsetProfile n).finishBarrier (barrierResults .abandoned .none 0)) := by
  refine congrArg Host.Outcome.next ?_
  simp [hb]

theorem exec_profileBlockReadDone_busError (hb : s.control.barrier = .profile n block true false) :
    exec (.profileBlockReadDone .current .busError) s =
      .next ((s.endUnit.unsetProfile n).finishBarrier (barrierResults .memoryFault .blockRead 0)) := by
  refine congrArg Host.Outcome.next ?_
  simp [hb]

theorem exec_profileBlockReadDone_refused {bs : List Byte} {d : Detail}
    (hb : s.control.barrier = .profile n block true false) (hl : bs.length = 32) (hp : profileBlock bs = .error d) :
    exec (.profileBlockReadDone .current (.data bs)) s =
      .next (s.endUnit.finishBarrier (barrierResults .refused d 0)) := by
  refine congrArg Host.Outcome.next ?_
  simp [hb, hl, hp]

theorem exec_profileBlockReadDone_loads {bs : List Byte} {p : Profile} {marks : BitVec 5}
    (hb : s.control.barrier = .profile n block true false) (hl : bs.length = 32) (hp : profileBlock bs = .ok (p, marks)) :
    exec (.profileBlockReadDone .current (.data bs)) s = .next (s.endUnit.loadProfile n p marks) := by
  refine congrArg Host.Outcome.next ?_
  simp [hb, hl, hp]

end

/-- A walker is told of what follows the end of a unit as of what follows before it. -/
theorem WalkerUnblocked.of_endUnit {s u t : State} (h : WalkerUnblocked u t) (hw : u.walker = s.walker) : WalkerUnblocked s t :=
  h.congr (by rw [hw]) (by rw [hw]) rfl rfl

/-- Settles O31: the four ways in which the read of a profile block can end. -/
theorem profileBlockCompletes : Obligations.ProfileBlockCompletes := by
  refine ⟨?_, ?_, ?_, ?_⟩
  · intro s n block r hb
    refine ⟨_, exec_profileBlockReadDone_abandoned r hb, by simp [State.unsetProfile], by simp [State.unsetProfile],
      by simp, by simp, by simp, by simp, by simp, ?_, (State.finishBarrier_tellsWalker _ _).of_endUnit (by simp)⟩
    constructor <;> simp
  · intro s n block hb
    refine ⟨_, exec_profileBlockReadDone_busError hb, by simp [State.unsetProfile], by simp [State.unsetProfile],
      by simp, by simp, by simp, by simp, by simp, ?_, (State.finishBarrier_tellsWalker _ _).of_endUnit (by simp)⟩
    constructor <;> simp
  · rintro s n block bs d hb hl rfl hd
    refine ⟨_, exec_profileBlockReadDone_refused hb hl (profileBlock_refused bs hd), by simp, by simp [profileFault],
      by simp, by simp, by simp, by simp, by simp, ?_, (State.finishBarrier_tellsWalker _ _).of_endUnit (by simp)⟩
    constructor <;> simp
  · intro s n block bs hb hl h1 h2 h3 h4 h5 hg h6 h7 h8
    obtain ⟨marks, hp, m0, m1, m2, m3, m4⟩ := profileBlock_loads bs h1 h2 h3 h4 h5 hg h6 h7 h8
    refine ⟨_, profileRead bs hg, marks, exec_profileBlockReadDone_loads hb hl hp, by simp [State.loadProfile], rfl, m0, m1, m2, m3, m4,
      ?_, by simp [State.loadProfile], fun i w => ⟨?_, ?_⟩, by simp [State.loadProfile], by simp [State.loadProfile], by simp, by simp, by simp, ?_,
      (State.finishBarrier_tellsWalker _ _).of_endUnit (by simp)⟩
    · simp [State.loadProfile]
    · simpa [State.loadProfile] using s.store.emptyGroup_lru _ i
    · simp [State.loadProfile, TileStore.emptyGroup_slot, emptied_ofProfile]
    · constructor <;> simp

end Sys2Proof.Machine
end

section
/-! The units of a GLYPHS load (R14, R118 to R121, R196). -/

namespace Sys2Proof.Machine

/-! ## The map of a load (R120) -/

/-- The glyph that a map gives for a code. -/
def mapped (m : List Glyph) (c : Code) : Option Glyph := m.find? fun g => g.code == c

theorem mapped_none_iff (m : List Glyph) (c : Code) : mapped m c = none ↔ ∀ h ∈ m, h.code ≠ c := by
  simp [mapped]

theorem mapped_code {m : List Glyph} {c : Code} {g : Glyph} (h : mapped m c = some g) : g.code = c := by
  simpa using List.find?_some h

/-- A glyph that replaces those of its code changes no code of the list. -/
theorem replaced_code (g h : Glyph) : (if h.code == g.code then g else h).code = h.code := by
  by_cases hc : h.code = g.code <;> simp [hc]

theorem mapped_addGlyph (m : List Glyph) (g : Glyph) (c : Code) :
    mapped (addGlyph m g) c = if g.code = c then some g else mapped m c := by
  unfold addGlyph
  by_cases hm : m.any (fun h => h.code == g.code) = true
  · have hmap : mapped (m.map fun h => if h.code == g.code then g else h) c =
        (mapped m c).map fun h => if h.code == g.code then g else h := by
      simp only [mapped, List.find?_map, Function.comp_def, replaced_code]
    rw [if_pos hm, hmap]
    cases hx : mapped m c with
    | none =>
      have hne : g.code ≠ c := by
        obtain ⟨h, hmem, hcode⟩ := List.any_eq_true.1 hm
        rw [← beq_iff_eq.1 hcode]
        exact (mapped_none_iff m c).1 hx h hmem
      simp [hne]
    | some x =>
      rw [Option.map_some, mapped_code hx]
      by_cases hc : c = g.code
      · simp [hc]
      · simp [hc, Ne.symm hc]
  · have hnone : mapped m g.code = none := (mapped_none_iff m _).2 (by simpa using hm)
    rw [if_neg hm, mapped, List.find?_append]
    split
    · rename_i hc
      subst hc
      rw [show m.find? _ = none from hnone]
      simp
    · rename_i hc
      simp [mapped, hc]

theorem addGlyph_codes_nodup (m : List Glyph) (g : Glyph) (h : (m.map (·.code)).Nodup) :
    ((addGlyph m g).map (·.code)).Nodup := by
  unfold addGlyph
  split
  · simpa only [List.map_map, Function.comp_def, replaced_code] using h
  · rename_i hm
    rw [List.map_append, List.nodup_append]
    refine ⟨h, by simp, fun a ha b hb => ?_⟩
    obtain ⟨x, hx, rfl⟩ := List.mem_map.1 ha
    obtain rfl : b = g.code := by simpa using hb
    exact fun hxg => hm (List.any_eq_true.2 ⟨x, hx, by simp [hxg]⟩)

/-- The last record given for a code, or what the map gave for it before. -/
theorem foldl_addGlyph (gs m : List Glyph) (hm : (m.map (·.code)).Nodup) :
    ((gs.foldl addGlyph m).map (·.code)).Nodup ∧
      ∀ c, mapped (gs.foldl addGlyph m) c = (mapped gs.reverse c).or (mapped m c) := by
  induction gs generalizing m with
  | nil => exact ⟨hm, fun c => rfl⟩
  | cons g gs ih =>
    obtain ⟨hn, hc⟩ := ih (addGlyph m g) (addGlyph_codes_nodup m g hm)
    refine ⟨hn, fun c => ?_⟩
    rw [List.foldl_cons, hc, mapped_addGlyph]
    have hrev : mapped (g :: gs).reverse c = (mapped gs.reverse c).or (if g.code = c then some g else none) := by
      by_cases h : g.code = c <;> simp [mapped, List.find?_append, h]
    rw [hrev, Option.or_assoc]
    split <;> rfl

theorem glyphMap_codes_nodup (gs : List Glyph) : ((glyphMap gs).map (·.code)).Nodup :=
  (foldl_addGlyph gs [] List.nodup_nil).1

/-- The map of a block gives for each code the last record given for it (R120). -/
theorem glyphMap_find (gs : List Glyph) (c : Code) :
    ((glyphMap gs).find? fun g => g.code == c) = gs.reverse.find? fun g => g.code == c := by
  have h := (foldl_addGlyph gs [] List.nodup_nil).2 c
  simpa [mapped, glyphMap] using h

/-! ## The load area (R119, R196) -/

/-- The load area of a set holds the bytes of its block in whole granules. -/
theorem loadedSet_area (bs : List Byte) (count : Nat) (gs : List Glyph) (h : scanGlyphBlock bs count = .whole gs) :
    ∃ n, n = 16 + (gs.map fun g => 4 + g.width * u8 bs 0).sum ∧ n ≤ bs.length ∧
      (loadedSet bs gs).area.length = (n + 7) / 8 * 8 ∧
      ∀ i < (n + 7) / 8 * 8, (loadedSet bs gs).area[i]? = if i < n then bs[i]? else some 0#8 := by
  have hle := blockLength_le bs count gs h
  have hlen : (bs.take (blockLength (u8 bs 0) gs)).length = blockLength (u8 bs 0) gs := List.length_take_of_le hle
  refine ⟨blockLength (u8 bs 0) gs, rfl, hle, by rw [loadedSet, wholeGranules_length, hlen], fun i hi => ?_⟩
  split
  · rename_i hin
    rw [loadedSet, wholeGranules_kept _ _ (by rwa [hlen]), List.getElem?_take_of_lt hin]
  · rename_i hin
    exact wholeGranules_filled _ _ (by omega) (by rwa [hlen])

/-! ## The completion of a unit -/

section
variable {s : State} {l : GlyphLoad}

theorem exec_glyphUnitDone_ends (r : ReadResult) (hb : s.control.barrier = .glyphs l) (hf : l.inFlight = true)
    (h : l.abandoned = true ∨ r = .busError) : exec (.glyphUnitDone .current r) s =
      .next ((s.endUnit.unsetGlyphs l.set).finishBarrier
        (if l.abandoned then barrierResults .abandoned .none 0 else barrierResults .memoryFault .blockRead 0)) := by
  refine congrArg Host.Outcome.next ?_
  cases ha : l.abandoned with
  | true => simp [hb, hf, ha]
  | false => simp [hb, hf, ha, h.resolve_left (by simp [ha])]

theorem exec_glyphUnitDone_data {bs : List Byte} (hb : s.control.barrier = .glyphs l) (hf : l.inFlight = true)
    (ha : l.abandoned = false) (h0 : 0 < bs.length) (h1 : bs.length ≤ 4096) :
    exec (.glyphUnitDone .current (.data bs)) s = .next (s.endUnit.receiveGlyphUnit l bs) := by
  refine congrArg Host.Outcome.next ?_
  simp [hb, hf, ha, h0, h1]

/-- The load with the bytes of a unit, where no poison falls in them. -/
def GlyphLoad.grown (l : GlyphLoad) (bs : List Byte) : GlyphLoad := l.receive bs false

theorem GlyphLoad.grown_frame (l : GlyphLoad) (bs : List Byte) : (l.grown bs).set = l.set ∧
    (l.grown bs).count = l.count ∧ (l.grown bs).block = l.block ∧ (l.grown bs).bytes = l.bytes ++ bs ∧
    (l.grown bs).inFlight = false ∧ (l.grown bs).abandoned = l.abandoned ∧ (l.grown bs).poisoned = l.poisoned := by
  simp [grown, receive]

/-- With no GLYPH poison pending a unit brings its bytes alone; a failed check refuses the order. -/
theorem State.receiveGlyphUnit_refused {bs : List Byte} {d : Detail} (hp : s.check.poison ≠ .glyph)
    (h : scanGlyphBlock (l.bytes ++ bs) l.count = .refused d) :
    s.receiveGlyphUnit l bs = s.finishBarrier (barrierResults .refused d 0) := by
  simp [State.receiveGlyphUnit, GlyphLoad.receive, beq_false_of_ne hp, h]

theorem State.receiveGlyphUnit_more {bs : List Byte} {k : Nat} (hp : s.check.poison ≠ .glyph)
    (h : scanGlyphBlock (l.bytes ++ bs) l.count = .more k) :
    s.receiveGlyphUnit l bs = s.setControl { s.control with barrier := .glyphs (l.grown bs) } := by
  simp [State.receiveGlyphUnit, GlyphLoad.grown, GlyphLoad.receive, beq_false_of_ne hp, h]

theorem State.receiveGlyphUnit_whole {bs : List Byte} {gs : List Glyph} (hp : s.check.poison ≠ .glyph)
    (h : scanGlyphBlock (l.bytes ++ bs) l.count = .whole gs) :
    s.receiveGlyphUnit l bs = s.loadGlyphs (l.grown bs) gs := by
  simp [State.receiveGlyphUnit, GlyphLoad.grown, GlyphLoad.receive, beq_false_of_ne hp, h]

/-- The completion of an undamaged load (R120). -/
theorem State.loadGlyphs_eq (gs : List Glyph) (hp : l.poisoned = false) : s.loadGlyphs l gs =
    ((s.setGlyphs (s.glyphs.set l.set.val (some (loadedSet l.bytes gs)) l.set.isLt)).rewritten
      (glyphOfSet l.set)).finishBarrier
        (if (gs.map (·.code)).Nodup then barrierResults .ok .none 0 else barrierResults .noted .duplicate 0) := by
  simp [State.loadGlyphs, hp, hasDuplicate]

end

/-- Settles O32: by how the unit ends, and then by what the scan of the bytes received so far says. -/
theorem glyphUnitCompletes : Obligations.GlyphUnitCompletes := by
  refine ⟨?_, ?_⟩
  · intro s l r hb hf h
    refine ⟨_, exec_glyphUnitDone_ends r hb hf h, by simp [State.unsetGlyphs], by simp [State.unsetGlyphs],
      by simp, by simp, by simp, by simp, by simp, ?_, (State.finishBarrier_tellsWalker _ _).of_endUnit (by simp)⟩
    constructor <;> simp
  · intro s l bs hb hf ha h0 h1 hp hpo
    have hx := exec_glyphUnitDone_data hb hf ha h0 h1
    have hp' : s.endUnit.check.poison ≠ .glyph := by simpa using hp
    obtain ⟨hset, hcount, hblock, hbytes, hflight, haband, hpoison⟩ := l.grown_frame bs
    cases hscan : scanGlyphBlock (l.bytes ++ bs) l.count with
    | refused d =>
      rw [State.receiveGlyphUnit_refused hp' hscan] at hx
      refine ⟨_, hx, by simp, by simp, by simp, by simp, ?_, fun _ => (State.finishBarrier_tellsWalker _ _).of_endUnit (by simp),
        by simp, by simp, by simp, by simp⟩
      constructor <;> simp
    | more k =>
      rw [State.receiveGlyphUnit_more hp' hscan] at hx
      refine ⟨_, hx, by simp, by simp, by simp, by simp, ?_, by simp, by simp, by simp, ?_, by simp⟩
      · constructor <;> simp
      · exact fun _ _ => ⟨by simp, by simp, l.grown bs, by simp, hset, hcount, hblock, hbytes, hflight, haband.trans ha,
          hpoison.trans hpo⟩
    | whole gs =>
      rw [State.receiveGlyphUnit_whole hp' hscan, State.loadGlyphs_eq gs (hpoison.trans hpo), hset, hbytes] at hx
      refine ⟨_, hx, by simp, by simp, by simp, by simp, ?_, fun _ => (State.finishBarrier_tellsWalker _ _).of_endUnit (by simp),
        by simp, by simp, by simp, ?_⟩
      · constructor <;> simp
      · rintro _ ⟨⟩
        refine ⟨by simp, by simp [State.rewritten], ⟨loadedSet (l.bytes ++ bs) gs, by simp, rfl, rfl, rfl, rfl,
          glyphMap_codes_nodup gs, glyphMap_find gs, loadedSet_area _ _ gs hscan⟩, fun h => by simp [h], fun h => by simp [h]⟩

end Sys2Proof.Machine
end

section
/-! The link's timers that end an attempt (R144, R152, R155, R156, R160, R170, R177). -/

namespace Sys2Proof.Machine

/-! ## What the terms of a spoil speak of -/

/-- An attempt in hand is a matter of the sheets alone. -/
theorem InHand.congr {s s' : State} {a : Attempt} {sh : Sheet} {k : Ticket} (h : InHand s a sh k)
    (hc : s'.control = s.control) : InHand s' a sh k where
  sheet := (State.sheet_of_control hc _).trans h.sheet
  number := h.number
  state := h.state
  ending := h.ending
  report := h.report
  ticket := h.ticket

theorem InHand.not_finished {s : State} {a : Attempt} {sh : Sheet} {k : Ticket} (h : InHand s a sh k) :
    sh.state ≠ .finished := by
  rcases h.state with e | e <;> simp [e]

/-- A spoil after work that leaves the queue, the walker, the store and the Builder alone. -/
theorem Spoiled.congr {s s' t : State} {a : Attempt} {sh : Sheet} {k : Ticket} {c : Detail} (h : Spoiled s t a sh k c)
    (hq : s'.control.queue = s.control.queue) (hw : s'.walker = s.walker) (hs : s'.store = s.store)
    (hb : s'.builder = s.builder) (hp : s.port.outstanding ≤ s'.port.outstanding) : Spoiled s' t a sh k c where
  event := h.event
  retry := h.retry
  freed := fun h1 h2 h3 => by
    obtain ⟨hsheet, hqueue, hwalker⟩ := h.freed h1 h2 h3
    exact ⟨hsheet, by rw [hq, hqueue], hwalker.congr (by rw [hw]) (by rw [hw]) rfl rfl⟩
  kept := fun h1 h2 => by rw [hq]; exact h.kept h1 h2
  released := fun h1 => (h.released h1).congr hs hb hp rfl rfl rfl

theorem WriterStopped.congr {s s' t t' : State} {a : Attempt} (h : WriterStopped s t a) (hs : s'.writer = s.writer)
    (ht : t'.writer = t.writer) : WriterStopped s' t' a := by
  refine ⟨?_, ?_, ?_, ?_, ?_⟩ <;> rw [hs, ht]
  exacts [h.waits, h.next, h.writes, h.queued, h.other]

/-! ## The grace timer (R155, R156) -/

namespace State

/-- A spoil found while the attempt is in hand: it ends at the buffers, at the link and at the Writer, and is reported. -/
theorem spoilAttempt_spec (s : State) (a : Attempt) (sh : Sheet) (k : Ticket) (c : Detail) (h : InHand s a sh k) :
    Spoiled s (s.spoilAttempt a c) a sh k c ∧ (s.spoilAttempt a c).composer.attempt ≠ some a ∧
      BuffersEnded s (s.spoilAttempt a c) a none ∧ WriterStopped s (s.spoilAttempt a c) a ∧
      (s.spoilAttempt a c).link = ((s.endAttempt a).linkStop a).link ∧
      (s.spoilAttempt a c).out = ((s.endAttempt a).linkStop a).out := by
  have hcomposer : (s.spoilAttempt a c).composer = (s.endAttempt a).composer := by simp [spoilAttempt, stopAttempt]
  refine ⟨?_, ?_, ?_, ?_, ?_, ?_⟩
  · exact ((s.stopAttempt a).spoil_spec a sh k c (h.congr (by simp))).congr (by simp) (by simp) (by simp) (by simp) (by simp)
  · rw [hcomposer, endAttempt_attempt]
    split <;> simp_all
  · exact (s.endAttempt_buffers a).congr rfl hcomposer
  · exact (((s.endAttempt a).linkStop a).writerStop_stopped a).congr (by simp) (by simp [spoilAttempt, stopAttempt])
  · simp [spoilAttempt, stopAttempt]
  · simp [spoilAttempt, stopAttempt]

/-- The end of an attempt leaves the link and what it says to the press alone until the link ends it too. -/
theorem endAttempt_linkStopped (s : State) (h : LinkHold) (hh : s.link.held = some h) :
    LinkStopped s ((s.endAttempt h.attempt).linkStop h.attempt) h := by
  have hl := (s.endAttempt h.attempt).linkStop_stopped h (by simpa using hh)
  constructor
  · simpa using hl.silent
  · simpa using hl.aborted
  · simpa using hl.sending

end State

/-! ## The accept and result timers (R152, R160) -/

namespace State

/-- The link has let an attempt go: it is CLOSED and its attempt has ended at the buffers (R144, R149). -/
theorem dropAttempt_spec (s : State) (a : Attempt) : (s.dropAttempt a).link = Link.closedWith s.link.config s.link.ready ∧
    (s.dropAttempt a).composer.attempt ≠ some a ∧ BuffersEnded s (s.dropAttempt a) a s.link.sending := by
  have hatt : (s.linkClose.endAttempt a).composer.attempt ≠ some a := by
    rw [endAttempt_attempt]
    split <;> simp_all
  unfold dropAttempt
  cases s.link.sending with
  | none => exact ⟨by simp [linkClose], hatt, (s.linkClose.endAttempt_buffers a).congr rfl rfl⟩
  | some b => exact ⟨by simp [linkClose], by simpa using hatt, (s.linkClose.endAttempt_giveBack a b).congr rfl rfl⟩

/-- A sheet that the press is silent about: the link lets it go and its order ends (R152, R160, R175). -/
theorem dropped_ends (s : State) (a : Attempt) (sh : Sheet) (k : Ticket) (o : OrderOutcome) (d : Detail)
    (h : InHand s a sh k) (hw : s.writerServes a.slot = false) :
    let t := ((s.dropAttempt a).endSheet a.slot o d).letGo a.slot
    t.sheet a.slot = none ∧ t.control.queue = queueEnded s.control.queue a.slot o d ∧
      t.link = Link.closedWith s.link.config s.link.ready ∧ t.out = s.out ∧ t.composer.attempt ≠ some a ∧
      BuffersEnded s t a s.link.sending ∧ HoldsReleased s t a.slot ∧ WalkerUnblocked s t ∧ t.writer = s.writer ∧
      t.port.outstanding = s.port.outstanding := by
  intro t
  obtain ⟨hlink, hatt, hbuf⟩ := s.dropAttempt_spec a
  have hu : InHand (s.dropAttempt a) a sh k := h.congr (by simp)
  obtain ⟨hqueue, hsheet, -, hholds, hwalker⟩ := ((s.dropAttempt a).endSheet_letGo a.slot sh o d hu.sheet hu.not_finished
    hu.ending hu.report).1 (by simp [linkHolds, hlink, Link.closedWith]) (by simpa [writerServes] using hw)
  have hcomposer : t.composer = (s.dropAttempt a).composer := by simp [t]
  refine ⟨hsheet, by simpa using hqueue, by simp [t, hlink], by simp [t], by rwa [hcomposer], hbuf.congr rfl hcomposer,
    hholds.congr (by simp) (by simp) (by simp) rfl rfl rfl, hwalker.congr (by simp) (by simp) rfl rfl, by simp [t],
    by simp [t]⟩

theorem tell_messages (s : State) (h : LinkHold) (m : PressMessage) : (s.tell h m).out.pressMessages =
    s.out.pressMessages ++ (if h.mode = .live then [m] else []) := by
  unfold tell
  cases h.mode <;> simp [tellPress]

end State

/-! ## The expiries -/

section
variable {s : State} {h : LinkHold}

theorem exec_graceTimerExpiry (hs : s.link.state = .streaming) (hh : s.link.held = some h) (hg : s.link.graceTimer ≠ none) :
    exec .graceTimerExpiry s = .next (s.underrun h) := by
  refine congrArg Host.Outcome.next ?_
  simp [hs, hh, hg]

theorem exec_acceptTimerExpiry (hs : s.link.state = .opening) (hh : s.link.held = some h)
    (hg : s.link.acceptTimer ≠ none) : exec .acceptTimerExpiry s =
      .next ((((s.tell h (.abort h.sheetId)).dropAttempt h.attempt).endSheet h.attempt.slot .pressSilent .accept).letGo
        h.attempt.slot) := by
  refine congrArg Host.Outcome.next ?_
  simp [hs, hh, hg]

theorem exec_resultTimerExpiry (hs : s.link.state = .closing) (hh : s.link.held = some h)
    (hg : s.link.resultTimer ≠ none) : exec .resultTimerExpiry s =
      .next (((s.dropAttempt h.attempt).endSheet h.attempt.slot .pressSilent .result).letGo h.attempt.slot) := by
  refine congrArg Host.Outcome.next ?_
  simp [hs, hh, hg]

end

/-- Settles O52: the grace timer spoils the attempt; the other two let it go and end its order. -/
theorem linkTimersEndAttempts : Obligations.LinkTimersEndAttempts := by
  refine ⟨?_, ?_, ?_, ?_⟩
  · intro s h sh k hs hh hg hin
    let u := s.setLink { s.link with graceTimer := none }
    obtain ⟨hspoil, hatt, hbuf, hwriter, hlink, hout⟩ := u.spoilAttempt_spec h.attempt sh k .underrun (hin.congr rfl)
    have hstop := u.endAttempt_linkStopped h hh
    have hspoil' := hspoil.congr (s' := s) rfl rfl rfl rfl (Nat.le_refl _)
    refine ⟨fun hsend => ⟨_, exec_graceTimerExpiry hs hh hg, hspoil', ?_, ?_, hatt, hbuf.congr rfl rfl,
        hwriter.congr rfl rfl⟩, fun hsend => ⟨_, exec_graceTimerExpiry hs hh hg, hspoil', ?_, ?_, hatt, hbuf.congr rfl rfl,
        hwriter.congr rfl rfl⟩⟩
    · exact hlink.trans (hstop.aborted (.inr ⟨hs, hsend⟩)).1
    · exact (congrArg _ hout).trans (hstop.aborted (.inr ⟨hs, hsend⟩)).2
    · exact hlink.trans (hstop.sending hs hsend).1
    · exact (congrArg _ hout).trans (hstop.sending hs hsend).2
  · intro s h sh k hs hh hg hin hw
    obtain ⟨hsheet, hqueue, hlink, hout, hatt, hbuf, hholds, hwalker, -, -⟩ :=
      (s.tell h (.abort h.sheetId)).dropped_ends h.attempt sh k .pressSilent .accept (hin.congr (by simp))
        (by simpa [State.writerServes] using hw)
    refine ⟨_, exec_acceptTimerExpiry hs hh hg, hsheet, by simpa using hqueue, by simpa [Link.closedWith] using hlink, ?_, hatt,
      ?_, hholds.congr (by simp) (by simp) (by simp) rfl rfl rfl, hwalker.congr (by simp) (by simp) rfl rfl,
      by simp, by simp⟩
    · rw [hout, State.tell_messages]
    · exact (by simpa using hbuf : BuffersEnded _ _ _ s.link.sending).congr (by simp) rfl
  · intro s h sh k hs hh hg hin hw
    obtain ⟨hsheet, hqueue, hlink, hout, -, hbuf, hholds, hwalker, hwriter, hport⟩ :=
      s.dropped_ends h.attempt sh k .pressSilent .result hin hw
    exact ⟨_, exec_resultTimerExpiry hs hh hg, hsheet, hqueue, hlink, by rw [hout], hbuf, hholds, hwalker, hwriter, hport⟩
  · intro s
    refine ⟨fun h => congrArg Host.Outcome.next ?_, fun h => congrArg Host.Outcome.next ?_,
      fun h => congrArg Host.Outcome.next ?_⟩
    all_goals
      split
      · rename_i hs _
        exact if_neg fun hg => h.elim (fun hn => hn hs) hg
      · rfl

end Sys2Proof.Machine
end

section
/-! The cell report and what follows it (R14, R47, R65, R68, R175, R176, R179, R218). -/

namespace Sys2Proof.Machine

/-! ## The rows of a report (R176, R218) -/

theorem serverAddr_inside (base : Addr) (n : Nat) (h : base.toNat + n < 2 ^ 64) :
    serverAddr base n = base + BitVec.ofNat 64 n := by
  rw [serverAddr, if_pos h, BitVec.ofNat_add, BitVec.ofNat_toNat, BitVec.setWidth_eq]

theorem reportWrites_entry (sh : Sheet) (k : Ticket) (i : Nat) (c : Cell) (hc : sh.cells[i]? = some c)
    (h : k.reportAddr.toNat + (sh.index * 2048 + 32 * i) < 2 ^ 64) : (reportWrites sh k)[i]? =
      some ⟨k.reportAddr + BitVec.ofNat 64 (sh.index * 2048 + 32 * i), c.reportBytes⟩ := by
  simp [reportWrites, hc, serverAddr_inside _ _ h]

/-! ## Letting a finished sheet go (R175, R179) -/

/-- The entry of a made sheet's order that has no ending: FINISHED, OK or NOTED by its counts (R179). -/
theorem finalResults_made (sh : Sheet) (r : Results) (h : sh.ending = none) : finalResults sh r =
    { r with outcome := if r.counts = Counts.zero then .ok else .noted, detail := .none } := by
  simp [finalResults, h, Counts.any]

namespace State

section
variable {s : State} {sl : SheetSlot} {sh : Sheet}

theorem freeSlot_empties (h : s.sheet sl = some sh) : (s.freeSlot sl).sheet sl = none := by
  have hu (x : State) : x.unblock.control = x.control := by simp
  unfold freeSlot
  simp only [h]
  rw [sheet_of_control (hu _), sheet_mapSheet, if_neg (ne_otherSlot sl), sheet_setSheet, if_pos rfl]

theorem freeSlot_queue (h : s.sheet sl = some sh) : (s.freeSlot sl).control.queue = s.control.queue.map fun e =>
    if e.slot = some sl then { e with finished := true, slot := none, results := finalResults sh e.results } else e := by
  simp [freeSlot, h, mapQueue]

/-- The slot of a made sheet that nothing holds, its roster used up, is FREE (R175). -/
theorem letGo_done (h : s.sheet sl = some sh) (hf : sh.state = .finished) (hp : s.partsDone sl = true)
    (hc : sh.carry = false) : s.letGo sl = s.freeSlot sl := by
  simp [letGo, h, hf, hp, continues, hc]

theorem letGo_next (h : s.sheet sl = some sh) (hf : sh.state = .finished) (hp : s.partsDone sl = true)
    (hc : continues sh ((s.orderResults sl).getD Results.blank) = true) :
    s.letGo sl = (s.setSheet sl (some sh.continuation)).enterPlanning sl := by
  simp [letGo, h, hf, hp, hc]

theorem letGo_partial (h : s.sheet sl = some sh) (hf : sh.state = .finished) (hp : s.partsDone sl = true)
    (hm : sh.made = true) (hc : sh.carry = true) (he : sh.ending = none)
    (hn : continues sh ((s.orderResults sl).getD Results.blank) = false) : s.letGo sl =
      (s.mapSheet sl fun sh => { sh with ending := some (.partialRoster, .none) }).freeSlot sl := by
  simp [letGo, h, hf, hp, hn, hm, hc, he]

end

/-! ## The next sheet of an order (R65, R68) -/

section
variable {s : State} {sl : SheetSlot} {sh : Sheet} {k : Ticket}

/-- A sheet that the planner begins with its ticket kept: refused where the press is OFF for it, and placed otherwise. -/
theorem enterPlanning_read (hj : s.planner.job = none) (h : s.sheet sl = some sh) (hk : sh.ticket = some k) :
    s.enterPlanning sl = if s.refusesPress k then s.planningEnds sl .refused .pressOff
      else s.beginPass sl sh.start (frameSteps sh.frames) (frameGrids sh.frames) := by
  simp [enterPlanning, hj, beginPlanning, h, hk]

theorem enterPlanning_waits (hj : s.planner.job ≠ none) :
    s.enterPlanning sl = s.setPlanner { s.planner with waiting := some sl } := by
  obtain ⟨j, hj⟩ := Option.ne_none_iff_exists'.1 hj
  simp [enterPlanning, hj]

/-- Planning that ends for a sheet that nothing holds: the planner is free, the slot FREE and the order FINISHED. -/
theorem planningEnds_frees (o : OrderOutcome) (d : Detail) (h : s.sheet sl = some sh) (hf : sh.state ≠ .finished)
    (he : sh.ending = none) (hr : sh.report = .none) (h1 : s.linkHolds sl = false) (h2 : s.writerServes sl = false) :
    (s.planningEnds sl o d).sheet sl = none ∧
      (s.planningEnds sl o d).control.queue = queueEnded s.control.queue sl o d ∧
      WalkerUnblocked s (s.planningEnds sl o d) := by
  have hsh : (s.clearJob.clearPlacement sl).sheet sl = some { sh with frames := [], cells := [] } := by
    rw [clearPlacement, sheet_mapSheet, if_pos rfl, sheet_of_control (s := s) (by simp), h]
    rfl
  obtain ⟨hqueue, hfree, -, -, hwalker⟩ := endSheet_frees _ sl _ o d hsh hf he hr
    ((linkHolds_of_link (by simp) sl).trans h1) ((writerServes_of_writer (by simp) sl).trans h2)
  exact ⟨hfree, hqueue.trans (by simp), hwalker.congr (by simp) (by simp) rfl rfl⟩

/-- The planner at the beginning of a placement pass (R51, R55). -/
def passBegun (s : State) (sl : SheetSlot) (start : Nat) (grids : List (Nat × Nat)) : State :=
  s.setPlanner { s.planner with
    job := some { PlanJob.fresh sl .roster with rosterIndex := start, grids := grids }
    frameStack := []
    cursor := if grids = [] then none else some ⟨0, 0, 0⟩ }

/-- The placement pass of a sheet that begins with no sheet waiting: it comes to rest, and keeps what it does not plan. -/
theorem beginPass_rests (start : Nat) (steps : List PlaceStep) (grids : List (Nat × Nat)) (h : s.sheet sl = some sh)
    (hk : sh.ticket = some k) (hw : s.planner.waiting = none) :
    PassRests (s.beginPass sl start steps grids) sl ∧
      ∃ sh', (s.beginPass sl start steps grids).sheet sl = some sh' ∧ sh'.kept = sh.kept := by
  have hbegun : (s.passBegun sl start grids).sheet sl = some sh := by simpa [passBegun] using h
  have hpass : Passing (s.passBegun sl start grids) sl k [] ((s.passBegun sl start grids).sheet (otherSlot sl)) :=
    ⟨⟨_, rfl, rfl, rfl⟩, ⟨sh, hbegun, hk, sh.cells, by simp⟩, rfl, hw⟩
  obtain ⟨sh', _, hsh', _, _⟩ := (hpass.runPass steps).sheet
  have hkeep := (KeepsPlan.runPass steps (s.passBegun sl start grids)).sheet sl
  rw [hsh', hbegun] at hkeep
  exact ⟨(hpass.runPass steps).rests, sh', hsh', by simpa using hkeep⟩

end

end State

/-! ## What follows a report (R175) -/

/-- What follows a report is told of the same orders and the same planner. -/
theorem ReportFollowed.congr {s s' t : State} {sl : SheetSlot} {sh sh' : Sheet} {k : Ticket} (h : ReportFollowed s t sl sh k)
    (hc : s'.control.queue = s.control.queue) (hp : s'.planner = s.planner)
    (hm : s'.window.pressMode = s.window.pressMode) (hw : s'.walker = s.walker) (hsh : { sh' with report := .none } = sh) :
    ReportFollowed s' t sl sh' k := by
  subst hsh
  have ho : s'.orderResults sl = s.orderResults sl := by simp [State.orderResults, hc]
  have unblocked (x : WalkerUnblocked s t) : WalkerUnblocked s' t := x.congr (by rw [hw]) (by rw [hw]) rfl rfl
  constructor <;> simp only [ho, hp, hm, hc]
  · exact fun h1 => ⟨(h.partialRoster h1).1, (h.partialRoster h1).2.1, unblocked (h.partialRoster h1).2.2⟩
  · exact h.next
  · intro l r h1 h2 h3 h4 h5 h6 h7
    obtain ⟨a, b, c, d⟩ := h.nextRefused l r h1 h2 h3 h4 h5 h6 h7
    exact ⟨a, b, c, unblocked d⟩
  · exact h.nextPlanned

/-- A finished sheet that is carry pending and that nothing holds: PARTIAL, or the next sheet of its order. -/
theorem State.letGo_followed (s : State) (sl : SheetSlot) (sh : Sheet) (k : Ticket) (h : s.sheet sl = some sh)
    (hf : sh.state = .finished) (hr : sh.report = .none) (hm : sh.made = true) (hc : sh.carry = true)
    (he : sh.ending = none) (hk : sh.ticket = some k) (h1 : s.linkHolds sl = false) (h2 : s.writerServes sl = false) :
    ReportFollowed s (s.letGo sl) sl sh k := by
  have hp : s.partsDone sl = true := State.partsDone_of s s sl sh rfl rfl h1 h2 h hr
  have hcont (l : Nat) (r : Results) (ha : k.autoLimit = some l) (ho : s.orderResults sl = some r)
      (hlt : r.sheetsMade < l) : s.letGo sl = (s.setSheet sl (some sh.continuation)).enterPlanning sl :=
    State.letGo_next h hf hp (by simp [continues, hm, hc, he, hk, ha, ho, hlt])
  have hnew : (s.setSheet sl (some sh.continuation)).sheet sl = some sh.continuation := by
    rw [State.sheet_setSheet, if_pos rfl]
  have hplan : (s.setSheet sl (some sh.continuation)).planner = s.planner := by simp
  constructor
  · intro ha
    have hstop : continues sh ((s.orderResults sl).getD Results.blank) = false := by
      rcases ha with ha | ⟨l, r, ha, ho, hle⟩
      · simp [continues, hk, ha]
      · simp [continues, hk, ha, ho, hle]
    have hsh : (s.mapSheet sl fun sh => { sh with ending := some (.partialRoster, .none) }).sheet sl =
        some { sh with ending := some (.partialRoster, .none) } := by
      rw [State.sheet_mapSheet, if_pos rfl, h]
      rfl
    obtain ⟨hqueue, hfree, -⟩ := State.freeSlot_ended _ sl _ .partialRoster .none hsh rfl
    rw [State.letGo_partial h hf hp hm hc he hstop]
    exact ⟨hfree, by rw [hqueue]; simp, (State.freeSlot_walker _ sl (by simp [hsh])).congr (by simp) (by simp) rfl rfl⟩
  · intro l r ha ho hlt hj
    rw [hcont l r ha ho hlt, State.enterPlanning_waits (by rwa [hplan])]
    exact ⟨by simp, by simp, (State.sheet_setPlanner _ _ sl).trans hnew⟩
  · intro l r ha ho hlt hj hw hd hoff
    have href : (s.setSheet sl (some sh.continuation)).refusesPress k = true := by simp [State.refusesPress, hd, hoff]
    rw [hcont l r ha ho hlt, State.enterPlanning_read (by rw [hplan, hj]) hnew hk, if_pos href]
    obtain ⟨hfree, hqueue, hwalker⟩ := State.planningEnds_frees .refused .pressOff hnew (by simp [Sheet.continuation]) he rfl
      ((State.linkHolds_of_link (by simp) sl).trans h1) ((State.writerServes_of_writer (by simp) sl).trans h2)
    exact ⟨by simp [State.planningEnds, State.clearJob, Planner.cleared, hw], hfree, hqueue.trans (by simp),
      hwalker.congr (by simp) (by simp) rfl rfl⟩
  · intro l r ha ho hlt hj hw hd
    have href : (s.setSheet sl (some sh.continuation)).refusesPress k = false := by
      rcases hd with hd | hd <;> simp [State.refusesPress, hd]
    rw [hcont l r ha ho hlt, State.enterPlanning_read (by rw [hplan, hj]) hnew hk, if_neg (by simp [href])]
    obtain ⟨hrests, sh', hsh', hkept⟩ := State.beginPass_rests sh.continuation.start (frameSteps sh.continuation.frames)
      (frameGrids sh.continuation.frames) hnew hk (by rw [hplan, hw])
    simp only [Sheet.kept, Prod.mk.injEq] at hkept
    obtain ⟨hticket, hindex, hattempt, hstart, hending, hmade, hreport⟩ := hkept
    exact ⟨hrests, sh', hsh', hticket.trans hk, hindex, hattempt, hstart, hending.trans he, hmade, hreport⟩

/-! ## The report's start and its end -/

section
variable {s : State} {sl : SheetSlot} {sh : Sheet} {k : Ticket}

theorem State.sheet_setReport (s : State) (sl other : SheetSlot) (r : ReportState) : (s.setReport sl r).sheet other =
    if other = sl then (s.sheet sl).map fun sh => { sh with report := r } else s.sheet other :=
  s.sheet_mapSheet sl other _

/-- A report is written: its unit has begun. -/
def State.reportBegins (s : State) (sl : SheetSlot) (ws : List ServerWrite) : State :=
  ((s.setReport sl .inFlight).beginUnit).writeServerAll ws

@[simp] theorem State.reportBegins_frame (s : State) (sl : SheetSlot) (ws : List ServerWrite) :
    (s.reportBegins sl ws).control.queue = s.control.queue ∧
    (s.reportBegins sl ws).port = { s.port with outstanding := s.port.outstanding + 1 } ∧
    (s.reportBegins sl ws).out = { s.out with serverWrites := s.out.serverWrites ++ ws } ∧
    (s.reportBegins sl ws).window = s.window ∧ (s.reportBegins sl ws).store = s.store ∧
    (s.reportBegins sl ws).composer = s.composer ∧ (s.reportBegins sl ws).link = s.link ∧
    (s.reportBegins sl ws).writer = s.writer := by
  simp [State.reportBegins, State.setReport, State.writeServerAll]

theorem State.reportBegins_sheet (s : State) (sl other : SheetSlot) (ws : List ServerWrite) :
    (s.reportBegins sl ws).sheet other =
      if other = sl then (s.sheet sl).map fun sh => { sh with report := .inFlight } else s.sheet other :=
  (State.sheet_of_control rfl other).trans (s.sheet_setReport sl other .inFlight)

theorem exec_reportWriteStart (h : s.sheet sl = some sh) (hk : sh.ticket = some k) (hr : sh.report = .due)
    (hh : s.port.hold = .free) (he : s.control.engine ≠ .faulted) : exec (.reportWriteStart sl) s =
      .next (if sh.cells = [] then (s.setReport sl .none).letGo sl
        else s.reportBegins sl (reportWrites sh k)) := by
  refine congrArg Host.Outcome.next ?_
  simp [h, hk, hr, he, s.holdFree_iff.2 hh, State.reportBegins]

/-- A report is complete and its unit has ended. -/
def State.reportEnds (s : State) (sl : SheetSlot) : State := (s.setReport sl .none).endUnit

theorem exec_reportWriteDone (h : s.sheet sl = some sh) (hr : sh.report = .inFlight) :
    exec (.reportWriteDone .current sl true) s = .next ((s.reportEnds sl).letGo sl) := by
  refine congrArg Host.Outcome.next ?_
  simp [State.sheetIs, h, hr, State.reportEnds]

theorem exec_reportWriteDone_busError (h : s.sheet sl = some sh) (hr : sh.report = .inFlight) :
    exec (.reportWriteDone .current sl false) s = .next (((s.reportEnds sl).mapSheet sl fun sh =>
      { sh with ending := if sh.ending.isNone then some (.memoryFault, .reportWrite) else sh.ending }).letGo sl) := by
  refine congrArg Host.Outcome.next ?_
  simp [State.sheetIs, h, hr, State.reportEnds]

theorem State.reportEnds_sheet (h : s.sheet sl = some sh) :
    (s.reportEnds sl).sheet sl = some { sh with report := .none } := by
  rw [State.reportEnds, State.sheet_of_control (s := s.setReport sl .none) (by simp), State.sheet_setReport, if_pos rfl, h]
  rfl

@[simp] theorem State.reportEnds_frame (s : State) (sl : SheetSlot) : (s.reportEnds sl).control.queue = s.control.queue ∧
    (s.reportEnds sl).walker = s.walker ∧ (s.reportEnds sl).planner = s.planner ∧
    (s.reportEnds sl).window.pressMode = s.window.pressMode ∧ (s.reportEnds sl).link = s.link ∧
    (s.reportEnds sl).writer = s.writer ∧ (s.reportEnds sl).out = s.out := by
  simp [State.reportEnds, State.setReport]

/-- What the end of a unit does to the port is a matter of the port alone. -/
theorem State.endUnit_port_congr {s t : State} (h : t.port = s.port) : t.endUnit.port = s.endUnit.port := by
  unfold State.endUnit
  dsimp only
  rw [h]
  split <;> simp

theorem State.reportEnds_port (s : State) (sl : SheetSlot) : (s.reportEnds sl).port = s.endUnit.port :=
  State.endUnit_port_congr (by simp [State.setReport])

/-- The slot of a made sheet that nothing holds is let go, and its order is FINISHED, OK or NOTED by its counts. -/
theorem State.letGo_made (h : s.sheet sl = some sh) (hf : sh.state = .finished) (hr : sh.report = .none)
    (hc : sh.carry = false) (he : sh.ending = none) (h1 : s.linkHolds sl = false) (h2 : s.writerServes sl = false) :
    (s.letGo sl).sheet sl = none ∧
      (s.letGo sl).control.queue = (s.control.queue.map fun e => if e.slot = some sl then
        { e with finished := true, slot := none, results := { e.results with
          outcome := if e.results.counts = Counts.zero then .ok else .noted, detail := .none } } else e) ∧
      WalkerUnblocked s (s.letGo sl) ∧ (s.letGo sl).port = s.port ∧ (s.letGo sl).out = s.out := by
  rw [State.letGo_done h hf (State.partsDone_of s s sl sh rfl rfl h1 h2 h hr) hc]
  exact ⟨State.freeSlot_empties h, by simp only [State.freeSlot_queue h, finalResults_made sh _ he],
    State.freeSlot_walker s sl (by simp [h]), by simp, by simp⟩

/-- The slot of a finished sheet with an ending that nothing holds is let go, and its order is FINISHED with the ending. -/
theorem State.letGo_withEnding (o : OrderOutcome) (d : Detail) (h : s.sheet sl = some sh) (hf : sh.state = .finished)
    (hr : sh.report = .none) (he : sh.ending = some (o, d)) (h1 : s.linkHolds sl = false) (h2 : s.writerServes sl = false) :
    (s.letGo sl).sheet sl = none ∧ (s.letGo sl).control.queue = queueEnded s.control.queue sl o d ∧
      WalkerUnblocked s (s.letGo sl) ∧ (s.letGo sl).port = s.port ∧ (s.letGo sl).out = s.out := by
  rw [State.letGo_ended s sl sh o d h hf he, if_pos (State.partsDone_of s s sl sh rfl rfl h1 h2 h hr)]
  obtain ⟨hqueue, hfree, -⟩ := State.freeSlot_ended s sl sh o d h he
  exact ⟨hfree, hqueue, State.freeSlot_walker s sl (by simp [h]), by simp, by simp⟩

end

/-- Settles O56: a report begins or waits; with its end the slot is let go, or the next sheet of the order follows. -/
theorem reportWrites_hold : Obligations.ReportWrites := by
  refine ⟨?_, ?_, ?_, ?_⟩
  · intro s sl sh k h hk hr hh he hc hin
    refine ⟨_, (exec_reportWriteStart h hk hr hh he).trans (by rw [if_neg hc]), ?_, ?_, by simp, by simp,
      ⟨reportWrites sh k, by simp, by simp [reportWrites], fun i c hi => ?_⟩, by simp, by simp, by simp, by simp, by simp⟩
    · rw [State.reportBegins_sheet, if_pos rfl, h]
      rfl
    · rw [State.reportBegins_sheet, if_neg (otherSlot_ne sl)]
    · obtain ⟨hlt, -⟩ := List.getElem?_eq_some_iff.1 hi
      exact ⟨_, reportWrites_entry sh k i c hi (hin i hlt), rfl, reportEntry_bytes c, rfl⟩
  · intro s sl sh k h hk hr hh he hc hf h1 h2 hcarry hend
    have hsh : (s.setReport sl .none).sheet sl = some { sh with report := .none } := by
      rw [State.sheet_setReport, if_pos rfl, h]
      rfl
    obtain ⟨hfree, hqueue, hwalker, hport, hout⟩ := State.letGo_made hsh hf rfl hcarry hend
      ((State.linkHolds_of_link (by simp [State.setReport]) sl).trans h1)
      ((State.writerServes_of_writer (by simp [State.setReport]) sl).trans h2)
    exact ⟨_, (exec_reportWriteStart h hk hr hh he).trans (by rw [if_pos hc]), hfree,
      hqueue.trans (by simp [State.setReport]), hwalker.congr (by simp [State.setReport]) (by simp [State.setReport]) rfl rfl,
      hport.trans (by simp [State.setReport]), hout.trans (by simp [State.setReport])⟩
  · intro s sl hw
    refine congrArg Host.Outcome.next ?_
    split
    · rfl
    · split
      · rfl
      · refine if_neg fun hc => ?_
        rcases hw with hw | hw
        · exact hw (s.holdFree_iff.1 hc.2.1)
        · exact hc.2.2 hw
  · intro s sl sh h hr hf h1 h2
    have hsh := State.reportEnds_sheet h
    have hl1 : (s.reportEnds sl).linkHolds sl = false := (State.linkHolds_of_link (by simp) sl).trans h1
    have hl2 : (s.reportEnds sl).writerServes sl = false := (State.writerServes_of_writer (by simp) sl).trans h2
    refine ⟨fun hm hc he => ?_, fun o d he => ?_, fun he => ?_, fun k hm hc he hk => ?_⟩
    · obtain ⟨hfree, hqueue, hwalker, hport, hout⟩ := State.letGo_made hsh hf rfl hc he hl1 hl2
      exact ⟨_, exec_reportWriteDone h hr, hfree, hqueue.trans (by simp), hwalker.congr (by simp) (by simp) rfl rfl,
        hport.trans (s.reportEnds_port sl), hout.trans (by simp)⟩
    · obtain ⟨hfree, hqueue, hwalker, hport, hout⟩ := State.letGo_withEnding o d hsh hf rfl he hl1 hl2
      exact ⟨_, exec_reportWriteDone h hr, hfree, hqueue.trans (by simp), hwalker.congr (by simp) (by simp) rfl rfl,
        hport.trans (s.reportEnds_port sl), hout.trans (by simp)⟩
    · have hsh' : ((s.reportEnds sl).mapSheet sl fun sh =>
          { sh with ending := if sh.ending.isNone then some (.memoryFault, .reportWrite) else sh.ending }).sheet sl =
            some { sh with report := .none, ending := some (.memoryFault, .reportWrite) } := by
        rw [State.sheet_mapSheet, if_pos rfl, hsh]
        simp [he]
      obtain ⟨hfree, hqueue, hwalker, hport, hout⟩ := State.letGo_withEnding .memoryFault .reportWrite hsh' hf rfl rfl
        ((State.linkHolds_of_link (by simp) sl).trans hl1) ((State.writerServes_of_writer (by simp) sl).trans hl2)
      exact ⟨_, exec_reportWriteDone_busError h hr, hfree, hqueue.trans (by simp),
        hwalker.congr (by simp) (by simp) rfl rfl, hport.trans (by simp [State.reportEnds_port]), hout.trans (by simp)⟩
    · exact ⟨_, exec_reportWriteDone h hr, ((s.reportEnds sl).letGo_followed sl _ k hsh hf rfl hm hc he hk hl1 hl2).congr
        (by simp) (by simp) (by simp) (by simp) rfl, by simp, by simp [State.reportEnds_port]⟩

end Sys2Proof.Machine
end

section
/-! The reads of loads and of planning: their starts (R37, R44, R118, R189), and those that end in a bus error (R65 to R67). -/

namespace Sys2Proof.Machine

/-- Settles O30: the reads of PROFILE and GLYPHS orders start in a FREE hold and wait in any other. -/
theorem loadReadsStart : Obligations.LoadReadsStart := by
  refine ⟨fun s n block ab hb hh => ?_, fun s l hb hl hh => ?_, fun s hh => ?_⟩
  · refine congrArg Host.Outcome.next ?_
    simp only [hb, s.holdFree_iff.2 hh, if_true]
    rfl
  · refine congrArg Host.Outcome.next ?_
    simp only [hb, hl, s.holdFree_iff.2 hh, and_self, if_true]
    rfl
  · have hh' : ¬ s.holdFree = true := fun h => hh (s.holdFree_iff.1 h)
    refine ⟨congrArg Host.Outcome.next ?_, congrArg Host.Outcome.next ?_⟩
    · split
      · exact if_neg hh'
      · rfl
    · split
      · exact if_neg fun h => hh' h.2
      · rfl

/-! ## The start of a planning read (R44, R65, R189) -/

namespace PlanStage

/-- The command that starts the read of a stage. -/
def startOf (st : PlanStage) : Instr :=
  match st with
  | .ticket => .ticketReadStart
  | .layout => .layoutReadStart
  | .roster => .rosterReadStart
  | .subject _ _ => .subjectReadStart
  | .text _ _ _ => .bannerTextReadStart

/-- The command by which the read of a stage ends in a bus error. -/
def busErrorOf (st : PlanStage) : Instr :=
  match st with
  | .ticket => .ticketReadDone .current .busError
  | .layout => .layoutReadDone .current .busError
  | .roster => .rosterReadDone .current .busError
  | .subject _ _ => .subjectReadDone .current .busError
  | .text _ _ _ => .bannerTextReadDone .current .busError

end PlanStage

/-- A ticket address that refuses its order: 0, or not a multiple of 128 (R44). -/
theorem badTicketAddr_iff (a : Addr) : badTicketAddr a = true ↔ a = 0#64 ∨ a.toNat % 128 ≠ 0 := by
  have hlow : a.extractLsb' 0 7 = 0#7 ↔ a.toNat % 128 = 0 := by
    rw [← BitVec.toNat_inj, BitVec.extractLsb'_toNat]
    rfl
  simp [badTicketAddr, hlow]

namespace State

theorem startPlanRead_eq (s : State) (j : PlanJob) (hj : s.planner.job = some j) : s.startPlanRead = { s with
    planner := { s.planner with job := some { j with inFlight := true } }
    port := { s.port with outstanding := s.port.outstanding + 1 } } := by
  simp only [startPlanRead, mapJob, hj]
  rfl

/-- A read other than the ticket's, which the planner waits for, starts in a FREE hold. -/
theorem exec_planReadStart (s : State) (j : PlanJob) (hj : s.planner.job = some j) (hf : j.inFlight = false)
    (hh : s.port.hold = .free) (ht : j.stage ≠ .ticket) : exec j.stage.startOf s = .next s.startPlanRead := by
  have hcan (kind : PlanStage → Bool) (hk : kind j.stage = true) : s.planReadCanStart kind = true := by
    simp [planReadCanStart, hj, hk, hf, s.holdFree_iff.2 hh]
  cases hst : j.stage
  case ticket => exact absurd hst ht
  all_goals exact congrArg Host.Outcome.next (if_pos (hcan _ (by rw [hst]; rfl)))

/-- A read other than the ticket's waits in a hold that is not FREE. -/
theorem planReadWaits (s : State) (hh : s.port.hold ≠ .free) (kind : PlanStage → Bool) :
    (if s.planReadCanStart kind then s.startPlanRead else s) = s := by
  refine if_neg fun h => hh (s.holdFree_iff.1 ?_)
  unfold planReadCanStart at h
  split at h
  · exact (Bool.and_eq_true_iff.1 h).2
  · exact nomatch h

/-- The ticket read with a good address starts in a FREE hold and waits in any other. -/
theorem exec_ticketReadStart_good (s : State) (j : PlanJob) (sh : Sheet) (hj : s.planner.job = some j)
    (hsh : s.sheet j.slot = some sh) (h0 : sh.ticketAddr ≠ 0#64) (h128 : sh.ticketAddr.toNat % 128 = 0) :
    exec .ticketReadStart s = .next (if j.stage.isTicket && !j.inFlight then
      if s.holdFree then s.startPlanRead else s else s) := by
  have hgood : badTicketAddr sh.ticketAddr = false := by
    rw [Bool.eq_false_iff, Ne, badTicketAddr_iff]
    simp [h0, h128]
  refine congrArg Host.Outcome.next ?_
  simp [hj, hsh, hgood]

/-- A bad ticket address refuses the order in every state of the hold, and nothing is read. -/
theorem exec_ticketReadStart_bad (s : State) (j : PlanJob) (sh : Sheet) (hj : s.planner.job = some j)
    (hsh : s.sheet j.slot = some sh) (hst : j.stage = .ticket) (hf : j.inFlight = false)
    (hbad : sh.ticketAddr = 0#64 ∨ sh.ticketAddr.toNat % 128 ≠ 0) :
    exec .ticketReadStart s = .next (s.planningEnds j.slot .refused .geometry).takeWaiting := by
  refine congrArg Host.Outcome.next ?_
  simp [hj, hsh, hst, hf, PlanStage.isTicket, (badTicketAddr_iff _).2 hbad]

end State

/-- Settles O34: a planning read starts in a FREE hold and waits in any other; a bad ticket address refuses the order. -/
theorem planningReadsStart : Obligations.PlanningReadsStart := by
  refine ⟨fun s j hj hf hh => ?_, fun s hh => ?_, fun s j sh h hst hf hbad => ?_⟩
  · have hstart (ht : j.stage ≠ .ticket) := s.startPlanRead_eq j hj ▸ s.exec_planReadStart j hj hf hh ht
    refine ⟨fun sh hsh h0 h128 hst => ?_, fun hst => ?_, fun hst => ?_, fun a seed hst => ?_, fun a n i hst => ?_⟩
    · rw [s.exec_ticketReadStart_good j sh hj hsh h0 h128, if_pos (by simp [hst, hf, PlanStage.isTicket]),
        if_pos (s.holdFree_iff.2 hh), s.startPlanRead_eq j hj]
    all_goals simpa [hst, PlanStage.startOf] using hstart
  · refine ⟨fun j sh hj hsh h0 h128 => ?_, ?_, ?_, ?_, ?_⟩
    · rw [s.exec_ticketReadStart_good j sh hj hsh h0 h128, if_neg fun h => hh (s.holdFree_iff.1 h), ite_self]
    all_goals exact congrArg Host.Outcome.next (s.planReadWaits hh _)
  · obtain ⟨htake, hended⟩ := s.planningEnds_ended j sh .refused .geometry h
    refine ⟨_, (s.exec_ticketReadStart_bad j sh h.job h.sheet hst hf hbad).trans (by rw [htake]), hended, by simp, by simp, ?_⟩
    constructor <;> simp

/-! ## A planning read that ends in a bus error (R65 to R67) -/

theorem PlanFrame.planReadFails (s : State) (sl : SheetSlot) : PlanFrame s (s.planReadFails sl) := by
  constructor <;> simp [State.planReadFails]

/-- A unit's end leaves the planner's work on its sheet. -/
theorem PlansAlone.endUnit {s : State} {j : PlanJob} {sh : Sheet} (h : PlansAlone s j sh) : PlansAlone s.endUnit j sh where
  job := by simp [h.job]
  sheet := (State.sheet_of_control (by simp) j.slot).trans h.sheet
  state := h.state
  ending := h.ending
  report := h.report
  link := (State.linkHolds_of_link (by simp) j.slot).trans h.link
  writer := (State.writerServes_of_writer (by simp) j.slot).trans h.writer
  waiting := by simp [h.waiting]

theorem PlansBeside.endUnit {s : State} {j : PlanJob} {sh : Sheet} {w : SheetSlot} {sw : Sheet}
    (h : PlansBeside s j sh w sw) : PlansBeside s.endUnit j sh w sw where
  job := by simp [h.job]
  sheet := (State.sheet_of_control (by simp) j.slot).trans h.sheet
  state := h.state
  ending := h.ending
  report := h.report
  link := (State.linkHolds_of_link (by simp) j.slot).trans h.link
  writer := (State.writerServes_of_writer (by simp) j.slot).trans h.writer
  waiting := by simp [h.waiting]
  other := h.other
  waits := (State.sheet_of_control (by simp) w).trans h.waits
  unread := h.unread

theorem PlanningEnded.of_endUnit {s t : State} {sl : SheetSlot} {q : List QueueEntry} {o : OrderOutcome} {d : Detail}
    (h : PlanningEnded s.endUnit t sl q o d) : PlanningEnded s t sl q o d where
  queue := h.queue
  slot := h.slot
  other := h.other.trans (by rw [State.sheet_of_control (s := s) (by simp)])
  planner := h.planner
  released := h.released.congr (by simp) (by simp) (by simp) rfl rfl rfl
  walker := h.walker.of_endUnit (by simp)

namespace State

theorem exec_busErrorOf (s : State) (j : PlanJob) (hj : s.planner.job = some j) (hf : j.inFlight = true) :
    exec j.stage.busErrorOf s = .next (s.planReadFails j.slot) := by
  have hin (kind : PlanStage → Bool) (hk : kind j.stage = true) : s.planReadInFlight kind = some j := by
    simp [planReadInFlight, hj, hk, hf]
  cases hst : j.stage
  all_goals
    refine congrArg Host.Outcome.next ?_
    simp only []
    rw [hin _ (by rw [hst]; rfl)]

/-- A bus error of the planner's read where no sheet waits for the planner. -/
theorem planReadFails_ended (s : State) (j : PlanJob) (sh : Sheet) (h : PlansAlone s j sh) :
    PlanningEnded s (s.planReadFails j.slot) j.slot s.control.queue .memoryFault .planningRead := by
  obtain ⟨htake, hended⟩ := s.endUnit.planningEnds_ended j sh .memoryFault .planningRead h.endUnit
  rw [planReadFails, htake]
  exact .of_endUnit (by simpa using hended)

/-- Planning that ends while another sheet waits: the slot is FREE, the other sheet ranks first, and it waits on. -/
theorem planningEnds_beside (s : State) (j : PlanJob) (sh : Sheet) (w : SheetSlot) (sw : Sheet) (o : OrderOutcome)
    (d : Detail) (h : PlansBeside s j sh w sw) :
    (s.planningEnds j.slot o d).control.queue = queueEnded s.control.queue j.slot o d ∧
    (s.planningEnds j.slot o d).sheet j.slot = none ∧
    (s.planningEnds j.slot o d).sheet w = some { sw with first := true } ∧
    (s.planningEnds j.slot o d).planner = ⟨none, some w, [], none⟩ ∧
    HoldsReleased s (s.planningEnds j.slot o d) j.slot ∧ WalkerUnblocked s (s.planningEnds j.slot o d) := by
  set s1 := s.clearJob.clearPlacement j.slot with hs1
  have hsh : s1.sheet j.slot = some { sh with frames := [], cells := [] } := by
    rw [hs1, clearPlacement, sheet_mapSheet, if_pos rfl, sheet_of_control (s := s) (by simp), h.sheet]
    rfl
  have hother : s1.sheet (otherSlot j.slot) = some sw := by
    rw [hs1, clearPlacement, sheet_mapSheet, if_neg (otherSlot_ne _), sheet_of_control (s := s) (by simp), ← h.other, h.waits]
  obtain ⟨hqueue, hfree, hfirst, hheld, hwalker⟩ := s1.endSheet_frees j.slot _ o d hsh (by simp [h.state]) h.ending h.report
    ((linkHolds_of_link (by simp [hs1]) _).trans h.link) ((writerServes_of_writer (by simp [hs1]) _).trans h.writer)
  refine ⟨hqueue.trans (by simp [hs1]), hfree, ?_, ?_, hheld.congr (by simp [hs1]) (by simp [hs1]) (by simp [hs1]) rfl rfl rfl,
    hwalker.congr (by simp [hs1]) (by simp [hs1]) rfl rfl⟩
  · rw [h.other]
    exact hfirst.trans (by rw [hother]; rfl)
  · simp [planningEnds, clearJob, Planner.cleared, h.waiting]

/-- A planner that is free takes up the sheet that waits for it, which waits to start its ticket read. -/
theorem takeWaiting_unread (s : State) (w : SheetSlot) (sw : Sheet) (hp : s.planner = ⟨none, some w, [], none⟩)
    (hw : s.sheet w = some sw) (hk : sw.ticket = none) :
    s.takeWaiting = s.setPlanner ⟨some (PlanJob.fresh w .ticket), none, [], none⟩ := by
  simp only [takeWaiting, hp, beginPlanning, sheet_setPlanner, hw, hk]
  rfl

/-- A bus error of the planner's read where the other slot's sheet waits for the planner. -/
theorem planReadFails_passedOn (s : State) (j : PlanJob) (sh : Sheet) (w : SheetSlot) (sw : Sheet)
    (h : PlansBeside s j sh w sw) :
    PlanningPassedOn s (s.planReadFails j.slot) j.slot .memoryFault .planningRead w sw := by
  obtain ⟨hqueue, hfree, hwaiter, hplanner, hheld, hwalker⟩ :=
    s.endUnit.planningEnds_beside j sh w sw .memoryFault .planningRead h.endUnit
  rw [planReadFails, takeWaiting_unread _ w _ hplanner hwaiter h.unread]
  exact ⟨by simpa using hqueue, by simpa using hfree, by simpa using hwaiter, rfl,
    hheld.congr (by simp) (by simp) (by simp) rfl rfl rfl, hwalker.congr (by simp) (by simp) rfl rfl⟩

end State

/-- Settles O35: whichever read fails, the planner's sheet ends MEMORY_FAULT PLANNING_READ and a waiting sheet is taken up. -/
theorem planningReadFails : Obligations.PlanningReadFails := by
  refine ⟨fun s j sh h hf => ?_, fun s j sh w sw h hf => ?_⟩
  · have hends : ∃ t, exec j.stage.busErrorOf s = .next t ∧ PlanFrame s t ∧
        PlanningEnded s t j.slot s.control.queue .memoryFault .planningRead :=
      ⟨_, s.exec_busErrorOf j h.job hf, .planReadFails s _, s.planReadFails_ended j sh h⟩
    refine ⟨fun hst => ?_, fun hst => ?_, fun hst => ?_, fun a seed hst => ?_, fun a n i hst => ?_⟩
    all_goals simpa only [hst, PlanStage.busErrorOf] using hends
  · have hends : ∃ t, exec j.stage.busErrorOf s = .next t ∧ PlanFrame s t ∧
        PlanningPassedOn s t j.slot .memoryFault .planningRead w sw :=
      ⟨_, s.exec_busErrorOf j h.job hf, .planReadFails s _, s.planReadFails_passedOn j sh w sw h⟩
    refine ⟨fun hst => ?_, fun hst => ?_, fun hst => ?_, fun a seed hst => ?_, fun a n i hst => ?_⟩
    all_goals simpa only [hst, PlanStage.busErrorOf] using hends

end Sys2Proof.Machine
end

section
/-! The placement pass step by step: what each step makes of the planner's job and the sheet in its slot (R34, R55 to R63). -/

namespace Sys2Proof.Machine

/-! ## The state of a pass under way -/

namespace State

theorem setSheet_self {s : State} {sl : SheetSlot} {x : Option Sheet} (h : s.sheet sl = x) : s.setSheet sl x = s := by
  subst h
  cases sl <;> rfl

theorem setSheet_setSheet (s : State) (sl : SheetSlot) (x y : Option Sheet) :
    (s.setSheet sl x).setSheet sl y = s.setSheet sl y := by cases sl <;> rfl

theorem setSheet_setPlanner (s : State) (sl : SheetSlot) (x : Option Sheet) (p : Planner) :
    (s.setSheet sl x).setPlanner p = (s.setPlanner p).setSheet sl x := by cases sl <;> rfl

section
variable (s : State) (j : PlanJob) (stack : List PanelFrame) (cur : Option PlaceCursor) (sh : Sheet)

@[simp] theorem passWith_planner : (s.passWith j stack cur sh).planner = ⟨some j, s.planner.waiting, stack, cur⟩ := by
  simp [passWith]

@[simp] theorem passWith_sheet : (s.passWith j stack cur sh).sheet j.slot = some sh := by
  simp [passWith, sheet_setSheet]

@[simp] theorem passWith_frame : (s.passWith j stack cur sh).profiles = s.profiles ∧
    (s.passWith j stack cur sh).glyphs = s.glyphs ∧ (s.passWith j stack cur sh).store = s.store ∧
    (s.passWith j stack cur sh).builder = s.builder ∧ (s.passWith j stack cur sh).control.queue = s.control.queue := by
  simp [passWith]

theorem passWith_setPlanner (j' : PlanJob) (stack' : List PanelFrame) (cur' : Option PlaceCursor) (hj : j'.slot = j.slot) :
    (s.passWith j stack cur sh).setPlanner ⟨some j', s.planner.waiting, stack', cur'⟩ = s.passWith j' stack' cur' sh := by
  rw [passWith, setSheet_setPlanner, passWith, hj]
  rfl

theorem passWith_mapJob (f : PlanJob → PlanJob) (hf : (f j).slot = j.slot) :
    (s.passWith j stack cur sh).mapJob f = s.passWith (f j) stack cur sh := by
  simp only [mapJob, passWith_planner, Option.map_some]
  exact s.passWith_setPlanner j stack cur sh (f j) stack cur hf

theorem passWith_awaitRead (st : PlanStage) : (s.passWith j stack cur sh).awaitRead st =
    s.passWith { j with stage := st, inFlight := false } stack cur sh :=
  s.passWith_mapJob j stack cur sh _ rfl

theorem passWith_mapSheet (f : Sheet → Sheet) :
    (s.passWith j stack cur sh).mapSheet j.slot f = s.passWith j stack cur (f sh) := by
  rw [mapSheet, passWith_sheet, Option.map_some, passWith, setSheet_setSheet]
  rfl

end

theorem passWith_self {s : State} {j : PlanJob} {sh : Sheet} (hj : s.planner.job = some j) (hsh : s.sheet j.slot = some sh) :
    s.passWith j s.planner.frameStack s.planner.cursor sh = s := by
  rw [passWith, ← hj]
  exact setSheet_self hsh

theorem passWith_control {s : State} {j : PlanJob} {sh : Sheet} (stack : List PanelFrame) (cur : Option PlaceCursor)
    (hsh : s.sheet j.slot = some sh) : (s.passWith j stack cur sh).control = s.control := by
  rw [passWith, setSheet_self (by simpa using hsh)]
  rfl

/-! ## One step of a pass -/

section
variable {s u : State} {j : PlanJob} {sh : Sheet} {k : Ticket} {f : PanelFrame} {step : PlaceStep} {rest : List PlaceStep}

/-- The planner that holds its sheet's ticket is in a pass under the frame in effect. -/
theorem placing_of (hj : s.planner.job = some j) (hsh : s.sheet j.slot = some sh) (hk : sh.ticket = some k) :
    Placing s j sh k (currentFrame s.planner.frameStack k) :=
  ⟨hj, hsh, hk, fun h => by rw [h]; rfl, fun g more h => by rw [h]; rfl⟩

/-- The state in which a step is made: the steps after it left in the job. -/
theorem passWith_steps (h : Placing s j sh k f) : (s.mapJob fun _ => { j with steps := rest }) =
    s.passWith { j with steps := rest } s.planner.frameStack s.planner.cursor sh := by
  rw [← s.passWith_mapJob j s.planner.frameStack s.planner.cursor sh (fun _ => { j with steps := rest }) rfl,
    passWith_self h.job h.sheet]

theorem runPass_goesOn (h : Placing s j sh k f)
    (hs : (s.passWith { j with steps := rest } s.planner.frameStack s.planner.cursor sh).placeStep j.slot sh k
      { j with steps := rest } step = (u, true)) : s.runPass (step :: rest) = u.runPass rest := by
  simp only [runPass, h.job, h.sheet, h.ticket, passWith_steps h, hs]

theorem runPass_waits (h : Placing s j sh k f)
    (hs : (s.passWith { j with steps := rest } s.planner.frameStack s.planner.cursor sh).placeStep j.slot sh k
      { j with steps := rest } step = (u, false)) : s.runPass (step :: rest) = u := by
  simp only [runPass, h.job, h.sheet, h.ticket, passWith_steps h, hs]

end

end State

/-! ## The cursor (R55, R56) -/

theorem CursorMoved.advance_eq {grids : List (Nat × Nat)} {cur cur' : PlaceCursor} {passed : Bool}
    (h : CursorMoved grids cur cur' passed) : cur.advance grids = (cur', passed) := by
  obtain ⟨⟨rows, cols⟩, hget⟩ : ∃ g, grids[cur.grid]? = some g := ⟨_, List.getElem?_eq_getElem h.known⟩
  have hgetD : grids.getD cur.grid (0, 0) = (rows, cols) := by rw [List.getD_eq_getElem?_getD, hget]; rfl
  unfold PlaceCursor.advance
  simp only [hgetD]
  split
  next hcol =>
    obtain ⟨rfl, rfl⟩ := h.right rows cols hget hcol
    rfl
  next hcol =>
    split
    next hrow =>
      obtain ⟨rfl, rfl⟩ := h.down rows cols hget (by omega) hrow
      rfl
    next hrow =>
      obtain ⟨rfl, rfl⟩ := h.on rows cols hget (by omega) (by omega)
      simp [beq_eq_decide]

/-- The job and the cursor after a grid cell is filled. -/
def PlanJob.moved (j : PlanJob) (cur : Option PlaceCursor) : PlanJob × Option PlaceCursor :=
  match cur with
  | some c => ({ j with rosterIndex := j.rosterIndex + 1, passedLast := j.passedLast || (c.advance j.grids).2 },
      some (c.advance j.grids).1)
  | none => (j, none)

theorem State.passWith_advanceCursor (s : State) (j : PlanJob) (stack : List PanelFrame) (cur : Option PlaceCursor)
    (sh : Sheet) : (s.passWith j stack cur sh).advanceCursor = s.passWith (j.moved cur).1 stack (j.moved cur).2 sh := by
  unfold State.advanceCursor
  simp only [State.passWith_planner]
  cases cur
  case none => rfl
  case some c => exact s.passWith_setPlanner j stack (some c) sh _ _ _ rfl

/-! ## Notes (R218) -/

theorem hasNote_or (a b : Notes) (n : Note) : hasNote (a ||| b) n = (hasNote a n || hasNote b n) :=
  BitVec.getLsbD_or

theorem hasNote_zero (n : Note) : hasNote 0#11 n = false :=
  BitVec.getLsbD_zero

theorem hasNote_noteIf (m n : Note) (on : Bool) : hasNote (noteIf m on) n = (on && decide (m = n)) := by
  cases on
  · exact hasNote_zero n
  · cases m <;> cases n <;> rfl

/-! ## A cell placed (R61 to R63) -/

/-- The sheet with a cell joined to its cell part and to the frame placement of its seed. -/
def Sheet.withCell (sh : Sheet) (d : CellSeed) (c : Cell) : Sheet :=
  { sh with cells := sh.cells ++ [c], frames := sh.frames.modify d.frame fun f => f.takeCell sh.cells.length }

/-- What a placed cell adds to the planning counts: its notes' counts, and its kind's. -/
def Cell.planCounts (c : Cell) (notes : Notes) : Counts :=
  { countsOfNotes notes with placeholders := bit (c.kind == .placeholder) }

/-- The job and the cursor after a cell is placed: a grid cell moves them on. -/
def PlanJob.placed (j : PlanJob) (cur : Option PlaceCursor) (d : CellSeed) (added : Counts) :
    PlanJob × Option PlaceCursor :=
  if d.rosterIndex.isSome then { j with counts := j.counts.add added }.moved cur
  else ({ j with counts := j.counts.add added }, cur)

theorem State.passWith_placeCell (s : State) (j : PlanJob) (stack : List PanelFrame) (cur : Option PlaceCursor) (sh : Sheet)
    (d : CellSeed) (c : Cell) (notes : Notes) : (s.passWith j stack cur sh).placeCell d c notes =
      s.passWith (j.placed cur d (c.planCounts notes)).1 stack (j.placed cur d (c.planCounts notes)).2 (sh.withCell d c) := by
  unfold State.placeCell PlanJob.placed
  simp only [State.passWith_planner]
  rw [State.passWith_mapSheet, State.passWith_mapJob _ _ _ _ _ _ (by rfl)]
  split
  · exact State.passWith_advanceCursor _ _ _ _ _
  · rfl

theorem BareCell.cell_eq {d : CellSeed} {kind : CellKind} {invalid : Bool} {c : Cell} {added : Counts}
    (h : BareCell d kind invalid c added) : c = d.cell kind (noteIf .subjectInvalid invalid) ∧
      added = c.planCounts c.notes := by
  obtain ⟨off, hoff, rfl, rfl⟩ := h.off
  have hempty : rectEmpty (rectMeet d.rect d.clip) = off := by
    rw [Bool.eq_iff_iff, hoff, ← Bool.not_eq_false, rectEmpty_iff]
    simp [rectHas_meet]
  refine ⟨?_, ?_⟩
  · rw [CellSeed.cell, hempty]
    rfl
  · have hnotes : (if invalid then 0x004#11 else 0#11) ||| (if off then 0x001#11 else 0#11) =
        noteIf .subjectInvalid invalid ||| noteIf .offSheet off := rfl
    simp [Cell.planCounts, countsOfNotes, hnotes, hasNote_or, hasNote_noteIf, bit, Counts.zero]

/-! ## A cell's role (R26, R34, R60) -/

theorem State.actOnRole_reads (s : State) (d : CellSeed) {subject : Addr} {n : Nat} {role : Role} (hs : subject ≠ 0#64)
    (hr : (n = 0 ∧ role = .student) ∨ (n = 1 ∧ role = .staff)) :
    s.actOnRole d subject n = (s.awaitRead (.subject subject { d with role := role }), false) := by
  rcases hr with ⟨rfl, rfl⟩ | ⟨rfl, rfl⟩ <;> exact if_neg hs

theorem roleOf_unknown {n : Nat} (h : 2 < n) : roleOf n = (.spacer, false) := by
  unfold roleOf
  split
  case h_4 => rfl
  all_goals omega

theorem State.actOnRole_bare (s : State) (d : CellSeed) {subject : Addr} {n : Nat} {role : Role} {kind : CellKind}
    {invalid : Bool} (h : PlacedBare n subject role kind invalid) :
    s.actOnRole d subject n = (s.placeBare { d with role := role } kind (noteIf .subjectInvalid invalid), true) := by
  rcases h with ⟨rfl, rfl, rfl, rfl⟩ | ⟨hn, rfl, rfl, rfl⟩ | ⟨rfl, rfl, rfl, rfl, rfl⟩ | ⟨rfl, rfl, rfl, rfl, rfl⟩
  · rfl
  · unfold State.actOnRole
    rw [roleOf_unknown hn]
    rfl
  · rfl
  · rfl

/-! ## The places of a grid, and an INSET's cell (R55 to R58, R60) -/

theorem State.profileOf_some {s : State} {n : Fin 16} {p : Profile} (h : s.profiles[n] = some p) : s.profileOf n = p := by
  simp [State.profileOf, h]

theorem State.cellBoxHeight_some {s : State} {p : Profile} {set : GlyphSet} (h : s.glyphs[p.glyphSet] = some set) :
    s.cellBoxHeight p = p.cellHeight + p.captionGap + p.lines * set.lineHeight := by
  simp [State.cellBoxHeight, State.glyphSetOf, h]

/-- The rectangle of a cell at a place that its row gets, as the statements give it. -/
theorem gridSeed_eq (g : GridFrame) (p : Profile) (set : GlyphSet) (row col used index i : Nat) (role : Role)
    (h : col < used) : gridSeed g p set row col used index i role =
      ⟨g.cellRect p (p.cellHeight + p.captionGap + p.lines * set.lineHeight) row col used, g.clip, g.profile, some index,
        role, i⟩ := by
  have hpos : 0 < used := by omega
  simp [gridSeed, GridFrame.cellRect, hpos]

end Sys2Proof.Machine
end

section
/-! Roster reads, and the places that they fill (R34, R55 to R63). -/

namespace Sys2Proof.Machine

namespace State

section
variable {s : State} {j : PlanJob} {sh : Sheet} {k : Ticket} {g : GridFrame} {i row col used : Nat}

/-- A place beyond the cells that its row gets is passed over. -/
theorem placeGridCell_beyond (hu : used = if col = 0 then min g.cols (k.rosterCount - j.rosterIndex) else j.rowUsed)
    (h : used ≤ col) : s.placeGridCell k j g i row col = (s.mapJob fun j => { j with rowUsed := used }, true) := by
  subst hu
  exact if_pos h

/-- A place that its row gets waits for a roster read where no entry is at hand. -/
theorem placeGridCell_reads (hu : used = if col = 0 then min g.cols (k.rosterCount - j.rosterIndex) else j.rowUsed)
    (h : col < used) (hr : j.roster = []) : s.placeGridCell k j g i row col =
      ((s.mapJob fun j => { j with steps := .cell i row col :: j.steps }).awaitRead .roster, false) := by
  subst hu
  unfold placeGridCell
  dsimp only
  rw [if_neg (by omega), hr]

/-- The cell about to be placed at a place of a grid, its role not yet acted on. -/
def gridCell (s : State) (g : GridFrame) (row col used index i : Nat) : CellSeed :=
  ⟨g.cellRect (s.profileOf g.profile) (s.cellBoxHeight (s.profileOf g.profile)) row col used, g.clip, g.profile,
    some index, .spacer, i⟩

/-- A place that its row gets is decided by the entry at hand. -/
theorem placeGridCell_takes {e : RosterEntry} {more : List RosterEntry}
    (hu : used = if col = 0 then min g.cols (k.rosterCount - j.rosterIndex) else j.rowUsed) (h : col < used)
    (hr : j.roster = e :: more) : s.placeGridCell k j g i row col =
      (s.mapJob fun j => { j with rowUsed := used, roster := more }).actOnRole
        (s.gridCell g row col used j.rosterIndex i) e.subject e.role := by
  subst hu
  unfold placeGridCell
  dsimp only
  rw [if_neg (by omega), hr]
  rfl

end

theorem passWith_gridCell (s : State) (j : PlanJob) (stack : List PanelFrame) (cur : Option PlaceCursor) (sh : Sheet)
    (g : GridFrame) (row col used index i : Nat) :
    (s.passWith j stack cur sh).gridCell g row col used index i = s.gridCell g row col used index i := by
  simp [gridCell, profileOf, cellBoxHeight, glyphSetOf]

/-- The cell about to be placed, under a LOADED profile and glyph set, as the statements give it. -/
theorem gridCell_eq {s : State} {g : GridFrame} {p : Profile} {set : GlyphSet} {row col used index i : Nat} (role : Role)
    (h : col < used) (hp : s.profiles[g.profile] = some p) (hset : s.glyphs[p.glyphSet] = some set) :
    { s.gridCell g row col used index i with role := role } = gridSeed g p set row col used index i role := by
  rw [gridSeed_eq g p set row col used index i role h, gridCell, profileOf_some hp, cellBoxHeight_some hset]

section
variable {s : State} {j : PlanJob} {sh : Sheet} {k : Ticket} {g : GridFrame} {i row col used : Nat}
  {rest : List PlaceStep} {f : PanelFrame}

theorem placeStep_cell (u : State) (hg : sh.frames[i]? = some (.grid g)) (j : PlanJob) :
    u.placeStep j.slot sh k j (.cell i row col) = u.placeGridCell k j g i row col := by
  simp only [placeStep, hg]

/-- The pass at a place whose entry is a STUDENT or a STAFF with a subject address waits to read the subject record. -/
theorem runPass_cell_subject {e : RosterEntry} {more : List RosterEntry} {role : Role} (h : Placing s j sh k f)
    (hg : sh.frames[i]? = some (.grid g))
    (hu : used = if col = 0 then min g.cols (k.rosterCount - j.rosterIndex) else j.rowUsed) (hcol : col < used)
    (hr : j.roster = e :: more) (hs : e.subject ≠ 0#64)
    (hrole : (e.role = 0 ∧ role = .student) ∨ (e.role = 1 ∧ role = .staff)) :
    s.runPass (.cell i row col :: rest) = s.passWith { j with
        steps := rest, rowUsed := used, roster := more, inFlight := false
        stage := .subject e.subject { s.gridCell g row col used j.rosterIndex i with role := role } }
      s.planner.frameStack s.planner.cursor sh := by
  refine runPass_waits h ?_
  rw [placeStep_cell _ hg { j with steps := rest }, placeGridCell_takes (j := { j with steps := rest }) hu hcol hr,
    passWith_mapJob _ _ _ _ _ _ (by rfl), passWith_gridCell, actOnRole_reads _ _ hs hrole, passWith_awaitRead]

/-- The pass at a place of a grid. -/
theorem gridPlace (h : Placing s j sh k f) (hg : sh.frames[i]? = some (.grid g))
    (hu : used = if col = 0 then min g.cols (k.rosterCount - j.rosterIndex) else j.rowUsed) :
    GridPlace s j sh rest g i row col used := by
  constructor
  · intro hcol
    refine runPass_goesOn h ?_
    rw [placeStep_cell _ hg { j with steps := rest }, placeGridCell_beyond (j := { j with steps := rest }) hu hcol,
      passWith_mapJob _ _ _ _ _ _ (by rfl)]
  · intro hcol hr
    refine runPass_waits h ?_
    rw [placeStep_cell _ hg { j with steps := rest }, placeGridCell_reads (j := { j with steps := rest }) hu hcol hr,
      passWith_mapJob _ _ _ _ _ _ (by rfl), passWith_awaitRead]
  · intro e more p set role hcol hr hp hset hs hrole
    rw [runPass_cell_subject h hg hu hcol hr hs hrole, gridCell_eq role hcol hp hset]
  · intro e more p set role kind invalid c added cur cur' passed hcol hr hp hset hbare hc hcur hmoved
    obtain ⟨rfl, rfl⟩ := hc.cell_eq
    refine runPass_goesOn h ?_
    rw [placeStep_cell _ hg { j with steps := rest }, placeGridCell_takes (j := { j with steps := rest }) hu hcol hr,
      passWith_mapJob _ _ _ _ _ _ (by rfl), passWith_gridCell, actOnRole_bare _ _ hbare, gridCell_eq role hcol hp hset,
      placeBare, passWith_placeCell, hcur]
    simp only [PlanJob.placed, gridSeed, Option.isSome_some, if_true, PlanJob.moved, hmoved.advance_eq, Sheet.withCell,
      List.modify_eq_set_getElem?, hg, Option.map_eq_map, Option.map_some, Option.getD_some]
    rfl

end

/-- The pass at an INSET's cell. -/
theorem insetPlaced {s : State} {j : PlanJob} {sh : Sheet} {k : Ticket} {f : PanelFrame} (h : Placing s j sh k f)
    {g : InsetFrame} {i : Nat} {p : Profile} {set : GlyphSet} (rest : List PlaceStep)
    (hg : sh.frames[i]? = some (.inset g)) (hp : s.profiles[g.profile] = some p) (hset : s.glyphs[p.glyphSet] = some set) :
    InsetPlaced s j sh rest g i p set := by
  have hstep : (s.passWith { j with steps := rest } s.planner.frameStack s.planner.cursor sh).placeStep j.slot sh k
      { j with steps := rest } (.inset i) =
      (s.passWith { j with steps := rest } s.planner.frameStack s.planner.cursor sh).actOnRole
        ⟨⟨g.x, g.y, p.cellWidth, p.cellHeight + p.captionGap + p.lines * set.lineHeight⟩, g.clip, g.profile, none,
          .spacer, i⟩ g.subject g.role := by
    have hprofile : (s.passWith { j with steps := rest } s.planner.frameStack s.planner.cursor sh).profileOf g.profile = p :=
      profileOf_some (by simpa using hp)
    simp only [placeStep, hg, placeInset, hprofile]
    rw [cellBoxHeight_some (by simpa using hset)]
  constructor
  · intro role hs hrole
    refine runPass_waits h ?_
    rw [hstep, actOnRole_reads _ _ hs hrole, passWith_awaitRead]
  · intro role kind invalid c added hbare hc
    obtain ⟨rfl, rfl⟩ := hc.cell_eq
    refine runPass_goesOn h ?_
    rw [hstep, actOnRole_bare _ _ hbare, placeBare, passWith_placeCell]
    simp only [PlanJob.placed, Sheet.withCell, List.modify_eq_set_getElem?, hg, Option.map_eq_map, Option.map_some, Option.getD_some]
    rfl

end State

/-! ## The entries of a read, and its completion -/

theorem rosterEntries_length (bs : List Byte) (n : Nat) : (rosterEntries bs n).length = n := by simp [rosterEntries]

theorem rosterEntries_get (bs : List Byte) {n i : Nat} (h : i < n) :
    (rosterEntries bs n)[i]? = some ⟨addrAt bs (16 * i), u8 bs (16 * i + 8)⟩ := by
  simp [rosterEntries, List.getElem?_range h]

/-- The bytes of a roster read are a unit that the planner's read in flight can bring: 1 to 16 entries, not beyond the
roster count (R34). -/
structure RosterUnit (j : PlanJob) (k : Ticket) (bs : List Byte) (n : Nat) : Prop where
  stage : j.stage = .roster
  inFlight : j.inFlight = true
  length : bs.length = 16 * n
  some : 1 ≤ n
  most : n ≤ 16
  counted : j.rosterIndex + n ≤ k.rosterCount

namespace State

/-- A planner at work takes up no other sheet. -/
theorem takeWaiting_busy {t : State} (h : t.planner.job ≠ none) : t.takeWaiting = t := by
  obtain ⟨j, hj⟩ := Option.ne_none_iff_exists'.1 h
  simp [takeWaiting, hj]

theorem ticketOf_sheet {s : State} {sl : SheetSlot} {sh : Sheet} {k : Ticket} (hsh : s.sheet sl = some sh)
    (hk : sh.ticket = some k) : s.ticketOf sl = some k := by simp [ticketOf, hsh, hk]

/-- The state in which a completed roster read resumes the pass: its unit ended and its entries at hand. -/
def rosterHad (s : State) (j : PlanJob) (bs : List Byte) (n : Nat) : State := { s.endUnit with
  planner := { s.planner with job := some { j with roster := rosterEntries bs n, inFlight := false } } }

@[simp] theorem rosterHad_frame (s : State) (j : PlanJob) (bs : List Byte) (n : Nat) :
    (s.rosterHad j bs n).control = s.control ∧ (s.rosterHad j bs n).store = s.store ∧
    (s.rosterHad j bs n).profiles = s.profiles ∧ (s.rosterHad j bs n).glyphs = s.glyphs := by
  simp [rosterHad]

theorem rosterHad_sheet (s : State) (j : PlanJob) (bs : List Byte) (n : Nat) (sl : SheetSlot) :
    (s.rosterHad j bs n).sheet sl = s.sheet sl :=
  sheet_of_control (by simp) sl

section
variable {s : State} {j : PlanJob} {sh : Sheet} {k : Ticket} {bs : List Byte} {n : Nat}

theorem exec_rosterReadDone (hj : s.planner.job = some j) (hk : s.ticketOf j.slot = some k) (hr : RosterUnit j k bs n) :
    exec (.rosterReadDone .current (.data bs)) s = .next ((s.rosterHad j bs n).runPass j.steps).takeWaiting := by
  have hin : s.planReadInFlight PlanStage.isRoster = some j := by
    simp [planReadInFlight, hj, hr.stage, hr.inFlight, PlanStage.isRoster]
  have hn : bs.length / 16 = n := by
    have := hr.length
    omega
  have hjob : (s.endUnit.mapJob fun j => { j with roster := rosterEntries bs n, inFlight := false }) = s.rosterHad j bs n := by
    simp [mapJob, hj, rosterHad, setPlanner]
  refine congrArg Host.Outcome.next ?_
  simp only [hin, hk, hn]
  rw [if_pos ⟨hr.length, hr.some, hr.most, hr.counted⟩, hjob]
  rfl

/-- A roster read whose first entry is a STUDENT or a STAFF with a subject address, for a place of a grid. -/
theorem exec_rosterReadDone_subject {i row col used : Nat} {g : GridFrame} {rest : List PlaceStep} {e : RosterEntry}
    {more : List RosterEntry} {role : Role} (h : PlansAlone s j sh) (hk : sh.ticket = some k) (hr : RosterUnit j k bs n)
    (hsteps : j.steps = .cell i row col :: rest) (hg : sh.frames[i]? = some (.grid g))
    (hu : used = if col = 0 then min g.cols (k.rosterCount - j.rosterIndex) else j.rowUsed) (hcol : col < used)
    (he : rosterEntries bs n = e :: more) (hs : e.subject ≠ 0#64)
    (hrole : (e.role = 0 ∧ role = .student) ∨ (e.role = 1 ∧ role = .staff)) :
    exec (.rosterReadDone .current (.data bs)) s = .next ((s.rosterHad j bs n).passWith { j with
        steps := rest, rowUsed := used, roster := more, inFlight := false
        stage := .subject e.subject { (s.rosterHad j bs n).gridCell g row col used j.rosterIndex i with role := role } }
      s.planner.frameStack s.planner.cursor sh) := by
  have hplacing := placing_of (s := s.rosterHad j bs n) rfl ((s.rosterHad_sheet j bs n j.slot).trans h.sheet) hk
  rw [exec_rosterReadDone h.job (ticketOf_sheet h.sheet hk) hr, hsteps,
    runPass_cell_subject hplacing hg hu hcol he hs hrole, takeWaiting_busy (by simp)]
  rfl

end

end State

/-- Settles O39: a roster read's entries are at hand, and the pass decides each place and each INSET's cell by them. -/
theorem rosterReadCompletes : Obligations.RosterReadCompletes := by
  refine ⟨?_, ?_, ?_, ?_, ?_⟩
  · intro s j sh k bs n h hk hst hf hl h1 h16 hc
    have hpass : Passing (s.rosterHad j bs n) j.slot k sh.cells (s.sheet (otherSlot j.slot)) :=
      ⟨⟨_, rfl, rfl, rfl⟩, ⟨sh, (s.rosterHad_sheet j bs n _).trans h.sheet, hk, [], by simp⟩,
        s.rosterHad_sheet j bs n _, h.waiting⟩
    have hrested := hpass.runPass j.steps
    obtain ⟨sh', more, hsh', hcells, hk'⟩ := hrested.sheet
    refine ⟨_, sh', more, (State.exec_rosterReadDone h.job (State.ticketOf_sheet h.sheet hk)
      ⟨hst, hf, hl, h1, h16, hc⟩).trans (by rw [hrested.takeWaiting]), ?_, hrested.rests, hsh', hcells, hk', hrested.other⟩
    constructor <;> simp [State.rosterHad]
  · intro s j sh k bs n i row col g rest e more role h hk hst hf hl h1 h16 hc hsteps hg hcol hrow he hs hrole
    have hused : col < (if col = 0 then min g.cols (k.rosterCount - j.rosterIndex) else j.rowUsed) := by
      split <;> omega
    refine ⟨_, _, _,
      State.exec_rosterReadDone_subject h hk ⟨hst, hf, hl, h1, h16, hc⟩ hsteps hg rfl hused he hs hrole,
      congrArg Planner.job (State.passWith_planner _ _ _ _ _), rfl, rfl, rfl, rfl, rfl, rfl, rfl, rfl, rfl, rfl, ?_, ?_, ?_⟩
    · rw [State.passWith_control]
      · exact (s.rosterHad_frame j bs n).1
      · exact (s.rosterHad_sheet j bs n j.slot).trans h.sheet
    · simp
    · intro p set used hp hset hu
      subst hu
      exact State.gridCell_eq role hused (by simpa using hp) (by simpa using hset)
  · intro s j k bs n hj hk hst hf hl h1 h16 hc
    exact State.exec_rosterReadDone hj hk ⟨hst, hf, hl, h1, h16, hc⟩
  · intro bs n i hi
    exact ⟨rosterEntries_length bs n, rosterEntries_get bs hi⟩
  · intro s j sh k f h
    exact ⟨fun g i row col used rest hg hu => State.gridPlace h hg hu,
      fun g i p set rest hg hp hset => State.insetPlaced h rest hg hp hset⟩

end Sys2Proof.Machine
end

section
/-! What a subject record says: the raster, the marks, and the cell that comes of them (R27 to R32, R62). -/

namespace Sys2Proof.Machine

/-! ## The raster and the marks (R28, R30 to R32) -/

theorem PixelForm.bytes_eq (f : PixelForm) : f.bytes = if f = .rgb8 then 3 else 1 := by cases f <;> rfl

theorem pixelForm_eq_some {n : Nat} {form : PixelForm} :
    pixelForm n = some form ↔ (n = 0 ∧ form = .rgb8) ∨ (n = 1 ∧ form = .gray8) := by
  unfold pixelForm
  split <;> simp_all [eq_comm]

theorem rasterDescription_valid {bs : List Byte} {form : PixelForm} (h : RasterValid bs form) :
    rasterDescription bs = some ⟨addrAt bs 8, u16 bs 16, u16 bs 18, u32 bs 20, form, .none⟩ := by
  unfold rasterDescription
  simp only [pixelForm_eq_some.2 h.code, PixelForm.bytes_eq]
  exact if_pos ⟨h.width.1, h.width.2, h.height.1, h.height.2, h.pitch, h.addr, h.last⟩

theorem rasterDescription_invalid {bs : List Byte} (h : ∀ form, ¬ RasterValid bs form) : rasterDescription bs = none := by
  unfold rasterDescription
  split
  next => rfl
  next form hform =>
    refine if_neg fun hc => ?_
    rw [PixelForm.bytes_eq] at hc
    obtain ⟨w1, w2, h1, h2, hpitch, haddr, hlast⟩ := hc
    exact h form ⟨pixelForm_eq_some.1 hform, ⟨w1, w2⟩, ⟨h1, h2⟩, hpitch, haddr, hlast⟩

theorem marksInEffect_taken (bs : List Byte) :
    MarksTaken bs (marksInEffect bs (u16 bs 16) (u16 bs 18)).1 (marksInEffect bs (u16 bs 16) (u16 bs 18)).2 := by
  constructor
  · intro hv
    simp [marksInEffect, hv]
  · intro hv h1 h2 h3 h4 h5
    simp only [marksInEffect, hv]
    rw [if_pos (by omega)]
    exact ⟨rfl, rfl⟩
  · intro hv hn
    simp only [marksInEffect, hv]
    rw [if_neg (by omega)]
    exact ⟨rfl, rfl⟩
  · intro hv h1 h2 h3
    simp only [marksInEffect, hv]
    rw [if_pos (by omega)]
    exact ⟨rfl, rfl⟩
  · intro hv hn
    simp only [marksInEffect, hv]
    rw [if_neg (by omega)]
    exact ⟨rfl, rfl⟩
  · intro hv
    unfold marksInEffect
    split
    case h_4 => exact ⟨rfl, rfl⟩
    all_goals omega

/-! ## The decision (R27 to R32) -/

section
variable {bs : List Byte}

theorem decideCell_invalid (h : u32 bs 0 = 0 ∨ 16777215 < u32 bs 0 ∨ 1 < u8 bs 5 ∨
    (u8 bs 5 = 0 ∧ ∀ form, ¬ RasterValid bs form)) : decideCell bs = (.placeholder, noteIf .subjectInvalid true, none) := by
  unfold decideCell
  split
  next => rfl
  next hn =>
    obtain ⟨hstatus, hraster⟩ : u8 bs 5 = 0 ∧ ∀ form, ¬ RasterValid bs form := by
      simp only [Config.maxSubject] at hn
      tauto
    rw [if_neg (by omega), rasterDescription_invalid hraster]

theorem decideCell_absent (h0 : 0 < u32 bs 0) (hmax : u32 bs 0 ≤ 16777215) (hs : u8 bs 5 = 1) :
    decideCell bs = (.placeholder, noteIf .placeholderAbsent true, none) := by
  unfold decideCell
  rw [if_neg (by simp only [Config.maxSubject]; omega), if_pos hs]

/-- The source of a PRESENT subject's valid raster, with the marks in effect (R26, R28). -/
def recordSource (bs : List Byte) (form : PixelForm) : Source :=
  ⟨addrAt bs 8, u16 bs 16, u16 bs 18, u32 bs 20, form, (marksInEffect bs (u16 bs 16) (u16 bs 18)).1⟩

theorem decideCell_present {form : PixelForm} (h0 : 0 < u32 bs 0) (hmax : u32 bs 0 ≤ 16777215) (hs : u8 bs 5 = 0)
    (hr : RasterValid bs form) : decideCell bs = (.portrait,
      noteIf .marksIgnored (marksInEffect bs (u16 bs 16) (u16 bs 18)).2 |||
        noteIf .unmarked ((marksInEffect bs (u16 bs 16) (u16 bs 18)).1 == .none), some (recordSource bs form)) := by
  unfold decideCell
  rw [if_neg (by simp only [Config.maxSubject]; omega), if_neg (by omega), rasterDescription_valid hr]
  rfl

/-- The decision raises no note but these four. -/
theorem decideCell_notes (bs : List Byte) {n : Note} (h1 : n ≠ .subjectInvalid) (h2 : n ≠ .placeholderAbsent)
    (h3 : n ≠ .marksIgnored) (h4 : n ≠ .unmarked) : hasNote (decideCell bs).2.1 n = false := by
  unfold decideCell
  split
  · simp [hasNote_noteIf, h1.symm]
  · split
    · simp [hasNote_noteIf, h2.symm]
    · split
      · simp [hasNote_noteIf, h1.symm]
      · simp [hasNote_or, hasNote_noteIf, h3.symm, h4.symm]

end

/-! ## The cell of a record (R26, R29, R62) -/

/-- The cell that a subject record gives, before it claims a tile. -/
def recordCell (d : CellSeed) (bs : List Byte) : Cell :=
  { d.cell (decideCell bs).1 ((decideCell bs).2.1 ||| noteIf .captionClipped (nameClipped bs)) with
    subject := u32 bs 0
    serial := byteAt bs 4
    given := givenName bs
    family := familyName bs
    source := (decideCell bs).2.2 }

theorem hasNote_recordCell (d : CellSeed) (bs : List Byte) (n : Note) : hasNote (recordCell d bs).notes n =
    (hasNote (decideCell bs).2.1 n || (nameClipped bs && decide (.captionClipped = n)) ||
      (rectEmpty (rectMeet d.rect d.clip) && decide (.offSheet = n))) := by
  simp [recordCell, CellSeed.cell, hasNote_or, hasNote_noteIf]

/-- The notes of a record's cell other than its names' and its place's are those of the decision. -/
theorem hasNote_recordCell_decided (d : CellSeed) (bs : List Byte) {n : Note} (h1 : .captionClipped ≠ n)
    (h2 : .offSheet ≠ n) : hasNote (recordCell d bs).notes n = hasNote (decideCell bs).2.1 n := by
  simp [hasNote_recordCell, h1, h2]

/-- The planning counts of a record's cell. -/
theorem planCounts_recordCell (c : Cell) (d : CellSeed) (bs : List Byte) : c.planCounts (recordCell d bs).notes =
    { Counts.zero with
      placeholders := if c.kind = .placeholder then 1 else 0
      marksIgnored := if hasNote (recordCell d bs).notes .marksIgnored then 1 else 0
      unmarked := if hasNote (recordCell d bs).notes .unmarked then 1 else 0
      clippedCaptions := if hasNote (recordCell d bs).notes .captionClipped then 1 else 0
      offSheet := if hasNote (recordCell d bs).notes .offSheet then 1 else 0 } := by
  have hnone (n : Note) (h : n = .scaleClamped ∨ n = .shifted ∨ n = .padded ∨ n = .glyphSubstituted) :
      hasNote (recordCell d bs).notes n = false := by
    rw [hasNote_recordCell_decided d bs (by rcases h with rfl | rfl | rfl | rfl <;> decide)
      (by rcases h with rfl | rfl | rfl | rfl <;> decide)]
    rcases h with rfl | rfl | rfl | rfl <;> exact decideCell_notes bs nofun nofun nofun nofun
  simp [Cell.planCounts, countsOfNotes, hnone, bit, Counts.zero]

/-- A cell with the answer of its claim: its reference, and its fit where it is known (R64, R89). -/
def Cell.claimed (c : Cell) (a : LookupAnswer) : Cell :=
  match a.fit with
  | none => { c with ref := some a.ref }
  | some f => { c with ref := some a.ref }.receiveFit f

end Sys2Proof.Machine
end

section
/-! Subject record reads: the tile that a cell claims, and the cell placed (R61 to R64, R95). -/

namespace Sys2Proof.Machine

/-! ## Lookups and the parts that they do not read (R95 to R100) -/

/-- The sheet with more builds pending. -/
def Sheet.raised (sh : Sheet) (n : Nat) : Sheet := { sh with pendingBuilds := sh.pendingBuilds + n }

namespace State

/-- The state with other registers, another port and another planner. -/
def withOutside (s : State) (w : Window) (p : Port) (pl : Planner) : State := ((s.setWindow w).setPort p).setPlanner pl

section
variable (s : State) (w : Window) (p : Port) (pl : Planner) (sl : SheetSlot) (k : TileKey) (src : Source)

theorem withOutside_raisePending : (s.withOutside w p pl).raisePending sl = (s.raisePending sl).withOutside w p pl := by
  cases sl <;> rfl

@[simp] theorem withOutside_store : (s.withOutside w p pl).store = s.store := rfl

theorem withOutside_scratchLookup : (s.withOutside w p pl).scratchLookup sl k src =
    ((s.scratchLookup sl k src).1.withOutside w p pl, (s.scratchLookup sl k src).2) := by
  unfold scratchLookup
  simp only [withOutside_store, withOutside_raisePending]
  split
  · split <;> rfl
  · exact Prod.ext (withOutside_raisePending (((s.setStore _).appendBuild _ k src)) w p pl sl) rfl

theorem withOutside_hitOrJoin (v : Way) : (s.withOutside w p pl).hitOrJoin sl k v =
    ((s.hitOrJoin sl k v).1.withOutside w p pl, (s.hitOrJoin sl k v).2) := by
  unfold hitOrJoin
  simp only [withOutside_store]
  by_cases hready : (s.store.slot (keySet k) v).state = .ready
  · by_cases hmode : s.store.mode = .normal
    · simp only [hready, hmode, if_true]
      rfl
    · simp only [hready, hmode, if_true, if_false]
      rfl
  · simp only [hready, if_false]
    exact Prod.ext (withOutside_raisePending (s.mapSlot (keySet k) v fun x => { x with holders := x.holders.join sl }) w p pl
      sl) rfl

theorem withOutside_fillWay (v : Way) : (s.withOutside w p pl).fillWay sl k src v =
    ((s.fillWay sl k src v).1.withOutside w p pl, (s.fillWay sl k src v).2) :=
  Prod.ext (withOutside_raisePending (((s.setStore _).appendBuild _ k src)) w p pl sl) rfl

/-- A lookup reads nothing of the registers, the port and the planner. -/
theorem withOutside_lookup : (s.withOutside w p pl).lookup sl k src =
    ((s.lookup sl k src).1.withOutside w p pl, (s.lookup sl k src).2) := by
  unfold lookup
  simp only [withOutside_store]
  cases s.store.mode
  case bypass => exact withOutside_scratchLookup s w p pl sl k src
  case frozen =>
    cases s.store.sets[keySet k].search k
    case some v => exact withOutside_hitOrJoin s w p pl sl k v
    case none => exact withOutside_scratchLookup s w p pl sl k src
  case normal =>
    cases s.store.sets[keySet k].search k
    case some v => exact withOutside_hitOrJoin s w p pl sl k v
    case none =>
      cases s.store.sets[keySet k].victim
      case some v => exact withOutside_fillWay s w p pl sl k src v
      case none => exact withOutside_scratchLookup s w p pl sl k src

end

end State

/-! ## The sheet after a lookup (R108) -/

namespace State

variable (s : State) (sl : SheetSlot) (k : TileKey) (src : Source)

theorem raisePending_sheet : (s.raisePending sl).sheet sl = (s.sheet sl).map (·.raised 1) := by
  rw [raisePending, sheet_mapSheet, if_pos rfl]
  rfl

theorem scratchLookup_sheet : ∃ n, (s.scratchLookup sl k src).1.sheet sl = (s.sheet sl).map (·.raised n) := by
  unfold scratchLookup
  dsimp only
  split
  · split
    · exact ⟨0, by simp [Sheet.raised]⟩
    · exact ⟨1, s.raisePending_sheet sl⟩
  · exact ⟨1, (raisePending_sheet _ sl).trans (by simp [sheet_appendBuild])⟩

theorem hitOrJoin_sheet (v : Way) : ∃ n, (s.hitOrJoin sl k v).1.sheet sl = (s.sheet sl).map (·.raised n) := by
  unfold hitOrJoin
  dsimp only
  split
  · refine ⟨0, ?_⟩
    dsimp only
    split <;> simp [sheet_mapSlot, Sheet.raised]
  · exact ⟨1, (raisePending_sheet _ sl).trans (by simp [sheet_mapSlot])⟩

theorem fillWay_sheet (v : Way) : (s.fillWay sl k src v).1.sheet sl = (s.sheet sl).map (·.raised 1) :=
  (raisePending_sheet _ sl).trans (by simp [sheet_appendBuild])

/-- A lookup changes its sheet's pending builds alone. -/
theorem lookup_sheet : ∃ n, (s.lookup sl k src).1.sheet sl = (s.sheet sl).map (·.raised n) := by
  unfold lookup
  split
  · exact s.scratchLookup_sheet sl k src
  · split
    · exact s.hitOrJoin_sheet sl k _
    · exact s.scratchLookup_sheet sl k src
  · split
    · exact s.hitOrJoin_sheet sl k _
    · split
      · exact ⟨1, s.fillWay_sheet sl k src _⟩
      · exact s.scratchLookup_sheet sl k src

end State

/-! ## The claim of a tile (R64, R95) -/

namespace State

section
variable {s : State} {sl : SheetSlot} {sh : Sheet} {c : Cell} {src : Source}

theorem claimTile_shared {d : Cell} {r : TileRef} (h : s.sheet sl = some sh) (hd : sameKey sh.cells c = some d)
    (hr : d.ref = some r) : s.claimTile sl c src = (s, ⟨r, d.fit⟩) := by
  simp [claimTile, h, hd, hr]

theorem claimTile_looked (h : s.sheet sl = some sh) (hd : sameKey sh.cells c = none) :
    s.claimTile sl c src = s.lookup sl c.key src := by
  simp [claimTile, h, hd]

/-- A claim changes its sheet's pending builds alone. -/
theorem claimTile_sheet (s : State) (sl : SheetSlot) (c : Cell) (src : Source) :
    ∃ n, (s.claimTile sl c src).1.sheet sl = (s.sheet sl).map (·.raised n) := by
  unfold claimTile
  split
  · split
    · exact ⟨0, by simp [Sheet.raised]⟩
    · exact s.lookup_sheet sl _ src
  · exact s.lookup_sheet sl _ src

end

end State

/-! ## A cell's claim, and its cell placed -/

section
variable (c : Cell) (a : LookupAnswer)

@[simp] theorem Cell.claimed_frame : (c.claimed a).kind = c.kind ∧ (c.claimed a).rect = c.rect ∧
    (c.claimed a).clip = c.clip ∧ (c.claimed a).profile = c.profile ∧ (c.claimed a).rosterIndex = c.rosterIndex ∧
    (c.claimed a).subject = c.subject ∧ (c.claimed a).serial = c.serial ∧ (c.claimed a).role = c.role ∧
    (c.claimed a).given = c.given ∧ (c.claimed a).family = c.family ∧ (c.claimed a).source = c.source := by
  unfold Cell.claimed
  split <;> simp [Cell.receiveFit]

@[simp] theorem Cell.claimed_ref : (c.claimed a).ref = some a.ref := by
  unfold Cell.claimed
  split <;> rfl

theorem Cell.claimed_fit (h : c.fit = none) : (c.claimed a).fit = a.fit := by
  unfold Cell.claimed
  split
  next hf => rw [hf]; exact h
  next hf => rw [hf]; rfl

theorem Cell.claimed_notes : (c.claimed a).notes = c.notes ||| (a.fit.map (·.notes)).getD 0#11 := by
  unfold Cell.claimed
  split
  next hf => simp [hf]
  next hf => simp [hf, Cell.receiveFit]

end

end Sys2Proof.Machine
end

section
/-! The completion of a subject record read (R26 to R33, R61 to R64). -/

namespace Sys2Proof.Machine

/-! ## A record's cell placed -/

section
variable (j : PlanJob) (cur : Option PlaceCursor) (d : CellSeed) (added : Counts)

@[simp] theorem PlanJob.placed_frame : (j.placed cur d added).1.slot = j.slot ∧
    (j.placed cur d added).1.inFlight = j.inFlight ∧ (j.placed cur d added).1.steps = j.steps ∧
    (j.placed cur d added).1.roster = j.roster ∧ (j.placed cur d added).1.grids = j.grids ∧
    (j.placed cur d added).1.rowUsed = j.rowUsed ∧ (j.placed cur d added).1.counts = j.counts.add added := by
  unfold PlanJob.placed PlanJob.moved
  cases d.rosterIndex <;> cases cur <;> simp

theorem PlanJob.placed_inset (h : d.rosterIndex = none) :
    j.placed cur d added = ({ j with counts := j.counts.add added }, cur) := by
  simp [PlanJob.placed, h]

theorem PlanJob.placed_grid {c c' : PlaceCursor} {passed : Bool} (h : d.rosterIndex ≠ none)
    (hm : CursorMoved j.grids c c' passed) : j.placed (some c) d added =
      ({ j with counts := j.counts.add added, rosterIndex := j.rosterIndex + 1, passedLast := j.passedLast || passed },
        some c') := by
  simp [PlanJob.placed, Option.isSome_iff_ne_none.2 h, PlanJob.moved, hm.advance_eq]

end

/-- A cell of a seed has been placed: the planner and the sheet after it. -/
structure CellPlaced (s u : State) (j : PlanJob) (sh : Sheet) (d : CellSeed) (c : Cell) (own : Notes) : Prop where
  planner : u.planner = ⟨some (j.placed s.planner.cursor d (c.planCounts own)).1, s.planner.waiting, s.planner.frameStack,
    (j.placed s.planner.cursor d (c.planCounts own)).2⟩
  sheet : u.sheet j.slot = some (sh.withCell d c)

section
variable {s v : State} {j : PlanJob} {sh : Sheet} {d : CellSeed} {c : Cell} {own : Notes}

/-- Placing a cell, where work before it has left the planner alone. -/
theorem State.placeCell_placed (hj : s.planner.job = some j) (hp : v.planner = s.planner)
    (hsh : v.sheet j.slot = some sh) : CellPlaced s (v.placeCell d c own) j sh d c own := by
  rw [← State.passWith_self (hp ▸ hj) hsh, State.passWith_placeCell, hp]
  exact ⟨by rw [State.passWith_planner, hp], by
    rw [← (j.placed_frame s.planner.cursor d (c.planCounts own)).1, State.passWith_sheet]⟩

theorem CellPlaced.addCounts {u : State} (h : CellPlaced s u j sh d c own) (sl : SheetSlot) (cs : Counts) :
    CellPlaced s (u.addCounts sl cs) j sh d c own :=
  ⟨by simpa using h.planner, by simpa [State.addCounts, State.mapResults] using h.sheet⟩

end

/-- What a cell placed from a record keeps of the record's cell; only a cell with a source claims a tile. -/
structure CellOfRecord (d : CellSeed) (bs : List Byte) (c : Cell) : Prop where
  kind : c.kind = (decideCell bs).1
  rect : c.rect = d.rect
  clip : c.clip = d.clip
  profile : c.profile = d.profile
  rosterIndex : c.rosterIndex = d.rosterIndex
  role : c.role = d.role
  subject : c.subject = u32 bs 0
  serial : c.serial = byteAt bs 4
  given : c.given = givenName bs
  family : c.family = familyName bs
  source : c.source = (decideCell bs).2.2
  notes : c.notes = (recordCell d bs).notes ||| (c.fit.map (·.notes)).getD 0#11
  unclaimed : c.source = none → c.ref = none

/-- A record that is decided a PLACEHOLDER for one note: its cell claims nothing and carries that note of the decision. -/
theorem CellOfRecord.refused {d : CellSeed} {bs : List Byte} {c : Cell} (h : CellOfRecord d bs c) {m : Note}
    (hd : decideCell bs = (.placeholder, noteIf m true, none)) : c.kind = .placeholder ∧ c.ref = none ∧
      ∀ n, .captionClipped ≠ n → .offSheet ≠ n → hasNote (recordCell d bs).notes n = decide (m = n) :=
  ⟨by rw [h.kind, hd], h.unclaimed (by rw [h.source, hd]), fun n h1 h2 => by
    rw [hasNote_recordCell_decided d bs h1 h2, hd, hasNote_noteIf, Bool.true_and]⟩

theorem recordCell_ofRecord (d : CellSeed) (bs : List Byte) : CellOfRecord d bs (recordCell d bs) := by
  constructor <;> simp [recordCell, CellSeed.cell]

theorem claimed_ofRecord (d : CellSeed) (bs : List Byte) (a : LookupAnswer) {src : Source} (h : (decideCell bs).2.2 = some src) :
    CellOfRecord d bs ((recordCell d bs).claimed a) := by
  have hrecord := recordCell_ofRecord d bs
  constructor
  case notes => rw [Cell.claimed_notes, Cell.claimed_fit _ _ rfl]
  case unclaimed =>
    intro hn
    rw [(Cell.claimed_frame _ a).2.2.2.2.2.2.2.2.2.2, hrecord.source, h] at hn
    exact nomatch hn
  all_goals simp [hrecord.kind, hrecord.rect, hrecord.clip, hrecord.profile, hrecord.rosterIndex, hrecord.role,
    hrecord.subject, hrecord.serial, hrecord.given, hrecord.family, hrecord.source]

section
variable {s : State} {j : PlanJob} {sh : Sheet} {d : CellSeed} {bs : List Byte} {sl : SheetSlot}

theorem State.placeFromRecord_bare (h : (decideCell bs).2.2 = none) :
    s.placeFromRecord sl d bs = s.placeCell d (recordCell d bs) (recordCell d bs).notes := by
  simp only [State.placeFromRecord, h]
  simp only [recordCell, h]

/-- A portrait is placed with the answer of its claim; a fit that it receives adds its counts to the order's results. -/
theorem State.placeFromRecord_claims {src : Source} (h : (decideCell bs).2.2 = some src) :
    ∃ placed : State, placed = (s.claimTile sl (recordCell d bs) src).1.placeCell d
        ((recordCell d bs).claimed (s.claimTile sl (recordCell d bs) src).2) (recordCell d bs).notes ∧
      (s.placeFromRecord sl d bs = placed ∨ ∃ cs, s.placeFromRecord sl d bs = placed.addCounts sl cs) := by
  refine ⟨_, rfl, ?_⟩
  unfold State.placeFromRecord Cell.claimed
  simp only [recordCell, h]
  cases (s.claimTile sl _ src).2.fit
  case none => exact .inl rfl
  case some f => exact .inr ⟨_, rfl⟩

/-- A record's cell that claims no tile is placed as it is. -/
theorem State.placeFromRecord_placedBare (hj : s.planner.job = some j) (hsh : s.sheet j.slot = some sh)
    (h : (decideCell bs).2.2 = none) : CellPlaced s (s.placeFromRecord j.slot d bs) j sh d (recordCell d bs)
      (recordCell d bs).notes := by
  rw [State.placeFromRecord_bare h]
  exact State.placeCell_placed hj rfl hsh

/-- A record's portrait is placed with the answer of its claim, and nothing after the claim changes the store, the Builder
or the pending builds. -/
theorem State.placeFromRecord_placedTile {src : Source} (hj : s.planner.job = some j) (hsh : s.sheet j.slot = some sh)
    (h : (decideCell bs).2.2 = some src) : ∃ n, (s.claimTile j.slot (recordCell d bs) src).1.sheet j.slot = some (sh.raised n) ∧
      CellPlaced s (s.placeFromRecord j.slot d bs) j (sh.raised n) d
        ((recordCell d bs).claimed (s.claimTile j.slot (recordCell d bs) src).2) (recordCell d bs).notes ∧
      (s.placeFromRecord j.slot d bs).store = (s.claimTile j.slot (recordCell d bs) src).1.store ∧
      (s.placeFromRecord j.slot d bs).builder = (s.claimTile j.slot (recordCell d bs) src).1.builder := by
  obtain ⟨n, hn⟩ := s.claimTile_sheet j.slot (recordCell d bs) src
  rw [hsh, Option.map_some] at hn
  obtain ⟨placed, rfl, hplaced⟩ := State.placeFromRecord_claims (s := s) (d := d) (sl := j.slot) h
  have hcell := State.placeCell_placed (d := d) (c := (recordCell d bs).claimed (s.claimTile j.slot (recordCell d bs) src).2)
    (own := (recordCell d bs).notes) hj (by simp) hn
  refine ⟨n, hn, ?_⟩
  rcases hplaced with heq | ⟨cs, heq⟩
  · rw [heq]
    exact ⟨hcell, by simp, by simp⟩
  · rw [heq]
    exact ⟨hcell.addCounts _ _, by simp, by simp⟩

end

/-! ## The tile that a portrait takes (R64) -/

theorem sameKey_eq (cells : List Cell) (c : Cell) : sameKey cells c = cells.find? fun d =>
    d.kind == .portrait && d.subject == c.subject && d.profile == c.profile && d.serial == c.serial := by
  have hkey (d : Cell) : (d.key == c.key) = (d.subject == c.subject && d.profile == c.profile && d.serial == c.serial) := by
    rw [Bool.eq_iff_iff]
    simp [Cell.key, and_assoc]
  simp only [sameKey, hkey, Bool.and_assoc]

theorem sameKey_eq_none {cells : List Cell} {c : Cell} (h : ∀ d ∈ cells, d.kind = .portrait →
    d.subject ≠ c.subject ∨ d.profile ≠ c.profile ∨ d.serial ≠ c.serial) : sameKey cells c = none := by
  rw [sameKey_eq, List.find?_eq_none]
  intro d hd
  have := h d hd
  simp only [Bool.and_eq_true, beq_iff_eq]
  tauto

@[simp] theorem State.withOutside_sheet (s : State) (w : Window) (p : Port) (pl : Planner) (sl : SheetSlot) :
    (s.withOutside w p pl).sheet sl = s.sheet sl := by cases sl <;> rfl

/-- The tile of a claim made beside other registers, port and planner, as the statements give it. -/
theorem tileClaimed_of_claim {s u : State} {w : Window} {p : Port} {pl : Planner} {sl : SheetSlot} {sh sh1 : Sheet}
    {c : Cell} {src : Source} (hsh : s.sheet sl = some sh) (hf : c.fit = none)
    (hc : ((s.withOutside w p pl).claimTile sl c src).1.sheet sl = some sh1)
    (hstore : u.store = ((s.withOutside w p pl).claimTile sl c src).1.store)
    (hbuilder : u.builder = ((s.withOutside w p pl).claimTile sl c src).1.builder)
    (hpending : (u.sheet sl).map (·.pendingBuilds) = some sh1.pendingBuilds) :
    TileClaimed s u sl sh.cells (c.claimed ((s.withOutside w p pl).claimTile sl c src).2) src := by
  have hsh' : (s.withOutside w p pl).sheet sl = some sh := by rw [State.withOutside_sheet, hsh]
  constructor
  · intro d r hd hr
    have hshared := State.claimTile_shared (c := c) (src := src) hsh' (by rw [sameKey_eq]; simpa using hd) hr
    rw [hshared] at hstore hbuilder hc ⊢
    rw [hsh', Option.some.injEq] at hc
    exact ⟨by simp, c.claimed_fit _ hf, hstore, hbuilder, by rw [hpending, hsh, hc]; rfl⟩
  · intro hn
    have hlooked : (s.withOutside w p pl).claimTile sl c src = _ :=
      (State.claimTile_looked hsh' (sameKey_eq_none (by simpa using hn))).trans (s.withOutside_lookup w p pl sl c.key src)
    rw [hlooked] at hstore hbuilder hc ⊢
    simp only [Cell.claimed_frame]
    rw [State.withOutside_sheet] at hc
    exact ⟨by simp [Cell.key], c.claimed_fit _ hf, hstore, hbuilder, by rw [hpending]; exact (congrArg (Option.map (·.pendingBuilds)) hc).symm⟩

/-! ## The completion of the read -/

namespace State

/-- The state in which a completed subject record read places its cell: its unit ended. -/
def subjectHad (s : State) (j : PlanJob) : State :=
  { s.endUnit with planner := { s.planner with job := some { j with inFlight := false } } }

theorem subjectHad_eq (s : State) (j : PlanJob) : s.subjectHad j = s.withOutside s.endUnit.window s.endUnit.port
    { s.planner with job := some { j with inFlight := false } } := by
  unfold subjectHad endUnit
  dsimp only
  split <;> rfl

theorem subjectHad_sheet (s : State) (j : PlanJob) (sl : SheetSlot) : (s.subjectHad j).sheet sl = s.sheet sl := by
  rw [subjectHad_eq, withOutside_sheet]

theorem exec_subjectReadDone {s : State} {j : PlanJob} {a : Addr} {seed : CellSeed} {bs : List Byte}
    (hj : s.planner.job = some j) (hst : j.stage = .subject a seed) (hf : j.inFlight = true) (hl : bs.length = 128) :
    exec (.subjectReadDone .current (.data bs)) s =
      .next ((s.subjectHad j).placeFromRecord j.slot seed bs).resumePass.takeWaiting := by
  have hin : s.planReadInFlight PlanStage.isSubject = some j := by
    simp [planReadInFlight, hj, hst, hf, PlanStage.isSubject]
  have hjob : (s.endUnit.mapJob fun j => { j with inFlight := false }) = s.subjectHad j := by
    simp [mapJob, hj, subjectHad, setPlanner]
  refine congrArg Host.Outcome.next ?_
  simp only [hin, hst, hl, if_true, hjob]

end State

section
variable {s : State} {j : PlanJob} {sh : Sheet} {seed : CellSeed} {bs : List Byte}

/-- A record's cell is placed, and a portrait's has claimed its tile. -/
theorem State.subjectHad_places (hsh : s.sheet j.slot = some sh) : ∃ c n,
    CellPlaced (s.subjectHad j) ((s.subjectHad j).placeFromRecord j.slot seed bs) { j with inFlight := false }
      (sh.raised n) seed c (recordCell seed bs).notes ∧ CellOfRecord seed bs c ∧
    ∀ src, (decideCell bs).2.2 = some src → c.ref ≠ none ∧
      TileClaimed s ((s.subjectHad j).placeFromRecord j.slot seed bs) j.slot sh.cells c src := by
  have hsh' := (s.subjectHad_sheet j j.slot).trans hsh
  cases hsrc : (decideCell bs).2.2
  case none =>
    exact ⟨_, 0, State.placeFromRecord_placedBare (j := { j with inFlight := false }) rfl hsh' hsrc,
      recordCell_ofRecord seed bs, nofun⟩
  case some src =>
    obtain ⟨n, hn, hcell, hstore, hbuilder⟩ :=
      State.placeFromRecord_placedTile (d := seed) (j := { j with inFlight := false }) rfl hsh' hsrc
    refine ⟨_, n, hcell, claimed_ofRecord seed bs _ hsrc, fun src' h => ?_⟩
    obtain rfl := Option.some.inj h
    refine ⟨by simp, ?_⟩
    have hsheet := hcell.sheet
    simp only [s.subjectHad_eq j] at hn hstore hbuilder hsheet ⊢
    exact tileClaimed_of_claim hsh rfl hn hstore hbuilder (by rw [hsheet]; rfl)

end

/-- Settles O40: the record's cell is decided, claims its tile and is placed, and the pass goes on. -/
theorem subjectReadCompletes : Obligations.SubjectReadCompletes := by
  intro s j sh k a seed bs h hk hst hf hl
  obtain ⟨c, n, hcell, hc, htile⟩ := State.subjectHad_places (s := s) (seed := seed) (bs := bs) h.sheet
  set u := (s.subjectHad j).placeFromRecord j.slot seed bs with hu
  set placed := PlanJob.placed { j with inFlight := false } s.planner.cursor seed (c.planCounts (recordCell seed bs).notes)
    with hplaced
  have hplanner : u.planner = ⟨some placed.1, s.planner.waiting, s.planner.frameStack, placed.2⟩ := hcell.planner
  have hpass : Passing u j.slot k (sh.cells ++ [c]) (u.sheet (otherSlot j.slot)) :=
    ⟨⟨placed.1, by rw [hplanner], by simp [hplaced], by simp [hplaced]⟩, ⟨_, hcell.sheet, hk, [], (List.append_nil _).symm⟩, rfl,
      by rw [hplanner]; exact h.waiting⟩
  have hrested := hpass.runPass j.steps
  obtain ⟨sh', more, hsh', hcells, hk'⟩ := hrested.sheet
  have hresume : u.resumePass = u.runPass j.steps := by
    simp [State.resumePass, hplanner, hplaced]
  refine ⟨u.runPass j.steps, sh', c, more, (recordCell seed bs).notes, u, placed.1, (sh.raised n).withCell seed c, ?_, ?_,
    hrested.rests, hsh', by rw [hcells]; simp, hk', hc.subject, hc.serial, hc.rect, hc.clip, hc.profile, hc.rosterIndex,
    hc.role, hc.notes, ?_, ?_, ?_, ?_, ?_, ?_, ?_, hrested.takeWaiting.symm, by rw [hplanner], hcell.sheet, rfl, ?_,
    by rw [hplanner], by simp [hplaced], by simp [hplaced], by simp [hplaced], by simp [hplaced], ?_, ?_, ?_⟩
  · rw [State.exec_subjectReadDone h.job hst hf hl, hresume, hrested.takeWaiting]
  · constructor <;> simp [hu, State.subjectHad]
  · rw [hc.given, givenName, Nat.min_comm]
  · rw [hc.family, familyName, Nat.min_comm]
  · simp [hasNote_recordCell, decideCell_notes, nameClipped]
  · simp [hasNote_recordCell, decideCell_notes]
  · intro hbad
    obtain ⟨hkind, href, hnotes⟩ := hc.refused (decideCell_invalid hbad)
    exact ⟨hkind, href, hnotes _ nofun nofun, hnotes _ nofun nofun, hnotes _ nofun nofun, hnotes _ nofun nofun⟩
  · intro h0 hmax hs
    obtain ⟨hkind, href, hnotes⟩ := hc.refused (decideCell_absent h0 hmax hs)
    exact ⟨hkind, href, hnotes _ nofun nofun, hnotes _ nofun nofun, hnotes _ nofun nofun, hnotes _ nofun nofun⟩
  · intro form h0 hmax hs hr
    have hdecided := decideCell_present h0 hmax hs hr
    obtain ⟨href, hclaim⟩ := htile _ (by rw [hdecided])
    refine ⟨by rw [hc.kind, hdecided], href, ?_, ?_, _, _, marksInEffect_taken bs, hclaim, by rw [hc.source, hdecided]; rfl,
      ?_, ?_⟩
    all_goals simp [hasNote_recordCell, hdecided, hasNote_or, hasNote_noteIf]
  · simp only [Sheet.withCell]
    refine congrArg (List.modify sh.frames seed.frame) (funext fun f => ?_)
    cases f <;> rfl
  · simp [hplaced, planCounts_recordCell]
  · intro hnone
    rw [hplanner, hplaced, PlanJob.placed_inset _ _ _ _ hnone]
    exact ⟨rfl, rfl, rfl⟩
  · intro cur cur' passed hsome hcur hmoved
    rw [hplanner, hplaced, hcur, PlanJob.placed_grid { j with inFlight := false } _ _ hsome hmoved]
    exact ⟨rfl, rfl, rfl⟩

end Sys2Proof.Machine
end

section
/-! The checks of a sheet ticket (R45, R46). -/

namespace Sys2Proof.Machine

theorem u32_lt (bs : List Byte) (i : Nat) : u32 bs i < 2 ^ 32 := by
  have hbyte (n : Nat) : u8 bs n < 256 := (byteAt bs n).isLt
  have h0 := hbyte i
  have h1 := hbyte (i + 1)
  have h2 := hbyte (i + 2)
  have h3 := hbyte (i + 2 + 1)
  unfold u32 u16
  omega

/-- The fields of a ticket's sheet description are valid (R45). -/
structure SheetFieldsValid (bs : List Byte) : Prop where
  dest : u8 bs 4 ≤ 1
  widthLow : 256 ≤ u16 bs 8
  widthHigh : u16 bs 8 ≤ 3072
  heightLow : 256 ≤ u16 bs 10
  heightHigh : u16 bs 10 ≤ 4800
  proof : u8 bs 4 = 1 → addrAt bs 16 ≠ 0#64 ∧
    (addrAt bs 16).toNat + u32 bs 24 * (u16 bs 10 - 1) + 3 * u16 bs 8 - 1 < 2 ^ 64 ∧ 3 * u16 bs 8 ≤ u32 bs 24
  continues : u8 bs 5 = 0 ∨ (u8 bs 5 = 1 ∧ 1 ≤ u8 bs 6 ∧ u8 bs 6 ≤ 32)
  budget : u8 bs 7 ≤ 3
  count : u16 bs 28 ≤ 48
  layout : 0 < u16 bs 28 → addrAt bs 32 ≠ 0#64

/-- The fields of a ticket's roster description are valid (R46). -/
structure RosterFieldsValid (bs : List Byte) : Prop where
  count : u16 bs 48 ≤ 4096
  start : u16 bs 50 ≤ u16 bs 48
  roster : u16 bs 50 < u16 bs 48 → addrAt bs 40 ≠ 0#64

/-- The fields of a ticket whose checks pass. -/
def ticketFields (bs : List Byte) : Ticket where
  sheetId := BitVec.ofNat 32 (u32 bs 0)
  dest := if u8 bs 4 = 0 then .press else .proof
  autoLimit := if u8 bs 5 = 1 then some (u8 bs 6) else none
  retryBudget := u8 bs 7
  width := u16 bs 8
  height := u16 bs 10
  background := colourAt bs 12
  proofAddr := addrAt bs 16
  proofPitch := u32 bs 24
  entryCount := u16 bs 28
  layoutAddr := addrAt bs 32
  rosterAddr := addrAt bs 40
  rosterCount := u16 bs 48
  rosterStart := u16 bs 50
  reportAddr := addrAt bs 56

/-- The checks of a ticket's roster description, made when those of its sheet description have passed (R46). -/
def rosterCheck (bs : List Byte) : Except Detail Ticket :=
  if 4096 < u16 bs 48 then .error .roster
  else if u16 bs 48 < u16 bs 50 then .error .roster
  else if u16 bs 50 < u16 bs 48 ∧ addrAt bs 40 = 0#64 then .error .roster
  else .ok (ticketFields bs)

section
variable {bs : List Byte}

/-- A ticket whose sheet fields pass is checked for its roster fields. -/
theorem ticketCheck_rosterCheck (h : SheetFieldsValid bs) : ticketCheck bs = rosterCheck bs := by
  obtain ⟨hdest, hw1, hw2, hh1, hh2, hproof, hcont, hbudget, hcount, hlayout⟩ := h
  unfold ticketCheck
  dsimp only
  rw [if_neg (by omega), if_neg (by omega), if_neg (by omega),
    if_neg fun hp => hp.2.elim (hproof hp.1).1 (by have := (hproof hp.1).2.1; omega),
    if_neg fun hp => by have := (hproof hp.1).2.2; omega, if_neg (by omega), if_neg (by omega), if_neg (by omega),
    if_neg fun hl => hlayout hl.1 hl.2]
  rfl

theorem ticketCheck_geometry (h : ¬ SheetFieldsValid bs) : ticketCheck bs = .error .geometry := by
  unfold ticketCheck
  dsimp only
  refine ite_eq_left_iff.2 fun hdest => ?_
  refine ite_eq_left_iff.2 fun hwidth => ?_
  refine ite_eq_left_iff.2 fun hheight => ?_
  refine ite_eq_left_iff.2 fun hproof => ?_
  refine ite_eq_left_iff.2 fun hpitch => ?_
  refine ite_eq_left_iff.2 fun hcont => ?_
  refine ite_eq_left_iff.2 fun hbudget => ?_
  refine ite_eq_left_iff.2 fun hcount => ?_
  refine ite_eq_left_iff.2 fun hlayout => ?_
  refine absurd ⟨by omega, by omega, by omega, by omega, by omega, fun hp => ⟨?_, ?_, ?_⟩, by omega, by omega, by omega,
    fun hpos h0 => hlayout ⟨hpos, h0⟩⟩ h
  · exact fun h0 => hproof ⟨hp, .inl h0⟩
  · exact not_le.1 fun hle => hproof ⟨hp, .inr hle⟩
  · exact not_lt.1 fun hlt => hpitch ⟨hp, hlt⟩

theorem rosterCheck_valid (h : RosterFieldsValid bs) : rosterCheck bs = .ok (ticketFields bs) := by
  obtain ⟨hcount, hstart, hroster⟩ := h
  unfold rosterCheck
  rw [if_neg (by omega), if_neg (by omega), if_neg fun hr => hroster hr.1 hr.2]

theorem rosterCheck_invalid (h : ¬ RosterFieldsValid bs) : rosterCheck bs = .error .roster := by
  unfold rosterCheck
  split_ifs with hcount hstart hroster
  · rfl
  · rfl
  · rfl
  · exact absurd ⟨by omega, by omega, fun hlt h0 => hroster ⟨hlt, h0⟩⟩ h

end

/-- Settles O36: the sheet fields are checked first, and the roster fields of a ticket that passes them. -/
theorem ticketChecked : Obligations.TicketChecked := by
  intro bs sheetOk rosterOk
  have hsheet : sheetOk ↔ SheetFieldsValid bs :=
    ⟨fun ⟨hdest, hw1, hw2, hh1, hh2, hproof, hcont, hbudget, hcount, hlayout⟩ =>
        ⟨hdest, hw1, hw2, hh1, hh2, hproof, hcont, hbudget, hcount, hlayout⟩,
      fun h => ⟨h.dest, h.widthLow, h.widthHigh, h.heightLow, h.heightHigh, h.proof, h.continues, h.budget, h.count, h.layout⟩⟩
  have hroster : rosterOk ↔ RosterFieldsValid bs :=
    ⟨fun ⟨hcount, hstart, haddr⟩ => ⟨hcount, hstart, haddr⟩, fun h => ⟨h.count, h.start, h.roster⟩⟩
  rw [hsheet, hroster]
  refine ⟨fun hs hr => ⟨ticketFields bs, by rw [ticketCheck_rosterCheck hs, rosterCheck_valid hr], ?_, rfl, ?_, rfl, rfl, rfl,
    rfl, rfl, rfl, rfl, rfl, rfl, rfl, rfl, rfl⟩, ticketCheck_geometry,
    fun hs hr => by rw [ticketCheck_rosterCheck hs, rosterCheck_invalid hr]⟩
  · exact (BitVec.toNat_ofNat _ _).trans (Nat.mod_eq_of_lt (u32_lt bs 0))
  · rcases hs.continues with h0 | ⟨h1, -, -⟩
    · simp [ticketFields, h0]
    · simp [ticketFields, h1]

end Sys2Proof.Machine
end

section
/-! The steps of a placement pass that read no roster, and the pass's end (R51 to R55, R57, R59, R61, R66). -/

namespace Sys2Proof.Machine

/-! ## The end of the pass (R59, R66) -/

namespace State

section
variable {s : State} {j : PlanJob} {sh : Sheet} {k : Ticket} {f : PanelFrame}

/-- The end of a placement pass, as the statements give it. -/
theorem passEnds (h : Placing s j sh k f) : PassEnds s (s.runPass []) j sh k := by
  simp only [PassEnds, runPass, planComplete, h.job, mapSheet, h.sheet, Option.map_some, h.ticket, Option.getD_some,
    addCounts, mapResults]
  cases j.slot <;> rfl

/-! ## Frames and their entries (R51 to R54, R57, R61) -/

theorem currentFrame_placing (h : Placing s j sh k f) : currentFrame s.planner.frameStack k = f := by
  cases hstack : s.planner.frameStack with
  | nil => exact (h.base hstack).symm
  | cons g more => exact (h.top g more hstack).symm

/-- The pass at an entry that makes a frame placement. -/
theorem runPass_entry {e : LayoutEntry} {frame : Frame} (h : Placing s j sh k f) (rest : List PlaceStep)
    (he : s.framePlacement f e = some frame) : s.runPass (.entry e :: rest) =
      (s.passWith { j with steps := rest } s.planner.frameStack s.planner.cursor
        { sh with frames := sh.frames ++ [frame] }).runPass rest := by
  refine runPass_goesOn h ?_
  have hframe : (s.passWith { j with steps := rest } s.planner.frameStack s.planner.cursor sh).framePlacement f e =
      some frame := by
    rw [← he]
    cases e <;> simp [framePlacement, profileOf, cellBoxHeight, glyphSetOf]
  simp only [placeStep, passWith_planner, currentFrame_placing h, hframe]
  rw [passWith_mapSheet _ { j with steps := rest }]

theorem ofNat_eq_mk {m n : Nat} [NeZero m] (h : n < m) : Fin.ofNat m n = ⟨n, h⟩ := Fin.ext (Nat.mod_eq_of_lt h)

/-- What the pass makes of each entry of a layout. -/
theorem entriesPlaced (h : Placing s j sh k f) (rest : List PlaceStep) : EntriesPlaced s j sh f rest := by
  constructor
  case panel =>
    intro x y w ht
    refine ⟨f.pushed x y w ht, rfl, rfl, fun px py => ?_, runPass_goesOn h ?_⟩
    · rw [PanelFrame.pushed, rectHas_meet]
      simp only [rectHas, decide_eq_true_eq]
    · simp only [placeStep, passWith_planner, currentFrame_placing h]
      rw [passWith_setPlanner _ { j with steps := rest } _ _ _ _ _ _ rfl]
  case endPanel =>
    refine runPass_goesOn h ?_
    simp only [placeStep, passWith_planner]
    rw [passWith_setPlanner _ { j with steps := rest } _ _ _ _ _ _ rfl]
  case rule => exact fun x y w ht c => runPass_entry h rest rfl
  case banner =>
    intro x y w n c align a count b hn hb
    refine runPass_entry h rest ?_
    rw [framePlacement, ofNat_eq_mk hn]
    rcases hb with ⟨rfl, rfl⟩ | ⟨rfl, rfl⟩ | ⟨rfl, rfl⟩ <;> rfl
  case inset =>
    intro n x y a role hn
    refine runPass_entry h rest ?_
    rw [framePlacement, ofNat_eq_mk hn]
  case grid =>
    intro n rows cols x y cg rg align p set hn hp hset
    refine runPass_entry h rest ?_
    rw [framePlacement, ofNat_eq_mk hn, profileOf_some hp, cellBoxHeight_some hset]
  case gridStart =>
    intro i g hg
    refine runPass_goesOn h ?_
    simp only [placeStep]
    rw [passWith_mapSheet _ { j with steps := rest }]
    simp only [List.modify_eq_set_getElem?, hg, Option.map_eq_map, Option.map_some, Option.getD_some]

/-! ## A banner's text (R54) -/

/-- What the pass makes of a banner's text. -/
theorem textPlaced {b : BannerFrame} {i : Nat} (h : Placing s j sh k f) (rest : List PlaceStep)
    (hb : sh.frames[i]? = some (.banner b)) : TextPlaced s j sh rest b i := by
  have hstep (u : State) : u.placeStep j.slot sh k { j with steps := rest } (.text i) = u.placeText j.slot b i := by
    simp only [placeStep, hb]
  constructor
  · intro hempty
    exact runPass_goesOn h (by rw [hstep, placeText, if_pos hempty])
  · intro hpos hmax haddr
    refine runPass_waits h ?_
    rw [hstep, placeText, if_neg (by simp [haddr]; omega)]
    simp only [if_neg (not_lt.2 hmax), min_eq_right hmax]
    rw [passWith_awaitRead]
  · intro hmax haddr
    refine runPass_waits h ?_
    rw [hstep, placeText, if_neg (by simp [haddr]; omega)]
    simp only [if_pos hmax, min_eq_left hmax.le]
    rw [passWith_mapSheet _ { j with steps := rest }, passWith_mapJob _ _ _ _ _ _ (by rfl), passWith_awaitRead]
    rfl

end

end State

end Sys2Proof.Machine
end

section
/-! The entries of a layout: their bytes, their checks, and the steps of the pass over them (R48 to R51, R55, R61, R213). -/

namespace Sys2Proof.Machine

/-! ## The bytes of an entry (R213) -/

theorem layoutEntry_reads (bs : List Byte) : LayoutEntryReads bs := by
  constructor
  case unknown =>
    intro h
    unfold layoutEntry
    dsimp only
    split
    case h_7 => rfl
    all_goals omega
  all_goals
    intro h
    simp only [layoutEntry, h]

theorem layoutEntries_length (bs : List Byte) (n : Nat) : (layoutEntries bs n).length = n := by simp [layoutEntries]

theorem layoutEntries_get (bs : List Byte) {n i : Nat} (h : i < n) :
    (layoutEntries bs n)[i]? = some (layoutEntry ((bs.drop (32 * i)).take 32)) := by
  simp [layoutEntries, List.getElem?_range h, slice]

/-! ## The checks (R48 to R50) -/

namespace State

theorem profileUsable_iff (s : State) (n : Nat) : s.profileUsable n = true ↔ ProfileUsable s n := by
  unfold profileUsable ProfileUsable
  by_cases h : n < 16
  · rw [dif_pos h]
    cases hp : s.profiles[n] with
    | none => simp [hp]
    | some p => simp [h, hp, Option.isSome_iff_exists]
  · simp [h]

theorem setUsable_iff (s : State) (n : Nat) : s.setUsable n = true ↔ SetUsable s n := by
  unfold setUsable SetUsable
  by_cases h : n < 3
  · simp [h, Option.isSome_iff_exists]
  · simp [h]

theorem addPlaces_eq (depth cap n : Nat) :
    addPlaces depth cap n = if cap + n ≤ 64 then .ok (depth, cap + n) else .error .tooLarge := by
  simp only [addPlaces, ← not_le, ite_not]

theorem layoutChecks (s : State) (depth cap : Nat) : LayoutChecks s depth cap where
  unknown := rfl
  panel _ _ _ _ := rfl
  endPanel := rfl
  gridAlign _ _ _ _ _ _ _ _ ha := if_pos ha
  gridSize _ _ _ _ _ _ _ _ ha hsize := (if_neg (by omega)).trans (if_pos (by omega))
  gridUnset _ _ _ _ _ _ _ _ ha hr1 hr16 hc1 hc16 hp := by
    rw [validateEntry, if_neg (by omega), if_neg (by omega), if_neg ((s.profileUsable_iff _).not.2 hp)]
  gridPlaces _ _ _ _ _ _ _ _ ha hr1 hr16 hc1 hc16 hp := by
    rw [validateEntry, if_neg (by omega), if_neg (by omega), if_pos ((s.profileUsable_iff _).2 hp), addPlaces_eq]
  insetUnset _ _ _ _ _ hp := if_neg ((s.profileUsable_iff _).not.2 hp)
  insetPlaces _ _ _ _ _ hp := by rw [validateEntry, if_pos ((s.profileUsable_iff _).2 hp), addPlaces_eq]
  bannerAlign _ _ _ _ _ _ _ _ ha := if_pos ha
  bannerUnset _ _ _ _ _ _ _ _ ha hset := (if_neg (by omega)).trans (if_neg ((s.setUsable_iff _).not.2 hset))
  banner _ _ _ _ _ _ _ _ ha hset := (if_neg (by omega)).trans (if_pos ((s.setUsable_iff _).2 hset))
  rule _ _ _ _ _ := rfl
  none := rfl
  first _ _ _ he := by rw [validate, he]
  next _ _ _ _ he := by rw [validate, he]

end State

/-! ## The steps of a pass (R51, R55, R61) -/

theorem layoutSteps (i : Nat) (rest : List LayoutEntry) : LayoutSteps i rest where
  none := rfl
  panel _ _ _ _ := rfl
  endPanel := rfl
  rule _ _ _ _ _ := rfl
  banner _ _ _ _ _ _ _ _ := rfl
  inset _ _ _ _ _ := rfl
  grid n rows cols x y cg rg align := by
    have hrow (r : Nat) : ((List.range cols).map fun c => PlaceStep.cell i r c).length = cols := by simp
    refine ⟨_, rfl, ?_, fun r c hr hc => ?_⟩
    · rw [flatMap_length_const _ _ cols fun r _ => hrow r, List.length_range]
    · rw [flatMap_at _ _ cols r c r (fun r _ => hrow r) (List.getElem?_range hr) hc]
      simp [List.getElem?_range hc]
  grids _ _ _ _ _ _ _ _ := rfl

/-- The steps at a kept frame placement of a number (R68). -/
def Frame.passSteps (f : Frame) (i : Nat) : List PlaceStep :=
  match f with
  | .grid g => gridSteps i g.rows g.cols
  | .inset _ => [.inset i]
  | .banner _ => []
  | .rule _ => []

theorem frameSteps_append (fs : List Frame) (f : Frame) :
    frameSteps (fs ++ [f]) = frameSteps fs ++ f.passSteps fs.length := by
  have hlast : frameSteps (fs ++ [f]) = frameSteps fs ++ ([f].zipIdx fs.length).flatMap fun p => p.1.passSteps p.2 := by
    rw [frameSteps, List.zipIdx_append, List.flatMap_append, Nat.zero_add]
    rfl
  rw [hlast]
  simp

end Sys2Proof.Machine
end

section
/-! Layout reads, and the pass that they begin (R48, R51 to R55, R59, R61, R63, R65, R66). -/

namespace Sys2Proof.Machine

/-! ## A pass that has begun, and one that has ended -/

namespace State

section
variable (s : State) (sl : SheetSlot) (start : Nat) (grids : List (Nat × Nat))

theorem beginPass_passBegun (steps : List PlaceStep) :
    s.beginPass sl start steps grids = (s.passBegun sl start grids).runPass steps := rfl

@[simp] theorem passBegun_sheet (other : SheetSlot) : (s.passBegun sl start grids).sheet other = s.sheet other := by
  simp [passBegun]

/-- A pass begins under the sheet's own frame. -/
theorem passBegun_placing {sh : Sheet} {k : Ticket} (hsh : s.sheet sl = some sh) (hk : sh.ticket = some k) :
    Placing (s.passBegun sl start grids) { PlanJob.fresh sl .roster with rosterIndex := start, grids := grids } sh k
      ⟨0, 0, ⟨0, 0, k.width, k.height⟩⟩ :=
  placing_of rfl ((s.passBegun_sheet sl start grids sl).trans hsh) hk

theorem passBegun_passing {sh : Sheet} {k : Ticket} (hsh : s.sheet sl = some sh) (hk : sh.ticket = some k)
    (hw : s.planner.waiting = none) :
    Passing (s.passBegun sl start grids) sl k sh.cells (s.sheet (otherSlot sl)) :=
  ⟨⟨_, rfl, rfl, rfl⟩, ⟨sh, by simpa using hsh, hk, [], by simp⟩, by simp, hw⟩

end

end State

section
variable {s t : State} {j : PlanJob} {sh : Sheet} {k : Ticket} {f : PanelFrame}

/-- What the end of a pass has made of the state. -/
theorem PassEnds.result (h : PassEnds s t j sh k) : t.planner = ⟨none, s.planner.waiting, [], none⟩ ∧
    t.sheet j.slot = some { sh with
      carry := j.passedLast && decide (j.rosterIndex < k.rosterCount), reached := j.rosterIndex
      state := if 0 < sh.pendingBuilds then .filling else .ready } ∧
    t.sheet (otherSlot j.slot) = s.sheet (otherSlot j.slot) ∧ t.store = s.store ∧
    t.control.queue = s.control.queue.map fun e =>
      if e.slot = some j.slot then { e with results := { e.results with counts := e.results.counts.add j.counts } } else e := by
  rw [PassEnds] at h
  subst h
  refine ⟨by simp, ?_, ?_, by simp, by simp [State.mapQueue]⟩
  · rw [State.sheet_mapQueue, State.sheet_setSheet, if_pos rfl]
  · rw [State.sheet_mapQueue, State.sheet_setSheet, if_neg (otherSlot_ne _), State.sheet_setPlanner]

/-- The pass goes on under the same frame where a step has left the frame stack alone. -/
theorem Placing.passWith (h : Placing s j sh k f) (j' : PlanJob) (cur : Option PlaceCursor) (sh' : Sheet)
    (hk : sh'.ticket = sh.ticket) : Placing (s.passWith j' s.planner.frameStack cur sh') j' sh' k f where
  job := by simp
  sheet := by simp
  ticket := hk.trans h.ticket
  base := by simpa using h.base
  top := by simpa using h.top

/-- The end of a pass speaks of what stands when it ends: the sheet and the job before are overwritten. -/
theorem PassEnds.of_passWith {j' : PlanJob} {stack : List PanelFrame} {cur : Option PlaceCursor} {sh' : Sheet}
    (h : PassEnds (s.passWith j' stack cur sh') t j' sh k) (hslot : j'.slot = j.slot) (hpassed : j'.passedLast = j.passedLast)
    (hindex : j'.rosterIndex = j.rosterIndex) (hcounts : j'.counts = j.counts) : PassEnds s t j sh k := by
  simp only [PassEnds, State.passWith_planner, hslot, hpassed, hindex, hcounts] at h ⊢
  rw [h, State.passWith, State.setSheet_setPlanner, hslot, State.setSheet_setSheet]
  rfl

end

/-! ## A layout of RULE entries -/

/-- A RULE entry by its offsets, width, height and colour. -/
def ruleEntry (q : Int × Int × Nat × Nat × Colour) : LayoutEntry := .rule q.1 q.2.1 q.2.2.1 q.2.2.2.1 q.2.2.2.2

/-- The frame placement of a RULE entry under a frame (R61). -/
def PanelFrame.ruleFrame (f : PanelFrame) (q : Int × Int × Nat × Nat × Colour) : Frame :=
  .rule ⟨⟨f.x + q.1, f.y + q.2.1, q.2.2.1, q.2.2.2.1⟩, q.2.2.2.2, f.clip⟩

section
variable (rules : List (Int × Int × Nat × Nat × Colour))

theorem validate_rules (s : State) (depth cap : Nat) : s.validate depth cap (rules.map ruleEntry) = .ok (depth, cap) := by
  induction rules with
  | nil => rfl
  | cons q rest ih => exact ih

theorem entryGrids_rules : entryGrids (rules.map ruleEntry) = [] := by
  simp [entryGrids, ruleEntry]

theorem entrySteps_rules (i : Nat) : entrySteps i (rules.map ruleEntry) = rules.map fun q => .entry (ruleEntry q) := by
  induction rules generalizing i with
  | nil => rfl
  | cons q rest ih => exact congrArg _ (ih (i + 1))

/-- A pass over RULE entries alone places them in order and ends. -/
theorem State.runPass_rules {s : State} {j : PlanJob} {sh : Sheet} {k : Ticket} {f : PanelFrame} (h : Placing s j sh k f) :
    PassEnds s (s.runPass (rules.map fun q => .entry (ruleEntry q))) j
      { sh with frames := sh.frames ++ rules.map f.ruleFrame } k := by
  induction rules generalizing s j sh with
  | nil => simpa using State.passEnds h
  | cons q rest ih =>
    rw [List.map_cons, ruleEntry, (State.entriesPlaced h _).rule]
    have hends := ih (h.passWith { j with steps := rest.map fun q => .entry (ruleEntry q) } s.planner.cursor
      { sh with frames := sh.frames ++ [f.ruleFrame q] } rfl)
    rw [List.append_assoc, List.singleton_append] at hends
    exact hends.of_passWith rfl rfl rfl rfl

end

/-! ## The completion of the read -/

/-- The bytes of a layout read are a unit that the planner's read in flight can bring: 1 to 8 entries, not beyond the
ticket's entry count (R48). -/
structure LayoutUnit (j : PlanJob) (k : Ticket) (bs : List Byte) (n : Nat) : Prop where
  stage : j.stage = .layout
  inFlight : j.inFlight = true
  length : bs.length = 32 * n
  some : 1 ≤ n
  most : n ≤ 8
  counted : j.entries.length + n ≤ k.entryCount

namespace State

section
variable {s : State} {j : PlanJob} {sh : Sheet} {k : Ticket} {bs : List Byte} {n : Nat}

theorem exec_layoutReadDone (hj : s.planner.job = some j) (hk : s.ticketOf j.slot = some k) (hu : LayoutUnit j k bs n) :
    (∀ d, s.validate j.depth j.capacity (layoutEntries bs n) = .error d → exec (.layoutReadDone .current (.data bs)) s =
      .next (s.endUnit.planningEnds j.slot .refused d).takeWaiting) ∧
    ∀ v, s.validate j.depth j.capacity (layoutEntries bs n) = .ok v → exec (.layoutReadDone .current (.data bs)) s =
      .next (s.endUnit.layoutRead j k (layoutEntries bs n) v.1 v.2).takeWaiting := by
  have hin : s.planReadInFlight PlanStage.isLayout = some j := by
    simp [planReadInFlight, hj, hu.stage, hu.inFlight, PlanStage.isLayout]
  have hn : bs.length / 32 = n := by
    have := hu.length
    omega
  refine ⟨fun d hv => congrArg Host.Outcome.next ?_, fun v hv => congrArg Host.Outcome.next ?_⟩
  all_goals
    simp only [hin, hk, hn]
    rw [if_pos ⟨hu.length, hu.some, hu.most, hu.counted⟩, hv]

/-- The entries of a unit have passed with more wanted. -/
theorem layoutRead_more (hj : s.planner.job = some j) (hst : j.stage = .layout) (es : List LayoutEntry) (depth cap : Nat)
    (h : j.entries.length + es.length < k.entryCount) : s.layoutRead j k es depth cap = s.setPlanner { s.planner with
      job := some { j with entries := j.entries ++ es, depth := depth, capacity := cap, inFlight := false } } := by
  unfold layoutRead
  dsimp only
  rw [if_pos (by simpa using h)]
  simp [awaitRead, mapJob, setPlanner, hj, hst]

/-- The last entries have passed with a panel open. -/
theorem layoutRead_unbalanced (es : List LayoutEntry) (depth cap : Nat) (h : j.entries.length + es.length = k.entryCount)
    (hd : 0 < depth) : s.layoutRead j k es depth cap = s.planningEnds j.slot .refused .unbalanced := by
  unfold layoutRead
  dsimp only
  rw [if_neg (by simp; omega), if_pos (by omega)]

/-- The last entries have passed with every panel closed. -/
theorem layoutRead_begins (es : List LayoutEntry) (cap : Nat) (h : j.entries.length + es.length = k.entryCount) :
    s.layoutRead j k es 0 cap = (s.passBegun j.slot k.rosterStart (entryGrids (j.entries ++ es))).runPass
      (entrySteps 0 (j.entries ++ es)) := by
  unfold layoutRead
  dsimp only
  rw [if_neg (by simp; omega), if_neg (by omega), beginPass_passBegun]

/-- A layout that passes begins its placement pass. -/
theorem exec_layoutReadDone_begins {cap : Nat} (hj : s.planner.job = some j) (hk : s.ticketOf j.slot = some k)
    (hu : LayoutUnit j k bs n) (hall : j.entries.length + n = k.entryCount)
    (hv : s.validate j.depth j.capacity (layoutEntries bs n) = .ok (0, cap)) :
    exec (.layoutReadDone .current (.data bs)) s =
      .next ((s.endUnit.passBegun j.slot k.rosterStart (entryGrids (j.entries ++ layoutEntries bs n))).runPass
        (entrySteps 0 (j.entries ++ layoutEntries bs n))).takeWaiting := by
  rw [(exec_layoutReadDone hj hk hu).2 _ hv, layoutRead_begins _ _ (by rw [layoutEntries_length, hall])]

end

end State

theorem PlanFrame.layoutEnds (s : State) (sl : SheetSlot) (d : Detail) :
    PlanFrame s (s.endUnit.planningEnds sl .refused d).takeWaiting := by
  constructor <;> simp

theorem PlanFrame.layoutRead (s : State) (j : PlanJob) (k : Ticket) (es : List LayoutEntry) (depth cap : Nat) :
    PlanFrame s (s.endUnit.layoutRead j k es depth cap).takeWaiting := by
  constructor <;> simp

section
variable {s : State} {j : PlanJob} {sh : Sheet} {k : Ticket} {bs : List Byte} {n : Nat}

/-- A refusal at the end of a layout read. -/
theorem PlansAlone.layoutRefused (h : PlansAlone s j sh) (d : Detail) :
    PlanningEnded s (s.endUnit.planningEnds j.slot .refused d).takeWaiting j.slot s.control.queue .refused d := by
  obtain ⟨htake, hended⟩ := s.endUnit.planningEnds_ended j sh .refused d h.endUnit
  rw [htake]
  exact .of_endUnit (by simpa using hended)

/-- A pass begun at the end of a layout read comes to rest. -/
theorem PlansAlone.layoutRests (h : PlansAlone s j sh) (hk : sh.ticket = some k) (start : Nat) (grids : List (Nat × Nat))
    (steps : List PlaceStep) : Rested ((s.endUnit.passBegun j.slot start grids).runPass steps) j.slot k sh.cells
      (s.endUnit.sheet (otherSlot j.slot)) :=
  (s.endUnit.passBegun_passing j.slot start grids h.endUnit.sheet hk h.endUnit.waiting).runPass steps

/-- A completed layout read of RULE entries alone. -/
theorem PlansAlone.rulesDone (h : PlansAlone s j sh) (hk : sh.ticket = some k) (hu : LayoutUnit j k bs n)
    (hentries : j.entries = []) (hdepth : j.depth = 0) (hn : n = k.entryCount)
    (rules : List (Int × Int × Nat × Nat × Colour)) (hrules : layoutEntries bs n = rules.map ruleEntry) :
    ∃ t, exec (.layoutReadDone .current (.data bs)) s = .next t ∧ PlanFrame s t ∧
      PassEnds (s.endUnit.passBegun j.slot k.rosterStart []) t
        { PlanJob.fresh j.slot .roster with rosterIndex := k.rosterStart, grids := [] }
        { sh with frames := sh.frames ++ rules.map (PanelFrame.ruleFrame ⟨0, 0, ⟨0, 0, k.width, k.height⟩⟩) } k := by
  have hv : s.validate j.depth j.capacity (layoutEntries bs n) = .ok (0, j.capacity) := by
    rw [hrules, hdepth, validate_rules]
  have hexec := State.exec_layoutReadDone_begins h.job (State.ticketOf_sheet h.sheet hk) hu (by simp [hentries, hn]) hv
  rw [hentries, List.nil_append, hrules, entryGrids_rules, entrySteps_rules,
    (h.layoutRests hk k.rosterStart [] _).takeWaiting] at hexec
  refine ⟨_, hexec, ?_, State.runPass_rules rules (s.endUnit.passBegun_placing j.slot _ [] h.endUnit.sheet hk)⟩
  constructor <;> simp [State.passBegun]

end

/-- Settles O38: a layout read refuses the order, waits for the next read, or begins the pass, whose every step is given. -/
theorem layoutReadCompletes : Obligations.LayoutReadCompletes := by
  refine ⟨?_, ?_, State.layoutChecks, layoutEntry_reads, ?_, ?_, layoutSteps, ?_, ?_, ?_⟩
  · intro s j sh k bs n h hk hst hf hl h1 h8 hc
    obtain ⟨hrefused, hpassed⟩ := State.exec_layoutReadDone h.job (State.ticketOf_sheet h.sheet hk)
      ⟨hst, hf, hl, h1, h8, hc⟩
    cases hv : s.validate j.depth j.capacity (layoutEntries bs n) with
    | error d =>
      refine ⟨_, hrefused d hv, .layoutEnds s _ d, fun d' hd' => ?_, nofun⟩
      cases hd'
      exact h.layoutRefused d
    | ok v =>
      refine ⟨_, hpassed v hv, .layoutRead s j k _ _ _, nofun, fun depth cap hd => ?_⟩
      cases hd
      have hlen := layoutEntries_length bs n
      refine ⟨fun hmore => ?_, fun hall hopen => ?_, fun hall hclosed => ?_⟩
      · rw [State.layoutRead_more h.endUnit.job hst _ _ _ (by omega), State.takeWaiting_busy (by simp)]
        simp
      · rw [State.layoutRead_unbalanced _ _ _ (by omega) hopen]
        exact h.layoutRefused _
      · subst hclosed
        rw [State.layoutRead_begins _ _ (by omega)]
        have hrested := h.layoutRests hk k.rosterStart (entryGrids (j.entries ++ layoutEntries bs n))
          (entrySteps 0 (j.entries ++ layoutEntries bs n))
        rw [hrested.takeWaiting]
        exact ⟨hrested.rests, hrested.sheet⟩
  · intro s j sh k bs n rules h hk hst hf hl h1 h8 hentries hdepth hn hframes hbuilds hrules
    obtain ⟨t, hexec, hframe, hends⟩ :=
      h.rulesDone hk ⟨hst, hf, hl, h1, h8, by simp [hentries, hn]⟩ hentries hdepth hn rules hrules
    obtain ⟨hplanner, hsheet, -, hstore, -⟩ := hends.result
    refine ⟨t, _, hexec, hsheet, by simp [hbuilds], ?_, rfl, ?_, ?_, hframe⟩
    · simp [hframes, PanelFrame.ruleFrame]
    · simpa [State.passBegun, h.waiting] using hplanner
    · simpa [State.passBegun] using hstore
  · intro bs n i hi
    exact ⟨layoutEntries_length bs n, layoutEntries_get bs hi⟩
  · rintro s j k bs n cap all hj hk hst hf hl h1 h8 rfl hall hv
    rw [List.length_append, layoutEntries_length] at hall
    rw [State.exec_layoutReadDone_begins hj hk ⟨hst, hf, hl, h1, h8, hall.le⟩ hall hv]
    simp [State.passBegun, State.setPlanner]
  · intro fs f
    refine ⟨rfl, ?_⟩
    rw [frameSteps_append]
    cases f <;> rfl
  · intro s j sh k f h
    exact ⟨State.entriesPlaced h, fun i b rest hb => State.textPlaced h rest hb, State.passEnds h⟩
  · intro c d
    constructor <;> rfl

end Sys2Proof.Machine
end

section
/-! Ticket reads, and the sheet that the planner takes up (R44 to R47, R55, R65, R66, R68, R69). -/

namespace Sys2Proof.Machine

/-! ## The completion of the read -/

namespace State

/-- The state in which a completed ticket read makes its checks: its unit ended, the next roster index taken (R69). -/
def ticketHad (s : State) (sl : SheetSlot) (bs : List Byte) : State :=
  s.endUnit.mapResults sl fun r => { r with nextRoster := u16 bs 50 }

/-- The state with a ticket kept in a slot and its roster start index taken (R45, R65). -/
def ticketKept (s : State) (sl : SheetSlot) (k : Ticket) : State :=
  s.mapSheet sl fun sh => { sh with ticket := some k, start := k.rosterStart, reached := k.rosterStart }

theorem exec_ticketReadDone {s : State} {j : PlanJob} {bs : List Byte} (hj : s.planner.job = some j)
    (hst : j.stage = .ticket) (hf : j.inFlight = true) (hl : bs.length = 128) :
    (∀ d, ticketCheck bs = .error d → exec (.ticketReadDone .current (.data bs)) s =
      .next ((s.ticketHad j.slot bs).planningEnds j.slot .refused d).takeWaiting) ∧
    ∀ k, ticketCheck bs = .ok k → exec (.ticketReadDone .current (.data bs)) s =
      .next ((s.ticketHad j.slot bs).takeTicket j.slot k).takeWaiting := by
  have hin : s.planReadInFlight PlanStage.isTicket = some j := by
    simp [planReadInFlight, hj, hst, hf, PlanStage.isTicket]
  refine ⟨fun d hd => congrArg Host.Outcome.next ?_, fun k hk => congrArg Host.Outcome.next ?_⟩
  · simp only [hin, hl, if_true, hd]
    rfl
  · simp only [hin, hl, if_true, hk]
    rfl

theorem refusesPress_iff (s : State) (k : Ticket) :
    s.refusesPress k = true ↔ k.dest = .press ∧ s.window.pressMode = .off := by
  simp [refusesPress]

theorem not_refusesPress {s : State} {k : Ticket} (h : k.dest = .proof ∨ s.window.pressMode ≠ .off) :
    s.refusesPress k = false := by
  rw [Bool.eq_false_iff, Ne, refusesPress_iff]
  rintro ⟨hpress, hoff⟩
  rcases h with hproof | hon
  · exact nomatch hpress.symm.trans hproof
  · exact hon hoff

section
variable (s : State) (sl : SheetSlot) (k : Ticket)

/-- A ticket is kept; a PRESS ticket under OFF is refused, and a layout of no entries is placed at once (R45, R47, R65). -/
theorem takeTicket_eq : s.takeTicket sl k =
    if s.refusesPress k then (s.ticketKept sl k).planningEnds sl .refused .pressOff
    else if k.entryCount = 0 then ((s.ticketKept sl k).passBegun sl k.rosterStart []).runPass []
    else (s.ticketKept sl k).awaitRead .layout := by
  have hpress : (s.ticketKept sl k).refusesPress k = s.refusesPress k := by simp [refusesPress, ticketKept]
  rw [← hpress]
  rfl

theorem ticketHad_sheet (bs : List Byte) (other : SheetSlot) : (s.ticketHad sl bs).sheet other = s.sheet other := by
  rw [ticketHad, mapResults, sheet_mapQueue]
  exact sheet_of_control (by simp) other

theorem ticketHad_queue (bs : List Byte) : (s.ticketHad sl bs).control.queue = s.control.queue.map fun e =>
    if e.slot = some sl then { e with results := { e.results with nextRoster := u16 bs 50 } } else e := by
  simp [ticketHad, mapResults, mapQueue]

theorem ticketKept_sheet : (s.ticketKept sl k).sheet sl = (s.sheet sl).map fun sh =>
    { sh with ticket := some k, start := k.rosterStart, reached := k.rosterStart } := by
  rw [ticketKept, sheet_mapSheet, if_pos rfl]

theorem ticketKept_other : (s.ticketKept sl k).sheet (otherSlot sl) = s.sheet (otherSlot sl) := by
  rw [ticketKept, sheet_mapSheet, if_neg (otherSlot_ne sl)]

end

end State

/-! ## Planning that ends, or goes on, with the ticket at hand -/

/-- An ending of planning, told of the state before work that left the other sheet, the store, the Builder and the walker
alone. -/
theorem PlanningEnded.congr {s s' t : State} {sl : SheetSlot} {q : List QueueEntry} {o : OrderOutcome} {d : Detail}
    (h : PlanningEnded s t sl q o d) (hother : s.sheet (otherSlot sl) = s'.sheet (otherSlot sl)) (hstore : s'.store = s.store)
    (hbuilder : s'.builder = s.builder) (hport : s'.port = s.port) (hwalker : s'.walker = s.walker) :
    PlanningEnded s' t sl q o d where
  queue := h.queue
  slot := h.slot
  other := h.other.trans (by rw [hother])
  planner := h.planner
  released := h.released.congr hstore hbuilder (by rw [hport]) rfl rfl rfl
  walker := h.walker.congr (by rw [hwalker]) (by rw [hwalker]) rfl rfl

theorem PlanningEnded.of_ticketHad {s t : State} {sl : SheetSlot} {bs : List Byte} {q : List QueueEntry} {o : OrderOutcome}
    {d : Detail} (h : PlanningEnded (s.ticketHad sl bs) t sl q o d) : PlanningEnded s t sl q o d :=
  .of_endUnit (h.congr (State.sheet_mapQueue _ _ _) (by simp [State.ticketHad]) (by simp [State.ticketHad])
    (by simp [State.ticketHad]) (by simp [State.ticketHad]))

theorem PlanningEnded.of_ticketKept {s t : State} {sl : SheetSlot} {k : Ticket} {q : List QueueEntry} {o : OrderOutcome}
    {d : Detail} (h : PlanningEnded (s.ticketKept sl k) t sl q o d) : PlanningEnded s t sl q o d :=
  h.congr (s.ticketKept_other sl k) (by simp [State.ticketKept]) (by simp [State.ticketKept]) (by simp [State.ticketKept])
    (by simp [State.ticketKept])

section
variable {s : State} {j : PlanJob} {sh : Sheet} {k : Ticket}

theorem PlansAlone.ticketHad (h : PlansAlone s j sh) (bs : List Byte) : PlansAlone (s.ticketHad j.slot bs) j sh where
  job := by simp [State.ticketHad, h.job]
  sheet := (s.ticketHad_sheet _ bs _).trans h.sheet
  state := h.state
  ending := h.ending
  report := h.report
  link := (State.linkHolds_of_link (by simp [State.ticketHad]) j.slot).trans h.link
  writer := (State.writerServes_of_writer (by simp [State.ticketHad]) j.slot).trans h.writer
  waiting := by simp [State.ticketHad, h.waiting]

theorem PlansAlone.ticketKept (h : PlansAlone s j sh) (k : Ticket) : PlansAlone (s.ticketKept j.slot k) j
    { sh with ticket := some k, start := k.rosterStart, reached := k.rosterStart } where
  job := by simp [State.ticketKept, h.job]
  sheet := by rw [s.ticketKept_sheet, h.sheet, Option.map_some]
  state := h.state
  ending := h.ending
  report := h.report
  link := (State.linkHolds_of_link (by simp [State.ticketKept]) j.slot).trans h.link
  writer := (State.writerServes_of_writer (by simp [State.ticketKept]) j.slot).trans h.writer
  waiting := by simp [State.ticketKept, h.waiting]

/-- A ticket that fails its checks refuses the order. -/
theorem PlansAlone.ticketRefused (h : PlansAlone s j sh) (bs : List Byte) (d : Detail) :
    PlanningEnded s ((s.ticketHad j.slot bs).planningEnds j.slot .refused d).takeWaiting j.slot
      (s.ticketHad j.slot bs).control.queue .refused d := by
  obtain ⟨htake, hended⟩ := State.planningEnds_ended _ j sh .refused d (h.ticketHad bs)
  rw [htake]
  exact hended.of_ticketHad

/-- A PRESS ticket under OFF refuses the order. -/
theorem PlansAlone.pressRefused (h : PlansAlone s j sh) (bs : List Byte) (hp : k.dest = .press)
    (hoff : s.window.pressMode = .off) : PlanningEnded s ((s.ticketHad j.slot bs).takeTicket j.slot k).takeWaiting j.slot
      (s.ticketHad j.slot bs).control.queue .refused .pressOff := by
  obtain ⟨htake, hended⟩ := State.planningEnds_ended _ j _ .refused .pressOff ((h.ticketHad bs).ticketKept k)
  rw [State.takeTicket_eq, if_pos ((State.refusesPress_iff _ k).2 ⟨hp, by simpa [State.ticketHad] using hoff⟩), htake]
  have hqueue : ((s.ticketHad j.slot bs).ticketKept j.slot k).control.queue = (s.ticketHad j.slot bs).control.queue := by
    simp [State.ticketKept]
  exact (hqueue ▸ hended).of_ticketKept.of_ticketHad

end

section
variable {s : State} {sl : SheetSlot} {sh : Sheet} {k : Ticket}

/-- A ticket of no layout entries completes planning. -/
theorem State.takeTicket_empty (hsh : s.sheet sl = some sh) (hp : k.dest = .proof ∨ s.window.pressMode ≠ .off)
    (hn : k.entryCount = 0) (hb : sh.pendingBuilds = 0) :
    (s.takeTicket sl k).planner = ⟨none, s.planner.waiting, [], none⟩ ∧
    (s.takeTicket sl k).sheet sl = some { sh with
      ticket := some k, start := k.rosterStart, reached := k.rosterStart, carry := false, state := .ready } ∧
    (s.takeTicket sl k).sheet (otherSlot sl) = s.sheet (otherSlot sl) ∧ (s.takeTicket sl k).store = s.store ∧
    (s.takeTicket sl k).control.queue = s.control.queue.map fun e => if e.slot = some sl then
      { e with results := { e.results with counts := e.results.counts.add Counts.zero } } else e := by
  have hkept := (s.ticketKept_sheet sl k).trans (congrArg _ hsh)
  have hends := State.passEnds ((s.ticketKept sl k).passBegun_placing sl k.rosterStart [] hkept rfl)
  obtain ⟨hplanner, hsheet, hother, hstore, hqueue⟩ := hends.result
  rw [takeTicket_eq, if_neg (by simp [not_refusesPress hp]), if_pos hn]
  refine ⟨?_, ?_, ?_, ?_, ?_⟩
  · exact hplanner.trans (by simp [passBegun, ticketKept])
  · simpa [PlanJob.fresh, hb] using hsheet
  · exact hother.trans ((passBegun_sheet _ _ _ _ _).trans (s.ticketKept_other sl k))
  · exact hstore.trans (by simp [passBegun, ticketKept])
  · exact hqueue.trans (congrArg (List.map _) (by simp [passBegun, ticketKept]))

end

/-- The frame of a completed ticket read, whatever follows the read of its start index. -/
theorem PlanFrame.ticketEnds (s : State) (sl : SheetSlot) (bs : List Byte) (d : Detail) :
    PlanFrame s ((s.ticketHad sl bs).planningEnds sl .refused d).takeWaiting := by
  constructor <;> simp [State.ticketHad]

theorem PlanFrame.takeTicket (s : State) (sl : SheetSlot) (bs : List Byte) (k : Ticket) :
    PlanFrame s ((s.ticketHad sl bs).takeTicket sl k).takeWaiting := by
  constructor <;> simp [State.ticketHad]

section
variable {s : State} {j : PlanJob} {sh : Sheet} {k : Ticket}

/-- A ticket of layout entries is kept, and the layout read waits to start. -/
theorem PlansAlone.ticketAwaits (h : PlansAlone s j sh) (bs : List Byte) (hp : k.dest = .proof ∨ s.window.pressMode ≠ .off)
    (hn : 0 < k.entryCount) : ((s.ticketHad j.slot bs).takeTicket j.slot k).takeWaiting =
      ((s.ticketHad j.slot bs).ticketKept j.slot k).setPlanner
        { s.planner with job := some { j with stage := .layout, inFlight := false } } := by
  have hawait : ((s.ticketHad j.slot bs).ticketKept j.slot k).awaitRead .layout =
      ((s.ticketHad j.slot bs).ticketKept j.slot k).setPlanner
        { s.planner with job := some { j with stage := .layout, inFlight := false } } := by
    simp [State.awaitRead, State.mapJob, State.ticketKept, State.ticketHad, h.job]
  have hpress : (s.ticketHad j.slot bs).refusesPress k = false :=
    State.not_refusesPress (by simpa [State.ticketHad] using hp)
  rw [State.takeTicket_eq, if_neg (by simp [hpress]), if_neg (by omega), hawait, State.takeWaiting_busy (by simp)]

/-- What a completed ticket read makes of a sheet that is planned alone. -/
theorem PlansAlone.ticketDone {bs : List Byte} (h : PlansAlone s j sh) (hst : j.stage = .ticket) (hf : j.inFlight = true)
    (hl : bs.length = 128) :
    ∃ t, exec (.ticketReadDone .current (.data bs)) s = .next t ∧ PlanFrame s t ∧
      (∀ d, ticketCheck bs = .error d →
        PlanningEnded s t j.slot (s.ticketHad j.slot bs).control.queue .refused d) ∧
      (∀ k, ticketCheck bs = .ok k → t = ((s.ticketHad j.slot bs).takeTicket j.slot k).takeWaiting) := by
  obtain ⟨hrefused, hpassed⟩ := State.exec_ticketReadDone h.job hst hf hl
  cases hc : ticketCheck bs with
  | error d =>
    refine ⟨_, hrefused d hc, .ticketEnds s _ bs d, fun d' hd' => ?_, nofun⟩
    cases hd'
    exact h.ticketRefused bs d
  | ok k =>
    refine ⟨_, hpassed k hc, .takeTicket s _ bs k, nofun, fun k' hk' => ?_⟩
    cases hk'
    rfl

end

/-! ## The sheet that waits for the planner (R47, R65, R68) -/

namespace State

section
variable {s : State} {w : SheetSlot} {sw : Sheet} {k : Ticket}

/-- A planner that is free takes up a continuation: refused where the press is OFF for it, and placed otherwise. -/
theorem takeWaiting_read (hj : s.planner.job = none) (hw : s.planner.waiting = some w) (hsh : s.sheet w = some sw)
    (hk : sw.ticket = some k) : s.takeWaiting =
      if s.refusesPress k then (s.setPlanner { s.planner with waiting := none }).planningEnds w .refused .pressOff
      else ((s.setPlanner { s.planner with waiting := none }).passBegun w sw.start (frameGrids sw.frames)).runPass
        (frameSteps sw.frames) := by
  simp only [takeWaiting, hj, hw, beginPlanning, sheet_setPlanner, hsh, hk]
  rfl

theorem takeWaiting_idle (h : s.planner.job ≠ none ∨ s.planner.waiting = none) : s.takeWaiting = s := by
  rcases h with hjob | hnone
  · exact takeWaiting_busy hjob
  · simp [takeWaiting, hnone]

/-- A continuation that the planner takes up under OFF for the press ends its order. -/
theorem takeWaiting_pressOff (hj : s.planner.job = none) (hw : s.planner.waiting = some w) (hsh : s.sheet w = some sw)
    (hk : sw.ticket = some k) (hp : s.refusesPress k = true) (hst : sw.state = .planning) (he : sw.ending = none)
    (hr : sw.report = .none) (hlink : s.linkHolds w = false) (hwriter : s.writerServes w = false) :
    PlanningEnded s s.takeWaiting w s.control.queue .refused .pressOff := by
  -- Planning that ends clears the planner's job, so the sheet ends as one that the planner works on.
  set u := s.setPlanner ⟨some (PlanJob.fresh w .ticket), none, [], none⟩ with hu
  have halone : PlansAlone u (PlanJob.fresh w .ticket) sw :=
    ⟨rfl, (sheet_setPlanner s _ w).trans hsh, hst, he, hr, (linkHolds_of_link (by simp [hu]) w).trans hlink,
      (writerServes_of_writer (by simp [hu]) w).trans hwriter, rfl⟩
  rw [takeWaiting_read hj hw hsh hk, if_pos hp]
  exact (u.planningEnds_ended _ sw .refused .pressOff halone).2.congr (by simp [hu]) rfl rfl rfl rfl

end

end State

/-- Settles O37: a ticket read refuses the order, waits for the layout or ends the plan, and the waiting sheet is taken up. -/
theorem ticketReadCompletes : Obligations.TicketReadCompletes := by
  refine ⟨?_, ?_, ?_, ?_, fun s => State.takeWaiting_idle⟩
  · intro s j sh bs h hst hf hl
    obtain ⟨t, hexec, hframe, hrefused, hpassed⟩ := h.ticketDone hst hf hl
    have hwindow : (s.ticketHad j.slot bs).window.pressMode = s.window.pressMode := by simp [State.ticketHad]
    refine ⟨t, hexec, hframe, ?_, ?_, ?_, ?_⟩
    · simpa only [State.ticketHad_queue] using hrefused
    · intro k hk hp hoff
      rw [hpassed k hk, ← State.ticketHad_queue]
      exact h.pressRefused bs hp hoff
    · intro k hk hp hn
      have hkept := (h.ticketHad bs).ticketKept k
      rw [hpassed k hk, h.ticketAwaits bs hp hn, State.sheet_setPlanner, State.sheet_setPlanner]
      refine ⟨hkept.sheet, ?_, rfl, ?_, ?_⟩
      · rw [State.ticketKept_other, State.ticketHad_sheet]
      · simp [State.ticketKept, State.ticketHad]
      · rw [← State.ticketHad_queue]
        simp [State.ticketKept]
    · intro k hk hp hn hb
      obtain ⟨hplanner, hsheet, hother, hstore, hqueue⟩ :=
        State.takeTicket_empty (h.ticketHad bs).sheet (hwindow.symm ▸ hp) hn hb
      have hfree : ((s.ticketHad j.slot bs).takeTicket j.slot k).planner = ⟨none, none, [], none⟩ := by
        rw [hplanner, (h.ticketHad bs).waiting]
      rw [hpassed k hk, State.takeWaiting_idle (.inr (by rw [hfree]))]
      refine ⟨hsheet, hother.trans (s.ticketHad_sheet _ bs _), hfree, hstore.trans (by simp [State.ticketHad]), ?_⟩
      rw [hqueue, State.ticketHad_queue, List.map_map]
      refine List.map_congr_left fun e _ => ?_
      by_cases he : e.slot = some j.slot <;> simp [he]
  · intro s j sh w sw bs k h hst hf hl hk hp hn hb
    obtain ⟨hplanner, hsheet, hother, hstore, -⟩ := State.takeTicket_empty (s := s.ticketHad j.slot bs)
      ((s.ticketHad_sheet _ bs _).trans h.sheet) (k := k) (by simpa [State.ticketHad] using hp) hn hb
    rw [State.ticketHad_sheet, ← h.other, h.waits] at hother
    have htake := State.takeWaiting_unread _ w sw (hplanner.trans (by simp [State.ticketHad, h.waiting])) hother h.unread
    refine ⟨_, (State.exec_ticketReadDone h.job hst hf hl).2 k hk, .takeTicket s _ bs k, ?_⟩
    rw [htake, State.sheet_setPlanner, State.sheet_setPlanner]
    exact ⟨hsheet, hother, rfl, hstore.trans (by simp [State.ticketHad])⟩
  · intro s w sw kw hj hw hsh hk hp
    rw [State.takeWaiting_read hj hw hsh hk, if_neg (by simp [State.not_refusesPress hp])]
    rfl
  · intro s w sw kw hj hw hsh hk hp hoff hst he hr hlink hwriter
    exact State.takeWaiting_pressOff hj hw hsh hk ((s.refusesPress_iff kw).2 ⟨hp, hoff⟩) hst he hr hlink hwriter

end Sys2Proof.Machine
end

section
/-! Banner text reads: a banner's frame placement keeps its text through the rest of the pass (R54, R65). -/

namespace Sys2Proof.Machine

/-! ## A banner's frame placement over a pass -/

/-- The frame placement of a number is a banner, with what is kept of it. -/
def HasBanner (s : State) (sl : SheetSlot) (i : Nat) (b : BannerFrame) : Prop :=
  ∃ sh, s.sheet sl = some sh ∧ sh.frames[i]? = some (.banner b)

section
variable {s t : State} {sl : SheetSlot} {i : Nat} {b : BannerFrame}

theorem HasBanner.of_sheet (h : HasBanner s sl i b) (hs : t.sheet sl = s.sheet sl) : HasBanner t sl i b := by
  obtain ⟨sh, hsh, hb⟩ := h
  exact ⟨sh, hs.trans hsh, hb⟩

theorem HasBanner.mapJob (h : HasBanner s sl i b) (f : PlanJob → PlanJob) : HasBanner (s.mapJob f) sl i b :=
  h.of_sheet (s.sheet_mapJob f sl)

/-- A change of a sheet that leaves the banner of a number where it stands. -/
theorem HasBanner.mapSheet (h : HasBanner s sl i b) (other : SheetSlot) (f : Sheet → Sheet)
    (hf : ∀ sh, sh.frames[i]? = some (.banner b) → (f sh).frames[i]? = some (.banner b)) :
    HasBanner (s.mapSheet other f) sl i b := by
  obtain ⟨sh, hsh, hb⟩ := h
  by_cases heq : sl = other
  · subst heq
    exact ⟨f sh, by rw [State.sheet_mapSheet, if_pos rfl, hsh]; rfl, hf sh hb⟩
  · exact ⟨sh, by rw [State.sheet_mapSheet, if_neg heq, hsh], hb⟩

/-- A change of one frame placement that leaves banners as they are. -/
theorem modify_banner {fs : List Frame} (n : Nat) (f : Frame → Frame) (hf : f (.banner b) = .banner b)
    (h : fs[i]? = some (.banner b)) : (fs.modify n f)[i]? = some (.banner b) := by
  rw [List.getElem?_modify, h]
  split <;> simp [hf]

theorem HasBanner.advanceCursor (h : HasBanner s sl i b) : HasBanner s.advanceCursor sl i b :=
  h.of_sheet (State.sheet_of_control (by simp) sl)

theorem HasBanner.placeCell (h : HasBanner s sl i b) (d : CellSeed) (c : Cell) (n : Notes) :
    HasBanner (s.placeCell d c n) sl i b := by
  unfold State.placeCell
  split
  next => exact h
  next j _ =>
    have hcell := h.mapSheet j.slot (·.withCell d c) fun sh hb => modify_banner d.frame _ rfl hb
    split
    · exact (hcell.mapJob _).advanceCursor
    · exact hcell.mapJob _

theorem HasBanner.actOnRole (h : HasBanner s sl i b) (d : CellSeed) (a : Addr) (r : Nat) :
    HasBanner (s.actOnRole d a r).1 sl i b := by
  unfold State.actOnRole
  dsimp only
  split
  · exact h.placeCell _ _ _
  · split
    · exact h.placeCell _ _ _
    · exact h.mapJob _

theorem HasBanner.placeGridCell (h : HasBanner s sl i b) (k : Ticket) (j : PlanJob) (g : GridFrame) (n row col : Nat) :
    HasBanner (s.placeGridCell k j g n row col).1 sl i b := by
  unfold State.placeGridCell
  dsimp only
  generalize (if col = 0 then _ else _) = used
  split
  · exact h.mapJob _
  · split
    · exact (h.mapJob _).mapJob _
    · exact (h.mapJob _).actOnRole _ _ _

theorem HasBanner.placeText (h : HasBanner s sl i b) (other : SheetSlot) (f : BannerFrame) {n : Nat} (hn : n ≠ i) :
    HasBanner (s.placeText other f n).1 sl i b := by
  unfold State.placeText
  dsimp only
  split
  · exact h
  · split
    · refine ((h.mapSheet _ _ fun sh hb => ?_).mapJob _).mapJob _
      exact (List.getElem?_set_ne hn).trans hb
    · exact h.mapJob _

/-- A step that is not the text of the banner leaves it. -/
theorem HasBanner.placeStep (h : HasBanner s sl i b) (other : SheetSlot) (sh : Sheet) (k : Ticket) (j : PlanJob)
    {step : PlaceStep} (hstep : ∀ m, step = .text m → m ≠ i) : HasBanner (s.placeStep other sh k j step).1 sl i b := by
  unfold State.placeStep
  dsimp only
  cases step with
  | panel x y w ht => exact h.of_sheet (by simp)
  | endPanel => exact h.of_sheet (by simp)
  | entry e =>
    dsimp only
    split
    · refine h.mapSheet _ _ fun sh hb => ?_
      obtain ⟨hlt, -⟩ := List.getElem?_eq_some_iff.1 hb
      exact (List.getElem?_append_left hlt).trans hb
    · exact h
  | gridStart n => exact h.mapSheet _ _ fun sh hb => modify_banner n _ rfl hb
  | cell n row col =>
    dsimp only
    split
    · exact h.placeGridCell _ _ _ _ _ _
    · exact h
  | inset n =>
    dsimp only
    split
    · exact h.actOnRole _ _ _
    · exact h
  | text n =>
    dsimp only
    split
    · exact h.placeText _ _ (hstep n rfl)
    · exact h

theorem HasBanner.planComplete (h : HasBanner s sl i b) : HasBanner s.planComplete sl i b := by
  unfold State.planComplete
  split
  next => exact h
  next j _ =>
    refine HasBanner.of_sheet (h.mapSheet j.slot _ fun sh hb => ?_)
      ((State.sheet_setPlanner _ _ sl).trans (State.sheet_mapQueue _ _ sl))
    exact hb

/-- A pass with no step for the banner's text leaves it. -/
theorem HasBanner.runPass (steps : List PlaceStep) (hsteps : ∀ m, .text m ∈ steps → m ≠ i) (h : HasBanner s sl i b) :
    HasBanner (s.runPass steps) sl i b := by
  induction steps generalizing s with
  | nil => exact h.planComplete
  | cons step rest ih =>
    unfold State.runPass
    split
    next => exact h
    next j _ =>
      split
      next => exact h
      next sh _ =>
        split
        next => exact h
        next k _ =>
          dsimp only
          have hnext := (h.mapJob fun _ => { j with steps := rest }).placeStep j.slot sh k { j with steps := rest }
            (step := step) fun m hm => hsteps m (by simp [hm])
          split
          next s1 heq =>
            rw [heq] at hnext
            exact ih (fun m hm => hsteps m (by simp [hm])) hnext
          next s1 heq =>
            rw [heq] at hnext
            exact hnext

end

/-! ## The completion of the read -/

namespace State

/-- The state in which a completed banner text read resumes the pass: its unit ended, the codes kept with the banner. -/
def textHad (s : State) (j : PlanJob) (sh : Sheet) (i : Nat) (b : BannerFrame) (bs : List Byte) (n : Nat) : State :=
  s.endUnit.passWith { j with inFlight := false } s.planner.frameStack s.planner.cursor { sh with
    frames := sh.frames.set i (.banner { b with text := codesAt bs 0 n }) }

section
variable {s : State} {j : PlanJob} {sh : Sheet} {k : Ticket} {a : Addr} {n i : Nat} {b : BannerFrame} {bs : List Byte}

theorem exec_bannerTextReadDone (hj : s.planner.job = some j) (hsh : s.sheet j.slot = some sh)
    (hst : j.stage = .text a n i) (hf : j.inFlight = true) (hl : bs.length = 2 * n)
    (hb : sh.frames[i]? = some (.banner b)) : exec (.bannerTextReadDone .current (.data bs)) s =
      .next ((s.textHad j sh i b bs n).runPass j.steps).takeWaiting := by
  have hin : s.planReadInFlight PlanStage.isText = some j := by
    simp [planReadInFlight, hj, hst, hf, PlanStage.isText]
  have hkept : ((s.endUnit.mapSheet j.slot fun sh =>
      { sh with frames := sh.frames.modify i fun f => f.withText (codesAt bs 0 n) }).mapJob fun j =>
        { j with inFlight := false }) = s.textHad j sh i b bs n := by
    rw [← passWith_self (s := s.endUnit) (j := j) (sh := sh) (by simp [hj]) ((sheet_of_control (by simp) _).trans hsh),
      passWith_mapSheet, passWith_mapJob _ _ _ _ _ _ (by rfl)]
    simp only [List.modify_eq_set_getElem?, hb, Option.map_eq_map, Option.map_some, Option.getD_some, endUnit_frame]
    rfl
  refine congrArg Host.Outcome.next ?_
  simp only [hin, hst, hl, if_true, hkept]
  rw [resumePass, textHad, passWith_planner]
  rfl

/-- The state in which the pass resumes is one of a pass under way. -/
theorem textHad_passing (h : PlansAlone s j sh) (hk : sh.ticket = some k) :
    Passing (s.textHad j sh i b bs n) j.slot k sh.cells (s.sheet (otherSlot j.slot)) where
  job := ⟨{ j with inFlight := false }, by rw [textHad, passWith_planner], rfl, rfl⟩
  sheet := ⟨_, passWith_sheet _ { j with inFlight := false } _ _ _, hk, [], (List.append_nil _).symm⟩
  other := by
    rw [textHad, passWith, sheet_setSheet, if_neg (otherSlot_ne _), sheet_setPlanner]
    exact sheet_of_control (by simp) _
  waiting := by
    rw [textHad, passWith_planner]
    exact h.endUnit.waiting

theorem textHad_hasBanner (hb : sh.frames[i]? = some (.banner b)) :
    HasBanner (s.textHad j sh i b bs n) j.slot i { b with text := codesAt bs 0 n } := by
  obtain ⟨hlt, -⟩ := List.getElem?_eq_some_iff.1 hb
  exact ⟨_, passWith_sheet _ { j with inFlight := false } _ _ _, List.getElem?_set_self hlt⟩

end

end State

/-- Settles O41: the codes are kept with the banner's frame placement, which the rest of the pass leaves as it is. -/
theorem bannerTextReadCompletes : Obligations.BannerTextReadCompletes := by
  intro s j sh k a n i b bs h hk hst hf hl hb hsteps
  have hrested := (State.textHad_passing (i := i) (b := b) (bs := bs) (n := n) h hk).runPass j.steps
  obtain ⟨sh', more, hsh', hcells, hk'⟩ := hrested.sheet
  obtain ⟨sh'', hsh'', hbanner⟩ := (State.textHad_hasBanner (s := s) (j := j) (bs := bs) (n := n) hb).runPass j.steps hsteps
  obtain rfl : sh' = sh'' := Option.some.inj (hsh'.symm.trans hsh'')
  refine ⟨_, sh', more, (State.exec_bannerTextReadDone h.job h.sheet hst hf hl hb).trans (by rw [hrested.takeWaiting]),
    ?_, hrested.rests, hsh', hbanner, hcells, hk', hrested.other, hrested.takeWaiting.symm⟩
  constructor <;> simp [State.textHad, State.passWith]

end Sys2Proof.Machine
end

section
/-! Builds at their start and at their source reads (R70, R87, R88, R102 to R104, R106, R189, R201). -/

namespace Sys2Proof.Machine

/-! ## The runs of a build (R87) -/

section
variable {src : Source} {f : Fit} {p : Profile}

theorem sourceRanges_none (h : sourceArea f p = none) : sourceRanges src f p = [] := by
  simp [sourceRanges, h]

/-- The runs of a build are one for each row of its area, each of the area's columns. -/
theorem sourceRanges_size {a : SourceArea} (h : sourceArea f p = some a) :
    (sourceRanges src f p).length = a.rows ∧ rangeBytes (sourceRanges src f p) = a.rows * (a.cols * src.form.bytes) := by
  simp [sourceRanges, h, rangeBytes, Function.comp_def]

end

namespace State

/-! ## Units and the first granule (R88, R189, R201) -/

theorem setBuilder_endUnit (s : State) (b : Builder) : (s.setBuilder b).endUnit = s.endUnit.setBuilder b := by
  unfold endUnit
  dsimp only
  by_cases h : s.port.hold = .draining ∧ s.port.outstanding - 1 = 0
  · rw [if_pos (c := s.port.hold = _ ∧ _) h]
    exact if_pos h
  · rw [if_neg (c := s.port.hold = _ ∧ _) h]
    exact if_neg h

/-- A unit that ends at once while the hold is FREE leaves the state as it was (R189). -/
theorem beginUnit_endUnit (s : State) (h : s.port.hold = .free) : s.beginUnit.endUnit = s := by
  rw [endUnit_quiet _ (.inl (by simp [h]))]
  rfl

/-- A unit that starts while the hold is FREE, and ends at once where nothing is left of it (R189). -/
theorem beginUnit_done (s : State) (h : s.port.hold = .free) (done : Bool) :
    (if done then s.beginUnit.endUnit else s.beginUnit) =
      s.setPort { s.port with outstanding := s.port.outstanding + if done then 0 else 1 } := by
  cases done
  · rfl
  · exact s.beginUnit_endUnit h

/-- The first granule waits for the source bytes that it stands on (R88). -/
theorem writeFirstGranule_waits (s : State) (b : Build)
    (h : b.got.length < firstRowBytes b.entry.source b.fit (s.profileOf b.entry.key.profile)) :
    s.writeFirstGranule b = s.setBuilder { s.builder with current := some b } :=
  if_neg fun hw => Nat.not_le_of_lt h hw.2

/-- The first granule is written once its source bytes are there, and takes a pending TILE poison (R88, R201). -/
theorem writeFirstGranule_writes (s : State) (b : Build) (hw : b.wrote = false)
    (h : firstRowBytes b.entry.source b.fit (s.profileOf b.entry.key.profile) ≤ b.got.length) :
    s.writeFirstGranule b =
      (s.setBuilder { s.builder with current := some { b with wrote := true, poisoned := s.check.poison == .tile } }).setCheck
        { s.check with poison := if s.check.poison == .tile then .none else s.check.poison } := by
  refine (if_pos ⟨hw, h⟩).trans ?_
  dsimp only
  cases s.check.poison == .tile <;> rfl

/-- The first granule at the start of a build is written where its row needs no source byte (R88, R201). -/
theorem writeFirstGranule_start (s : State) (b : Build) (hw : b.wrote = false) (hp : b.poisoned = false) (hg : b.got = [])
    (wrote poisoned : Bool)
    (hwrote : wrote = decide (firstRowBytes b.entry.source b.fit (s.profileOf b.entry.key.profile) = 0))
    (hpoisoned : poisoned = (wrote && s.check.poison == .tile)) : s.writeFirstGranule b =
      (s.setBuilder { s.builder with current := some { b with wrote := wrote, poisoned := poisoned } }).setCheck
        { s.check with poison := if poisoned then .none else s.check.poison } := by
  by_cases hf : firstRowBytes b.entry.source b.fit (s.profileOf b.entry.key.profile) = 0
  · obtain rfl : wrote = true := by simp [hwrote, hf]
    rw [s.writeFirstGranule_writes b hw (by simp [hf]), hpoisoned, Bool.true_and]
  · obtain rfl : wrote = false := by simp [hwrote, hf]
    obtain rfl : poisoned = false := by simpa using hpoisoned
    rw [s.writeFirstGranule_waits b (by simp [hg, Nat.pos_of_ne_zero hf])]
    cases b; cases hw; cases hp
    rfl

/-- The first granule changes nothing of the current build but what the build says of that granule. -/
theorem writeFirstGranule_builder (s : State) (b : Build) : ∃ wrote poisoned, (s.writeFirstGranule b).builder =
    { s.builder with current := some { b with wrote := wrote, poisoned := poisoned } } := by
  unfold writeFirstGranule
  dsimp only
  split
  · refine ⟨true, s.check.poison == .tile, ?_⟩
    split <;> rfl
  · exact ⟨b.wrote, b.poisoned, rfl⟩

/-! ## The start of a build (R70, R103) -/

/-- The current build right after its start. -/
def startedBuild (s : State) (e : BuildEntry) : Build :=
  let p := s.profileOf e.key.profile
  let f := computeFit e.source p
  let ranges := sourceRanges e.source f p
  let wrote := decide (firstRowBytes e.source f p = 0)
  ⟨e, f, ranges, [], decide (rangeBytes ranges = 0), false, wrote, wrote && s.check.poison == .tile⟩

/-- The state right after the start of a build, `rest` being the queue that is left. -/
def buildStarted (s : State) (e : BuildEntry) (rest : List BuildEntry) : State :=
  ((s.setBuilder ⟨rest, some (s.startedBuild e)⟩).setPort { s.port with
    outstanding := s.port.outstanding + if (s.startedBuild e).portDone then 0 else 1 }).setCheck { s.check with
      poison := if (s.startedBuild e).poisoned then .none else s.check.poison }

section
variable {s : State} {e : BuildEntry} {rest : List BuildEntry}

theorem exec_buildStart (hc : s.builder.current = none) (hq : s.builder.queue = e :: rest) (hh : s.port.hold = .free) :
    exec .buildStart s = .next (s.buildStarted e rest) := by
  refine congrArg Host.Outcome.next ?_
  simp only [hc, hq, holdFree, hh, beq_self_eq_true, if_true]
  rw [beginUnit_done (s.setBuilder ⟨rest, none⟩) hh]
  exact writeFirstGranule_start _ _ rfl rfl rfl (s.startedBuild e).wrote (s.startedBuild e).poisoned rfl rfl

/-- A build does not start while the Builder works, with the queue empty, or while the hold is not FREE (assumption 1). -/
theorem exec_buildStart_waits (h : s.builder.current ≠ none ∨ s.builder.queue = [] ∨ s.port.hold ≠ .free) :
    exec .buildStart s = .next s := by
  refine congrArg Host.Outcome.next ?_
  split
  next e rest hc hq =>
    rw [if_neg]
    have hh : s.port.hold ≠ .free := by simpa [hc, hq] using h
    simpa [holdFree] using hh
  next => rfl

end

/-! ## Source reads (R103, R104, R106) -/

section
variable {s : State} {b : Build} {bs : List Byte} {last : Bool}

/-- The bytes of a read join those read; the last byte wanted ends the build's unit. -/
theorem receiveSource_eq (s : State) (b : Build) (bs : List Byte) (wanted : Nat) (h : wanted = rangeBytes b.ranges) :
    ∃ wrote poisoned, (s.receiveSource b bs).builder = { s.builder with current := some { b with
      got := b.got ++ bs, portDone := b.portDone || decide (b.got.length + bs.length = wanted), wrote := wrote,
      poisoned := poisoned } } := by
  subst h
  unfold receiveSource
  dsimp only
  by_cases hl : b.got.length + bs.length = rangeBytes b.ranges
  · obtain ⟨w, p, hb⟩ := s.writeFirstGranule_builder { b with got := b.got ++ bs, portDone := true }
    rw [if_pos (by simpa using hl)]
    exact ⟨w, p, by simp [hb, hl]⟩
  · obtain ⟨w, p, hb⟩ := s.writeFirstGranule_builder { b with got := b.got ++ bs }
    rw [if_neg (by simpa using hl)]
    exact ⟨w, p, by simp [hb, hl]⟩

theorem receiveSource_port (s : State) (b : Build) (bs : List Byte) : (s.receiveSource b bs).port =
    if b.got.length + bs.length = rangeBytes b.ranges then s.endUnit.port else s.port := by
  unfold receiveSource
  dsimp only
  rw [List.length_append]
  split
  · exact endUnit_port_congr (by simp)
  · simp

theorem exec_sourceReadDone_data (hb : s.builder.current = some b) (hp : b.portDone = false) (hf : b.failing = false)
    (hne : bs ≠ []) (hl : b.got.length + bs.length ≤ rangeBytes b.ranges) :
    exec (.sourceReadDone .current (.data bs) last) s = .next (s.receiveSource b bs) := by
  refine congrArg Host.Outcome.next ?_
  simp [hb, hp, hf, List.length_pos_of_ne_nil hne, hl]

/-- A read of a failing build, or one that fails, leaves the build failing; the last in flight ends its unit (R106). -/
theorem exec_sourceReadDone_failing {r : ReadResult} (hb : s.builder.current = some b) (hp : b.portDone = false)
    (hf : b.failing = true ∨ r = .busError) : exec (.sourceReadDone .current r last) s =
      .next (if last then s.endBuildUnit { b with failing := true }
        else s.setBuilder { s.builder with current := some { b with failing := true } }) := by
  refine congrArg Host.Outcome.next ?_
  simp only [hb]
  rw [if_neg (c := b.portDone = true) (by simp [hp])]
  by_cases hfail : b.failing = true
  · have hsame : { b with failing := true } = b := by rw [← hfail]
    rw [if_pos hfail, hsame, ← hb]
    rfl
  · obtain rfl := hf.resolve_left hfail
    rw [if_neg hfail]

theorem endBuildUnit_eq (s : State) (b : Build) : s.endBuildUnit b =
    s.endUnit.setBuilder { s.builder with current := some { b with portDone := true } } :=
  s.setBuilder_endUnit _

end

end State

/-- Settles O42: the state after the start is `State.buildStarted`, and the runs are those of the source area. -/
theorem buildStarts : Obligations.BuildStarts := by
  refine ⟨fun s e rest hc hq hh => ?_, fun s h => State.exec_buildStart_waits h⟩
  refine ⟨_, s.startedBuild e, State.exec_buildStart hc hq hh, rfl, rfl, rfl, rfl, rfl, sourceRanges_none, ?_, rfl, rfl, rfl,
    rfl, rfl, rfl, rfl, rfl, rfl, rfl, rfl, rfl, rfl, rfl⟩
  rintro a bpp ha hbpp
  rw [← PixelForm.bytes_eq] at hbpp
  subst hbpp
  obtain ⟨hlength, hbytes⟩ := sourceRanges_size (src := e.source) ha
  exact ⟨hlength, hbytes, fun x y j hx hx' hy hy' hj ht => sourceRanges_addr e.source _ _ a x y j ha ⟨hx, hx'⟩ ⟨hy, hy'⟩ hj
    (by omega)⟩

/-- Settles O43: a read with data is `State.receiveSource`, and one of a failing build leaves it failing. -/
theorem sourceReadCompletes : Obligations.SourceReadCompletes := by
  refine ⟨fun s b bs last wanted hb hp hf hw hne hl => ?_, fun s b r hb hp hf => ?_⟩
  · obtain ⟨wrote, poisoned, hbuilder⟩ := s.receiveSource_eq b bs wanted hw
    refine ⟨_, _, State.exec_sourceReadDone_data hb hp hf hne (hw ▸ hl), hbuilder, rfl, rfl, rfl, rfl, hf, by simp [hp], ?_,
      by simp, by simp, by simp, ?_⟩
    · simp [State.receiveSource_port, hp, hw]
    · constructor <;> simp
  · constructor
    · rw [State.exec_sourceReadDone_failing hb hp hf]
      rfl
    · rw [State.exec_sourceReadDone_failing hb hp hf, if_pos rfl, State.endBuildUnit_eq]
      rfl

end Sys2Proof.Machine
end

section
/-! Builds that complete: the slot's tile and fit record, and what each holder receives (R89, R105, R108, R172). -/

namespace Sys2Proof.Machine

/-! ## The counts of fit notes (R89, R217) -/

theorem hasNote_and_not (a b : Notes) (n : Note) : hasNote (a &&& ~~~b) n = (hasNote a n && !hasNote b n) := by
  have hbit : n.bit < 11 := by cases n <;> decide
  simp [hasNote, hbit]

/-- The count that a note of a fit record adds to. -/
def Counts.ofFitNote (c : Counts) (n : Note) : Nat :=
  match n with
  | .scaleClamped => c.clamped
  | .shifted => c.shifted
  | _ => c.padded

theorem Counts.ofFitNote_add (c d : Counts) (n : Note) :
    (c.add d).ofFitNote n = min 65535 (c.ofFitNote n + d.ofFitNote n) := by
  unfold Counts.ofFitNote
  split <;> rfl

theorem ofFitNote_countsOfNotes {n : Note} (hn : n ∈ [Note.scaleClamped, Note.shifted, Note.padded]) (ns : Notes) :
    (countsOfNotes ns).ofFitNote n = bit (hasNote ns n) := by
  simp only [List.mem_cons, List.not_mem_nil, or_false] at hn
  obtain rfl | rfl | rfl := hn <;> rfl

/-- Saturating at every addition or once at the end gives the same sum. -/
theorem ofFitNote_foldl_add (n : Note) (cs : List Counts) (c : Counts) (h : c.ofFitNote n ≤ 65535) :
    (cs.foldl Counts.add c).ofFitNote n = min 65535 (c.ofFitNote n + (cs.map (·.ofFitNote n)).sum) := by
  induction cs generalizing c with
  | nil => simp [h]
  | cons d ds ih =>
    have hadd := Counts.ofFitNote_add c d n
    rw [List.foldl_cons, ih _ (by omega), hadd, List.map_cons, List.sum_cons]
    omega

theorem ofFitNote_sumCounts (n : Note) (cs : List Counts) :
    (sumCounts cs).ofFitNote n = min 65535 (cs.map (·.ofFitNote n)).sum := by
  have hzero : Counts.zero.ofFitNote n = 0 := by cases n <;> rfl
  rw [sumCounts, ofFitNote_foldl_add n cs _ (by omega), hzero, Nat.zero_add]

/-- As many items pass a test as it gives ones. -/
theorem sum_bit {α : Type} (p : α → Bool) (l : List α) : (l.map fun a => bit (p a)).sum = (l.filter p).length := by
  induction l with
  | nil => rfl
  | cons a l ih =>
    rw [List.map_cons, List.sum_cons, ih, List.filter_cons]
    cases p a
    · exact Nat.zero_add _
    · exact Nat.add_comm _ _

/-! ## What a holder receives (R89, R108) -/

theorem Cell.uses_eq (c : Cell) (ref : TileRef) : c.uses ref = decide (c.ref = some ref) :=
  beq_eq_decide ..

/-- What a fit record adds to the counts of a sheet's order: the counts of each cell that carries the reference. -/
def Sheet.fitAdded (sh : Sheet) (ref : TileRef) (f : FitRecord) : Counts :=
  sumCounts ((sh.cells.filter fun c => c.uses ref).map fun c => c.fitCounts f)

/-- Each cell that carries the reference counts once for each note of the record that it does not carry (R89). -/
theorem Sheet.fitAdded_ofFitNote (sh : Sheet) (ref : TileRef) (f : FitRecord) {n : Note}
    (hn : n ∈ [Note.scaleClamped, Note.shifted, Note.padded]) : (sh.fitAdded ref f).ofFitNote n =
      min 65535 (sh.cells.filter fun c => decide (c.ref = some ref) && hasNote f.notes n && !hasNote c.notes n).length := by
  have hcount : ∀ c : Cell, (c.fitCounts f).ofFitNote n = bit (hasNote f.notes n && !hasNote c.notes n) := fun c => by
    rw [Cell.fitCounts, ofFitNote_countsOfNotes hn, hasNote_and_not]
  rw [Sheet.fitAdded, ofFitNote_sumCounts, List.map_map]
  simp only [Function.comp_def, hcount]
  rw [sum_bit, List.filter_filter]
  refine congrArg (fun l => min 65535 (List.length l)) (List.filter_congr fun c _ => ?_)
  rw [Cell.uses_eq, Bool.and_comm, ← Bool.and_assoc]

/-- The results of an order whose sheet's cells receive a fit record. -/
def Results.fitted (r : Results) (sh : Sheet) (ref : TileRef) (f : FitRecord) : Results :=
  { r with counts := r.counts.add (sh.fitAdded ref f) }

theorem Results.fitted_counts (r : Results) (sh : Sheet) (ref : TileRef) (f : FitRecord) {n : Note}
    (hn : n ∈ [Note.scaleClamped, Note.shifted, Note.padded]) : (r.fitted sh ref f).counts.ofFitNote n =
      min 65535 (r.counts.ofFitNote n +
        (sh.cells.filter fun c => decide (c.ref = some ref) && hasNote f.notes n && !hasNote c.notes n).length) := by
  have hadded := sh.fitAdded_ofFitNote ref f hn
  have hadd := r.counts.ofFitNote_add (sh.fitAdded ref f) n
  rw [Results.fitted, hadd, hadded]
  omega

/-- A holder's sheet served by a completed build: its cells have the fit record, and one build fewer is pending. -/
def Sheet.served (sh : Sheet) (ref : TileRef) (f : FitRecord) : Sheet :=
  { sh with
    cells := sh.cells.map fun c => if c.ref = some ref then { c with fit := some f, notes := c.notes ||| f.notes } else c
    pendingBuilds := sh.pendingBuilds - 1
    state := if sh.state = .filling ∧ sh.pendingBuilds ≤ 1 then .ready else sh.state }

theorem Sheet.lowerPending_delivered (sh : Sheet) (ref : TileRef) (f : FitRecord) :
    Sheet.lowerPending { sh with cells := sh.cells.map fun c => if c.uses ref then c.receiveFit f else c } =
      sh.served ref f := by
  simp only [Sheet.lowerPending, Sheet.served, Cell.uses, Cell.receiveFit, beq_iff_eq, Nat.sub_eq_zero_iff_le]

namespace State

/-! ## An order's results (R180) -/

theorem orderResults_of_queue {s t : State} (h : t.control.queue = s.control.queue) (sl : SheetSlot) :
    t.orderResults sl = s.orderResults sl := by
  rw [orderResults, h, orderResults]

theorem orderResults_setSheet (s : State) (sl other : SheetSlot) (x : Option Sheet) :
    (s.setSheet sl x).orderResults other = s.orderResults other :=
  orderResults_of_queue (by simp) other

theorem orderResults_mapResults (s : State) (sl other : SheetSlot) (f : Results → Results) :
    (s.mapResults sl f).orderResults other = if other = sl then (s.orderResults sl).map f else s.orderResults other := by
  have hslot : ∀ e : QueueEntry, (if e.slot = some sl then { e with results := f e.results } else e).slot = e.slot := by
    intro e; split <;> rfl
  have hfind : ((s.mapResults sl f).control.queue.find? fun e => decide (e.slot = some other)) =
      (s.control.queue.find? fun e => decide (e.slot = some other)).map fun e =>
        if e.slot = some sl then { e with results := f e.results } else e := by
    simp only [mapResults, mapQueue, setControl_control, List.find?_map, Function.comp_def, hslot]
  rw [orderResults, hfind]
  cases hq : s.control.queue.find? fun e => decide (e.slot = some other) with
  | none =>
    split
    next heq => subst heq; simp [orderResults, hq]
    next => simp [orderResults, hq]
  | some e =>
    have he : e.slot = some other := by simpa using List.find?_some hq
    split
    next heq => subst heq; simp [orderResults, hq, he]
    next hne => simp [orderResults, hq, he, hne]

/-! ## A build's holders (R105, R108) -/

/-- What a completed build can change of a sheet slot: its sheet, and the results of its order. -/
def held (s : State) (sl : SheetSlot) : Option Sheet × Option Results := (s.sheet sl, s.orderResults sl)

/-- A holder is served: its cells receive the fit record, and its pending-build count falls. -/
def serve (s : State) (ref : TileRef) (f : FitRecord) (sl : SheetSlot) : State :=
  (s.deliverFit sl ref f).mapSheet sl Sheet.lowerPending

theorem serve_free {s : State} {sl : SheetSlot} (h : s.sheet sl = none) (ref : TileRef) (f : FitRecord) :
    s.serve ref f sl = s.setSheet sl none := by
  simp [serve, deliverFit, mapSheet, h]

section
variable {s : State} {sl : SheetSlot} {sh : Sheet} {ref : TileRef} {f : FitRecord}

theorem serve_sheet (h : s.sheet sl = some sh) (other : SheetSlot) : (s.serve ref f sl).sheet other =
    if other = sl then some (sh.served ref f) else s.sheet other := by
  rw [serve, sheet_mapSheet]
  simp only [deliverFit, h, addCounts, mapResults, sheet_mapQueue, sheet_setSheet, if_true, Option.map_some,
    Sheet.lowerPending_delivered]
  split <;> rfl

theorem serve_orderResults (h : s.sheet sl = some sh) (other : SheetSlot) : (s.serve ref f sl).orderResults other =
    if other = sl then (s.orderResults sl).map (·.fitted sh ref f) else s.orderResults other := by
  have hqueue : (s.serve ref f sl).orderResults other = (s.deliverFit sl ref f).orderResults other :=
    orderResults_of_queue (by simp [serve]) other
  rw [hqueue]
  simp only [deliverFit, h, addCounts, orderResults_mapResults, orderResults_setSheet]
  rfl

/-- What serving a holder makes of a slot. -/
theorem serve_held (s : State) (ref : TileRef) (f : FitRecord) (sl other : SheetSlot) :
    (s.serve ref f sl).held other = if other = sl then (((s.held sl).1.map (·.served ref f)),
      (s.held sl).1.elim (s.held sl).2 fun sh => (s.held sl).2.map (·.fitted sh ref f)) else s.held other := by
  unfold held
  cases h : s.sheet sl with
  | none =>
    rw [serve_free h, orderResults_setSheet, sheet_setSheet]
    by_cases heq : other = sl <;> simp [heq]
  | some sh =>
    rw [serve_sheet h, serve_orderResults h]
    by_cases heq : other = sl <;> simp [heq]

end

/-- What serving some holders makes of a slot: one that holds is served once, any other stays as it was. -/
theorem foldl_serve_held (ref : TileRef) (f : FitRecord) (l : List SheetSlot) (hl : l.Nodup) (s : State) (sl : SheetSlot) :
    (l.foldl (fun s sl => s.serve ref f sl) s).held sl = if sl ∈ l then (s.serve ref f sl).held sl else s.held sl := by
  induction l generalizing s with
  | nil => rfl
  | cons x l ih =>
    obtain ⟨hx, hl⟩ := List.nodup_cons.1 hl
    rw [List.foldl_cons, ih hl]
    by_cases heq : sl = x
    · subst heq
      simp [hx]
    · simp [serve_held, heq]

end State

theorem TileStore.holdersOf_nodup (t : TileStore) (ref : TileRef) : (t.holdersOf ref).Nodup := by
  cases ref with
  | store i w => exact List.Nodup.filter _ (by decide)
  | scratch p i => exact List.nodup_singleton p

/-! ## The completion (R105) -/

/-- The store with the slot of a completed build READY. -/
def TileStore.built (t : TileStore) (b : Build) (tile : List Byte) : TileStore :=
  match b.entry.ref with
  | .store i w => t.setSlot i w { t.slot i w with
      state := .ready, key := some b.entry.key, tile := tile, fit := some b.fit.record, poisoned := b.poisoned }
  | .scratch p i => t.setScratch p i ⟨.ready, some b.entry.key, tile, some b.fit.record, b.poisoned⟩

namespace State

/-- The finished tile of a build as its slot holds it. -/
def finishedTile (s : State) (b : Build) : List Byte :=
  wholeGranules (tileBytes b.entry.source b.fit (s.profileOf b.entry.key.profile) b.got)

/-- The state in which a completed build serves its holders: its slot READY, the Builder IDLE, and no correctable error of
the slot's earlier tile standing. -/
def tileReady (s : State) (b : Build) : State :=
  ((s.setBuilder { s.builder with current := none }).rewritten fun l => locTileRef l == some b.entry.ref).setStore
    (s.store.built b (s.finishedTile b))

/-- The state after the completion of a build: each holder of the slot has been served. -/
def buildDone (s : State) (b : Build) : State :=
  (s.store.holdersOf b.entry.ref).foldl (fun s sl => s.serve b.entry.ref b.fit.record sl) (s.tileReady b)

theorem exec_buildComplete {s : State} {b : Build} (hb : s.builder.current = some b) (hp : b.portDone = true)
    (hf : b.failing = false) : exec .buildComplete s = .next (s.buildDone b) := by
  refine congrArg Host.Outcome.next ?_
  simp only [hb, hp, hf, Bool.not_false, Bool.and_self, if_true]
  unfold finishBuild buildDone tileReady TileStore.built
  cases b.entry.ref <;> rfl

theorem tileReady_held (s : State) (b : Build) (sl : SheetSlot) : (s.tileReady b).held sl = s.held sl := by
  have hcontrol : (s.tileReady b).control = s.control := rfl
  rw [held, sheet_of_control hcontrol, orderResults_of_queue (congrArg (·.queue) hcontrol), held]

/-- What the completion makes of a holder's slot (R89, R108). -/
theorem buildDone_holder {s : State} {b : Build} {sl : SheetSlot} {sh : Sheet} (hsh : s.sheet sl = some sh)
    (hsl : sl ∈ s.store.holdersOf b.entry.ref) :
    (s.buildDone b).sheet sl = some (sh.served b.entry.ref b.fit.record) ∧
      (s.buildDone b).orderResults sl = (s.orderResults sl).map (·.fitted sh b.entry.ref b.fit.record) := by
  have hserved := foldl_serve_held b.entry.ref b.fit.record _ (s.store.holdersOf_nodup b.entry.ref) (s.tileReady b) sl
  rw [if_pos hsl, serve_held, if_pos rfl, tileReady_held] at hserved
  simp only [held, hsh, Option.map_some, Option.elim_some, Prod.mk.injEq] at hserved
  exact hserved

/-- A slot that does not hold the build's slot keeps its sheet. -/
theorem buildDone_other {s : State} {b : Build} {sl : SheetSlot} (hsl : sl ∉ s.store.holdersOf b.entry.ref) :
    (s.buildDone b).sheet sl = s.sheet sl := by
  have hother := foldl_serve_held b.entry.ref b.fit.record _ (s.store.holdersOf_nodup b.entry.ref) (s.tileReady b) sl
  rw [if_neg hsl, tileReady_held] at hother
  exact (Prod.mk.inj hother).1

/-- What serving a holder keeps, serving all of them keeps. -/
theorem buildDone_kept {γ : Type} (s : State) (b : Build) (g : State → γ)
    (hg : ∀ (u : State) (sl : SheetSlot), g (u.serve b.entry.ref b.fit.record sl) = g u) :
    g (s.buildDone b) = g (s.tileReady b) :=
  foldl_keep _ g hg _ _

end State

/-- Settles O44: the state after the completion is `State.buildDone`, and the tile is that of `tileBytes_built`. -/
theorem buildCompletes : Obligations.BuildCompletes := by
  intro s b hb hp hf
  have hstore : (s.buildDone b).store = s.store.built b (s.finishedTile b) :=
    s.buildDone_kept b (·.store) (by simp [State.serve])
  refine ⟨_, s.finishedTile b, State.exec_buildComplete hb hp hf, s.buildDone_kept b (·.builder) (by simp [State.serve]), rfl,
    tileBytes_built .., fun i w h => ?_, fun p i h => ?_, fun sl sh hsh hsl => ?_, fun sl => State.buildDone_other,
    s.buildDone_kept b (·.port) (by simp [State.serve]), s.buildDone_kept b (·.window) (by simp [State.serve]),
    s.buildDone_kept b (·.walker) (by simp [State.serve]), s.buildDone_kept b (·.profiles) (by simp [State.serve]),
    s.buildDone_kept b (·.composer) (by simp [State.serve]), s.buildDone_kept b (·.out) (by simp [State.serve]), ?_⟩
  · rw [hstore, TileStore.built, h]
  · rw [hstore, TileStore.built, h]
  · obtain ⟨hsheet, hresults⟩ := State.buildDone_holder hsh hsl
    refine ⟨hsheet, fun n hn r hr => ⟨r.fitted sh b.entry.ref b.fit.record, by rw [hresults, hr]; rfl, ?_⟩⟩
    exact r.fitted_counts sh b.entry.ref b.fit.record hn
  · refine (s.buildDone_kept b (·.check) (by simp [State.serve])).trans ?_
    simp [State.tileReady, State.rewritten, beq_eq_decide]

end Sys2Proof.Machine
end

section
/-! The fit of a portrait whose raster, marks and profile are in range (R72 to R84). -/

namespace Sys2Proof.Machine

/-! ## Scale, halvings and step (R73 to R78) -/

/-- A rounded quotient lies at most half a unit from the quotient (R1). -/
theorem roundDiv_bounds (a : Nat) {b : Nat} (h : 0 < b) :
    2 * roundDiv a b * b ≤ 2 * a + b ∧ 2 * a + b < 2 * (roundDiv a b + 1) * b := by
  have hle := Nat.div_mul_le_self (2 * a + b) (2 * b)
  have hlt := Nat.lt_mul_div_succ (2 * a + b) (by omega : 0 < 2 * b)
  unfold roundDiv
  generalize (2 * a + b) / (2 * b) = q at *
  constructor <;> linarith

theorem clampScale_eq (raw : Nat) {smax : Nat} (h : 1024 ≤ smax) : clampScale raw smax = max 1024 (min smax raw) := by
  unfold clampScale clampTo
  split_ifs <;> omega

/-- The clamp moves a raw scale exactly where it is out of range (R74). -/
theorem clampScale_ne_iff (raw : Nat) {smax : Nat} (h : 1024 ≤ smax) :
    clampScale raw smax ≠ raw ↔ raw < 1024 ∨ smax < raw := by
  rw [clampScale_eq raw h]
  omega

/-- The reduction count is the least that brings a scale of 1024 or more to 32768 or more (R75). -/
theorem halvings_least {s : Nat} (h : 1024 ≤ s) :
    halvings s ≤ 5 ∧ 32768 ≤ s * 2 ^ halvings s ∧ ∀ k < halvings s, s * 2 ^ k < 32768 := by
  obtain ⟨k, hk⟩ : ∃ k, (List.range 6).find? (fun k => decide (32768 ≤ s * 2 ^ k)) = some k := by
    rw [← Option.isSome_iff_exists, List.find?_isSome]
    exact ⟨5, by simp, by simp; omega⟩
  have heq : halvings s = k := by simp [halvings, hk]
  obtain ⟨hp, hmem, hleast⟩ := List.find?_range_eq_some.1 hk
  rw [heq]
  exact ⟨by simpa [Nat.lt_succ_iff] using hmem, by simpa using hp, fun j hj => by simpa using hleast j hj⟩

/-- The effective scale of a scale in range is at most 131072 (R75). -/
theorem effective_le {s : Nat} (h : 1024 ≤ s) (hmax : s ≤ 131072) : s * 2 ^ halvings s ≤ 131072 := by
  obtain ⟨-, -, hleast⟩ := halvings_least h
  cases hk : halvings s with
  | zero => simpa using hmax
  | succ k =>
    have hlast := hleast k (by omega)
    rw [Nat.pow_succ, ← Nat.mul_assoc]
    omega

/-- The step of an effective scale in range (R78). -/
theorem stepOf_range {e : Nat} (h1 : 32768 ≤ e) (h2 : e ≤ 131072) : 128 ≤ stepOf e ∧ stepOf e ≤ 512 := by
  unfold stepOf roundDiv
  rw [Nat.le_div_iff_mul_le (by omega)]
  exact ⟨by omega, Nat.le_of_lt_succ (Nat.div_lt_of_lt_mul (by omega))⟩

/-- Five halvings or fewer leave two pixels or more of 64 or more (R76). -/
theorem reduced_ge {n k : Nat} (h : 64 ≤ n) (hk : k ≤ 5) : 2 ≤ n / 2 ^ k := by
  have hpow : 2 ^ k ≤ 2 ^ 5 := Nat.pow_le_pow_right (by omega) hk
  rw [Nat.le_div_iff_mul_le (Nat.two_pow_pos k)]
  omega

/-! ## The window of an axis (R80 to R82) -/

/-- Every sample of an axis of `cell` tile pixels with origin `x` lies in the valid range of `size` reduced pixels (R80). -/
def WindowInRange (size cell step : Nat) (o x : Int) : Prop :=
  ∀ u < cell, -128 ≤ 256 * x + o + (u : Nat) * step ∧ 256 * x + o + (u : Nat) * step ≤ ((size : Int) - 1) * 256 + 128

section
variable {size cell step : Nat} {o x computed : Int}

theorem not_windowInRange_iff : ¬ WindowInRange size cell step o x ↔ ∃ u < cell, ¬(-128 ≤ 256 * x + o + (u : Nat) * step ∧
    256 * x + o + (u : Nat) * step ≤ ((size : Int) - 1) * 256 + 128) := by
  simp only [WindowInRange, not_forall, exists_prop]

/-- A window is in range where its first and its last sample are (R80). -/
theorem windowInRange_iff (hc : 0 < cell) :
    WindowInRange size cell step o x ↔ originMin o ≤ x ∧ x ≤ originMax size cell step o := by
  rw [originMin_le, le_originMax]
  constructor
  · intro h
    have hlast := (h (cell - 1) (by omega)).2
    rw [Int.natCast_sub hc] at hlast
    exact ⟨by simpa using (h 0 hc).1, hlast⟩
  · rintro ⟨hfirst, hlast⟩ u hu
    have hstep : (u : Int) * step ≤ ((cell : Int) - 1) * step := Int.mul_le_mul_of_nonneg_right (by omega) (by omega)
    have hpos : 0 ≤ (u : Int) * step := by positivity
    omega

/-- Under SHIFT the window is in range where some origin brings it there (R81). -/
theorem finalOrigin_inRange (hc : 0 < cell) (h : ∃ x, WindowInRange size cell step o x) :
    WindowInRange size cell step o (finalOrigin .shift computed (originMin o) (originMax size cell step o)) := by
  obtain ⟨y, hy⟩ := h
  obtain ⟨hmin, hmax⟩ := (windowInRange_iff hc).1 hy
  rw [windowInRange_iff hc]
  unfold finalOrigin
  dsimp only
  split_ifs <;> omega

end

/-! ## The fit stage by stage -/

section
variable (src : Source) (p : Profile)

/-- The final origin of a fit's columns (R79, R81, R82). -/
theorem computeFit_x0 : (computeFit src p).record.x0 = finalOrigin p.edge
    (computedOrigin ((markPoint src).1 / 2 ^ (computeFit src p).record.k) p.centreColumn (computeFit src p).step)
    (originMin (computeFit src p).offset)
    (originMax (computeFit src p).reducedW p.cellWidth (computeFit src p).step (computeFit src p).offset) := rfl

/-- The final origin of a fit's rows (R79, R81, R82). -/
theorem computeFit_y0 : (computeFit src p).record.y0 = finalOrigin p.edge
    (computedOrigin ((markPoint src).2 / 2 ^ (computeFit src p).record.k) p.eyeLine (computeFit src p).step)
    (originMin (computeFit src p).offset)
    (originMax (computeFit src p).reducedH p.cellHeight (computeFit src p).step (computeFit src p).offset) := rfl

/-- The final origins less the shifts are the computed ones (R79, R83). -/
theorem computeFit_unshifted :
    (computeFit src p).record.x0 - (computeFit src p).record.shiftX =
      computedOrigin ((markPoint src).1 / 2 ^ (computeFit src p).record.k) p.centreColumn (computeFit src p).step ∧
    (computeFit src p).record.y0 - (computeFit src p).record.shiftY =
      computedOrigin ((markPoint src).2 / 2 ^ (computeFit src p).record.k) p.eyeLine (computeFit src p).step :=
  ⟨sub_sub_cancel _ _, sub_sub_cancel _ _⟩

/-- PAD moves no origin (R82). -/
theorem computeFit_pad (h : p.edge = .pad) :
    (computeFit src p).record.shiftX = 0 ∧ (computeFit src p).record.shiftY = 0 := by
  obtain ⟨hx, hy⟩ := computeFit_unshifted src p
  have hx0 := computeFit_x0 src p
  have hy0 := computeFit_y0 src p
  rw [h] at hx0 hy0
  simp only [finalOrigin] at hx0 hy0
  omega

theorem computeFit_scaleClamped :
    hasNote (computeFit src p).record.notes .scaleClamped = true ↔ (computeFit src p).record.s ≠ rawScale src p := by
  simp [computeFit, hasNote_or, hasNote_noteIf]

theorem computeFit_shifted : hasNote (computeFit src p).record.notes .shifted = true ↔
    (computeFit src p).record.shiftX ≠ 0 ∨ (computeFit src p).record.shiftY ≠ 0 := by
  simp [computeFit, hasNote_or, hasNote_noteIf]

/-- A fit is PADDED exactly where a window of its tile is not in range (R84). -/
theorem computeFit_padded (hw : 0 < p.cellWidth) (hh : 0 < p.cellHeight) :
    hasNote (computeFit src p).record.notes .padded = true ↔
      ¬ WindowInRange (computeFit src p).reducedW p.cellWidth (computeFit src p).step (computeFit src p).offset
        (computeFit src p).record.x0 ∨
      ¬ WindowInRange (computeFit src p).reducedH p.cellHeight (computeFit src p).step (computeFit src p).offset
        (computeFit src p).record.y0 := by
  rw [windowInRange_iff hw, windowInRange_iff hh, not_and_or, not_and_or, not_le, not_le, not_le, not_le, or_assoc]
  simp [computeFit, hasNote_or, hasNote_noteIf]

end

/-- Settles O59: the scale by `halvings_least` and `effective_le`, the origins by `finalOrigin_shifted`, and the notes by the
windows of the two axes. -/
theorem fitInRange : Obligations.FitInRange := by
  intro src p f raw hw1 hw2 hh1 hh2 hcw1 hcw2 hch1 hch2 ht1 ht2 hel hcc hs1 hs2 hmarks hf hraw
  have hs : f.record.s = max 1024 (min p.maxScale raw) := by
    rw [hf, hraw]
    exact clampScale_eq _ hs1
  obtain ⟨hk5, hlarge, hleast⟩ := halvings_least (s := f.record.s) (by omega)
  have heff : f.record.s * 2 ^ halvings f.record.s ≤ 131072 := effective_le (by omega) (by omega)
  have hk : f.record.k = halvings f.record.s := by rw [hf]; rfl
  have hW : f.reducedW = src.width / 2 ^ f.record.k := by rw [hf]; rfl
  have hH : f.reducedH = src.height / 2 ^ f.record.k := by rw [hf]; rfl
  have hstep : f.step = stepOf (f.record.s * 2 ^ f.record.k) := by rw [hf]; rfl
  rw [← hk] at hk5 hlarge hleast heff
  obtain ⟨hstep1, hstep2⟩ := stepOf_range hlarge heff
  obtain ⟨hx, hy⟩ := computeFit_unshifted src p
  refine ⟨?_, hs, hk5, hlarge, heff, hleast, hW, hH, hW ▸ reduced_ge hw1 hk5, hH ▸ reduced_ge hh1 hk5, by omega, by omega,
    by rw [hf]; rfl, hstep, ?_, ?_, ?_, ?_, ?_, ?_, ?_, ?_⟩
  · rw [hraw]
    cases hm : src.marks with
    | full crown chin eye centre =>
      rw [hm] at hmarks
      obtain ⟨-, -, hspan, -⟩ := hmarks
      simp only [rawScale, headSpan, hm]
      exact roundDiv_bounds _ (by omega)
    | eyes eye left right => simp only [rawScale, headSpan, hm, roundDiv]
    | none => simp only [rawScale, headSpan, hm, roundDiv]
  · intro xm ym hm
    have hpoint : markPoint src = (xm, ym) := by
      unfold markPoint
      split at hm <;> obtain ⟨rfl, rfl⟩ := hm <;> simp only [*]
    rw [hf, hx, hy, hpoint]
    exact ⟨rfl, rfl⟩
  · intro h
    rw [hf]
    exact computeFit_pad src p h
  · intro h hex
    rw [hf] at hex ⊢
    rw [computeFit_x0, h]
    exact finalOrigin_inRange (by omega) hex
  · intro h hex
    rw [hf] at hex ⊢
    rw [computeFit_y0, h]
    exact finalOrigin_inRange (by omega) hex
  · intro h
    rw [hf, hx, hy, computeFit_x0, computeFit_y0, h]
    exact ⟨finalOrigin_shifted .., finalOrigin_shifted ..⟩
  · rw [hf, computeFit_padded src p (by omega) (by omega), not_windowInRange_iff, not_windowInRange_iff]
  · rw [hf]
    exact computeFit_shifted src p
  · rw [hf, computeFit_scaleClamped, hraw]
    exact clampScale_ne_iff _ hs1

end Sys2Proof.Machine
end

section
/-! The pixels of a band: paintings in their order, glyph rows, captions and banners, cells and frame placements, blends (R86,
R127 to R132, R137 to R141). -/

namespace Sys2Proof.Machine

/-! ## Rectangles and bytes -/

theorem rectHas_iff (r : Rect) (x y : Int) :
    rectHas r x y = true ↔ r.x ≤ x ∧ x < r.x + r.w ∧ r.y ≤ y ∧ y < r.y + r.h := decide_eq_true_iff

/-- A rectangle cut by a clip and a band holds the pixels that all three hold (R52, R137). -/
theorem rectHas_meet_meet (p q r : Rect) (x y : Int) : rectHas (rectMeet (rectMeet p q) r) x y = true ↔
    p.x ≤ x ∧ x < p.x + p.w ∧ p.y ≤ y ∧ y < p.y + p.h ∧ rectHas q x y = true ∧ rectHas r x y = true := by
  rw [rectHas_meet, rectHas_meet, rectHas_iff p]
  tauto

theorem byteAt_slice (bs : List Byte) (i : Nat) {j n : Nat} (h : j < n) : byteAt (slice bs i n) j = byteAt bs (i + j) := by
  simp [byteAt, slice, List.getD_eq_getElem?_getD, h]

/-- The bytes of a raster of colours, row by row from the top. -/
def rasterBytes (w h : Nat) (g : Nat → Nat → Colour) : List Byte :=
  (List.range h).flatMap fun r => (List.range w).flatMap fun x => colourBytes (g r x)

section
variable (w h : Nat) (g : Nat → Nat → Colour)

theorem rasterBytes_row (r : Nat) : ((List.range w).flatMap fun x => colourBytes (g r x)).length = w * 3 := by
  rw [flatMap_length_const _ _ 3 fun _ _ => rfl, List.length_range]

theorem rasterBytes_length : (rasterBytes w h g).length = 3 * (w * h) := by
  rw [rasterBytes, flatMap_length_const _ _ (w * 3) fun r _ => rasterBytes_row w g r, List.length_range]
  ring

/-- The three bytes of a colour of a raster stand at its place. -/
theorem rasterBytes_colourAt {r x : Nat} (hx : x < w) (hr : r < h) :
    colourAt (rasterBytes w h g) (3 * (r * w + x)) = g r x := by
  have hat : ∀ j < 3, byteAt (rasterBytes w h g) (3 * (r * w + x) + j) = byteAt (colourBytes (g r x)) j := fun j hj => by
    have hplace : 3 * (r * w + x) + j = r * (w * 3) + (x * 3 + j) := by ring
    rw [byteAt, byteAt, List.getD_eq_getElem?_getD, List.getD_eq_getElem?_getD, hplace, rasterBytes,
      flatMap_at _ _ (w * 3) r (x * 3 + j) r (fun r _ => rasterBytes_row w g r) (List.getElem?_range hr) (by omega),
      flatMap_at _ _ 3 x j x (fun _ _ => rfl) (List.getElem?_range hx) hj]
  have h0 := hat 0 (by omega)
  rw [Nat.add_zero] at h0
  rw [colourAt, h0, hat 1 (by omega), hat 2 (by omega)]
  rfl

end

/-! ## Paintings in their order (R137) -/

section
variable {x y : Int} {bg : Colour}

@[simp] theorem painted_nil : painted [] x y bg = bg := rfl

@[simp] theorem painted_cons (op : PaintOp) (ops : List PaintOp) :
    painted (op :: ops) x y bg = painted ops x y (op.apply x y bg) := rfl

@[simp] theorem painted_append (ops ops' : List PaintOp) :
    painted (ops ++ ops') x y bg = painted ops' x y (painted ops x y bg) := List.foldl_append

theorem painted_flatMap {α : Type} (l : List α) (f : α → List PaintOp) :
    painted (l.flatMap f) x y bg = l.foldl (fun c a => painted (f a) x y c) bg := List.foldl_flatMap

/-- A painting leaves the pixels that it does not cover. -/
theorem PaintOp.apply_uncovered {op : PaintOp} (h : op.covers x y = false) : op.apply x y bg = bg := by
  unfold PaintOp.apply
  rw [h, if_neg Bool.false_ne_true]

theorem PaintOp.apply_fill (area : Rect) (c : Colour) :
    (PaintOp.fill area c).apply x y bg = if rectHas area x y = true then c else bg := rfl

/-- Paintings leave a pixel that none of them covers. -/
theorem painted_uncovered {ops : List PaintOp} (h : ∀ op ∈ ops, op.covers x y = false) : painted ops x y bg = bg := by
  induction ops with
  | nil => rfl
  | cons op ops ih =>
    rw [painted_cons, PaintOp.apply_uncovered (h op (by simp)), ih fun o ho => h o (by simp [ho])]

/-- Paintings of which one alone covers a pixel give it the colour of that one. -/
theorem painted_single {ops : List PaintOp} {op : PaintOp} (hn : ops.Nodup) (hmem : op ∈ ops)
    (h : ∀ o ∈ ops, o ≠ op → o.covers x y = false) : painted ops x y bg = op.apply x y bg := by
  obtain ⟨before, after, rfl⟩ := List.append_of_mem hmem
  have hout := (List.nodup_middle.1 hn).notMem
  rw [List.mem_append, not_or] at hout
  rw [painted_append, painted_cons, painted_uncovered (ops := before), painted_uncovered (ops := after)]
  · exact fun o ho => h o (by simp [ho]) fun heq => hout.2 (heq ▸ ho)
  · exact fun o ho => h o (by simp [ho]) fun heq => hout.1 (heq ▸ ho)

end

/-! ## Glyphs, captions and banners (R127 to R130) -/

/-- The painting of one row of a glyph. -/
def Glyph.rowOp (g : Glyph) (area : Rect) (set : Fin 3) (pen top : Int) (colour : Colour) (row : Nat) : PaintOp :=
  .glyphRow area pen (top + row) colour (slice g.alpha (row * g.width) g.width) set g.code

section
variable {area : Rect} {g : Glyph} {height row : Nat} {set : Fin 3} {pen top x y : Int} {colour bg : Colour}

/-- A glyph's row has an alpha value for each of its pixels (R129, R215). -/
theorem Glyph.row_length (h : g.alpha.length = g.width * height) (hr : row < height) :
    (slice g.alpha (row * g.width) g.width).length = g.width := by
  have hfit : (row + 1) * g.width ≤ height * g.width := Nat.mul_le_mul_right _ hr
  rw [Nat.succ_mul, Nat.mul_comm height] at hfit
  simp only [slice, List.length_take, List.length_drop, h]
  omega

theorem Glyph.rowOp_covers (h : g.alpha.length = g.width * height) (hr : row < height) :
    (g.rowOp area set pen top colour row).covers x y = true ↔
      rectHas area x y = true ∧ y = top + row ∧ pen ≤ x ∧ x < pen + g.width := by
  simp only [Glyph.rowOp, PaintOp.covers, Bool.and_eq_true, decide_eq_true_eq, g.row_length h hr]

theorem Glyph.rowOp_apply (h : g.alpha.length = g.width * height) (hr : row < height)
    (hc : (g.rowOp area set pen top colour row).covers x y = true) : (g.rowOp area set pen top colour row).apply x y bg =
      blendColour colour bg (byteAt g.alpha ((y - top).toNat * g.width + (x - pen).toNat)).toNat := by
  obtain ⟨-, hy, hx, hx'⟩ := (g.rowOp_covers h hr).1 hc
  have hrow : (y - top).toNat = row := by omega
  unfold PaintOp.apply
  rw [if_pos hc, hrow, ← byteAt_slice g.alpha _ (by omega : (x - pen).toNat < g.width)]
  rfl

/-- A glyph blends each pixel of its rows that lies in the area by its alpha value, and leaves every other (R129, R130). -/
theorem painted_glyphOps (h : g.alpha.length = g.width * height) :
    painted (glyphOps area g height set pen top colour) x y bg =
      if rectHas area x y = true ∧ top ≤ y ∧ y < top + height ∧ pen ≤ x ∧ x < pen + g.width then
        blendColour colour bg (byteAt g.alpha ((y - top).toNat * g.width + (x - pen).toNat)).toNat else bg := by
  unfold glyphOps
  by_cases hw : g.width = 0
  · rw [if_pos hw, if_neg (by omega)]
    rfl
  rw [if_neg hw]
  change painted (List.map (g.rowOp area set pen top colour) _) x y bg = _
  by_cases hin : rectHas area x y = true ∧ top ≤ y ∧ y < top + height ∧ pen ≤ x ∧ x < pen + g.width
  · obtain ⟨harea, hy, hy', hx, hx'⟩ := hin
    obtain ⟨-, -, hay, hay'⟩ := (rectHas_iff area x y).1 harea
    have hr : (y - top).toNat < height := by omega
    have hcovers := (g.rowOp_covers (area := area) (set := set) (pen := pen) (top := top) (colour := colour) (x := x) (y := y)
      h hr).2 ⟨harea, by omega, hx, hx'⟩
    rw [if_pos ⟨harea, hy, hy', hx, hx'⟩, painted_single (op := g.rowOp area set pen top colour (y - top).toNat),
      g.rowOp_apply h hr hcovers]
    · refine (List.Nodup.filter _ List.nodup_range).map fun i j hij => ?_
      simpa [Glyph.rowOp] using (PaintOp.glyphRow.inj hij).2.2.1
    · exact List.mem_map_of_mem (List.mem_filter.2 ⟨List.mem_range.2 hr, decide_eq_true (by omega)⟩)
    · intro o ho hne
      obtain ⟨row, hrow, rfl⟩ := List.mem_map.1 ho
      rw [← Bool.not_eq_true, g.rowOp_covers h (List.mem_range.1 (List.mem_filter.1 hrow).1)]
      rintro ⟨-, hy, -⟩
      exact hne (congrArg _ (by omega))
  · rw [if_neg hin]
    refine painted_uncovered fun o ho => ?_
    obtain ⟨row, hrow, rfl⟩ := List.mem_map.1 ho
    have hr := List.mem_range.1 (List.mem_filter.1 hrow).1
    rw [← Bool.not_eq_true, g.rowOp_covers h hr]
    rintro ⟨harea, hy, hx, hx'⟩
    exact hin ⟨harea, by omega, by omega, hx, hx'⟩

end

section
variable {area : Rect} {map : List Glyph} {height : Nat} {set : Fin 3} {pen top x y : Int} {colour bg : Colour}
  {g : DrawnGlyph} {rest : List DrawnGlyph}

/-- A glyph that the map does not hold paints nothing, and the pen moves on (R129). -/
theorem lineOps_absent (h : ∀ d ∈ map, d.code ≠ g.code) : lineOps area map height set pen top colour (g :: rest) =
    lineOps area map height set (pen + g.advance) top colour rest := by
  have hfind : (map.find? fun d => d.code == g.code) = none := List.find?_eq_none.2 fun d hd => by simpa using h d hd
  rw [lineOps, hfind]
  rfl

theorem lineOps_found {d : Glyph} (h : (map.find? fun d => d.code == g.code) = some d) :
    lineOps area map height set pen top colour (g :: rest) = glyphOps area d height set pen top colour ++
      lineOps area map height set (pen + g.advance) top colour rest := by
  rw [lineOps, h]

end

namespace State

/-- The part of a cell's caption area that is painted in a band (R127, R129). -/
def captionArea (s : State) (band : Rect) (c : Cell) : Rect :=
  let p := s.profileOf c.profile
  rectMeet (rectMeet ⟨c.rect.x, c.rect.y + p.cellHeight + p.captionGap, p.cellWidth,
    p.lines * (s.glyphSetOf p.glyphSet).lineHeight⟩ c.clip) band

/-- The part of a banner's box that is painted in a band (R128, R141). -/
def bannerArea (s : State) (band : Rect) (f : BannerFrame) : Rect :=
  rectMeet (rectMeet ⟨f.x, f.y, f.boxWidth, (s.glyphSetOf f.set).lineHeight⟩ f.clip) band

/-- A caption paints line `i` at `i` line heights below the top of its area (R127). -/
theorem captionOps_eq (s : State) (band : Rect) (c : Cell) : s.captionOps band c = c.caption.zipIdx.flatMap fun (l, i) =>
    lineOps (s.captionArea band c) (s.glyphSetOf (s.profileOf c.profile).glyphSet).map
      (s.glyphSetOf (s.profileOf c.profile).glyphSet).lineHeight (s.profileOf c.profile).glyphSet (c.rect.x + l.offset)
      (c.rect.y + (s.profileOf c.profile).cellHeight + (s.profileOf c.profile).captionGap +
        i * (s.glyphSetOf (s.profileOf c.profile).glyphSet).lineHeight) (s.profileOf c.profile).captionColour l.glyphs := rfl

end State

/-! ## Cells (R139, R140) -/

section
variable {s : State} {k : Ticket} {band : Rect} {c : Cell} {x y : Int} {bg : Colour}

theorem tileArea_has : rectHas (s.tileArea band c) x y = true ↔
    c.rect.x ≤ x ∧ x < c.rect.x + (s.profileOf c.profile).cellWidth ∧ c.rect.y ≤ y ∧
      y < c.rect.y + (s.profileOf c.profile).cellHeight ∧ rectHas c.clip x y = true ∧ rectHas band x y = true :=
  rectHas_meet_meet ..

/-- Outside its tile area a cell paints its caption alone. -/
theorem painted_cellOps_outside (h : ¬ rectHas (s.tileArea band c) x y = true) : painted (s.cellOps k band c) x y bg =
    if c.kind = .empty then bg else painted (s.captionOps band c) x y bg := by
  have hfill : ∀ colour, (PaintOp.fill (s.tileArea band c) colour).apply x y bg = bg := fun _ => if_neg h
  have htile : ∀ tx ty w bs p, (PaintOp.tile (s.tileArea band c) tx ty w bs p).apply x y bg = bg := fun _ _ _ _ _ => if_neg h
  unfold State.cellOps
  cases hk : c.kind with
  | empty => simp [hfill]
  | placeholder => simp [hfill]
  | portrait => cases c.ref <;> simp [htile]

theorem painted_cellOps_empty (h : rectHas (s.tileArea band c) x y = true) (hk : c.kind = .empty) :
    painted (s.cellOps k band c) x y bg = k.background := by
  simp only [State.cellOps, hk, painted_cons, painted_nil, PaintOp.apply_fill, if_pos h]

theorem painted_cellOps_placeholder (h : rectHas (s.tileArea band c) x y = true) (hk : c.kind = .placeholder) :
    painted (s.cellOps k band c) x y bg = painted (s.captionOps band c) x y (s.profileOf c.profile).placeholder := by
  simp only [State.cellOps, hk, painted_cons, PaintOp.apply_fill, if_pos h]

theorem painted_cellOps_portrait {r : TileRef} (h : rectHas (s.tileArea band c) x y = true) (hk : c.kind = .portrait)
    (hr : c.ref = some r) : painted (s.cellOps k band c) x y bg = painted (s.captionOps band c) x y
      (colourAt (s.store.tileOf r).1
        (3 * ((y - c.rect.y).toNat * (s.profileOf c.profile).cellWidth + (x - c.rect.x).toNat))) := by
  simp only [State.cellOps, hk, hr, List.singleton_append, painted_cons]
  rw [Nat.mul_comm 3]
  exact congrArg _ (if_pos h)

end

/-! ## Frame placements and damaged glyphs (R131, R137) -/

/-- With no row kept, every row of the glyph is left out. -/
theorem keepFirstRows_zero (set : Fin 3) (code : Code) (ops : List PaintOp) :
    keepFirstRows set code 0 ops = ops.filter fun op => !op.isRowOf set code := by
  induction ops with
  | nil => rfl
  | cons op ops ih =>
    rw [keepFirstRows, List.filter_cons, ih]
    cases op.isRowOf set code <;> rfl

/-! ## Blends (R86, R130) -/

theorem blendAlpha_toNat (fg bg : Byte) {a : Nat} (h : a ≤ 255) :
    (blendAlpha fg bg a).toNat = (fg.toNat * a + bg.toNat * (255 - a) + 127) / 255 := by
  have hfg : fg.toNat * a ≤ 255 * a := Nat.mul_le_mul_right _ (by omega)
  have hbg : bg.toNat * (255 - a) ≤ 255 * (255 - a) := Nat.mul_le_mul_right _ (by omega)
  rw [blendAlpha, BitVec.toNat_ofNat]
  exact Nat.mod_eq_of_lt (by omega)

theorem blendAlpha_zero (fg bg : Byte) : blendAlpha fg bg 0 = bg := by
  apply BitVec.eq_of_toNat_eq
  rw [blendAlpha_toNat _ _ (by omega)]
  omega

theorem blendAlpha_full (fg bg : Byte) : blendAlpha fg bg 255 = fg := by
  apply BitVec.eq_of_toNat_eq
  rw [blendAlpha_toNat _ _ (by omega)]
  omega

theorem blendStep_same (p : Byte) {f : Nat} (h : f ≤ 256) : blendStep p p f = p := by
  apply BitVec.eq_of_toNat_eq
  rw [blendStep_toNat _ _ _ h, ← Nat.mul_add, Nat.sub_add_cancel h]
  omega

theorem blendStep_zero (p q : Byte) : blendStep p q 0 = p := by
  apply BitVec.eq_of_toNat_eq
  rw [blendStep_toNat _ _ _ (by omega)]
  omega

/-- Settles O60: fills and tiles by the area they cover, glyphs by `painted_glyphOps`, bands by `rasterBytes_colourAt`. -/
theorem pixelsPainted : Obligations.PixelsPainted := by
  refine ⟨?_, ?_, ?_, ?_, ?_, ?_, ?_, fun fg bg a => rfl, fun fg bg a h => blendAlpha_toNat fg bg h,
    fun fg bg => ⟨blendAlpha_zero fg bg, blendAlpha_full fg bg⟩,
    fun p q f h => ⟨blendStep_toNat p q f (by omega), blendStep_same p (by omega), blendStep_zero p q⟩, ?_⟩
  · intro s k b cells r x y bg hband
    simp only [State.frameOps, painted_cons, painted_nil, PaintOp.apply_fill, rectHas_meet_meet, hband, rectHas_iff r.clip,
      and_true]
  · intro s k band c p x y bg hp hband
    subst hp
    refine ⟨fun hout => painted_cellOps_outside fun h => hout ?_, fun hx hx' hy hy' hclip => ?_⟩
    · obtain ⟨hx, hx', hy, hy', hclip, -⟩ := tileArea_has.1 h
      exact ⟨hx, hx', hy, hy', hclip⟩
    · have hin : rectHas (s.tileArea band c) x y = true := tileArea_has.2 ⟨hx, hx', hy, hy', hclip, hband⟩
      refine ⟨painted_cellOps_empty hin, painted_cellOps_placeholder hin, fun r hk hr => ?_⟩
      rw [painted_cellOps_portrait hin hk hr]
      cases r <;> rfl
  · intro s k band cells g i x y bg
    refine ⟨painted_flatMap _ _, fun d hd => ?_⟩
    obtain ⟨hi, hd⟩ := List.getElem?_eq_some_iff.1 hd
    rw [State.frameOps, List.drop_eq_getElem_cons hi, hd]
    simp
  · intro s band c p set top hp hset htop
    subst hp hset htop
    refine ⟨s.captionArea band c, fun x y => rectHas_meet_meet _ c.clip band x y, fun h => ?_, fun l h => ?_,
      fun l m h => ?_⟩ <;>
      simp [State.captionOps_eq, h]
  · intro s k band cells f set hset
    subst hset
    refine ⟨s.bannerArea band f, fun x y => rectHas_meet_meet _ f.clip band x y, fun h => ?_, fun l h => ?_⟩ <;>
      simp [State.frameOps, State.bannerOps, State.bannerArea, h]
  · intro area map height set pen top colour g rest x y bg
    refine ⟨rfl, fun h => by rw [lineOps_absent h], fun d hd hl => ?_⟩
    rw [lineOps_found hd, painted_append, painted_glyphOps hl]
  · intro s sh k b x y bg
    refine ⟨fun h => ?_, fun z hz hb => ?_⟩
    · rw [State.bandOps, h]
      exact painted_flatMap _ _
    · rw [State.bandOps, hz, List.foldl_cons, List.foldl_nil, silence, if_pos hb, keepFirstRows_zero]
  · intro k b ops
    exact ⟨rasterBytes_length .., fun x r hx hr => rasterBytes_colourAt _ _ _ hx hr⟩

end Sys2Proof.Machine
end

section
/-! RESULT: what it decides by the link's state (R109, R148, R152, R158, R160, R174, R177). -/

namespace Sys2Proof.Machine

/-- The terms of a sheet made speak of the orders, the planner, the press mode, the walker, the store, the Builder and the
port. -/
theorem SheetMade.congr {s s' t : State} {sl : SheetSlot} {sh : Sheet} {k : Ticket} (h : SheetMade s t sl sh k)
    (hc : s'.control = s.control) (hpl : s'.planner = s.planner) (hwin : s'.window = s.window)
    (hw : s'.walker = s.walker) (hs : s'.store = s.store) (hb : s'.builder = s.builder) (hp : s'.port = s.port) :
    SheetMade s' t sl sh k := by
  have hwalk : WalkerUnblocked s t → WalkerUnblocked s' t := fun x => x.congr (by rw [hw]) (by rw [hw]) rfl rfl
  have hres : s'.orderResults sl = s.orderResults sl := State.orderResults_of_queue (by rw [hc]) sl
  constructor <;> simp only [hc, hres, hpl, hwin]
  case done => exact fun h1 h2 => (h.done h1 h2).imp_right (And.imp_right hwalk)
  case partialRoster => exact fun h1 h2 h3 => (h.partialRoster h1 h2 h3).imp_right (And.imp_right hwalk)
  case next => exact h.next
  case nextRefused =>
    exact fun l r h1 h2 h3 h4 h5 h6 h7 h8 h9 =>
      (h.nextRefused l r h1 h2 h3 h4 h5 h6 h7 h8 h9).imp_right (And.imp_right (And.imp_right hwalk))
  case nextPlanned => exact h.nextPlanned
  case report => exact h.report
  case released => exact fun h1 => (h.released h1).congr hs hb (by rw [hp]) rfl rfl rfl

/-! ## What each code makes of the sheet -/

namespace State

section
variable {s : State} {h : LinkHold} {sh : Sheet} {k : Ticket}

/-- A printed sheet is made, its link CLOSED (R160, R174). -/
theorem printed_made (hin : InHand s h.attempt sh k) (hw : s.writerServes h.attempt.slot = false) :
    SheetMade s (s.printed h) h.attempt.slot sh k := by
  have hu : InHand s.linkClose h.attempt sh k := hin.congr (by simp)
  have hmade := s.linkClose.finishSheet_made h.attempt.slot sh k hu.sheet hu.ticket hu.ending rfl hw
  exact hmade.congr (by simp) (by simp) (by simp) (by simp) (by simp) (by simp) (by simp)

/-- A sheet that the press spoils: the link lets its attempt go with no ABORT, and the spoil is reported (R158, R160). -/
theorem pressSpoils_spec (hin : InHand s h.attempt sh k) (cause : Detail) :
    Spoiled s (s.pressSpoils h cause) h.attempt sh k cause ∧
      (s.pressSpoils h cause).link = Link.closedWith s.link.config s.link.ready ∧
      (s.pressSpoils h cause).composer.attempt ≠ some h.attempt ∧
      BuffersEnded s (s.pressSpoils h cause) h.attempt s.link.sending ∧ (s.pressSpoils h cause).writer = s.writer ∧
      (s.pressSpoils h cause).out = s.out := by
  obtain ⟨hlink, hatt, hbuf⟩ := s.dropAttempt_spec h.attempt
  have hu : InHand (s.dropAttempt h.attempt) h.attempt sh k := hin.congr (by simp)
  have hspoil := (s.dropAttempt h.attempt).spoil_spec h.attempt sh k cause hu
  have hcomposer : (s.pressSpoils h cause).composer = (s.dropAttempt h.attempt).composer := by simp [pressSpoils]
  refine ⟨hspoil.congr (by simp) (by simp) (by simp) (by simp) (by simp), by simp [pressSpoils, hlink],
    by rwa [hcomposer], hbuf.congr rfl hcomposer, by simp [pressSpoils], by simp [pressSpoils]⟩

/-! ## The message (R148) -/

theorem takesMessage_live (hm : h.mode = .live) (ha : s.link.abortPending = false) :
    s.takesMessage h h.sheetId = true := by
  simp [takesMessage, hm, ha]

theorem exec_result_printed (hh : s.link.held = some h) (ht : s.takesMessage h h.sheetId = true)
    (hs : s.link.state = .closing) : exec (.result h.sheetId .printed) s = .next (s.printed h) := by
  refine congrArg Host.Outcome.next ?_
  simp [hh, ht, hs]

theorem exec_result_rejected (hh : s.link.held = some h) (ht : s.takesMessage h h.sheetId = true)
    (hs : s.link.state = .opening ∨ s.link.state = .streaming ∨ s.link.state = .closing) :
    exec (.result h.sheetId .rejected) s = .next (s.pressRejects h) := by
  refine congrArg Host.Outcome.next ?_
  rcases hs with hs | hs | hs <;> simp [hh, ht, hs]

theorem exec_result_jammed (hh : s.link.held = some h) (ht : s.takesMessage h h.sheetId = true)
    (hs : s.link.state = .streaming ∨ s.link.state = .closing) :
    exec (.result h.sheetId .jammed) s = .next (s.pressSpoils h .jammed) := by
  refine congrArg Host.Outcome.next ?_
  rcases hs with hs | hs <;> simp [hh, ht, hs]

theorem exec_result_mediaOut (hh : s.link.held = some h) (ht : s.takesMessage h h.sheetId = true)
    (hs : s.link.state = .streaming ∨ s.link.state = .closing) :
    exec (.result h.sheetId .mediaOut) s = .next (s.pressSpoils h .mediaOut) := by
  refine congrArg Host.Outcome.next ?_
  rcases hs with hs | hs <;> simp [hh, ht, hs]

/-- A message that the link does not take is discarded (R148, R156, R165). -/
theorem exec_result_untaken {id : BitVec 32} {code : PressCode}
    (hn : ∀ h, s.link.held = some h → s.takesMessage h id = false) : exec (.result id code) s = .next s := by
  refine congrArg Host.Outcome.next ?_
  cases hh : s.link.held with
  | none => rfl
  | some h => simp [hn h hh]

/-- A code that the link's state gives no effect is discarded (R152, R158). -/
theorem exec_result_noEffect {id : BitVec 32} {code : PressCode} (hs : s.link.state = .closed ∨
    s.link.state = .awaitReady ∨ (s.link.state = .opening ∧ code ≠ .rejected) ∨
      (s.link.state = .streaming ∧ code = .printed)) : exec (.result id code) s = .next s := by
  refine congrArg Host.Outcome.next ?_
  cases s.link.held with
  | none => rfl
  | some h =>
    rcases hs with hs | hs | ⟨hs, hc⟩ | ⟨hs, rfl⟩
    · simp [hs]
    · simp [hs]
    · cases code <;> simp [hs] at hc ⊢
    · simp [hs]

end

end State

/-- Settles O54: a made sheet is `printed_made`, a rejected one `dropped_ends`, a spoiled one `pressSpoils_spec`. -/
theorem resultTaken : Obligations.ResultTaken := by
  refine ⟨fun s h sh k hh hm ha hin hw => ?_, fun s id code hd => ?_⟩
  · have ht := State.takesMessage_live hm ha
    refine ⟨fun hs => ?_, fun hs => ?_, fun hs => ⟨?_, ?_⟩⟩
    · have hlink : (s.printed h).link = Link.closedWith s.link.config s.link.ready := by simp [State.printed, State.linkClose]
      exact ⟨_, State.exec_result_printed hh ht hs, State.printed_made hin hw, congrArg Link.state hlink,
        congrArg Link.held hlink, by rw [hlink]; rfl, by simp [State.printed], by simp [State.printed],
        by simp [State.printed]⟩
    · obtain ⟨hsheet, hqueue, hlink, hout, hatt, hbuf, hholds, hwalker, hwriter, -⟩ :=
        s.dropped_ends h.attempt sh k .refused .pressRejected hin hw
      exact ⟨_, State.exec_result_rejected hh ht hs, hsheet, hqueue, congrArg Link.state hlink, congrArg Link.held hlink,
        hatt, hbuf, hholds, hwalker, hwriter, hout⟩
    · obtain ⟨hspoil, hlink, hrest⟩ := State.pressSpoils_spec hin .jammed
      exact ⟨_, State.exec_result_jammed hh ht hs, hspoil, congrArg Link.state hlink, congrArg Link.held hlink, hrest⟩
    · obtain ⟨hspoil, hlink, hrest⟩ := State.pressSpoils_spec hin .mediaOut
      exact ⟨_, State.exec_result_mediaOut hh ht hs, hspoil, congrArg Link.state hlink, congrArg Link.held hlink, hrest⟩
  · rcases hd with hd | hd | hd
    · refine State.exec_result_untaken fun h hh => ?_
      rcases hd h hh with hid | hm
      · simp [State.takesMessage, hid]
      · simp [State.takesMessage, hm]
    · exact State.exec_result_untaken fun h _ => by simp [State.takesMessage, hd]
    · exact State.exec_result_noEffect hd

end Sys2Proof.Machine
end

section
/-! Builds that fail: the slot emptied, and the cells that carried it made placeholders (R106, R108, R172). -/

namespace Sys2Proof.Machine

/-! ## What a holder of the failed slot loses (R106) -/

/-- How many cells of a sheet carry a reference. -/
def Sheet.carriers (sh : Sheet) (ref : TileRef) : Nat := (sh.cells.filter fun c => decide (c.ref = some ref)).length

/-- A holder's sheet after the failure of a build: its cells that carried the slot are placeholders, and one build fewer is
pending. -/
def Sheet.failed (sh : Sheet) (ref : TileRef) : Sheet :=
  { sh with
    cells := sh.cells.map fun c => if c.ref = some ref then
      { c with kind := .placeholder, ref := none, notes := c.notes ||| 0x080#11 } else c
    pendingBuilds := sh.pendingBuilds - 1
    state := if sh.state = .filling ∧ sh.pendingBuilds ≤ 1 then .ready else sh.state }

theorem Sheet.lowerPending_unreadable (sh : Sheet) (ref : TileRef) :
    Sheet.lowerPending { sh with cells := sh.cells.map fun (c : Cell) => if c.uses ref then c.unreadable else c } =
      sh.failed ref := by
  simp only [Sheet.lowerPending, Sheet.failed, Cell.uses, Cell.unreadable, noteIf, Note.bit, beq_iff_eq,
    Nat.sub_eq_zero_iff_le, if_true]
  rfl

/-- The results of an order whose sheet's cells a failed build made placeholders. -/
def Results.failed (r : Results) (sh : Sheet) (ref : TileRef) : Results :=
  { r with counts := r.counts.add { Counts.zero with placeholders := sh.carriers ref } }

namespace State

section
variable {s : State} {sl : SheetSlot} {sh : Sheet} {ref : TileRef}

theorem failCells_free (h : s.sheet sl = none) : s.failCells sl ref = s := by
  simp [failCells, h]

theorem failCells_eq (h : s.sheet sl = some sh) : s.failCells sl ref =
    (s.setSheet sl (some (sh.failed ref))).addCounts sl { Counts.zero with placeholders := sh.carriers ref } := by
  rw [← Sheet.lowerPending_unreadable]
  simp only [failCells, h, Cell.uses_eq, Sheet.carriers]

/-- What the failure of a holder's cells makes of a slot. -/
theorem failCells_held (s : State) (ref : TileRef) (sl other : SheetSlot) : (s.failCells sl ref).held other =
    if other = sl then ((s.held sl).1.map (·.failed ref),
      (s.held sl).1.elim (s.held sl).2 fun sh => (s.held sl).2.map (·.failed sh ref)) else s.held other := by
  unfold held
  cases h : s.sheet sl with
  | none =>
    rw [failCells_free h]
    by_cases heq : other = sl <;> simp [heq, h]
  | some sh =>
    have hsheet : (s.failCells sl ref).sheet other = if other = sl then some (sh.failed ref) else s.sheet other := by
      rw [failCells_eq h, addCounts, mapResults, sheet_mapQueue, sheet_setSheet]
    have hresults : (s.failCells sl ref).orderResults other =
        if other = sl then (s.orderResults sl).map (·.failed sh ref) else s.orderResults other := by
      rw [failCells_eq h, addCounts, orderResults_mapResults, orderResults_setSheet, orderResults_setSheet]
      rfl
    rw [hsheet, hresults]
    by_cases heq : other = sl <;> simp [heq]

end

/-- What the failure makes of a slot, all holders served: one that holds is served once, any other stays as it was. -/
theorem foldl_failCells_held (ref : TileRef) (l : List SheetSlot) (hl : l.Nodup) (s : State) (sl : SheetSlot) :
    (l.foldl (fun s sl => s.failCells sl ref) s).held sl = if sl ∈ l then (s.failCells sl ref).held sl else s.held sl := by
  induction l generalizing s with
  | nil => rfl
  | cons x l ih =>
    obtain ⟨hx, hl⟩ := List.nodup_cons.1 hl
    rw [List.foldl_cons, ih hl]
    by_cases heq : sl = x
    · subst heq
      simp [hx]
    · simp [failCells_held, heq]

end State

/-! ## The failure (R106) -/

/-- The store with the slot of a failed build EMPTY, and a scratch slot's key out of its directory. -/
def TileStore.failed (t : TileStore) (ref : TileRef) : TileStore :=
  match ref with
  | .store i w => t.setSlot i w StoreSlot.blank
  | .scratch p i => t.setPool p
      { slots := (t.pool p).slots.set i.val ScratchSlot.blank i.isLt
        directory := (t.pool p).directory.filter fun d => d.2 != i }

@[simp] theorem TileStore.pool_setPool (t : TileStore) (p : SheetSlot) (x : ScratchPool) : (t.setPool p x).pool p = x := by
  cases p <;> rfl

namespace State

/-- The state in which the holders of a failed build learn of it: its slot EMPTY, its unit ended, the Builder IDLE. -/
def slotFailed (s : State) (b : Build) : State :=
  let u := if b.portDone then s else s.endUnit
  (u.setBuilder { s.builder with current := none }).setStore (s.store.failed b.entry.ref)

/-- The state after the failure of a build: each holder of the slot has learnt of it. -/
def buildFailed (s : State) (b : Build) : State :=
  (s.store.holdersOf b.entry.ref).foldl (fun s sl => s.failCells sl b.entry.ref) (s.slotFailed b)

theorem failBuild_eq (s : State) (e : BuildEntry) : s.failBuild e =
    (s.store.holdersOf e.ref).foldl (fun s sl => s.failCells sl e.ref) (s.setStore (s.store.failed e.ref)) := by
  unfold failBuild
  cases e.ref <;> rfl

theorem exec_buildFailure {s : State} {b : Build} (hb : s.builder.current = some b) (hf : b.failing = true) :
    exec .buildFailure s = .next (s.buildFailed b) := by
  have hbuilder : (if b.portDone then s else s.endUnit).builder = s.builder := by split <;> simp
  have hstore : (if b.portDone then s else s.endUnit).store = s.store := by split <;> simp
  refine congrArg Host.Outcome.next ?_
  simp only [hb, hf, if_true]
  rw [failBuild_eq, hbuilder, setBuilder_store, hstore]
  rfl

theorem slotFailed_control (s : State) (b : Build) : (s.slotFailed b).control = s.control := by
  simp only [slotFailed, setStore_control, setBuilder_control]
  split <;> simp

theorem slotFailed_held (s : State) (b : Build) (sl : SheetSlot) : (s.slotFailed b).held sl = s.held sl := by
  rw [held, sheet_of_control (s.slotFailed_control b),
    orderResults_of_queue (congrArg (·.queue) (s.slotFailed_control b)), held]

/-- What the failure makes of a holder's slot (R106, R108). -/
theorem buildFailed_holder {s : State} {b : Build} {sl : SheetSlot} {sh : Sheet} (hsh : s.sheet sl = some sh)
    (hsl : sl ∈ s.store.holdersOf b.entry.ref) : (s.buildFailed b).sheet sl = some (sh.failed b.entry.ref) ∧
      (s.buildFailed b).orderResults sl = (s.orderResults sl).map (·.failed sh b.entry.ref) := by
  have hfailed := foldl_failCells_held b.entry.ref _ (s.store.holdersOf_nodup b.entry.ref) (s.slotFailed b) sl
  rw [if_pos hsl, failCells_held, if_pos rfl, slotFailed_held] at hfailed
  simp only [held, hsh, Option.map_some, Option.elim_some, Prod.mk.injEq] at hfailed
  exact hfailed

/-- A slot that does not hold the build's slot keeps its sheet. -/
theorem buildFailed_other {s : State} {b : Build} {sl : SheetSlot} (hsl : sl ∉ s.store.holdersOf b.entry.ref) :
    (s.buildFailed b).sheet sl = s.sheet sl := by
  have hother := foldl_failCells_held b.entry.ref _ (s.store.holdersOf_nodup b.entry.ref) (s.slotFailed b) sl
  rw [if_neg hsl, slotFailed_held] at hother
  exact (Prod.mk.inj hother).1

/-- What the failure of a holder's cells keeps, the whole failure keeps. -/
theorem buildFailed_kept {γ : Type} (s : State) (b : Build) (g : State → γ)
    (hg : ∀ (u : State) (sl : SheetSlot), g (u.failCells sl b.entry.ref) = g u) :
    g (s.buildFailed b) = g (s.slotFailed b) :=
  foldl_keep _ g hg _ _

end State

/-- Settles O45: the state after the failure is `State.buildFailed`, its store `TileStore.failed`. -/
theorem buildFails : Obligations.BuildFails := by
  intro s b hb hf
  have hstore : (s.buildFailed b).store = s.store.failed b.entry.ref := s.buildFailed_kept b (·.store) (by simp)
  refine ⟨_, State.exec_buildFailure hb hf, s.buildFailed_kept b (·.builder) (by simp), fun i w h => ?_, fun p i h => ?_,
    fun sl sh hsh hsl => ?_, fun sl => State.buildFailed_other,
    (s.buildFailed_kept b (·.port) (by simp)).trans ?_, (s.buildFailed_kept b (·.window) (by simp)).trans ?_,
    (s.buildFailed_kept b (·.walker) (by simp)).trans ?_, (s.buildFailed_kept b (·.profiles) (by simp)).trans ?_,
    (s.buildFailed_kept b (·.composer) (by simp)).trans ?_, (s.buildFailed_kept b (·.check) (by simp)).trans ?_,
    (s.buildFailed_kept b (·.out) (by simp)).trans ?_⟩
  · rw [hstore, h, TileStore.failed]
    rfl
  · rw [hstore, h, TileStore.failed]
    refine ⟨by simp [ScratchSlot.blank], fun j hj => ?_, fun d hd => ?_, by simp⟩
    · simp [Fin.val_ne_of_ne hj.symm]
    · simpa using hd
  · obtain ⟨hsheet, hresults⟩ := State.buildFailed_holder hsh hsl
    exact ⟨hsheet, fun r hr => ⟨r.failed sh b.entry.ref, by rw [hresults, hr]; rfl, rfl⟩⟩
  all_goals simp only [State.slotFailed]; split <;> simp

end Sys2Proof.Machine
end

section
/-! Reading the tile store after an update: its slots, its LRU marks and its pools (sections 5.1, 5.3). -/

namespace Sys2Proof.Machine

@[simp] theorem otherWay_ne (w : Way) : otherWay w ≠ w := by cases w <;> simp [otherWay]

theorem eq_otherWay {v w : Way} (h : v ≠ w) : v = otherWay w := by
  cases v <;> cases w <;> simp [otherWay] at h ⊢

@[simp] theorem TileSet.way_setWay (t : TileSet) (w v : Way) (x : StoreSlot) :
    (t.setWay w x).way v = if v = w then x else t.way v := by
  cases w <;> cases v <;> simp [TileSet.setWay, TileSet.way]

@[simp] theorem TileSet.lru_setWay (t : TileSet) (w : Way) (x : StoreSlot) : (t.setWay w x).lru = t.lru := by
  cases w <;> rfl

/-- The LRU mark is no part of a way. -/
@[simp] theorem TileSet.way_withLru (t : TileSet) (l v : Way) : ({ t with lru := l } : TileSet).way v = t.way v := by
  cases v <;> rfl

namespace TileStore

variable (t : TileStore) (i j : Fin 128) (w v : Way) (p q : SheetSlot)

theorem sets_setSet (x : TileSet) : (t.setSet i x).sets[j] = if j = i then x else t.sets[j] := by
  simp only [setSet, Fin.getElem_fin, Vector.getElem_set, Fin.ext_iff, eq_comm (a := j.val)]

@[simp] theorem slot_setSet (x : TileSet) (v : Way) :
    (t.setSet i x).slot j v = if j = i then x.way v else t.slot j v := by
  rw [slot, sets_setSet]
  split <;> rfl

@[simp] theorem slot_setSlot (x : StoreSlot) :
    (t.setSlot i w x).slot j v = if j = i ∧ v = w then x else t.slot j v := by
  rw [setSlot, slot_setSet, TileSet.way_setWay]
  by_cases hj : j = i
  · subst hj
    by_cases hv : v = w <;> simp [hv, slot]
  · simp [hj]

@[simp] theorem lru_setSlot (x : StoreSlot) : (t.setSlot i w x).sets[j].lru = t.sets[j].lru := by
  rw [setSlot, sets_setSet]
  split
  next h => rw [TileSet.lru_setWay, h]
  next => rfl

theorem sets_setSlot_ne (h : j ≠ i) (x : StoreSlot) : (t.setSlot i w x).sets[j] = t.sets[j] := by
  rw [setSlot, sets_setSet, if_neg h]

@[simp] theorem pool_setSet (x : TileSet) : (t.setSet i x).pool p = t.pool p := by cases p <;> rfl

@[simp] theorem pool_setSlot (x : StoreSlot) : (t.setSlot i w x).pool p = t.pool p := by cases p <;> rfl

@[simp] theorem slot_setPool (x : ScratchPool) : (t.setPool p x).slot j v = t.slot j v := by
  simp [slot]

@[simp] theorem slot_setScratch (n : Fin 64) (x : ScratchSlot) : (t.setScratch p n x).slot j v = t.slot j v := by
  simp [slot]

theorem pool_setPool_ne (h : q ≠ p) (x : ScratchPool) : (t.setPool p x).pool q = t.pool q := by
  cases p <;> cases q <;> simp [pool, setPool] at h ⊢

end TileStore

@[simp] theorem State.mapSlot_slot (s : State) (i j : Fin 128) (w v : Way) (f : StoreSlot → StoreSlot) :
    (s.mapSlot i w f).store.slot j v = if j = i ∧ v = w then f (s.store.slot i w) else s.store.slot j v :=
  s.store.slot_setSlot i j w v _

theorem Holders.none_iff (h : Holders) : h.none = true ↔ h = ⟨false, false⟩ := by
  obtain ⟨a, b⟩ := h
  cases a <;> cases b <;> simp [Holders.none]

theorem Holders.join_none (sl : SheetSlot) : Holders.join ⟨false, false⟩ sl = ⟨sl == .a, sl == .b⟩ := by
  cases sl <;> rfl

@[simp] theorem Holders.has_join (h : Holders) (sl : SheetSlot) : (h.join sl).has sl = true := by cases sl <;> rfl

@[simp] theorem Holders.has_leave (h : Holders) (sl : SheetSlot) : (h.leave sl).has sl = false := by cases sl <;> rfl

/-- A slot that a sheet has left is not held by it. -/
@[simp] theorem StoreSlot.has_leave (x : StoreSlot) (sl : SheetSlot) : (x.leave sl).holders.has sl = false := by
  unfold StoreSlot.leave
  dsimp only
  split
  · cases sl <;> rfl
  · exact x.holders.has_leave sl

/-- A CONDEMNED slot that its only holder leaves is EMPTY (R93). -/
theorem StoreSlot.leave_last {x : StoreSlot} {sl : SheetSlot} (hs : x.state = .condemned)
    (hh : x.holders = ⟨sl == .a, sl == .b⟩) : x.leave sl = StoreSlot.blank := by
  unfold StoreSlot.leave
  rw [hs, hh]
  cases sl <;> rfl

/-- A sheet that leaves a slot empties it, or leaves its state as it is (R93). -/
theorem StoreSlot.leave_state (x : StoreSlot) (sl : SheetSlot) :
    (x.leave sl).state = .empty ∨ (x.leave sl).state = x.state := by
  unfold StoreSlot.leave
  dsimp only
  split
  · exact .inl rfl
  · exact .inr rfl

/-- A search finds slots that are FILLING or READY alone (R96). -/
theorem StoreSlot.answers_eq_false {x : StoreSlot} (h : x.state = .empty ∨ x.state = .condemned) (k : TileKey) :
    x.answers k = false := by
  rcases h with h | h <;> simp [StoreSlot.answers, h]

theorem StoreSlot.answers_congr {x y : StoreSlot} (hs : y.state = x.state) (hk : y.key = x.key) (k : TileKey) :
    y.answers k = x.answers k := by
  simp [StoreSlot.answers, hs, hk]

namespace TileSet

variable {t : TileSet} {k : TileKey} {w : Way}

theorem search_none_iff : t.search k = none ↔ ∀ w, (t.way w).answers k = false := by
  unfold search
  constructor
  · intro h w
    cases w <;> simp only [way] <;> split at h <;> simp_all
  · intro h
    simp [show t.way0.answers k = false from h .w0, show t.way1.answers k = false from h .w1]

/-- A set searches as its ways answer. -/
theorem search_congr {t' : TileSet} (h : ∀ w, (t'.way w).answers k = (t.way w).answers k) : t'.search k = t.search k := by
  unfold search
  rw [show t'.way0.answers k = t.way0.answers k from h .w0, show t'.way1.answers k = t.way1.answers k from h .w1]

/-- An EMPTY way is the victim when the other is not (R98). -/
theorem victim_only_empty (h : (t.way w).state = .empty) (h' : (t.way (otherWay w)).state ≠ .empty) :
    t.victim = some w := by
  cases w
  · exact if_pos h
  · exact (if_neg h').trans (if_pos h)

end TileSet

end Sys2Proof.Machine
end

section
/-! Lookups: which way one goes, and what each way does to the store, the build queue and the sheet (R95 to R100). -/

namespace Sys2Proof.Machine

namespace State

variable {s : State} {sl : SheetSlot} {k : TileKey} {src : Source} {w : Way} {sh : Sheet}

/-! ## The pending builds of a sheet (R108) -/

theorem raisePending_some (h : s.sheet sl = some sh) :
    (s.raisePending sl).sheet sl = some { sh with pendingBuilds := sh.pendingBuilds + 1 } := by
  rw [raisePending_sheet, h]
  rfl

theorem raisePending_other {other : SheetSlot} (h : other ≠ sl) : (s.raisePending sl).sheet other = s.sheet other := by
  rw [raisePending, sheet_mapSheet, if_neg h]

/-! ## Which way a lookup goes (R95, R99) -/

/-- A lookup for a key goes to the sheet's scratch pool: in BYPASS always, and on a miss in FROZEN or with both ways of the
key's set in use and held. -/
def GoesToScratch (s : State) (k : TileKey) : Prop :=
  s.store.mode = .bypass ∨ (s.store.sets[keySet k].search k = none ∧ (s.store.mode = .frozen ∨
    (s.store.sets[keySet k].way0.state ≠ .empty ∧ s.store.sets[keySet k].way1.state ≠ .empty ∧
      s.store.sets[keySet k].way0.holders ≠ ⟨false, false⟩ ∧ s.store.sets[keySet k].way1.holders ≠ ⟨false, false⟩)))

theorem lookup_found (hm : s.store.mode ≠ .bypass) (hw : s.store.sets[keySet k].search k = some w) :
    s.lookup sl k src = s.hitOrJoin sl k w := by
  unfold lookup
  cases h : s.store.mode
  case bypass => exact absurd h hm
  all_goals simp only [hw]

theorem lookup_fills (hm : s.store.mode = .normal) (hn : s.store.sets[keySet k].search k = none)
    (hv : s.store.sets[keySet k].victim = some w) : s.lookup sl k src = s.fillWay sl k src w := by
  simp only [lookup, hm, hn, hv]

theorem lookup_scratch (h : s.GoesToScratch k) : s.lookup sl k src = s.scratchLookup sl k src := by
  unfold lookup
  rcases h with h | ⟨hn, h | ⟨he0, he1, hh0, hh1⟩⟩
  · simp only [h]
  · simp only [h, hn]
  · have hheld (v : Way) : (s.store.sets[keySet k].way v).holders.none = false := by
      rw [Bool.eq_false_iff, ne_eq, Holders.none_iff]
      cases v
      · exact hh0
      · exact hh1
    have hv : s.store.sets[keySet k].victim = none := by
      rw [TileSet.victim, if_neg he0, if_neg he1, hheld, hheld]
      rfl
    cases s.store.mode <;> simp only [hn, hv]

/-- The ways a lookup can go. -/
theorem lookup_cases (s : State) (sl : SheetSlot) (k : TileKey) (src : Source) :
    (∃ w, s.lookup sl k src = s.hitOrJoin sl k w) ∨ s.lookup sl k src = s.scratchLookup sl k src ∨
      ∃ w, s.store.sets[keySet k].search k = none ∧ s.lookup sl k src = s.fillWay sl k src w := by
  unfold lookup
  split
  · exact .inr (.inl rfl)
  · split
    · exact .inl ⟨_, rfl⟩
    · exact .inr (.inl rfl)
  · split
    · exact .inl ⟨_, rfl⟩
    next hn =>
      split
      · exact .inr (.inr ⟨_, hn, rfl⟩)
      · exact .inr (.inl rfl)

end State

/-! ## Hits and joins (R96, R97) -/

/-- The store with a sheet among the holders of a slot. -/
def TileStore.joined (t : TileStore) (sl : SheetSlot) (i : Fin 128) (w : Way) : TileStore :=
  t.setSlot i w { t.slot i w with holders := (t.slot i w).holders.join sl }

/-- The store with another LRU mark in one set. -/
def TileStore.marked (t : TileStore) (i : Fin 128) (l : Way) : TileStore := t.setSet i { t.sets[i] with lru := l }

@[simp] theorem TileStore.marked_slot (t : TileStore) (i j : Fin 128) (l v : Way) :
    (t.marked i l).slot j v = t.slot j v := by
  rw [marked, slot_setSet, TileSet.way_withLru]
  split
  next h => rw [h]; rfl
  next => rfl

theorem TileStore.marked_lru (t : TileStore) (i : Fin 128) (l : Way) : (t.marked i l).sets[i].lru = l := by
  rw [marked, sets_setSet, if_pos rfl]

theorem TileStore.marked_sets_ne (t : TileStore) (l : Way) {i j : Fin 128} (h : j ≠ i) :
    (t.marked i l).sets[j] = t.sets[j] := by
  rw [marked, sets_setSet, if_neg h]

namespace State

variable {s : State} {sl : SheetSlot} {k : TileKey} {src : Source} {w : Way} {sh : Sheet}

/-- A hit answers with the fit record, and sets the LRU mark in NORMAL mode alone (R96, R99). -/
theorem hitOrJoin_hit (h : (s.store.slot (keySet k) w).state = .ready) : s.hitOrJoin sl k w =
    (s.setStore (if s.store.mode = .normal then (s.store.joined sl (keySet k) w).marked (keySet k) (otherWay w)
      else s.store.joined sl (keySet k) w), ⟨.store (keySet k) w, (s.store.slot (keySet k) w).fit⟩) := by
  simp only [hitOrJoin, h, if_true]
  split <;> rfl

/-- A join waits for the build that is on its way (R97). -/
theorem hitOrJoin_join (h : (s.store.slot (keySet k) w).state ≠ .ready) : s.hitOrJoin sl k w =
    ((s.setStore (s.store.joined sl (keySet k) w)).raisePending sl, ⟨.store (keySet k) w, none⟩) := by
  simp only [hitOrJoin, h, if_false]
  rfl

/-- A slot that a lookup finds gains the sheet as a holder; every other slot stays. -/
theorem hitOrJoin_slot (s : State) (sl : SheetSlot) (k : TileKey) (w : Way) (j : Fin 128) (v : Way) :
    (s.hitOrJoin sl k w).1.store.slot j v = (s.store.joined sl (keySet k) w).slot j v := by
  by_cases h : (s.store.slot (keySet k) w).state = .ready
  · rw [hitOrJoin_hit h, setStore_store]
    split
    · exact TileStore.marked_slot ..
    · rfl
  · rw [hitOrJoin_join h]
    simp

/-! ## Misses that fill a way (R98) -/

/-- A slot that a miss fills for a sheet. -/
def filledSlot (sl : SheetSlot) (k : TileKey) : StoreSlot := ⟨.filling, some k, ⟨sl == .a, sl == .b⟩, [], none, false⟩

/-- The set of a filled way. -/
theorem fillWay_set (s : State) (sl : SheetSlot) (k : TileKey) (src : Source) (w : Way) (j : Fin 128) :
    (s.fillWay sl k src w).1.store.sets[j] = if j = keySet k then
      { s.store.sets[keySet k].setWay w (filledSlot sl k) with lru := otherWay w } else s.store.sets[j] := by
  simp only [fillWay, raisePending_frame, appendBuild_frame, setStore_store, TileStore.sets_setSet, Holders.join_none]
  rfl

theorem fillWay_slot (s : State) (sl : SheetSlot) (k : TileKey) (src : Source) (w : Way) (j : Fin 128) (v : Way) :
    (s.fillWay sl k src w).1.store.slot j v = if j = keySet k ∧ v = w then filledSlot sl k else s.store.slot j v := by
  rw [TileStore.slot, fillWay_set]
  by_cases hj : j = keySet k
  · subst hj
    by_cases hv : v = w <;> simp [hv, TileStore.slot]
  · simp [hj, TileStore.slot]

theorem fillWay_builder (s : State) (sl : SheetSlot) (k : TileKey) (src : Source) (w : Way) :
    (s.fillWay sl k src w).1.builder = { s.builder with queue := s.builder.queue ++ [⟨.store (keySet k) w, k, src⟩] } := by
  simp [fillWay, appendBuild]

theorem fillWay_answer (s : State) (sl : SheetSlot) (k : TileKey) (src : Source) (w : Way) :
    (s.fillWay sl k src w).2 = ⟨.store (keySet k) w, none⟩ := rfl

theorem fillWay_some (h : s.sheet sl = some sh) : (s.fillWay sl k src w).1.sheet sl =
    some { sh with pendingBuilds := sh.pendingBuilds + 1 } := by
  rw [fillWay_sheet, h]
  rfl

/-! ## Scratch lookups (R100) -/

end State

/-- A pool with a slot that a lookup fills, its key added to the directory. -/
def ScratchPool.filled (pool : ScratchPool) (i : Fin 64) (k : TileKey) : ScratchPool :=
  { slots := pool.slots.set i.val ⟨.filling, some k, [], none, false⟩ i.isLt, directory := pool.directory ++ [(k, i)] }

section
variable {pool : ScratchPool} {k : TileKey} {i : Fin 64}

theorem ScratchPool.find_absent (h : ∀ e ∈ pool.directory, e.1 ≠ k) : pool.find k = none := by
  simpa [find, List.find?_eq_none] using h

/-- A directory answers with the first slot that was given out for a key (R100). -/
theorem ScratchPool.find_first {before after : List (TileKey × Fin 64)} (h : pool.directory = before ++ (k, i) :: after)
    (hb : ∀ e ∈ before, e.1 ≠ k) : pool.find k = some i := by
  have hnone : before.find? (fun e => e.1 == k) = none := by simpa [List.find?_eq_none] using hb
  simp [find, h, List.find?_append, hnone]

theorem ScratchPool.lowestEmpty_eq (h : pool.slots[i].state = .empty) (hl : ∀ j < i, pool.slots[j].state ≠ .empty) :
    pool.lowestEmpty = i := by
  have hfind : ((List.finRange 64).find? fun j => pool.slots[j].state == .empty) = some i := by
    rw [List.find?_eq_some_iff_getElem]
    refine ⟨by simpa using h, i.val, by simp, by simp, fun j hj => ?_⟩
    simpa using hl ⟨j, hj.trans i.isLt⟩ hj
  rw [lowestEmpty, hfind, Option.getD_some]

end

namespace State

variable {s : State} {sl : SheetSlot} {k : TileKey} {src : Source} {sh : Sheet} {i : Fin 64}

theorem scratchLookup_ready (hf : (s.store.pool sl).find k = some i) (h : (s.store.pool sl).slots[i].state = .ready) :
    s.scratchLookup sl k src = (s, ⟨.scratch sl i, (s.store.pool sl).slots[i].fit⟩) := by
  simp only [scratchLookup, hf, h, if_true]

theorem scratchLookup_waits (hf : (s.store.pool sl).find k = some i) (h : (s.store.pool sl).slots[i].state ≠ .ready) :
    s.scratchLookup sl k src = (s.raisePending sl, ⟨.scratch sl i, none⟩) := by
  simp only [scratchLookup, hf, h, if_false]

theorem scratchLookup_fills (hf : (s.store.pool sl).find k = none) (hi : (s.store.pool sl).lowestEmpty = i) :
    s.scratchLookup sl k src = (((s.setStore (s.store.setPool sl ((s.store.pool sl).filled i k))).appendBuild
      (.scratch sl i) k src).raisePending sl, ⟨.scratch sl i, none⟩) := by
  subst hi
  simp only [scratchLookup, hf]
  rfl

/-! ## What a lookup makes of the slots, and of the other sheet -/

/-- A lookup keeps the state and the key of every store slot, or it fills one way of its key's set on a miss. -/
theorem lookup_slots (s : State) (sl : SheetSlot) (k : TileKey) (src : Source) :
    (∀ i w, ((s.lookup sl k src).1.store.slot i w).state = (s.store.slot i w).state ∧
      ((s.lookup sl k src).1.store.slot i w).key = (s.store.slot i w).key) ∨
    ∃ w, s.store.sets[keySet k].search k = none ∧ ∀ i v, (s.lookup sl k src).1.store.slot i v =
      if i = keySet k ∧ v = w then filledSlot sl k else s.store.slot i v := by
  rcases s.lookup_cases sl k src with ⟨w, h⟩ | h | ⟨w, hn, h⟩
  · left
    intro i v
    rw [h, hitOrJoin_slot, TileStore.joined, TileStore.slot_setSlot]
    split
    next hiv => obtain ⟨rfl, rfl⟩ := hiv; exact ⟨rfl, rfl⟩
    next => exact ⟨rfl, rfl⟩
  · left
    intro i v
    simp [h, TileStore.slot]
  · exact .inr ⟨w, hn, fun i v => by rw [h, fillWay_slot]⟩

theorem scratchLookup_other {other : SheetSlot} (h : other ≠ sl) :
    (s.scratchLookup sl k src).1.sheet other = s.sheet other := by
  unfold scratchLookup
  dsimp only
  split
  · split
    · rfl
    · exact raisePending_other h
  · exact (raisePending_other h).trans (by simp [sheet_appendBuild])

theorem hitOrJoin_other {other : SheetSlot} {w : Way} (h : other ≠ sl) :
    (s.hitOrJoin sl k w).1.sheet other = s.sheet other := by
  by_cases hr : (s.store.slot (keySet k) w).state = .ready
  · rw [hitOrJoin_hit hr, sheet_setStore]
  · rw [hitOrJoin_join hr, raisePending_other h, sheet_setStore]

/-- A lookup leaves the other slot's sheet as it is. -/
theorem lookup_other {other : SheetSlot} (h : other ≠ sl) : (s.lookup sl k src).1.sheet other = s.sheet other := by
  rcases s.lookup_cases sl k src with ⟨w, hl⟩ | hl | ⟨w, -, hl⟩
  · rw [hl, hitOrJoin_other h]
  · rw [hl, scratchLookup_other h]
  · rw [hl]
    exact (raisePending_other h).trans (by simp [sheet_appendBuild])

end State

end Sys2Proof.Machine
end

section
/-! Condemned slots replaced and damaged scratch tiles rebuilt (R110 to R113). -/

namespace Sys2Proof.Machine

theorem Cell.uses_iff (c : Cell) (ref : TileRef) : c.uses ref = true ↔ c.ref = some ref := by
  simp [Cell.uses_eq]

/-- The first cell of a sheet that carries a reference. -/
def Sheet.firstOf (sh : Sheet) (ref : TileRef) : Option Cell := sh.cells.find? fun d => d.ref = some ref

theorem Sheet.find_uses (sh : Sheet) (ref : TileRef) : (sh.cells.find? fun c => c.uses ref) = sh.firstOf ref := by
  simp only [Cell.uses_eq, Sheet.firstOf]

/-- A sheet whose cells that carried one reference carry another. -/
def Sheet.withRef (sh : Sheet) (old new : TileRef) : Sheet :=
  { sh with cells := sh.cells.map fun d => if d.uses old then { d with ref := some new } else d }

theorem Sheet.withRef_same (sh : Sheet) (ref : TileRef) : sh.withRef ref ref = sh := by
  have hcells : sh.cells.map (fun d => if d.uses ref then { d with ref := some ref } else d) = sh.cells := by
    refine (List.map_congr_left fun d _ => ?_).trans (List.map_id _)
    split
    next h => rw [← (d.uses_iff ref).1 h]; rfl
    next => rfl
  rw [withRef, hcells]

namespace State

variable {s : State} {sl other : SheetSlot} {sh : Sheet} {c : Cell} {src : Source} {i : Fin 128} {w : Way}

/-! ## Fit records delivered (R89) -/

theorem deliverFit_some (h : s.sheet sl = some sh) (ref : TileRef) (f : FitRecord) : (s.deliverFit sl ref f).sheet sl =
    some { sh with cells := sh.cells.map fun c => if c.uses ref then c.receiveFit f else c } := by
  simp [deliverFit, h, addCounts, mapResults, sheet_setSheet]

theorem deliverFit_other (h : other ≠ sl) (ref : TileRef) (f : FitRecord) :
    (s.deliverFit sl ref f).sheet other = s.sheet other := by
  unfold deliverFit
  split
  · rfl
  · simp [addCounts, mapResults, sheet_setSheet, h]

theorem deliverFit_entries (s : State) (sl : SheetSlot) (ref : TileRef) (f : FitRecord) :
    EntriesKept (fun e => e.slot ≠ some sl) s.control.queue (s.deliverFit sl ref f).control.queue := by
  unfold deliverFit
  split
  · exact .refl _ _
  · simp only [addCounts, mapResults, mapQueue, setControl_control, setSheet_frame]
    exact .map fun e he => if_neg he

/-! ## A reference replaced (R111) -/

/-- A sheet's cells that carried a reference take the answer of a new lookup. -/
def takeRef (s : State) (sl : SheetSlot) (old : TileRef) (a : LookupAnswer) : State :=
  let u := s.mapSheet sl fun sh => sh.withRef old a.ref
  (match a.fit with
    | some f => u.deliverFit sl a.ref f
    | none => u).mapSheet sl Sheet.refill

theorem replaceRef_eq (h : s.sheet sl = some sh) (hc : sh.firstOf (.store i w) = some c) (hsrc : c.source = some src) :
    s.replaceRef sl i w = ((s.mapSlot i w fun x => x.leave sl).lookup sl c.key src).1.takeRef sl (.store i w)
      ((s.mapSlot i w fun x => x.leave sl).lookup sl c.key src).2 := by
  have hfind : (s.sheet sl).bind (fun sh => sh.cells.find? fun c => c.uses (.store i w)) = some c := by
    rw [h, Option.bind_some, sh.find_uses, hc]
  simp only [replaceRef, hfind, hsrc]
  rfl

/-- A replacement does nothing, or it leaves the slot, looks the tile up anew and takes the answer. -/
theorem replaceRef_cases (s : State) (sl : SheetSlot) (i : Fin 128) (w : Way) : s.replaceRef sl i w = s ∨
    ∃ k src, s.replaceRef sl i w = ((s.mapSlot i w fun x => x.leave sl).lookup sl k src).1.takeRef sl (.store i w)
      ((s.mapSlot i w fun x => x.leave sl).lookup sl k src).2 := by
  unfold replaceRef
  split
  · exact .inl rfl
  next c _ =>
    split
    · exact .inl rfl
    next src _ => exact .inr ⟨c.key, src, rfl⟩

theorem takeRef_store (s : State) (sl : SheetSlot) (old : TileRef) (a : LookupAnswer) :
    (s.takeRef sl old a).store = s.store := by
  unfold takeRef
  dsimp only
  split <;> simp

theorem takeRef_builder (s : State) (sl : SheetSlot) (old : TileRef) (a : LookupAnswer) :
    (s.takeRef sl old a).builder = s.builder := by
  unfold takeRef
  dsimp only
  split <;> simp

theorem takeRef_other (h : other ≠ sl) (old : TileRef) (a : LookupAnswer) :
    (s.takeRef sl old a).sheet other = s.sheet other := by
  unfold takeRef
  dsimp only
  split <;> simp [sheet_mapSheet, h, deliverFit_other h]

theorem takeRef_entries (s : State) (sl : SheetSlot) (old : TileRef) (a : LookupAnswer) :
    EntriesKept (fun e => e.slot ≠ some sl) s.control.queue (s.takeRef sl old a).control.queue := by
  unfold takeRef
  dsimp only
  split
  · simp only [mapSheet_frame]
    exact (EntriesKept.of_eq (by simp)).trans (deliverFit_entries _ sl _ _)
  · exact .of_eq (by simp)

/-- The sheet after its reference has been replaced by one whose tile is on its way. -/
theorem takeRef_waits (h : s.sheet sl = some sh) (old new : TileRef) :
    (s.takeRef sl old ⟨new, none⟩).sheet sl = some (sh.withRef old new).refill := by
  simp [takeRef, sheet_mapSheet, h]

/-- The sheet after its reference has been replaced by one whose tile is READY. -/
theorem takeRef_ready (h : s.sheet sl = some sh) (old new : TileRef) (f : FitRecord) :
    (s.takeRef sl old ⟨new, some f⟩).sheet sl = some (Sheet.refill { sh.withRef old new with
      cells := (sh.withRef old new).cells.map fun c => if c.uses new then c.receiveFit f else c }) := by
  have hu : (s.mapSheet sl fun sh => sh.withRef old new).sheet sl = some (sh.withRef old new) := by
    simp [sheet_mapSheet, h]
  simp [takeRef, sheet_mapSheet, deliverFit_some hu]

theorem replaceRef_other (h : other ≠ sl) : (s.replaceRef sl i w).sheet other = s.sheet other := by
  rcases s.replaceRef_cases sl i w with hr | ⟨k, src, hr⟩
  · rw [hr]
  · rw [hr, takeRef_other h, lookup_other h, sheet_mapSlot]

theorem replaceRef_entries (s : State) (sl : SheetSlot) (i : Fin 128) (w : Way) :
    EntriesKept (fun e => e.slot ≠ some sl) s.control.queue (s.replaceRef sl i w).control.queue := by
  rcases s.replaceRef_cases sl i w with hr | ⟨k, src, hr⟩
  · exact .of_eq (by rw [hr])
  · rw [hr]
    exact (EntriesKept.of_eq (by simp)).trans (takeRef_entries _ sl _ _)

/-! ## Slots condemned (R110, R111) -/

theorem condemn_again (h : (s.store.slot i w).state = .condemned) : s.condemn i w = s := if_pos h

/-- One holder's part in a condemnation: it replaces its reference at once, or keeps it till its second pass. -/
def condemnFor (s : State) (i : Fin 128) (w : Way) (sl : SheetSlot) : State :=
  if s.sheetIs sl Sheet.replacesAtOnce then s.replaceRef sl i w else s

theorem condemn_eq (h : (s.store.slot i w).state ≠ .condemned) : s.condemn i w =
    (s.store.holdersOf (.store i w)).foldl (fun u sl => u.condemnFor i w sl)
      (s.mapSlot i w fun x => { x with state := .condemned }) := if_neg h

/-- A sheet that composes, or has FINISHED, keeps a condemned reference. -/
theorem condemnFor_keeps (h : ∀ sh, s.sheet sl = some sh → sh.replacesAtOnce = false) : s.condemnFor i w sl = s := by
  refine if_neg ?_
  unfold sheetIs
  split
  next sh hsh => simp [h sh hsh]
  next => simp

theorem condemnFor_replaces (h : s.sheet sl = some sh) (hr : sh.replacesAtOnce = true) :
    s.condemnFor i w sl = s.replaceRef sl i w := by
  refine if_pos ?_
  simp [sheetIs, h, hr]

theorem foldl_fixed_of_mem {α β : Type} {f : α → β → α} {l : List β} {a : α} (h : ∀ b ∈ l, f a b = a) :
    l.foldl f a = a := by
  induction l with
  | nil => rfl
  | cons b l ih => rw [List.foldl_cons, h b (.head _), ih fun c hc => h c (.tail _ hc)]

theorem mem_holdersOf_store (t : TileStore) : sl ∈ t.holdersOf (.store i w) ↔ (t.slot i w).holders.has sl = true := by
  cases sl <;> simp [TileStore.holdersOf]

theorem condemn_quiet (h : (s.store.slot i w).state ≠ .condemned)
    (hq : ∀ sl sh, s.sheet sl = some sh → (s.store.slot i w).holders.has sl = true → sh.replacesAtOnce = false) :
    s.condemn i w = s.mapSlot i w fun x => { x with state := .condemned } := by
  rw [condemn_eq h]
  refine foldl_fixed_of_mem fun sl hsl => condemnFor_keeps fun sh hsh => ?_
  rw [sheet_mapSlot] at hsh
  exact hq sl sh hsh ((mem_holdersOf_store s.store).1 hsl)

theorem holdersOf_only (t : TileStore) (h : (t.slot i w).holders = ⟨sl == .a, sl == .b⟩) :
    t.holdersOf (.store i w) = [sl] := by
  cases sl <;> simp [TileStore.holdersOf, h, Holders.has]

/-- A slot condemned with one holder, which replaces its reference at once. -/
theorem condemn_only (h : (s.store.slot i w).state ≠ .condemned)
    (hh : (s.store.slot i w).holders = ⟨sl == .a, sl == .b⟩) (hsh : s.sheet sl = some sh) (hr : sh.replacesAtOnce = true) :
    s.condemn i w = (s.mapSlot i w fun x => { x with state := .condemned }).replaceRef sl i w := by
  rw [condemn_eq h, holdersOf_only s.store hh]
  exact condemnFor_replaces ((sheet_mapSlot ..).trans hsh) hr

/-! ## Scratch tiles rebuilt (R112, R113) -/

theorem rebuildScratch_eq {p : SheetSlot} {n : Fin 64} (h : s.sheet sl = some sh)
    (hc : sh.firstOf (.scratch p n) = some c) (hsrc : c.source = some src) : s.rebuildScratch sl p n =
      ((s.mapScratch p n fun x => { x with state := .filling }).appendBuild (.scratch p n) c.key src).raisePending sl := by
  have hfind : (s.sheet sl).bind (fun sh => sh.cells.find? fun c => c.uses (.scratch p n)) = some c := by
    rw [h, Option.bind_some, sh.find_uses, hc]
  simp only [rebuildScratch, hfind, hsrc]

end State

end Sys2Proof.Machine
end

section
/-! The tile store's lookups, replacements and releases, as their statement says them (R93 to R101, R107 to R113). -/

namespace Sys2Proof.Machine

namespace State

variable {s : State} {sl : SheetSlot} {sh : Sheet} {k : TileKey} {src : Source} {w v : Way} {c : Cell} {i : Fin 128}

/-! ## Victims (R98) -/

theorem victim_eq {set : TileSet} (hv : (w = .w0 ∧ set.way0.state = .empty) ∨
    (w = .w1 ∧ set.way0.state ≠ .empty ∧ set.way1.state = .empty) ∨
    (set.way0.state ≠ .empty ∧ set.way1.state ≠ .empty ∧ w = set.lru ∧ (set.way w).holders = ⟨false, false⟩) ∨
    (set.way0.state ≠ .empty ∧ set.way1.state ≠ .empty ∧ w = otherWay set.lru ∧
      (set.way set.lru).holders ≠ ⟨false, false⟩ ∧ (set.way w).holders = ⟨false, false⟩)) : set.victim = some w := by
  unfold TileSet.victim
  rcases hv with ⟨rfl, h⟩ | ⟨rfl, h0, h1⟩ | ⟨h0, h1, rfl, h⟩ | ⟨h0, h1, rfl, hl, h⟩
  · rw [if_pos h]
  · rw [if_neg h0, if_pos h1]
  · rw [if_neg h0, if_neg h1, if_pos ((Holders.none_iff _).2 h)]
  · rw [if_neg h0, if_neg h1, if_neg (mt (Holders.none_iff _).1 hl), if_pos ((Holders.none_iff _).2 h)]

/-! ## A condemned reference replaced (R111) -/

theorem leave_answers {x : StoreSlot} (h : x.state = .condemned) (sl : SheetSlot) (k : TileKey) :
    (x.leave sl).answers k = x.answers k := by
  rw [StoreSlot.answers_eq_false (.inr h), StoreSlot.answers_eq_false]
  exact (x.leave_state sl).imp_right fun e => e.trans h

/-- A sheet's leaving a CONDEMNED slot changes no search (R96). -/
theorem search_mapSlot_leave (h : (s.store.slot i w).state = .condemned) (sl : SheetSlot) (j : Fin 128) (k : TileKey) :
    (s.mapSlot i w fun x => x.leave sl).store.sets[j].search k = s.store.sets[j].search k := by
  refine TileSet.search_congr fun v => ?_
  change ((s.mapSlot i w fun x => x.leave sl).store.slot j v).answers k = (s.store.slot j v).answers k
  rw [mapSlot_slot]
  split
  next hjv => obtain ⟨rfl, rfl⟩ := hjv; exact leave_answers h sl k
  next => rfl

/-- A reference replaced by a READY tile that no cell of the sheet carries yet. -/
theorem replaceRef_hit {f : FitRecord} (hm : s.store.mode ≠ .bypass) (hsh : s.sheet sl = some sh)
    (hc : sh.firstOf (.store i w) = some c) (hsrc : c.source = some src) (hs : (s.store.slot i w).state = .condemned)
    (hne : ¬(keySet c.key = i ∧ v = w)) (hv : s.store.sets[keySet c.key].search c.key = some v)
    (hr : (s.store.slot (keySet c.key) v).state = .ready) (hf : (s.store.slot (keySet c.key) v).fit = some f) :
    s.replaceRef sl i w = ((s.mapSlot i w fun x => x.leave sl).hitOrJoin sl c.key v).1.takeRef sl (.store i w)
      ⟨.store (keySet c.key) v, some f⟩ := by
  have hslot : (s.mapSlot i w fun x => x.leave sl).store.slot (keySet c.key) v = s.store.slot (keySet c.key) v := by
    rw [mapSlot_slot, if_neg hne]
  rw [replaceRef_eq hsh hc hsrc, lookup_found (by simpa using hm) ((search_mapSlot_leave hs sl _ _).trans hv),
    hitOrJoin_hit (by rw [hslot, hr]), hslot, hf]

/-- The cells of a sheet whose reference has been replaced by a READY tile that none of them carried. -/
theorem withRef_receives {old new : TileRef} {f : FitRecord} (hn : ∀ d ∈ sh.cells, d.ref ≠ some new) :
    ((sh.withRef old new).cells.map fun c => if c.uses new then c.receiveFit f else c) =
      sh.cells.map fun d => if d.ref = some old then
        { d with ref := some new, fit := some f, notes := d.notes ||| f.notes } else d := by
  rw [Sheet.withRef, List.map_map]
  refine List.map_congr_left fun d hd => ?_
  simp only [Function.comp_apply, Cell.uses_iff]
  by_cases h : d.ref = some old
  · simp [h, Cell.receiveFit]
  · simp [h, hn d hd]

/-- What a reference replaced by a READY tile leaves: its cells carry the tile with its fit, and the hold has moved (R95, R111). -/
theorem replacedByHit_spec {j : Fin 128} {k : TileKey} (f : FitRecord) (hsh : s.sheet sl = some sh)
    (hne : ¬(keySet k = j ∧ v = w)) (hr : (s.store.slot (keySet k) v).state = .ready)
    (hn : ∀ d ∈ sh.cells, d.ref ≠ some (.store (keySet k) v)) :
    let t := ((s.mapSlot j w fun x => x.leave sl).hitOrJoin sl k v).1.takeRef sl (.store j w) ⟨.store (keySet k) v, some f⟩
    ∃ sh', t.sheet sl = some sh' ∧ sh'.pendingBuilds = sh.pendingBuilds ∧
      sh'.cells = sh.cells.map (fun d => if d.ref = some (.store j w) then
        { d with ref := some (.store (keySet k) v), fit := some f, notes := d.notes ||| f.notes } else d) ∧
      t.builder = s.builder ∧ (t.store.slot j w).holders.has sl = false ∧ (t.store.slot (keySet k) v).holders.has sl = true := by
  intro t
  set u := s.mapSlot j w fun x => x.leave sl with hu
  have hready : (u.store.slot (keySet k) v).state = .ready := by rw [hu, mapSlot_slot, if_neg hne, hr]
  have hsheet : (u.hitOrJoin sl k v).1.sheet sl = some sh := by
    rw [hitOrJoin_hit hready, sheet_setStore, hu, sheet_mapSlot, hsh]
  have hslot := u.hitOrJoin_slot sl k v
  refine ⟨_, takeRef_ready hsheet _ _ f, rfl, withRef_receives hn, ?_, ?_, ?_⟩
  · rw [takeRef_builder, hitOrJoin_hit hready]
    simp [hu]
  · rw [takeRef_store, hslot, TileStore.joined, TileStore.slot_setSlot, if_neg fun h => hne ⟨h.1.symm, h.2.symm⟩, hu,
      mapSlot_slot, if_pos ⟨rfl, rfl⟩]
    exact StoreSlot.has_leave _ sl
  · rw [takeRef_store, hslot, TileStore.joined, TileStore.slot_setSlot, if_pos ⟨rfl, rfl⟩]
    exact Holders.has_join _ sl

/-- A slot condemned, and left by a sheet. -/
def leftCondemned (s : State) (i : Fin 128) (w : Way) (sl : SheetSlot) : State :=
  (s.mapSlot i w fun x => { x with state := .condemned }).mapSlot i w fun x => x.leave sl

theorem leftCondemned_sheet (s : State) (i : Fin 128) (w : Way) (sl other : SheetSlot) :
    (s.leftCondemned i w sl).sheet other = s.sheet other := by
  simp [leftCondemned, sheet_mapSlot]

theorem leftCondemned_other (s : State) (i : Fin 128) (w : Way) (sl : SheetSlot) :
    (s.leftCondemned i w sl).store.slot i (otherWay w) = s.store.slot i (otherWay w) := by
  simp [leftCondemned]

theorem leftCondemned_last (h : (s.store.slot i w).holders = ⟨sl == .a, sl == .b⟩) :
    (s.leftCondemned i w sl).store.slot i w = StoreSlot.blank := by
  simp only [leftCondemned, mapSlot_slot, and_self, if_true]
  exact StoreSlot.leave_last rfl h

/-- A condemned slot that only one sheet held is filled anew for it: EMPTY again, it is the victim of the lookup (R98,
R111). -/
theorem condemn_refills (hm : s.store.mode = .normal) (hsh : s.sheet sl = some sh) (hr : sh.replacesAtOnce = true)
    (hc : sh.firstOf (.store (keySet c.key) w) = some c) (hsrc : c.source = some src)
    (hs : (s.store.slot (keySet c.key) w).state ≠ .condemned)
    (hh : (s.store.slot (keySet c.key) w).holders = ⟨sl == .a, sl == .b⟩)
    (he : (s.store.slot (keySet c.key) (otherWay w)).state ≠ .empty)
    (ha : (s.store.slot (keySet c.key) (otherWay w)).answers c.key = false) : s.condemn (keySet c.key) w =
      ((s.leftCondemned (keySet c.key) w sl).fillWay sl c.key src w).1.takeRef sl (.store (keySet c.key) w)
        ⟨.store (keySet c.key) w, none⟩ := by
  let u := s.leftCondemned (keySet c.key) w sl
  have hleft : u.store.sets[keySet c.key].way w = StoreSlot.blank := leftCondemned_last hh
  have hother : u.store.sets[keySet c.key].way (otherWay w) = s.store.slot (keySet c.key) (otherWay w) :=
    s.leftCondemned_other _ w sl
  have hnone : u.store.sets[keySet c.key].search c.key = none := by
    refine TileSet.search_none_iff.2 fun v => ?_
    by_cases hv : v = w
    · rw [hv, hleft]
      exact StoreSlot.answers_eq_false (.inl rfl) _
    · rw [eq_otherWay hv, hother, ha]
  have hvictim : u.store.sets[keySet c.key].victim = some w :=
    TileSet.victim_only_empty (by rw [hleft]; rfl) (by rwa [hother])
  have hlookup : u.lookup sl c.key src = u.fillWay sl c.key src w :=
    lookup_fills (by simpa [u, leftCondemned] using hm) hnone hvictim
  rw [condemn_only hs hh hsh hr, replaceRef_eq ((sheet_mapSlot ..).trans hsh) hc hsrc]
  exact congrArg (fun r : State × LookupAnswer => r.1.takeRef sl (.store (keySet c.key) w) r.2) hlookup

/-- What a slot filled anew holds, and what its sheet waits for (R98, R99, R111). -/
theorem refilled_spec {k : TileKey} (hsh : s.sheet sl = some sh) :
    let t := ((s.leftCondemned (keySet k) w sl).fillWay sl k src w).1.takeRef sl (.store (keySet k) w)
      ⟨.store (keySet k) w, none⟩
    t.store.slot (keySet k) w = ⟨.filling, some k, ⟨sl == .a, sl == .b⟩, [], none, false⟩ ∧
      t.store.slot (keySet k) (otherWay w) = s.store.slot (keySet k) (otherWay w) ∧
      t.store.sets[keySet k].lru = otherWay w ∧
      t.builder = { s.builder with queue := s.builder.queue ++ [⟨.store (keySet k) w, k, src⟩] } ∧
      t.sheet sl = some { sh with
        pendingBuilds := sh.pendingBuilds + 1, state := if sh.state = .ready then .filling else sh.state } ∧
      t.sheet (otherSlot sl) = s.sheet (otherSlot sl) := by
  intro t
  have hsheet := s.leftCondemned_sheet (keySet k) w sl
  have hfilled := fillWay_some (src := src) (w := w) (k := k) ((hsheet sl).trans hsh)
  refine ⟨?_, ?_, ?_, ?_, ?_, ?_⟩
  · rw [takeRef_store, fillWay_slot, if_pos ⟨rfl, rfl⟩]
    rfl
  · rw [takeRef_store, fillWay_slot, if_neg (by simp), s.leftCondemned_other]
  · rw [takeRef_store, fillWay_set, if_pos rfl]
  · rw [takeRef_builder, fillWay_builder]
    rfl
  · rw [takeRef_waits hfilled, Sheet.withRef_same]
    simp [Sheet.refill]
  · rw [takeRef_other (otherSlot_ne sl)]
    exact (raisePending_other (otherSlot_ne sl)).trans (by simpa [sheet_appendBuild] using hsheet _)

/-! ## Keys in their own sets, each once -/

/-- No two ways of a set are FILLING or READY with one key. -/
def OneAnswer (t : TileStore) : Prop :=
  ∀ (i : Fin 128) (q : TileKey), ¬((t.slot i .w0).answers q = true ∧ (t.slot i .w1).answers q = true)

/-- Every key lies in its own set. -/
def KeysHome (t : TileStore) : Prop := ∀ (i : Fin 128) (w : Way) (q : TileKey), (t.slot i w).key = some q → keySet q = i

/-- A miss that fills a way leaves its key in one way alone: the other does not answer it. -/
theorem lookup_oneAnswer (h : OneAnswer s.store) : OneAnswer (s.lookup sl k src).1.store := by
  rcases s.lookup_slots sl k src with hsame | ⟨w, hnone, hslot⟩
  · intro i q
    rw [StoreSlot.answers_congr (hsame i .w0).1 (hsame i .w0).2, StoreSlot.answers_congr (hsame i .w1).1 (hsame i .w1).2]
    exact h i q
  · have hmiss (v : Way) : (s.store.slot (keySet k) v).answers k = false := TileSet.search_none_iff.1 hnone v
    have hfilled (q : TileKey) (hq : (filledSlot sl k).answers q = true) : k = q := by
      simpa [StoreSlot.answers, filledSlot] using hq
    rintro i q ⟨h0, h1⟩
    rw [hslot] at h0 h1
    by_cases hi : i = keySet k
    · subst hi
      cases w
      · obtain rfl := hfilled q (by simpa using h0)
        simp [hmiss] at h1
      · obtain rfl := hfilled q (by simpa using h1)
        simp [hmiss] at h0
    · rw [if_neg fun e => hi e.1] at h0 h1
      exact h i q ⟨h0, h1⟩

theorem lookup_keysHome (h : KeysHome s.store) : KeysHome (s.lookup sl k src).1.store := by
  rcases s.lookup_slots sl k src with hsame | ⟨w, -, hslot⟩
  · intro i v q hq
    exact h i v q ((hsame i v).2 ▸ hq)
  · intro i v q hq
    rw [hslot] at hq
    split at hq
    next hiv => rw [hiv.1, ← Option.some.inj (show some k = some q from hq)]
    next => exact h i v q hq

end State

/-- Settles O58: the ways of a lookup are those of `State.lookup_found`, `lookup_fills` and `lookup_scratch`, and each
replacement is a lookup made anew. -/
theorem tileLookup : Obligations.TileLookup := by
  refine ⟨?_, ?_, ?_, ?_, ?_, ?_, ?_, ?_, fun s p i => rfl, ?_, ?_, State.releaseSheet_released, ?_⟩
  · rintro s sl k src w x hw rfl hr hm
    have hhit := State.hitOrJoin_hit (sl := sl) hr
    refine ⟨(s.hitOrJoin sl k w).1, (State.lookup_found hm hw).trans (Prod.ext rfl (by rw [hhit])), ?_, ?_, ?_,
      fun j hj => ?_, by rw [hhit]; rfl, by rw [hhit]; rfl⟩
    · rw [State.hitOrJoin_slot]
      simp [TileStore.joined]
    · rw [State.hitOrJoin_slot]
      simp [TileStore.joined]
    · rw [hhit, State.setStore_store]
      split
      · exact TileStore.marked_lru ..
      · exact TileStore.lru_setSlot ..
    · rw [hhit, State.setStore_store]
      split
      · exact (TileStore.marked_sets_ne _ _ hj).trans (TileStore.sets_setSlot_ne _ _ _ _ hj _)
      · exact TileStore.sets_setSlot_ne _ _ _ _ hj _
  · rintro s sl k src w x sh hw rfl hf hm hsh
    refine ⟨_, (State.lookup_found hm hw).trans (State.hitOrJoin_join (by simp [hf])), by simp; rfl, by simp, ?_⟩
    exact State.raisePending_some (by simpa using hsh)
  · rintro s sl k src w sh _ rfl hn hm hsh hv
    have hfills := State.lookup_fills (sl := sl) (src := src) hm hn (State.victim_eq hv)
    refine ⟨(s.fillWay sl k src w).1, hfills, ?_, ?_, ?_, fun j hj => ?_, State.fillWay_builder .., State.fillWay_some hsh⟩
    · rw [State.fillWay_slot, if_pos ⟨rfl, rfl⟩]
      rfl
    · rw [State.fillWay_slot, if_neg (by simp)]
      rfl
    · rw [State.fillWay_set, if_pos rfl]
    · rw [State.fillWay_set, if_neg hj]
  · intro s sl k src sh hsh hscratch habsent i hi hlow
    have hfills := State.scratchLookup_fills (src := src) (ScratchPool.find_absent habsent)
      (ScratchPool.lowestEmpty_eq hi hlow)
    refine ⟨_, (State.lookup_scratch hscratch).trans hfills, ?_, ?_, ?_, ?_, ?_⟩
    · simp [ScratchPool.filled]
    · simp [ScratchPool.filled]
    · simp
    · simp [State.appendBuild]
    · exact State.raisePending_some (by simpa [State.sheet_appendBuild] using hsh)
  · intro s sl k src sh before after i hsh hscratch hdir hbefore
    have hfind := ScratchPool.find_first hdir hbefore
    refine ⟨fun hr => (State.lookup_scratch hscratch).trans (State.scratchLookup_ready hfind hr), fun hr =>
      ⟨_, (State.lookup_scratch hscratch).trans (State.scratchLookup_waits hfind hr), by simp, by simp,
        State.raisePending_some hsh, State.raisePending_other (otherSlot_ne sl)⟩⟩
  · intro s i w hs hq
    refine State.condemn_quiet hs fun sl sh hsh hh => ?_
    rcases hq sl sh hsh hh with h | h | h <;> simp [Sheet.replacesAtOnce, h]
  · rintro s sl _ w sh c src k hm hsh hst hc hsrc hk rfl hs hh he ha
    obtain rfl : k = c.key := hk
    have hr : sh.replacesAtOnce = true := by rcases hst with h | h | h <;> simp [Sheet.replacesAtOnce, h]
    exact ⟨_, State.condemn_refills hm hsh hr hc hsrc hs hh he ha, State.refilled_spec hsh⟩
  · rintro s sl i w v sh c src k f hm hsh hc hsrc rfl hs hne hv hr hf hn
    have hne' : ¬(keySet c.key = i ∧ v = w) := fun h => hne.elim (· h.1) (· h.2)
    obtain ⟨sh', hspec⟩ := State.replacedByHit_spec f hsh hne' hr hn
    exact ⟨_, sh', State.replaceRef_hit (by simp [hm]) hsh hc hsrc hs hne' hv hr hf, hspec⟩
  · intro s sl i sh c src hsh hc hsrc hr
    refine ⟨_, if_pos hr, ?_, ?_, ?_⟩
    all_goals rw [State.rebuildScratch_eq hsh hc hsrc]
    · simp [State.mapScratch]
    · simp [State.appendBuild]
      rfl
    · exact State.raisePending_some (by simpa [State.sheet_appendBuild, State.sheet_mapScratch] using hsh)
  · exact fun s sl p i w j => ⟨fun h => if_pos h, fun h => if_neg h, fun h => if_neg h⟩
  · exact fun s sl k src h1 h2 => ⟨State.lookup_oneAnswer h1, State.lookup_keysHome h2⟩

end Sys2Proof.Machine
end

section
/-! Damage in the tile store: what a condemnation and a second pass leave of the slots, the sheets and the orders (R110 to
R113, R177, R178). -/

namespace Sys2Proof.Machine

namespace State

variable {s : State} {sl : SheetSlot} {sh : Sheet} {i : Fin 128} {w : Way}

/-! ## A sheet at work keeps what it has (R111) -/

/-- A condemnation leaves a sheet alone that replaces nothing at once, its attempt being in hand. -/
theorem condemn_sheet (h : ∀ sh, s.sheet sl = some sh → sh.replacesAtOnce = false) :
    (s.condemn i w).sheet sl = s.sheet sl := by
  by_cases hs : (s.store.slot i w).state = .condemned
  · rw [condemn_again hs]
  · rw [condemn_eq hs]
    refine List.foldlRecOn _ _ (motive := fun u : State => u.sheet sl = s.sheet sl) (sheet_mapSlot ..) fun u hu x _ => ?_
    by_cases hx : x = sl
    · subst hx
      rw [condemnFor_keeps fun sh hsh => h sh (hu ▸ hsh), hu]
    · rw [condemnFor]
      split
      · rw [replaceRef_other (Ne.symm hx), hu]
      · exact hu

/-- A condemnation leaves the order alone of a sheet that replaces nothing at once. -/
theorem condemn_entries (h : ∀ sh, s.sheet sl = some sh → sh.replacesAtOnce = false) :
    EntriesKept (fun e => e.slot ≠ some (otherSlot sl)) s.control.queue (s.condemn i w).control.queue := by
  by_cases hs : (s.store.slot i w).state = .condemned
  · exact .of_eq (by rw [condemn_again hs])
  · rw [condemn_eq hs]
    refine (List.foldlRecOn _ _ (motive := fun u : State => u.sheet sl = s.sheet sl ∧
      EntriesKept (fun e => e.slot ≠ some (otherSlot sl)) s.control.queue u.control.queue)
      ⟨sheet_mapSlot .., .of_eq (by simp)⟩ fun u ⟨hu, hq⟩ x _ => ?_).2
    by_cases hx : x = sl
    · subst hx
      rw [condemnFor_keeps fun sh hsh => h sh (hu ▸ hsh)]
      exact ⟨hu, hq⟩
    · obtain rfl : x = otherSlot sl := by cases x <;> cases sl <;> simp [otherSlot] at hx ⊢
      rw [condemnFor]
      split
      · exact ⟨by rw [replaceRef_other (ne_otherSlot sl), hu], hq.trans (u.replaceRef_entries _ i w)⟩
      · exact ⟨hu, hq⟩

/-! ## Slots that do not become READY (R93, R98) -/

/-- A store slot is not READY. -/
def NotReady (s : State) (i : Fin 128) (w : Way) : Prop := (s.store.slot i w).state ≠ .ready

theorem NotReady.of_store {t : State} (h : NotReady s i w) (hst : t.store = s.store) : NotReady t i w := by
  rwa [NotReady, hst]

theorem NotReady.lookup (h : NotReady s i w) (k : TileKey) (src : Source) : NotReady (s.lookup sl k src).1 i w := by
  unfold NotReady
  rcases s.lookup_slots sl k src with hsame | ⟨v, -, hslot⟩
  · rw [(hsame i w).1]
    exact h
  · rw [hslot]
    split
    · exact nofun
    · exact h

theorem NotReady.leave (h : NotReady s i w) (j : Fin 128) (v : Way) : NotReady (s.mapSlot j v fun x => x.leave sl) i w := by
  rw [NotReady, mapSlot_slot]
  split
  next hiv =>
    obtain ⟨rfl, rfl⟩ := hiv
    rcases (s.store.slot i w).leave_state sl with e | e <;> rw [e]
    · exact nofun
    · exact h
  next => exact h

theorem NotReady.replaceRef (h : NotReady s i w) (j : Fin 128) (v : Way) : NotReady (s.replaceRef sl j v) i w := by
  rcases s.replaceRef_cases sl j v with hr | ⟨k, src, hr⟩
  · rwa [hr]
  · rw [hr]
    exact ((h.leave j v).lookup k src).of_store (takeRef_store ..)

/-- A condemned slot is not READY, not even filled anew. -/
theorem condemn_notReady (s : State) (i : Fin 128) (w : Way) : NotReady (s.condemn i w) i w := by
  by_cases hs : (s.store.slot i w).state = .condemned
  · rw [condemn_again hs, NotReady, hs]
    exact nofun
  · rw [condemn_eq hs]
    refine List.foldlRecOn _ _ (motive := fun u : State => NotReady u i w) ?_ fun u hu x _ => ?_
    · rw [NotReady, mapSlot_slot, if_pos ⟨rfl, rfl⟩]
      exact nofun
    · rw [condemnFor]
      split
      · exact hu.replaceRef i w
      · exact hu

theorem NotReady.renewRef (h : NotReady s i w) (r : TileRef) : NotReady (s.renewRef sl r) i w := by
  unfold State.renewRef
  split
  · split
    · exact h.replaceRef _ _
    · exact h
  next p n =>
    split
    · have hsets : (s.rebuildScratch sl p n).store.sets = s.store.sets := by simp
      rwa [NotReady, TileStore.slot, hsets]
    · exact h

theorem NotReady.secondPass (h : NotReady s i w) : NotReady (s.secondPass sl) i w := by
  have hrenew : NotReady ((s.mapSheet sl fun sh => { sh with attempt := sh.attempt + 1 }).renewRefs sl) i w := by
    unfold State.renewRefs
    split
    · exact h.of_store (by simp)
    · exact List.foldlRecOn _ _ (motive := fun u : State => NotReady u i w) (h.of_store (by simp))
        fun u hu r _ => hu.renewRef r
  exact hrenew.of_store (by simp [State.secondPass])

theorem releaseSheet_slot (s : State) (sl : SheetSlot) (i : Fin 128) (w : Way) :
    (s.releaseSheet sl).store.slot i w = (s.store.slot i w).leave sl := by
  unfold releaseSheet
  cases w <;> simp [TileStore.slot, TileSet.mapWays, TileSet.way]

theorem NotReady.endSheet (h : NotReady s i w) (o : OrderOutcome) (d : Detail) : NotReady (s.endSheet sl o d) i w := by
  unfold State.endSheet
  split
  · have hleave : NotReady ((s.mapSheet sl fun sh => { sh with ending := some (o, d), state := .finished }).releaseSheet sl)
        i w := by
      have hstore : (s.mapSheet sl fun sh => { sh with ending := some (o, d), state := .finished }).store = s.store := by simp
      rw [NotReady, releaseSheet_slot, hstore]
      rcases (s.store.slot i w).leave_state sl with e | e <;> rw [e]
      · exact nofun
      · exact h
    exact hleave.of_store (by simp)
  · exact h

end State

end Sys2Proof.Machine
end

section
/-! The second pass of a sheet with a damaged scratch tile (R112, R113, R178). -/

namespace Sys2Proof.Machine

/-! ## The references of a sheet, each once (R113) -/

/-- The reference of one more cell, added where it is not there yet. -/
def addRef (acc : List TileRef) (c : Cell) : List TileRef :=
  match c.ref with
  | some r => if r ∈ acc then acc else acc ++ [r]
  | none => acc

theorem Sheet.refs_eq (sh : Sheet) : sh.refs = sh.cells.foldl addRef [] := rfl

theorem addRef_nodup {acc : List TileRef} (h : acc.Nodup) (c : Cell) : (addRef acc c).Nodup := by
  unfold addRef
  split
  · split
    · exact h
    next hr => exact h.append (List.nodup_singleton _) (by simpa using hr)
  · exact h

theorem mem_addRef (acc : List TileRef) (c : Cell) (r : TileRef) : r ∈ addRef acc c ↔ r ∈ acc ∨ c.ref = some r := by
  unfold addRef
  cases c.ref with
  | none => simp
  | some x =>
    dsimp only
    split
    next hx => exact ⟨.inl, Or.rec id fun e => Option.some.inj e ▸ hx⟩
    next => simp [eq_comm (a := r)]

theorem mem_foldl_addRef (cells : List Cell) (acc : List TileRef) (r : TileRef) :
    r ∈ cells.foldl addRef acc ↔ r ∈ acc ∨ ∃ c ∈ cells, c.ref = some r := by
  induction cells generalizing acc with
  | nil => simp
  | cons c cells ih => simp [ih, mem_addRef, or_assoc]

theorem Sheet.refs_nodup (sh : Sheet) : sh.refs.Nodup :=
  List.foldlRecOn _ _ (motive := List.Nodup) .nil fun _ h c _ => addRef_nodup h c

theorem Sheet.mem_refs (sh : Sheet) (r : TileRef) : r ∈ sh.refs ↔ ∃ c ∈ sh.cells, c.ref = some r := by
  rw [sh.refs_eq, mem_foldl_addRef]
  simp

/-! ## A scratch slot sent to building (R113) -/

namespace State

/-- What a scratch slot sent to building leaves of a pool: the slot is FILLING. -/
theorem rebuilt_pool (s : State) (p sl q : SheetSlot) (m : Fin 64) (k : TileKey) (src : Source) :
    (((s.mapScratch p m fun x => { x with state := .filling }).appendBuild (.scratch p m) k src).raisePending sl).store.pool
      q = if q = p then { s.store.pool p with
        slots := (s.store.pool p).slots.set m.val { (s.store.pool p).slots[m] with state := .filling } m.isLt }
      else s.store.pool q := by
  have hstore : (((s.mapScratch p m fun x => { x with state := .filling }).appendBuild (.scratch p m) k src).raisePending
      sl).store = s.store.setScratch p m { (s.store.pool p).slots[m] with state := .filling } := by simp [mapScratch]
  rw [hstore, TileStore.setScratch]
  split
  next hq => rw [hq, TileStore.pool_setPool]
  next hq => exact TileStore.pool_setPool_ne _ _ _ hq _

end State

/-! ## References renewed beside a scratch slot -/

/-- The renewal of other references of a sheet: the store's slots, one scratch slot of its pool, the pool's directory and the
sheet's cells stay, and builds and pending builds are added alone. -/
structure RenewsOthers (sl : SheetSlot) (n : Fin 64) (s t : State) : Prop where
  sets : t.store.sets = s.store.sets
  scratch : (t.store.pool sl).slots[n] = (s.store.pool sl).slots[n]
  directory : (t.store.pool sl).directory = (s.store.pool sl).directory
  queue : ∀ e ∈ s.builder.queue, e ∈ t.builder.queue
  sheet : ∀ sh, s.sheet sl = some sh → ∃ sh', t.sheet sl = some sh' ∧ sh'.cells = sh.cells ∧
    sh.pendingBuilds ≤ sh'.pendingBuilds

namespace RenewsOthers

variable {sl : SheetSlot} {n : Fin 64} {s t u : State}

theorem refl (s : State) : RenewsOthers sl n s s := ⟨rfl, rfl, rfl, fun _ h => h, fun sh h => ⟨sh, h, rfl, Nat.le_refl _⟩⟩

theorem trans (h : RenewsOthers sl n s t) (h' : RenewsOthers sl n t u) : RenewsOthers sl n s u where
  sets := h'.sets.trans h.sets
  scratch := h'.scratch.trans h.scratch
  directory := h'.directory.trans h.directory
  queue := fun e he => h'.queue e (h.queue e he)
  sheet := fun sh hsh => by
    obtain ⟨sh1, h1, hc1, hp1⟩ := h.sheet sh hsh
    obtain ⟨sh2, h2, hc2, hp2⟩ := h'.sheet sh1 h1
    exact ⟨sh2, h2, hc2.trans hc1, hp1.trans hp2⟩

theorem slot (h : RenewsOthers sl n s t) (i : Fin 128) (w : Way) : t.store.slot i w = s.store.slot i w := by
  rw [TileStore.slot, h.sets, TileStore.slot]

/-- Another scratch slot rebuilt. -/
theorem rebuild (src : Source) (k : TileKey) {p : SheetSlot} {m : Fin 64} (h : TileRef.scratch p m ≠ .scratch sl n) :
    RenewsOthers sl n s (((s.mapScratch p m fun x => { x with state := .filling }).appendBuild (.scratch p m) k
      src).raisePending sl) where
  sets := by simp
  scratch := by
    rw [State.rebuilt_pool]
    split
    next hp =>
      subst hp
      have hm : m.val ≠ n.val := fun e => h (by rw [Fin.ext e])
      exact Vector.getElem_set_ne m.isLt n.isLt hm
    next => rfl
  directory := by
    rw [State.rebuilt_pool]
    split
    next hp => rw [hp]
    next => rfl
  queue := fun e he => by simp [State.appendBuild, he]
  sheet := fun sh hsh => ⟨_, State.raisePending_some
    (by simpa [State.sheet_appendBuild, State.sheet_mapScratch] using hsh), rfl, Nat.le_succ _⟩

/-- A reference renewed, other than the scratch slot's and than one to a condemned slot. -/
theorem renewRef {r : TileRef} (hr : r ≠ .scratch sl n)
    (hc : ∀ i w, r = .store i w → (s.store.slot i w).state ≠ .condemned) : RenewsOthers sl n s (s.renewRef sl r) := by
  cases r with
  | store i w =>
    rw [State.renewRef, if_neg (hc i w rfl)]
    exact refl s
  | scratch p m =>
    unfold State.renewRef State.rebuildScratch
    dsimp only
    split
    · split
      · exact refl s
      · split
        · exact refl s
        · exact rebuild _ _ hr
    · exact refl s

theorem renewRefs (rs : List TileRef) (hr : .scratch sl n ∉ rs)
    (hc : ∀ i w, .store i w ∈ rs → (s.store.slot i w).state ≠ .condemned) :
    RenewsOthers sl n s (rs.foldl (fun u r => u.renewRef sl r) s) := by
  refine List.foldlRecOn _ _ (motive := fun u => RenewsOthers sl n s u) (refl s) fun u hu r hmem => hu.trans ?_
  refine renewRef (fun e => hr (e ▸ hmem)) fun i w e => ?_
  rw [hu.slot]
  exact hc i w (e ▸ hmem)

end RenewsOthers

/-! ## A damaged scratch tile in its sheet's second pass -/

/-- A scratch slot that is to be rebuilt: FILLING with its key and its fit record, its build queued with the key and the
source of its first cell, and its sheet waiting for it. -/
structure Rebuilt (s t : State) (sl : SheetSlot) (n : Fin 64) (c : Cell) (src : Source) : Prop where
  slot : (t.store.pool sl).slots[n] = { (s.store.pool sl).slots[n] with state := .filling }
  directory : (t.store.pool sl).directory = (s.store.pool sl).directory
  queued : ⟨.scratch sl n, c.key, src⟩ ∈ t.builder.queue
  waits : (t.sheet sl).map (·.state) = some .filling

namespace State

variable {s : State} {sl : SheetSlot} {n : Fin 64} {sh : Sheet} {c : Cell} {src : Source}

/-- The renewal of one damaged scratch tile. -/
theorem renewRef_rebuilds (hsh : s.sheet sl = some sh) (hc : sh.firstOf (.scratch sl n) = some c)
    (hsrc : c.source = some src) (hs : (s.store.pool sl).slots[n].state = .rebuild) :
    s.renewRef sl (.scratch sl n) = ((s.mapScratch sl n fun x => { x with state := .filling }).appendBuild
      (.scratch sl n) c.key src).raisePending sl :=
  (if_pos hs).trans (rebuildScratch_eq hsh hc hsrc)

/-- A second pass rebuilds a damaged scratch tile, where no store slot of the sheet is condemned (R113, R178). -/
theorem secondPass_rebuilds (hsh : s.sheet sl = some sh)
    (hstore : ∀ d ∈ sh.cells, ∀ j w, d.ref = some (.store j w) → (s.store.slot j w).state ≠ .condemned)
    (hc : sh.firstOf (.scratch sl n) = some c) (hsrc : c.source = some src)
    (hs : (s.store.pool sl).slots[n].state = .rebuild) : Rebuilt s (s.secondPass sl) sl n c src := by
  let s0 := s.mapSheet sl fun sh => { sh with attempt := sh.attempt + 1 }
  let sh0 : Sheet := { sh with attempt := sh.attempt + 1 }
  have hsh0 : s0.sheet sl = some sh0 := by rw [sheet_mapSheet, if_pos rfl, hsh]; rfl
  have hstore0 : s0.store = s.store := by simp [s0]
  have hmem : .scratch sl n ∈ sh0.refs := by
    have hfound := List.find?_some hc
    exact (sh0.mem_refs _).2 ⟨c, List.mem_of_find?_eq_some hc, by simpa using hfound⟩
  have hquiet (i : Fin 128) (w : Way) (h : .store i w ∈ sh0.refs) : (s0.store.slot i w).state ≠ .condemned := by
    obtain ⟨d, hd, hdr⟩ := (sh0.mem_refs _).1 h
    rw [hstore0]
    exact hstore d hd i w hdr
  obtain ⟨before, after, hrefs⟩ := List.append_of_mem hmem
  have hnodup := sh0.refs_nodup
  rw [hrefs] at hnodup hquiet
  obtain ⟨-, hafter, hdisjoint⟩ := List.nodup_append.1 hnodup
  have hb := RenewsOthers.renewRefs (s := s0) (sl := sl) (n := n) before
    (fun h => hdisjoint _ h _ (.head _) rfl) fun i w h => hquiet i w (List.mem_append_left _ h)
  set u := before.foldl (fun u r => u.renewRef sl r) s0 with hu
  obtain ⟨sh1, hsh1, hcells1, -⟩ := hb.sheet sh0 hsh0
  have hrebuilds := renewRef_rebuilds hsh1 (c := c) (n := n) (by rw [Sheet.firstOf, hcells1]; exact hc) hsrc
    (by rw [hb.scratch, hstore0]; exact hs)
  set v := u.renewRef sl (.scratch sl n) with hv
  have hvsheet : v.sheet sl = some { sh1 with pendingBuilds := sh1.pendingBuilds + 1 } := by
    rw [hrebuilds]
    exact raisePending_some (by simpa [sheet_appendBuild, sheet_mapScratch] using hsh1)
  have hvsets : v.store.sets = s0.store.sets := by
    rw [hrebuilds, ← hb.sets]
    simp
  have ha := RenewsOthers.renewRefs (s := v) (sl := sl) (n := n) after (List.nodup_cons.1 hafter).1 fun i w h => by
    rw [TileStore.slot, hvsets]
    exact hquiet i w (List.mem_append_right _ (.tail _ h))
  have hfold : s0.renewRefs sl = after.foldl (fun u r => u.renewRef sl r) v := by
    simp only [renewRefs, hsh0, hrefs, List.foldl_append, List.foldl_cons, ← hu, ← hv]
  obtain ⟨sh2, hsh2, -, hpending⟩ := ha.sheet _ hvsheet
  have hpass : (s.secondPass sl).store = (s0.renewRefs sl).store ∧ (s.secondPass sl).builder = (s0.renewRefs sl).builder := by
    simp [secondPass, s0]
  refine ⟨?_, ?_, ?_, ?_⟩
  · rw [hpass.1, hfold, ha.scratch, hrebuilds, ← hstore0, ← hb.scratch]
    simp [mapScratch, TileStore.setScratch]
  · rw [hpass.1, hfold, ha.directory, hrebuilds, ← hstore0, ← hb.directory]
    simp [mapScratch, TileStore.setScratch]
  · rw [hpass.2, hfold]
    exact ha.queue _ (by rw [hrebuilds]; simp [appendBuild])
  · have hpos : 0 < sh2.pendingBuilds := Nat.lt_of_lt_of_le (Nat.succ_pos _) hpending
    rw [secondPass, sheet_mapSheet, if_pos rfl, hfold, hsh2]
    simp [hpos]

end State

end Sys2Proof.Machine
end

section
/-! Uncorrectable errors: the log, and what the damage does by its place and its reader (R110 to R113, R131, R143, R144,
R159, R169, R198, R199). -/

namespace Sys2Proof.Machine

/-! ## The log and the command (R198, R199) -/

namespace State

variable {s : State} {a : Attempt} {sh : Sheet} {k : Ticket} {cause : Detail}

theorem logUncorrectable_eq (s : State) (loc : CheckLoc) : s.logUncorrectable loc = s.errorLogged loc := by
  unfold logUncorrectable errorLogged
  split <;> rfl

theorem exec_uncorrectableError {loc : CheckLoc} {by_ : Reader} (n : Nat) (h : s.canRead loc by_ = true) :
    exec (.uncorrectableError loc by_ n) s = .next ((s.logUncorrectable loc).takeDamage loc by_ n) :=
  congrArg Host.Outcome.next (if_pos h)

/-- An unlocked log takes the error, which locks it (R198). -/
theorem logUncorrectable_unlocked (loc : CheckLoc) (h : s.check.locked = false) :
    (s.logUncorrectable loc).check.uncorrectable = some loc ∧ (s.logUncorrectable loc).check.locked = true ∧
      (s.logUncorrectable loc).hasEvent .integrity = true := by
  simp [logUncorrectable, h, hasEvent_raise]

theorem logUncorrectable_locked (loc : CheckLoc) (h : s.check.locked = true) : s.logUncorrectable loc = s := if_pos h

theorem hasEvent_of_window {t : State} (h : t.window = s.window) (e : Event) : t.hasEvent e = s.hasEvent e := by
  rw [hasEvent, h, hasEvent]

/-- A spoil raises SHEET_SPOILED alone (R177). -/
theorem spoil_integrity (s : State) (a : Attempt) (cause : Detail) :
    (s.spoil a cause).hasEvent .integrity = s.hasEvent .integrity := by
  have hraise : (s.raise .sheetSpoiled).hasEvent .integrity = s.hasEvent .integrity := by
    rw [hasEvent_raise]
    exact Bool.or_false _
  unfold spoil
  split
  · dsimp only
    split
    · rw [hasEvent_of_window (secondPass_frame ..).2.1, hraise]
    · rw [hasEvent_of_window (endSheet_frame ..).2.1, hraise]
  · rfl

/-- The effect of damage leaves the flag of the log as it is. -/
theorem takeDamage_integrity (s : State) (loc : CheckLoc) (by_ : Reader) (n : Nat) :
    (s.takeDamage loc by_ n).hasEvent .integrity = s.hasEvent .integrity := by
  have hspoil {u : State} (a : Attempt) (hw : u.window = s.window) :
      ((u.spoil a .damage).letGo a.slot).hasEvent .integrity = s.hasEvent .integrity := by
    rw [hasEvent_of_window (letGo_frame ..).2.1, spoil_integrity, hasEvent_of_window hw]
  unfold takeDamage
  split
  · unfold painterFindsDamage
    split
    · exact hspoil _ (by simp)
    · rfl
  · exact hasEvent_of_window (by simp) _
  · unfold paintingFindsGlyph
    split
    · rfl
    · exact hasEvent_of_window (by simp) _
  · split
    · exact hspoil _ (by simp)
    · rfl
  · rfl
  · rfl

/-! ## What a spoil makes of a sheet (R177) -/

theorem isCurrent_of_inHand (h : InHand s a sh k) : s.isCurrent a = true := by
  rcases h.state with e | e <;> simp [isCurrent, sheetIs, Sheet.atWork, h.sheet, h.number, h.ending, e]

theorem ticketOf_of_inHand (h : InHand s a sh k) : s.ticketOf a.slot = some k := by
  rw [ticketOf, h.sheet]
  exact h.ticket

/-- With retries left a sheet has its second pass, in which its slot is not let go. -/
theorem spoil_retries (h : InHand s a sh k) (hr : sh.attempt ≤ k.retryBudget) :
    (s.spoil a cause).letGo a.slot = (s.raise .sheetSpoiled).secondPass a.slot := by
  have hspoil : s.spoil a cause = (s.raise .sheetSpoiled).secondPass a.slot := by
    rw [spoil, if_pos (isCurrent_of_inHand h), ticketOf_of_inHand h]
    exact if_pos (Nat.lt_succ_of_le (h.number ▸ hr))
  obtain ⟨sh', hsh', -, hstate, -⟩ := secondPass_sheet (s.raise .sheetSpoiled) a.slot sh (h.congr (by simp)).sheet
  rw [hspoil]
  exact letGo_stays _ _ sh' hsh' (by rw [hstate]; split <;> simp)

/-- With none left its order ends. -/
theorem spoil_ends (h : InHand s a sh k) (hr : k.retryBudget < sh.attempt) :
    s.spoil a cause = (s.raise .sheetSpoiled).endSheet a.slot .spoiled cause := by
  rw [spoil, if_pos (isCurrent_of_inHand h), ticketOf_of_inHand h]
  exact if_neg (Nat.not_lt.2 (h.number ▸ hr))

/-- The end of an order by a spoil, and the letting-go of its slot (R175, R179). -/
theorem spoil_slotEnding (h : InHand s a sh k) (hr : k.retryBudget < sh.attempt) :
    SlotEnding s.control.queue a.slot .spoiled cause sh.report (s.spoil a cause) := by
  rw [spoil_ends h hr]
  simpa using endSheet_slotEnding (s.raise .sheetSpoiled) a.slot sh .spoiled cause (h.congr (by simp)).sheet h.not_finished
    h.ending

theorem letGo_store_of_slotEnding {q : List QueueEntry} {sl : SheetSlot} {o : OrderOutcome} {d : Detail} {rp : ReportState}
    (h : SlotEnding q sl o d rp s) : (s.letGo sl).store = s.store := by
  cases h with
  | kept sh' hsh hs he =>
    rw [letGo_ended s sl sh' o d hsh hs he]
    split
    · simp
    · rfl
  | freed _ _ _ hsh => rw [letGo_free s sl hsh]

/-- A spoil makes no slot READY. -/
theorem NotReady.spoil {i : Fin 128} {w : Way} (h : NotReady s i w) (hin : InHand s a sh k) :
    NotReady ((s.spoil a cause).letGo a.slot) i w := by
  have hraise : NotReady (s.raise .sheetSpoiled) i w := h.of_store (by simp)
  by_cases hr : sh.attempt ≤ k.retryBudget
  · rw [spoil_retries hin hr]
    exact hraise.secondPass
  · have hlt : k.retryBudget < sh.attempt := Nat.lt_of_not_le hr
    have hend : NotReady (s.spoil a cause) i w := by
      rw [spoil_ends hin hlt]
      exact hraise.endSheet _ _
    exact hend.of_store (letGo_store_of_slotEnding (spoil_slotEnding hin hlt))

end State

end Sys2Proof.Machine
end

section
/-! An uncorrectable error found by a painting (R110 to R113, R143, R144, R177). -/

namespace Sys2Proof.Machine

theorem LinkStopped.congr {s s' t t' : State} {h : LinkHold} (hs : LinkStopped s t h) (h1 : s'.link = s.link)
    (h2 : s'.out = s.out) (h3 : t'.link = t.link) (h4 : t'.out = t.out) : LinkStopped s' t' h := by
  constructor <;> rw [h1, h2, h3, h4]
  exacts [hs.silent, hs.aborted, hs.sending]

/-- A sheet with its attempt in hand replaces no reference at once (R111). -/
theorem InHand.replaces_later {s : State} {a : Attempt} {sh : Sheet} {k : Ticket} (h : InHand s a sh k) (sh' : Sheet)
    (hsh : s.sheet a.slot = some sh') : sh'.replacesAtOnce = false := by
  obtain rfl := Option.some.inj (h.sheet.symm.trans hsh)
  rcases h.state with e | e <;> simp [Sheet.replacesAtOnce, e]

theorem InHand.of_sheet {s t : State} {a : Attempt} {sh : Sheet} {k : Ticket} (h : InHand s a sh k)
    (hsh : t.sheet a.slot = s.sheet a.slot) : InHand t a sh k :=
  ⟨hsh.trans h.sheet, h.number, h.state, h.ending, h.report, h.ticket⟩

/-- The order of a sheet that an earlier damage left alone ends from the orders before it. -/
theorem SlotEnding.of_kept {q q' : List QueueEntry} {sl : SheetSlot} {o : OrderOutcome} {d : Detail} {rp : ReportState}
    {t : State} (h : SlotEnding q' sl o d rp t) (hq : EntriesKept (fun e => e.slot ≠ some (otherSlot sl)) q q') :
    SlotEnding q sl o d rp t := by
  cases h with
  | kept sh hsh hs he hr hk => exact .kept sh hsh hs he hr ((hq.mono fun _ h => h.2).trans hk)
  | freed hr hl hw hsh hk =>
    refine .freed hr hl hw hsh fun i e hi hslot hkind => hk i e (hq.entry i e hi ?_) hslot hkind
    rw [hslot]
    simpa using ne_otherSlot sl

/-- The release of holds after a tile of the sheet's own pool was marked for rebuilding: the pool is emptied either way
(R112, R113). -/
theorem HoldsReleased.of_markRebuild {s t : State} {sl : SheetSlot} {n : Fin 64} (h : HoldsReleased (s.markRebuild sl n) t sl) :
    HoldsReleased s t sl := by
  have hslot (i : Fin 128) (w : Way) : (s.markRebuild sl n).store.slot i w = s.store.slot i w := by simp [TileStore.slot]
  have hlost (r : TileRef) : LostBy (s.markRebuild sl n) sl r ↔ LostBy s sl r := by cases r <;> simp [LostBy, hslot]
  have hother : (s.markRebuild sl n).store.pool (otherSlot sl) = s.store.pool (otherSlot sl) :=
    TileStore.pool_setPool_ne _ _ _ (otherSlot_ne sl) _
  obtain ⟨hunheld, hshared, hkept, hemptied, hlru, hpool, hoth, hqueue, horder, hcut, hgoes, hout⟩ := h
  simp only [hslot, hlost, hother, State.markRebuild_frame] at *
  exact ⟨hunheld, hshared, hkept, hemptied, hlru, hpool, hoth, hqueue, horder, hcut, hgoes, hout⟩

theorem Spoiled.of_markRebuild {s t : State} {a : Attempt} {n : Fin 64} {sh : Sheet} {k : Ticket} {cause : Detail}
    (h : Spoiled (s.markRebuild a.slot n) t a sh k cause) : Spoiled s t a sh k cause where
  event := h.event
  retry := h.retry
  freed := fun h1 h2 h3 => by
    obtain ⟨hsheet, hqueue, hwalker⟩ := h.freed h1 h2 h3
    exact ⟨hsheet, by simpa using hqueue, hwalker.congr (by simp) (by simp) rfl rfl⟩
  kept := fun h1 h2 => by simpa using h.kept h1 h2
  released := fun h1 => (h.released h1).of_markRebuild

namespace State

variable {s : State} {a : Attempt} {sh : Sheet} {k : Ticket} {loc : CheckLoc}

/-! ## The tile found damaged (R110 to R112) -/

/-- Damage leaves the sheet alone whose painting found it. -/
theorem damageTile_sheet (h : InHand s a sh k) (loc : CheckLoc) : (s.damageTile loc).sheet a.slot = s.sheet a.slot := by
  unfold damageTile
  split
  · exact condemn_sheet h.replaces_later
  · exact sheet_of_control (by simp) _
  · rfl

/-- Damage leaves the order alone of the sheet whose painting found it. -/
theorem damageTile_entries (h : InHand s a sh k) (loc : CheckLoc) :
    EntriesKept (fun e => e.slot ≠ some (otherSlot a.slot)) s.control.queue (s.damageTile loc).control.queue := by
  unfold damageTile
  split
  · exact condemn_entries h.replaces_later
  · exact .of_eq (by simp)
  · exact .refl _ _

/-- A store slot that one sheet with its attempt in hand holds is CONDEMNED with its hold. -/
theorem condemn_inHand {i : Fin 128} {w : Way} (h : InHand s a sh k)
    (hh : (s.store.slot i w).holders = ⟨a.slot == .a, a.slot == .b⟩) :
    ((s.condemn i w).store.slot i w).state = .condemned ∧
      ((s.condemn i w).store.slot i w).holders = ⟨a.slot == .a, a.slot == .b⟩ := by
  by_cases hs : (s.store.slot i w).state = .condemned
  · rw [condemn_again hs]
    exact ⟨hs, hh⟩
  · rw [condemn_quiet hs fun sl sh' hsh hhas => ?_]
    · simpa using hh
    · obtain rfl : sl = a.slot := by
        rw [hh] at hhas
        cases sl <;> cases ha : a.slot <;> simp [ha, Holders.has] at hhas ⊢
      exact h.replaces_later sh' hsh

/-! ## The attempt that the damage spoils (R143, R144, R177) -/

/-- The Composer's own attempt has ended for it. -/
theorem spoilAttempt_composer (s : State) (cause : Detail) (hc : s.composer.attempt = some a) (h : InHand s a sh k) :
    (s.spoilAttempt a cause).composer.attempt = none ∧ (s.spoilAttempt a cause).composer.state = .idle := by
  obtain ⟨-, -, hbuf, -⟩ := s.spoilAttempt_spec a sh k cause h
  obtain ⟨hnone, hidle, -⟩ := hbuf.current hc
  exact ⟨hnone, hidle⟩

/-- A link that holds another attempt, or none, stays as it is. -/
theorem spoilAttempt_link (s : State) (cause : Detail) (h : InHand s a sh k)
    (hl : s.link.held.map (·.attempt) ≠ some a) :
    (s.spoilAttempt a cause).link = s.link ∧ (s.spoilAttempt a cause).out = s.out := by
  obtain ⟨-, -, -, -, hlink, hout⟩ := s.spoilAttempt_spec a sh k cause h
  have hstop : (s.endAttempt a).linkStop a = s.endAttempt a := by
    cases hh : s.link.held with
    | none => exact linkStop_idle _ a (by simpa using hh)
    | some x => exact linkStop_other _ a x (by simpa using hh) fun e => hl (by rw [hh, ← e]; rfl)
  rw [hlink, hout, hstop]
  simp

theorem spoilAttempt_retries (s : State) (cause : Detail) (h : InHand s a sh k) (hr : sh.attempt ≤ k.retryBudget) :
    s.spoilAttempt a cause = ((s.stopAttempt a).raise .sheetSpoiled).secondPass a.slot :=
  spoil_retries (h.congr (by simp)) hr

/-- A damaged tile is not READY after the spoil. -/
theorem spoilAttempt_notReady {i : Fin 128} {w : Way} (cause : Detail) (hn : NotReady s i w) (h : InHand s a sh k) :
    NotReady (s.spoilAttempt a cause) i w :=
  (hn.of_store (t := s.stopAttempt a) (by simp)).spoil (h.congr (by simp))

/-- With no retry left the order ends, told in the terms of the orders before the damage. -/
theorem spoilAttempt_ended (s : State) (loc : CheckLoc) (cause : Detail) (h : InHand s a sh k)
    (hr : k.retryBudget < sh.attempt) :
    SheetEnded s ((s.damageTile loc).spoilAttempt a cause) a.slot sh .spoiled cause := by
  have hd : InHand ((s.damageTile loc).stopAttempt a) a sh k := (h.of_sheet (damageTile_sheet h loc)).congr (by simp)
  have hends := (spoil_slotEnding (cause := cause) hd hr).of_kept
    (q := s.control.queue) (by simpa using damageTile_entries h loc)
  obtain ⟨hslot, hfree⟩ := hends.letGo
  exact hslot.sheetEnded hfree

end State

end Sys2Proof.Machine
end

section
/-! The clauses of an uncorrectable error, by its reader (R110 to R113, R131, R143, R159, R169, R198, R199). -/

namespace Sys2Proof.Machine

namespace State

variable {s : State} {a : Attempt} {sh : Sheet} {k : Ticket}

/-! ## Found by a send (R159) -/

/-- Damage found by a send: the send ends, the link closes, and the attempt is spoiled. -/
theorem sendFindsDamage_spec {h : LinkHold} (b : Nat) (hin : InHand s h.attempt sh k)
    (hc : s.composer.attempt = none ∨ s.composer.attempt = some h.attempt) :
    (s.sendFindsDamage h b).link = Link.closedWith s.link.config s.link.ready ∧
      (s.sendFindsDamage h b).out.pressMessages =
        s.out.pressMessages ++ (if h.mode = .live then [.abort h.sheetId] else []) ∧
      ((s.sendFindsDamage h b).composer.buf (bufferFor b)).state = .empty ∧
      (s.sendFindsDamage h b).composer.attempt = none ∧ BuffersEnded s (s.sendFindsDamage h b) h.attempt (some b) ∧
      Spoiled s (s.sendFindsDamage h b) h.attempt sh k .damage := by
  set v := (s.tell h (.abort h.sheetId)).linkClose with hv
  have hvs : v.composer = s.composer := by simp [hv]
  have hcomposer : (s.sendFindsDamage h b).composer = ((v.endAttempt h.attempt).giveBack (bufferFor b)).composer := by
    simp [sendFindsDamage, hv]
  have hbuf : BuffersEnded s (s.sendFindsDamage h b) h.attempt (some b) :=
    (v.endAttempt_giveBack h.attempt b).congr hvs.symm hcomposer
  have hspoil := ((v.endAttempt h.attempt).giveBack (bufferFor b)).spoil_spec h.attempt sh k .damage
    (hin.congr (by simp [hv]))
  refine ⟨by simp [sendFindsDamage, linkClose], ?_, by rw [hbuf.emptied _ (.inr rfl) hc], ?_, hbuf,
    hspoil.congr (by simp [hv]) (by simp [hv]) (by simp [hv]) (by simp [hv]) (by simp [hv])⟩
  · rw [← tell_messages]
    simp [sendFindsDamage]
  · rw [hcomposer, (giveBack_frame _ _).2.2.2.2.2.2.2.2.2.2.1, endAttempt_attempt, hvs]
    rcases hc with hc | hc <;> simp [hc]

/-! ## Found by a painting (R110 to R113, R143) -/

/-- Damage of a scratch tile whose sheet has its second pass: the tile is built anew (R112, R113). -/
theorem markRebuild_spoils {i : Fin 64} {c : Cell} {src : Source} (h : InHand s a sh k) (hr : sh.attempt ≤ k.retryBudget)
    (hstore : ∀ d ∈ sh.cells, ∀ j w, d.ref = some (.store j w) → (s.store.slot j w).state ≠ .condemned)
    (hc : sh.firstOf (.scratch a.slot i) = some c) (hsrc : c.source = some src) :
    Rebuilt s ((s.markRebuild a.slot i).spoilAttempt a .damage) a.slot i c src := by
  have hd : InHand (s.markRebuild a.slot i) a sh k := h.congr (by simp)
  rw [spoilAttempt_retries _ _ hd hr]
  set e := ((s.markRebuild a.slot i).stopAttempt a).raise .sheetSpoiled with he
  have hestore : e.store = s.store.setScratch a.slot i { (s.store.pool a.slot).slots[i] with state := .rebuild } := by
    simp [he, markRebuild, mapScratch]
  have hslot : (e.store.pool a.slot).slots[i] = { (s.store.pool a.slot).slots[i] with state := .rebuild } := by
    simp [hestore, TileStore.setScratch]
  obtain ⟨hfilling, hdirectory, hqueued, hwaits⟩ := secondPass_rebuilds (s := e) (hd.congr (by simp [he])).sheet
    (fun d hm j w href => by simpa [hestore] using hstore d hm j w href) hc hsrc (by rw [hslot])
  exact ⟨by rw [hfilling, hslot], by rw [hdirectory, hestore]; simp [TileStore.setScratch], hqueued, hwaits⟩

/-- The terms of a spoil by a painting, for what is no store tile and no tile of the other sheet. -/
theorem damageTile_spoiled {loc : CheckLoc} (h : InHand s a sh k) (hst : ∀ i w, loc ≠ .storeTile i w)
    (hsc : ∀ i, loc ≠ .scratchTile (otherSlot a.slot) i) :
    Spoiled s ((s.damageTile loc).spoilAttempt a .damage) a sh k .damage := by
  have hspoil := (spoilAttempt_spec _ a sh k .damage (h.of_sheet (damageTile_sheet h loc))).1
  cases loc with
  | storeTile i w => exact absurd rfl (hst i w)
  | scratchTile p i =>
    obtain rfl : p = a.slot := by
      by_contra hp
      exact hsc i (by cases p <;> cases ha : a.slot <;> simp [ha, otherSlot] at hp ⊢)
    exact hspoil.of_markRebuild
  | band b => exact hspoil
  | glyph g c => exact hspoil

/-- A store tile that the ended sheet alone held is EMPTY (R93, R109). -/
theorem condemn_spoils_blank {i : Fin 128} {w : Way} (h : InHand s a sh k) (hr : k.retryBudget < sh.attempt)
    (hh : (s.store.slot i w).holders = ⟨a.slot == .a, a.slot == .b⟩) :
    ((s.condemn i w).spoilAttempt a .damage).store.slot i w = StoreSlot.blank := by
  obtain ⟨hcondemned, hholders⟩ := condemn_inHand h hh
  have hd : InHand (s.condemn i w) a sh k := h.of_sheet (condemn_sheet h.replaces_later)
  exact ((spoilAttempt_spec _ a sh k .damage hd).1.released hr).emptied i w hholders (.inr hcondemned)

/-! ## Found in a glyph (R131) -/

theorem damageGlyph_some {g : Fin 3} {set : GlyphSet} (c : Code) (h : s.glyphs[g] = some set) :
    s.damageGlyph g c = s.setGlyphs (s.glyphs.set g.val (some { set with
      map := set.map.map fun h => if h.code = c then { h with damaged := true } else h }) g.isLt) := by
  simp only [damageGlyph, h, beq_iff_eq]

/-- A glyph that the attempt does not yet pass over is marked, and silent from the read on. -/
theorem paintingFindsGlyph_first {g : Fin 3} {c : Code} (n : Nat)
    (h : ∀ z ∈ s.composer.silenced, ¬(z.set = g ∧ z.code = c)) : s.paintingFindsGlyph g c n =
    (s.damageGlyph g c).setComposer { s.composer with
      silenced := s.composer.silenced ++ [⟨g, c, s.composer.nextBand, n⟩] } := by
  have hany : ¬ (s.composer.silenced.any fun z => z.set == g && z.code == c) = true := by
    simpa using fun z hz hg hc => h z hz ⟨hg, hc⟩
  have hcomposer : (s.damageGlyph g c).composer = s.composer := by simp
  simp only [paintingFindsGlyph, if_neg hany, hcomposer]

theorem paintingFindsGlyph_again {g : Fin 3} {c : Code} (n : Nat) (h : ∃ z ∈ s.composer.silenced, z.set = g ∧ z.code = c) :
    s.paintingFindsGlyph g c n = s := by
  refine if_pos ?_
  simpa using h

end State

/-! ## The clauses -/

section
variable {s : State} {n : Nat} {a : Attempt} {sh : Sheet} {k : Ticket}

/-- The error in the log, and what it leaves alone (R198). -/
theorem uncorrectableError_logged (s : State) (loc : CheckLoc) (by_ : Reader) (n : Nat) :
    let t := (s.logUncorrectable loc).takeDamage loc by_ n
    t.check.locked = true ∧ (s.check.locked = false → t.check.uncorrectable = some loc ∧ t.hasEvent .integrity = true) ∧
      (s.check.locked = true → t.check.uncorrectable = s.check.uncorrectable ∧
        t.hasEvent .integrity = s.hasEvent .integrity) ∧
      t.check.correctable = s.check.correctable ∧ t.check.count = s.check.count ∧
      t.port.outstanding = s.port.outstanding ∧ t.out.serverWrites = s.out.serverWrites := by
  intro t
  have hevent := (s.logUncorrectable loc).takeDamage_integrity loc by_ n
  cases hl : s.check.locked with
  | false =>
    obtain ⟨hrecord, hlocked, hraised⟩ := State.logUncorrectable_unlocked loc hl
    exact ⟨by simpa [t] using hlocked, fun _ => ⟨by simpa [t] using hrecord, hevent.trans hraised⟩, nofun, by simp [t],
      by simp [t], by simp [t], by simp [t]⟩
  | true =>
    rw [State.logUncorrectable_locked loc hl] at hevent
    have ht : t = s.takeDamage loc by_ n := by simp only [t, State.logUncorrectable_locked loc hl]
    exact ⟨by simpa [ht] using hl, nofun, fun _ => ⟨by simp [ht], ht ▸ hevent⟩, by simp [ht], by simp [ht], by simp [ht],
      by simp [ht]⟩

/-- Damage found by a painting, in the terms of the state before it was found. -/
theorem paintingDamage_spec (loc : CheckLoc) (hc : s.composer.attempt = some a) (h : InHand s a sh k) :
    let t := (s.damageTile loc).spoilAttempt a .damage
    t.composer.attempt = none ∧ t.composer.state = .idle ∧ t.hasEvent .sheetSpoiled = true ∧
      (∀ i w, loc = .storeTile i w → (t.store.slot i w).state ≠ .ready) ∧ BuffersEnded s t a none ∧ WriterStopped s t a ∧
      (∀ x, s.link.held = some x → x.attempt = a → LinkStopped s t x) ∧
      (s.link.held.map (·.attempt) ≠ some a → t.link = s.link ∧ t.out = s.out) ∧
      (sh.attempt ≤ k.retryBudget → ∃ sh', t.sheet a.slot = some sh' ∧ sh'.attempt = sh.attempt + 1 ∧
        sh'.state = (if 0 < sh'.pendingBuilds then .filling else .ready)) := by
  intro t
  have hd : InHand (s.damageTile loc) a sh k := h.of_sheet (State.damageTile_sheet h loc)
  obtain ⟨hspoil, -, hbuf, hwriter, hlink, hout⟩ := State.spoilAttempt_spec (s.damageTile loc) a sh k .damage hd
  obtain ⟨hnone, hidle⟩ := State.spoilAttempt_composer (s.damageTile loc) .damage (by simpa using hc) hd
  refine ⟨hnone, hidle, hspoil.event, ?_, hbuf.congr (by simp) rfl, hwriter.congr (by simp) rfl, ?_, fun hl => ?_,
    fun hr => ?_⟩
  · rintro i w rfl
    exact State.spoilAttempt_notReady .damage (s.condemn_notReady i w) hd
  · rintro x hx rfl
    exact ((s.damageTile loc).endAttempt_linkStopped x (by simpa using hx)).congr (by simp) (by simp) hlink hout
  · simpa using State.spoilAttempt_link (s.damageTile loc) .damage hd (by simpa using hl)
  · obtain ⟨sh', hsh', hattempt, hstate, -⟩ := hspoil.retry hr
    exact ⟨sh', hsh', hattempt, hstate⟩

theorem exec_uncorrectableError_painting {loc : CheckLoc} (hr : s.canRead loc .composer = true)
    (hc : s.composer.attempt = some a) : exec (.uncorrectableError loc .composer n) s =
      .next (((s.logUncorrectable loc).damageTile loc).spoilAttempt a .damage) := by
  have hu : (s.logUncorrectable loc).composer.attempt = some a := by simpa using hc
  rw [State.exec_uncorrectableError n hr]
  simp only [State.takeDamage, State.painterFindsDamage, hu]

theorem exec_uncorrectableError_send {h : LinkHold} {b : Nat} (hb : s.link.sending = some b) (hh : s.link.held = some h) :
    exec (.uncorrectableError (.band (bufferFor b)) .pressLink n) s =
      .next ((s.logUncorrectable (.band (bufferFor b))).sendFindsDamage h b) := by
  rw [State.exec_uncorrectableError n (by simp [State.canRead, hb])]
  simp [State.takeDamage, hb, hh]

end

/-- Settles O49: the log by `uncorrectableError_logged`, then the reader that found the damage: a send by
`sendFindsDamage_spec`, a band write by the mark it leaves, a painting by `paintingDamage_spec` and what becomes of its
tile, and a glyph by its mark. -/
theorem uncorrectableErrorTakesEffect : Obligations.UncorrectableErrorTakesEffect := by
  refine ⟨fun s loc by_ n hr => ⟨_, State.exec_uncorrectableError n hr, uncorrectableError_logged s loc by_ n⟩, ?_, ?_, ?_,
    ?_⟩
  · intro s h b n sh k hb hh hin hc
    obtain ⟨hlink, hout, hempty, hnone, hbuf, hspoil⟩ := State.sendFindsDamage_spec
      (s := s.logUncorrectable (.band (bufferFor b))) b (hin.congr (by simp)) (by simpa using hc)
    exact ⟨_, exec_uncorrectableError_send hb hh, by simpa [Link.closedWith] using hlink, by simpa using hout, hempty, hnone,
      hbuf.congr (by simp) rfl, hspoil.congr (by simp) (by simp) (by simp) (by simp) (by simp)⟩
  · intro s n hs hd
    rw [State.exec_uncorrectableError n (by simp [State.canRead, hs, hd]), State.logUncorrectable_eq]
    set loc := CheckLoc.band (bufferFor s.writer.nextBand)
    have hwriter : (s.errorLogged loc).writer = s.writer := by
      rw [← State.logUncorrectable_eq]
      simp
    have hmark : (s.errorLogged loc).takeDamage loc .proofWriter n =
        (s.errorLogged loc).setWriter { (s.errorLogged loc).writer with damage := true } := rfl
    rw [hmark, hwriter]
    rfl
  · intro s loc n a sh k hr hc hin
    have hu : InHand (s.logUncorrectable loc) a sh k := hin.congr (by simp)
    obtain ⟨hnone, hidle, hevent, hready, hbuf, hwriter, hlink, hother, hretry⟩ :=
      paintingDamage_spec loc (s := s.logUncorrectable loc) (by simpa using hc) hu
    refine ⟨_, exec_uncorrectableError_painting hr hc, hnone, hidle, hevent, hready, hbuf.congr (by simp) rfl,
      hwriter.congr (by simp) rfl, fun h hh ha => ?_, fun hl => by simpa using hother (by simpa using hl),
      fun hst hsc => ?_, fun i w e hend => ⟨?_, fun hh => ?_⟩, hretry, ?_, ?_⟩
    · exact (hlink h (by simpa using hh) ha).congr (by simp) (by simp) rfl rfl
    · exact (State.damageTile_spoiled hu hst hsc).congr (by simp) (by simp) (by simp) (by simp) (by simp)
    · exact (State.spoilAttempt_ended _ loc .damage hu hend).congr (by simp)
    · subst e
      exact State.condemn_spoils_blank hu hend (by simpa using hh)
    · rintro i rfl hend
      exact ((State.damageTile_spoiled hu (by simp) (by simp [ne_otherSlot])).released hend).pool
    · rintro i c src rfl hagain hstore hcell hsrc
      obtain ⟨hslot, hdirectory, hqueued, hwaits⟩ := State.markRebuild_spoils hu hagain (by simpa using hstore) hcell hsrc
      exact ⟨hslot.trans (by simp), hdirectory.trans (by simp), hqueued, hwaits⟩
  · intro s g c n set hg
    have hu : (s.errorLogged (.glyph g c)).glyphs = s.glyphs ∧ (s.errorLogged (.glyph g c)).composer = s.composer := by
      rw [← State.logUncorrectable_eq]
      simp
    obtain ⟨hglyphs, hcomposer⟩ := hu
    have hset : (s.errorLogged (.glyph g c)).glyphs[g] = some set := by simpa [hglyphs] using hg
    refine ⟨fun hr => ?_, fun hr hz => ?_, fun hr hz => ?_⟩
    · rw [State.exec_uncorrectableError n hr, State.logUncorrectable_eq, State.takeDamage,
        State.damageGlyph_some c hset, hglyphs]
      rfl
    · rw [State.exec_uncorrectableError n hr, State.logUncorrectable_eq, State.takeDamage,
        State.paintingFindsGlyph_first n (by rwa [hcomposer]), State.damageGlyph_some c hset, hglyphs, hcomposer]
      rfl
    · rw [State.exec_uncorrectableError n hr, State.logUncorrectable_eq, State.takeDamage,
        State.paintingFindsGlyph_again n (by rwa [hcomposer])]

end Sys2Proof.Machine
end

section
/-! The scan of a glyph block: records that are whole and in range are read back one after another, and the first that is out
of range ends the scan (R119, R215). -/

namespace Sys2Proof.Machine

/-! ## The bytes of a record (R215) -/

/-- The bytes of a glyph record: its code, advance and width, and its alpha values (R215). -/
def Glyph.record (g : Glyph) : List Byte :=
  leBytes 2 g.code.toNat ++ leBytes 1 g.advance ++ leBytes 1 g.width ++ g.alpha

/-- A glyph as a block of a line height can give it: its fields in range, its bitmap whole, and no mark on it (R119, R215). -/
structure Glyph.Given (g : Glyph) (lineHeight : Nat) : Prop where
  advance_pos : 1 ≤ g.advance
  advance_le : g.advance ≤ 64
  width_le : g.width ≤ 48
  bitmap : g.alpha.length = g.width * lineHeight
  undamaged : g.damaged = false
  unpoisoned : g.poisoned = false

theorem Glyph.given_iff {g : Glyph} {lineHeight : Nat} : g.Given lineHeight ↔ 1 ≤ g.advance ∧ g.advance ≤ 64 ∧
    g.width ≤ 48 ∧ g.alpha.length = g.width * lineHeight ∧ g.damaged = false ∧ g.poisoned = false :=
  ⟨fun ⟨h1, h2, h3, h4, h5, h6⟩ => ⟨h1, h2, h3, h4, h5, h6⟩, fun ⟨h1, h2, h3, h4, h5, h6⟩ => ⟨h1, h2, h3, h4, h5, h6⟩⟩

theorem Glyph.record_eq (g : Glyph) : g.record = BitVec.ofNat 8 g.code.toNat :: BitVec.ofNat 8 (g.code.toNat / 256) ::
    BitVec.ofNat 8 g.advance :: BitVec.ofNat 8 g.width :: g.alpha := by
  simp [record, leBytes_one, leBytes_two]

theorem Glyph.record_length (g : Glyph) : g.record.length = 4 + g.alpha.length := by
  simp [record_eq]
  omega

theorem byteAt_append_right (pre bs : List Byte) (i : Nat) : byteAt (pre ++ bs) (pre.length + i) = byteAt bs i := by
  simp [byteAt, List.getD_eq_getElem?_getD, List.getElem?_append_right]

theorem u8_append_right (pre bs : List Byte) (i : Nat) : u8 (pre ++ bs) (pre.length + i) = u8 bs i := by
  rw [u8, u8, byteAt_append_right]

theorem u8_append_left {bs : List Byte} (more : List Byte) {i : Nat} (h : i < bs.length) : u8 (bs ++ more) i = u8 bs i := by
  simp [u8, byteAt, List.getD_eq_getElem?_getD, List.getElem?_append_left h]

/-! ## One record (R119) -/

section
variable {pre rest : List Byte} {lineHeight checked left : Nat}

/-- A whole record in range is read back, and the scan goes on after it. -/
theorem scanGlyphs_record {g : Glyph} (hg : g.Given lineHeight) :
    scanGlyphs (pre ++ (g.record ++ rest)) lineHeight pre.length checked (left + 1) =
      let r := scanGlyphs ((pre ++ g.record) ++ rest) lineHeight (pre ++ g.record).length (checked + 1) left
      (r.1, g :: r.2) := by
  obtain ⟨hpos, hadv, hwid, hbits, hdam, hpoi⟩ := hg
  have hlow : u8 (pre ++ (g.record ++ rest)) pre.length = g.code.toNat % 256 := by
    simp [Glyph.record_eq, u8, byteAt]
  have hhigh : u8 (pre ++ (g.record ++ rest)) (pre.length + 1) = g.code.toNat / 256 % 256 := by
    simp [Glyph.record_eq, u8, byteAt]
  have hadvance : u8 (pre ++ (g.record ++ rest)) (pre.length + 2) = g.advance := by
    rw [u8_append_right, Glyph.record_eq]
    simp [u8, byteAt]
    omega
  have hwidth : u8 (pre ++ (g.record ++ rest)) (pre.length + 3) = g.width := by
    rw [u8_append_right, Glyph.record_eq]
    simp [u8, byteAt]
    omega
  have hcode : codeAt (pre ++ (g.record ++ rest)) pre.length = g.code := by
    rw [codeAt, u16, hlow, hhigh, twoBytes_value, ← BitVec.toNat_inj, BitVec.toNat_ofNat]
    omega
  have halpha : slice (pre ++ (g.record ++ rest)) (pre.length + 4) (g.width * lineHeight) = g.alpha := by
    simp [slice, Glyph.record_eq, ← hbits]
  have hlen : pre.length + 4 + g.width * lineHeight = (pre ++ g.record).length := by
    rw [List.length_append, Glyph.record_length, hbits]
    omega
  have hfits : (pre ++ g.record).length ≤ (pre ++ (g.record ++ rest)).length := by
    simp
  have hglyph : (⟨g.code, g.advance, g.width, g.alpha, false, false⟩ : Glyph) = g := by
    cases g
    cases hdam
    cases hpoi
    rfl
  simp only [scanGlyphs, hadvance, hwidth, hcode, halpha, hlen, hglyph]
  rw [if_neg (by omega), if_neg (by omega), if_neg (by omega), List.append_assoc]

/-- A record out of range ends the scan once its first four bytes are there. -/
theorem scanGlyphs_outOfRange (hlen : 4 ≤ rest.length) (h : u8 rest 2 < 1 ∨ 64 < u8 rest 2 ∨ 48 < u8 rest 3) :
    scanGlyphs (pre ++ rest) lineHeight pre.length checked (left + 1) = (.refused .glyph, []) := by
  rw [scanGlyphs, if_neg (by simp; omega), u8_append_right, u8_append_right]
  exact if_pos h

/-! ## A block of records (R119, R215) -/

/-- Whole records in range are read back in their order, and the scan goes on after them. -/
theorem scanGlyphs_records {gs : List Glyph} (hgs : ∀ g ∈ gs, g.Given lineHeight) :
    scanGlyphs (pre ++ (gs.flatMap Glyph.record ++ rest)) lineHeight pre.length checked (gs.length + left) =
      let r := scanGlyphs ((pre ++ gs.flatMap Glyph.record) ++ rest) lineHeight (pre ++ gs.flatMap Glyph.record).length
        (checked + gs.length) left
      (r.1, gs ++ r.2) := by
  induction gs generalizing pre checked with
  | nil => simp
  | cons g gs ih =>
    have hrest := ih (pre := pre ++ g.record) (checked := checked + 1) fun h hm => hgs h (.tail _ hm)
    rw [List.flatMap_cons, List.append_assoc, List.length_cons, Nat.add_right_comm,
      scanGlyphs_record (hgs g (.head _))]
    simp only [List.append_assoc] at hrest ⊢
    rw [hrest]
    simp only [List.cons_append, Nat.add_assoc, Nat.add_comm 1]

end

section
variable {head bs : List Byte} {n : Nat}

/-- A block whose header is whole, with a line height in range, gives the records that its scan finds whole. -/
theorem scanGlyphBlock_whole {gs found : List Glyph} (hlen : head.length = 16) (hlo : 8 ≤ u8 head 0) (hhi : u8 head 0 ≤ 48)
    (hscan : scanGlyphs (head ++ bs) (u8 head 0) head.length 0 n = (.whole found, gs)) :
    scanGlyphBlock (head ++ bs) n = .whole gs := by
  have hheight : u8 (head ++ bs) 0 = u8 head 0 := u8_append_left bs (by omega)
  rw [hlen] at hscan
  rw [scanGlyphBlock, if_neg (by rw [List.length_append]; omega), hheight, if_neg (by omega),
    if_neg (by rw [List.length_append]; omega)]
  simp only [hscan]

/-- A block whose header is whole, with a line height in range, is refused where the scan of its records is. -/
theorem scanGlyphBlock_refused {d : Detail} {gs : List Glyph} (hlen : head.length = 16) (hlo : 8 ≤ u8 head 0)
    (hhi : u8 head 0 ≤ 48) (hscan : scanGlyphs (head ++ bs) (u8 head 0) head.length 0 n = (.refused d, gs)) :
    scanGlyphBlock (head ++ bs) n = .refused d := by
  have hheight : u8 (head ++ bs) 0 = u8 head 0 := u8_append_left bs (by omega)
  rw [hlen] at hscan
  rw [scanGlyphBlock, if_neg (by rw [List.length_append]; omega), hheight, if_neg (by omega),
    if_neg (by rw [List.length_append]; omega)]
  simp only [hscan]

end

/-- Settles O33: the header decides by its first byte; a block with whole records is scanned record by record, by induction
on them, and ends where they do or at the record that is out of range. -/
theorem glyphBlocksScan : Obligations.GlyphBlocksScan := by
  refine ⟨fun bs n hne h => ?_, fun head gs more hlen hlo hhi hgs => ?_, fun head gs rec n hlen hlo hhi hgs hn hrec hbad => ?_⟩
  · rw [scanGlyphBlock, if_neg (by simpa using hne), if_pos h]
  · have hscan := scanGlyphs_records (pre := head) (rest := more) (checked := 0) (left := 0)
      fun g hg => Glyph.given_iff.mpr (hgs g hg)
    simp only [scanGlyphs, List.append_nil, Nat.add_zero] at hscan
    change scanGlyphBlock (head ++ gs.flatMap Glyph.record ++ more) gs.length = _
    rw [List.append_assoc]
    exact scanGlyphBlock_whole hlen hlo hhi hscan
  · obtain ⟨left, rfl⟩ : ∃ left, n = gs.length + (left + 1) := ⟨n - gs.length - 1, by omega⟩
    have hscan := scanGlyphs_records (pre := head) (rest := rec) (checked := 0) (left := left + 1)
      fun g hg => Glyph.given_iff.mpr (hgs g hg)
    simp only [scanGlyphs_outOfRange hrec hbad, List.append_nil] at hscan
    change scanGlyphBlock (head ++ gs.flatMap Glyph.record ++ rec) (gs.length + (left + 1)) = _
    rw [List.append_assoc]
    exact scanGlyphBlock_refused hlen hlo hhi hscan

end Sys2Proof.Machine
end

section
/-! The fits of captions and banners (R122 to R128): each lookup, run, clipping and fit, first with no poisoned glyph in the
terms of its statement, then in the bounds that hold of every fitted line. -/

namespace Sys2Proof.Machine

/-! ## The glyph of a code (R122) -/

/-- A map and a code determine the glyph used. -/
theorem CodeFitted.unique {set : GlyphSet} {c : Code} {r r' : Run} (h : CodeFitted set c r) (h' : CodeFitted set c r') :
    r = r' := by
  cases hown : set.find c with
  | some g => rw [h.own g hown, h'.own g hown]
  | none =>
    cases hsub : set.find set.substitute with
    | some g => rw [h.substitute g hown hsub, h'.substitute g hown hsub]
    | none => rw [h.skipped hown hsub, h'.skipped hown hsub]

theorem GlyphSet.mem_of_find {set : GlyphSet} {c : Code} {h : Glyph} (hf : set.find c = some h) : h ∈ set.map :=
  List.mem_of_find?_eq_some hf

namespace State

section
variable {s : State}

/-- A read of a glyph that is not poisoned finds it, and logs nothing. -/
theorem readGlyph_good (h : GlyphsGood s) (g : Fin 3) (c : Code) : s.readGlyph g c = (s, (s.glyphSetOf g).find c) := by
  unfold readGlyph
  cases hf : (s.glyphSetOf g).find c with
  | none => rfl
  | some z => simp [h g z (GlyphSet.mem_of_find hf)]

theorem lookupGlyph_good (h : GlyphsGood s) (g : Fin 3) (c : Code) :
    (s.lookupGlyph g c).1 = s ∧ CodeFitted (s.glyphSetOf g) c (s.lookupGlyph g c).2 := by
  cases hown : (s.glyphSetOf g).find c with
  | some z =>
    have hx : s.lookupGlyph g c = (s, ⟨[⟨z.code, z.advance⟩], false⟩) := by simp [lookupGlyph, readGlyph_good h, hown]
    rw [hx]
    exact ⟨rfl, by simp +contextual [hown], by simp [hown], by simp [hown]⟩
  | none =>
    cases hsub : (s.glyphSetOf g).find (s.glyphSetOf g).substitute with
    | some z =>
      have hx : s.lookupGlyph g c = (s, ⟨[⟨z.code, z.advance⟩], true⟩) := by
        simp [lookupGlyph, readGlyph_good h, hown, hsub]
      rw [hx]
      exact ⟨rfl, by simp [hown], by simp +contextual [hsub], by simp [hsub]⟩
    | none =>
      have hx : s.lookupGlyph g c = (s, ⟨[], true⟩) := by simp [lookupGlyph, readGlyph_good h, hown, hsub]
      rw [hx]
      exact ⟨rfl, by simp [hown], by simp [hsub], fun _ _ => rfl⟩

/-! ## The run of some codes (R124) -/

theorem lookupRun_good (h : GlyphsGood s) (g : Fin 3) (cs : List Code) :
    (s.lookupRun g cs).1 = s ∧ RunFitted (s.glyphSetOf g) cs (s.lookupRun g cs).2 := by
  induction cs with
  | nil => exact ⟨rfl, .nil⟩
  | cons c cs ih =>
    obtain ⟨hkept, hcode⟩ := lookupGlyph_good h g c
    simp only [lookupRun, hkept]
    exact ⟨ih.1, .cons hcode ih.2⟩

end

end State

/-! ## Clipping (R126) -/

/-- What is left of a line is its longest beginning that fits: every beginning longer than it is too wide. -/
theorem trimReversed_longest (gs : List DrawnGlyph) (limit : Nat) : ∃ n ≤ gs.length,
    (trimReversed gs.reverse limit).reverse = gs.take n ∧ runWidth (gs.take n) ≤ limit ∧
    ∀ m, n < m → m ≤ gs.length → limit < runWidth (gs.take m) := by
  induction gs using List.reverseRecOn with
  | nil => exact ⟨0, Nat.le_refl _, rfl, Nat.zero_le _, fun m h1 h2 => absurd h1 (Nat.not_lt.2 h2)⟩
  | append_singleton gs g ih =>
    have hreverse : runWidth (g :: gs.reverse) = runWidth (gs ++ [g]) := by
      simp [runWidth, Nat.add_comm]
    rw [List.reverse_append, List.reverse_singleton, List.singleton_append, trimReversed, hreverse]
    split
    case isTrue hfits =>
      refine ⟨(gs ++ [g]).length, Nat.le_refl _, by simp, by rwa [List.take_length], fun m h1 h2 => ?_⟩
      exact absurd h1 (Nat.not_lt.2 h2)
    case isFalse hwide =>
      obtain ⟨n, hn, htrim, hfits, hlonger⟩ := ih
      refine ⟨n, by simp; omega, by rw [htrim, List.take_append_of_le_length hn],
        by rwa [List.take_append_of_le_length hn], fun m hm hle => ?_⟩
      by_cases hlast : m ≤ gs.length
      · rw [List.take_append_of_le_length hlast]
        exact hlonger m hm hlast
      · rw [List.take_of_length_le (by simp; omega)]
        omega

theorem runWidth_append (gs hs : List DrawnGlyph) : runWidth (gs ++ hs) = runWidth gs + runWidth hs := by
  simp [runWidth]

namespace State

variable {s : State}

/-- A clipped line is within its limit, whatever is found of the ellipsis. -/
theorem clipLine_width (g : Fin 3) (gs : List DrawnGlyph) (limit : Nat) :
    runWidth (s.clipLine g gs limit).2.glyphs ≤ limit := by
  unfold clipLine
  split
  case isTrue hfits => exact hfits
  case isFalse =>
    dsimp only
    split
    case isTrue => exact Nat.zero_le _
    case isFalse he =>
      obtain ⟨n, -, htrim, hfits, -⟩ := trimReversed_longest gs
        (limit - runWidth (s.lookupGlyph g (s.glyphSetOf g).ellipsis).2.glyphs)
      rw [htrim, runWidth_append]
      omega

theorem clipLine_good (h : GlyphsGood s) (g : Fin 3) (gs : List DrawnGlyph) (limit : Nat) :
    (s.clipLine g gs limit).1 = s ∧ LineClipped (s.glyphSetOf g) gs limit (s.clipLine g gs limit).2 := by
  obtain ⟨hkept, hcode⟩ := lookupGlyph_good h g (s.glyphSetOf g).ellipsis
  set e := (s.lookupGlyph g (s.glyphSetOf g).ellipsis).2 with he
  unfold clipLine
  split
  case isTrue hfits => exact ⟨rfl, fun _ => rfl, fun _ _ hw _ => by omega, fun _ _ hw _ => by omega⟩
  case isFalse hwide =>
    simp only [hkept, ← he]
    split
    case isTrue htoo =>
      exact ⟨rfl, fun hfits => absurd hfits hwide, fun e' he' _ hfits => by obtain rfl := hcode.unique he'; omega,
        fun e' he' _ _ => by obtain rfl := hcode.unique he'; rfl⟩
    case isFalse hroom =>
      refine ⟨rfl, fun hfits => absurd hfits hwide, fun e' he' _ hfits => ?_,
        fun e' he' _ htoo => by obtain rfl := hcode.unique he'; omega⟩
      obtain rfl := hcode.unique he'
      obtain ⟨n, hn, htrim, hwidth, hlonger⟩ := trimReversed_longest gs (limit - runWidth e.glyphs)
      refine ⟨n, ?_, by rw [htrim], by omega, fun m h1 h2 => by have := hlonger m h1 h2; omega⟩
      refine Nat.lt_of_le_of_ne hn fun hall => ?_
      rw [hall, List.take_length] at hwidth
      omega

end State

/-! ## The lookups of a name (R124) -/

/-- The glyphs of a name: of its first part, of its second part, and of the space that joins them. -/
structure NameRuns where
  one : Run
  two : Run
  space : Run

/-- The one line of a name (R124). -/
def NameRuns.line (r : NameRuns) : List DrawnGlyph := r.one.glyphs ++ r.space.glyphs ++ r.two.glyphs

/-- The glyphs found for a name, part by part (R124). -/
def State.findName (s : State) (g : Fin 3) (first second : List Code) : State × NameRuns :=
  let one := s.lookupRun g first
  let two := one.1.lookupRun g second
  let sp := if first ≠ [] ∧ second ≠ [] then two.1.lookupGlyph g (two.1.glyphSetOf g).space else (two.1, ⟨[], false⟩)
  (sp.1, ⟨one.2, two.2, sp.2⟩)

/-- The glyphs of a name are those of its codes, with a space where both parts hold a code (R124). -/
structure NameFitted (set : GlyphSet) (first second : List Code) (r : NameRuns) : Prop where
  one : RunFitted set first r.one
  two : RunFitted set second r.two
  joined : first ≠ [] → second ≠ [] → CodeFitted set set.space r.space
  alone : first = [] ∨ second = [] → r.space = ⟨[], false⟩

theorem State.findName_good {s : State} (h : GlyphsGood s) (g : Fin 3) (first second : List Code) :
    (s.findName g first second).1 = s ∧ NameFitted (s.glyphSetOf g) first second (s.findName g first second).2 := by
  obtain ⟨hone, hrun1⟩ := lookupRun_good h g first
  obtain ⟨htwo, hrun2⟩ := lookupRun_good h g second
  obtain ⟨hspace, hcode⟩ := lookupGlyph_good h g (s.glyphSetOf g).space
  simp only [findName, hone, htwo]
  split
  case isTrue hboth => exact ⟨hspace, hrun1, hrun2, fun _ _ => hcode, fun halone => by tauto⟩
  case isFalse hnot => exact ⟨rfl, hrun1, hrun2, fun h1 h2 => absurd ⟨h1, h2⟩ hnot, fun _ => rfl⟩

/-! ## The lines of a name (R125 to R127) -/

/-- Whether a name is split: its one line does not fit, two are allowed, and both parts hold a code (R125). -/
def Splits (p : Profile) (first second : List Code) (r : NameRuns) : Prop :=
  p.cellWidth < runWidth r.line ∧ p.lines = 2 ∧ first ≠ [] ∧ second ≠ []

/-- A caption within a cell of its profile: no more lines than are allowed, each as wide as its glyphs, within the cell's
width and centred in it (R125 to R127). -/
def CaptionWithin (p : Profile) (lines : List FitLine) : Prop :=
  lines.length ≤ (if p.lines = 2 then 2 else 1) ∧
    ∀ l ∈ lines, l.width = runWidth l.glyphs ∧ l.width ≤ p.cellWidth ∧ l.offset = (p.cellWidth - l.width) / 2

namespace State

/-- The one line of a name, clipped and centred, and its notes. -/
def oneLine (s : State) (p : Profile) (r : NameRuns) : State × List FitLine × Notes :=
  let l := s.clipLine p.glyphSet r.line p.cellWidth
  (l.1, [centredLine p.cellWidth l.2.glyphs],
    fitNotes l.2.clipped (r.one.substituted || r.two.substituted || r.space.substituted || l.2.substituted))

/-- The two lines of a name, each clipped and centred, and their notes. -/
def twoLines (s : State) (p : Profile) (r : NameRuns) : State × List FitLine × Notes :=
  let l0 := s.clipLine p.glyphSet r.one.glyphs p.cellWidth
  let l1 := l0.1.clipLine p.glyphSet r.two.glyphs p.cellWidth
  (l1.1, [centredLine p.cellWidth l0.2.glyphs, centredLine p.cellWidth l1.2.glyphs],
    fitNotes (l0.2.clipped || l1.2.clipped)
      (r.one.substituted || r.two.substituted || l0.2.substituted || l1.2.substituted))

section
variable {s : State} {c : Cell}

theorem fitCaption_none (h1 : c.given = []) (h2 : c.family = []) : s.fitCaption c = (s, [], 0#11) := by
  have hparts (o : NameOrder) : nameParts o [] [] = ([], []) := by cases o <;> rfl
  simp [fitCaption, h1, h2, hparts]

/-- The fit of a cell that holds a code: its name is found, and makes two lines where it splits and one otherwise. -/
theorem fitCaption_some {p : Profile} {first second : List Code} (h : ¬(c.given = [] ∧ c.family = []))
    (hp : s.profileOf c.profile = p) (hn : nameParts p.nameOrder c.given c.family = (first, second)) :
    (Splits p first second (s.findName p.glyphSet first second).2 → s.fitCaption c =
      (s.findName p.glyphSet first second).1.twoLines p (s.findName p.glyphSet first second).2) ∧
    (¬ Splits p first second (s.findName p.glyphSet first second).2 → s.fitCaption c =
      (s.findName p.glyphSet first second).1.oneLine p (s.findName p.glyphSet first second).2) := by
  have hsome : ¬(first = [] ∧ second = []) := by
    unfold nameParts at hn
    split at hn <;> simp only [Prod.mk.injEq] at hn <;> obtain ⟨rfl, rfl⟩ := hn
    · exact h
    · exact fun hnone => h hnone.symm
  unfold fitCaption
  simp only [hp, hn]
  rw [if_neg hsome]
  exact ⟨fun hs => if_pos hs, fun hs => if_neg hs⟩

/-- The caption of a cell is that of its codes, and its fit finds no damage. -/
theorem fitCaption_good (h : GlyphsGood s) (c : Cell) : (s.fitCaption c).1 = s ∧
    CaptionFitted (s.profileOf c.profile) (s.glyphSetOf (s.profileOf c.profile).glyphSet) c
      (s.fitCaption c).2.1 (s.fitCaption c).2.2 := by
  by_cases hnone : c.given = [] ∧ c.family = []
  · rw [fitCaption_none hnone.1 hnone.2]
    exact ⟨rfl, fun _ _ => ⟨rfl, rfl⟩, fun hsome => by tauto⟩
  · set p := s.profileOf c.profile with hp
    set first := if p.nameOrder = .givenFirst then c.given else c.family with hfirst
    set second := if p.nameOrder = .givenFirst then c.family else c.given with hsecond
    have hn : nameParts p.nameOrder c.given c.family = (first, second) := by
      rw [hfirst, hsecond]
      cases p.nameOrder <;> rfl
    obtain ⟨htwo, hone⟩ := fitCaption_some hnone hp.symm hn
    obtain ⟨hkept, hrun1, hrun2, hspace, halone⟩ := findName_good h p.glyphSet first second
    rw [hkept] at htwo hone
    set r := (s.findName p.glyphSet first second).2
    by_cases hsplit : Splits p first second r
    · have hsplits := hsplit
      obtain ⟨hwide, hlines, h1, h2⟩ := hsplits
      obtain ⟨hclip0, hline0⟩ := clipLine_good h p.glyphSet r.one.glyphs p.cellWidth
      obtain ⟨hclip1, hline1⟩ := clipLine_good h p.glyphSet r.two.glyphs p.cellWidth
      rw [htwo hsplit, twoLines, hclip0]
      refine ⟨hclip1, fun a b => absurd ⟨a, b⟩ hnone, fun _ => ⟨first, second, r.one, r.two, r.space, rfl, rfl, hrun1,
        hrun2, hspace, halone, fun hno => ?_, fun _ _ _ _ => ⟨_, _, hline0, hline1, rfl, rfl⟩⟩⟩
      rcases hno with hno | hno | hno | hno
      · exact absurd hwide (Nat.not_lt.2 hno)
      · exact absurd hlines hno
      · exact absurd hno h1
      · exact absurd hno h2
    · obtain ⟨hclip, hline⟩ := clipLine_good h p.glyphSet r.line p.cellWidth
      rw [hone hsplit, oneLine]
      exact ⟨hclip, fun a b => absurd ⟨a, b⟩ hnone, fun _ => ⟨first, second, r.one, r.two, r.space, rfl, rfl, hrun1,
        hrun2, hspace, halone, fun _ => ⟨_, hline, rfl, rfl⟩, fun hw hl h1 h2 => absurd ⟨hw, hl, h1, h2⟩ hsplit⟩⟩

/-- The caption that a fit gives a cell is within it, whatever is found of its glyphs. -/
theorem fitCaption_within (s : State) (c : Cell) : CaptionWithin (s.profileOf c.profile) (s.fitCaption c).2.1 := by
  by_cases hnone : c.given = [] ∧ c.family = []
  · rw [fitCaption_none hnone.1 hnone.2]
    exact ⟨Nat.zero_le _, by simp⟩
  · obtain ⟨htwo, hone⟩ := fitCaption_some (s := s) hnone rfl rfl
    set p := s.profileOf c.profile
    set first := (nameParts p.nameOrder c.given c.family).1
    set second := (nameParts p.nameOrder c.given c.family).2
    by_cases hsplit : Splits p first second (s.findName p.glyphSet first second).2
    · have hsplits := hsplit
      obtain ⟨-, hlines, -, -⟩ := hsplits
      rw [htwo hsplit, twoLines]
      refine ⟨by simp [hlines], ?_⟩
      simp only [List.mem_cons, List.not_mem_nil, or_false, forall_eq_or_imp, forall_eq]
      exact ⟨⟨rfl, clipLine_width _ _ _, rfl⟩, rfl, clipLine_width _ _ _, rfl⟩
    · rw [hone hsplit, oneLine]
      refine ⟨by dsimp only [List.length_singleton]; split <;> decide, ?_⟩
      simp only [List.mem_singleton, forall_eq]
      exact ⟨rfl, clipLine_width _ _ _, rfl⟩

end

/-! ## Banners (R128) -/

variable {s : State}

/-- The line of a banner is that of its codes, and its fit finds no damage. -/
theorem fitBanner_good (h : GlyphsGood s) (f : BannerFrame) : (s.fitBanner f).1 = s ∧
    BannerFitted (s.glyphSetOf f.set) f (s.fitBanner f).2.1 (s.fitBanner f).2.2 := by
  unfold fitBanner
  split
  case isTrue hempty => exact ⟨rfl, fun _ => ⟨rfl, rfl⟩, fun hne => absurd hempty hne⟩
  case isFalse hne =>
    obtain ⟨hrun, hfitted⟩ := lookupRun_good h f.set f.text
    simp only [hrun]
    obtain ⟨hclip, hclipped⟩ := clipLine_good h f.set (s.lookupRun f.set f.text).2.glyphs f.boxWidth
    refine ⟨hclip, fun hempty => absurd hempty hne, fun _ => ⟨_, _, hfitted, hclipped, ?_, rfl⟩⟩
    cases f.align <;> rfl

end State

end Sys2Proof.Machine
end

section
/-! The fits of a sheet at its entry to COMPOSING (R123): its cells and banners after them, the notes newly raised, and what
they add to the counts of its order. -/

namespace Sys2Proof.Machine

/-! ## Counts of new notes (R123, R217) -/

/-- A count that rises by one for each cell or banner on which a note is newly raised. -/
structure CountsNote (f : Counts → Nat) (n : Note) : Prop where
  zero : f Counts.zero = 0
  add : ∀ c d, f (c.add d) = min 65535 (f c + f d)
  notes : ∀ ns, f (countsOfNotes ns) = bit (hasNote ns n)

theorem clippedCaptions_countsNote : CountsNote (·.clippedCaptions) .captionClipped :=
  ⟨rfl, fun _ _ => rfl, fun _ => rfl⟩

theorem substituted_countsNote : CountsNote (·.substituted) .glyphSubstituted := ⟨rfl, fun _ _ => rfl, fun _ => rfl⟩

section
variable {f : Counts → Nat} {n : Note}

/-- Saturating at every addition or once at the end gives the same count. -/
theorem CountsNote.foldl_add (hf : CountsNote f n) (cs : List Counts) (c : Counts) (hc : f c ≤ 65535) :
    f (cs.foldl Counts.add c) = min 65535 (f c + (cs.map f).sum) := by
  induction cs generalizing c with
  | nil => simp [hc]
  | cons d ds ih =>
    have hadd := hf.add c d
    rw [List.foldl_cons, ih _ (by omega), hadd, List.map_cons, List.sum_cons]
    omega

theorem CountsNote.sumCounts (hf : CountsNote f n) (cs : List Counts) :
    f (sumCounts cs) = min 65535 (cs.map f).sum := by
  have hzero := hf.zero
  rw [Machine.sumCounts, hf.foldl_add cs _ (by omega), hzero, Nat.zero_add]

theorem CountsNote.new (hf : CountsNote f n) (carried raised : Notes) :
    f (countsOfNotes (raised &&& ~~~carried)) = bit (hasNote (carried ||| raised) n && !hasNote carried n) := by
  rw [hf.notes, hasNote_and_not, hasNote_or]
  cases hasNote carried n <;> simp

theorem newlyNoted_cons (x y : Notes) (before after : List Notes) :
    newlyNoted n (x :: before) (y :: after) = bit (hasNote y n && !hasNote x n) + newlyNoted n before after := by
  simp only [newlyNoted, List.zip_cons_cons, List.filter_cons]
  split
  next h => rw [h, List.length_cons, Nat.add_comm]; rfl
  next h => rw [Bool.eq_false_of_not_eq_true h]; exact (Nat.zero_add _).symm

theorem newlyNoted_append {b a b' a' : List Notes} (h : b.length = a.length) :
    newlyNoted n (b ++ b') (a ++ a') = newlyNoted n b a + newlyNoted n b' a' := by
  simp only [newlyNoted, List.zip_append h, List.filter_append, List.length_append]

theorem newlyNoted_same (x : Notes) (before after : List Notes) :
    newlyNoted n (x :: before) (x :: after) = newlyNoted n before after := by
  rw [newlyNoted_cons, Bool.and_not_self]
  exact Nat.zero_add _

end

/-! ## Cells and frames after their fits (R123) -/

namespace State

/-- A cell with the caption and the notes of its fit; EMPTY cells are not fitted. -/
def fittedCell (s : State) (c : Cell) : Cell :=
  if c.kind = .empty then c else { c with caption := (s.fitCaption c).2.1, notes := c.notes ||| (s.fitCaption c).2.2 }

/-- A frame placement with the line and the notes of its fit, where it is a banner. -/
def fittedFrame (s : State) (f : Frame) : Frame :=
  match f with
  | .banner b => .banner { b with line := (s.fitBanner b).2.1, notes := b.notes ||| (s.fitBanner b).2.2 }
  | .rule r => .rule r
  | .grid g => .grid g
  | .inset i => .inset i

section
variable {s : State}

/-- Fits that find no damage leave the state as it is, and fit each cell on its own. -/
theorem fitCells_good (h : GlyphsGood s) (cells : List Cell) :
    (s.fitCells cells).1 = s ∧ (s.fitCells cells).2.1 = cells.map s.fittedCell := by
  induction cells with
  | nil => exact ⟨rfl, rfl⟩
  | cons c cells ih =>
    obtain ⟨hkept, hcells⟩ := ih
    by_cases he : c.kind = .empty
    · simp [fitCells, fittedCell, he, hkept, hcells]
    · obtain ⟨hcaption, -⟩ := fitCaption_good h c
      simp [fitCells, fittedCell, he, hcaption, hkept, hcells]

theorem fitFrames_good (h : GlyphsGood s) (frames : List Frame) :
    (s.fitFrames frames).1 = s ∧ (s.fitFrames frames).2.1 = frames.map s.fittedFrame := by
  induction frames with
  | nil => exact ⟨rfl, rfl⟩
  | cons f frames ih =>
    obtain ⟨hkept, hframes⟩ := ih
    cases f with
    | banner b =>
      obtain ⟨hbanner, -⟩ := fitBanner_good h b
      simp [fitFrames, fittedFrame, hbanner, hkept, hframes]
    | rule _ | grid _ | inset _ => simp [fitFrames, fittedFrame, hkept, hframes]

/-- The counts of the cells' fits are those of the notes newly raised on them. -/
theorem fitCells_counts {f : Counts → Nat} {n : Note} (hf : CountsNote f n) (h : GlyphsGood s) (cells : List Cell) :
    ((s.fitCells cells).2.2.map f).sum = newlyNoted n (cells.map (·.notes)) ((cells.map s.fittedCell).map (·.notes)) := by
  induction cells with
  | nil => rfl
  | cons c cells ih =>
    by_cases he : c.kind = .empty
    · simp [fitCells, fittedCell, he, newlyNoted_same, ih]
    · obtain ⟨hcaption, -⟩ := fitCaption_good h c
      simp [fitCells, fittedCell, he, newlyNoted_cons, hcaption, hf.new, ih]

theorem fitFrames_counts {f : Counts → Nat} {n : Note} (hf : CountsNote f n) (h : GlyphsGood s) (frames : List Frame) :
    ((s.fitFrames frames).2.2.map f).sum = newlyNoted n (frames.map Frame.notes)
      ((frames.map s.fittedFrame).map Frame.notes) := by
  induction frames with
  | nil => rfl
  | cons f frames ih =>
    cases f with
    | banner b =>
      obtain ⟨hbanner, -⟩ := fitBanner_good h b
      simp [fitFrames, fittedFrame, Frame.notes, newlyNoted_cons, hbanner, hf.new, ih]
    | rule _ | grid _ | inset _ => simp [fitFrames, fittedFrame, Frame.notes, newlyNoted_same, ih]

theorem fitCells_length (cells : List Cell) (s : State) : (s.fitCells cells).2.1.length = cells.length := by
  induction cells generalizing s with
  | nil => rfl
  | cons c cells ih =>
    unfold fitCells
    split <;> simp [ih]

theorem fitFrames_length (frames : List Frame) (s : State) : (s.fitFrames frames).2.1.length = frames.length := by
  induction frames generalizing s with
  | nil => rfl
  | cons f frames ih => cases f <;> simp [fitFrames, ih]

/-- Every cell that is fitted has its caption within it, whatever the fits find (R125 to R127). -/
theorem fitCells_within (cells : List Cell) (s : State) : ∀ c ∈ (s.fitCells cells).2.1, c.kind ≠ .empty →
    CaptionWithin (s.profileOf c.profile) c.caption := by
  induction cells generalizing s with
  | nil => simp [fitCells]
  | cons c cells ih =>
    unfold fitCells
    split
    case isTrue he =>
      simp only [List.mem_cons, forall_eq_or_imp]
      exact ⟨fun hne => absurd he hne, ih s⟩
    case isFalse he =>
      simp only [List.mem_cons, forall_eq_or_imp]
      refine ⟨fun _ => fitCaption_within s c, fun d hd hne => ?_⟩
      simpa [profileOf] using ih _ d hd hne

/-! ## The sheet after its fits (R123) -/

/-- The cells and the frames that the fits of a sheet give. -/
def fittedSheet (s : State) (sh : Sheet) : Sheet :=
  { sh with cells := (s.fitCells sh.cells).2.1, frames := ((s.fitCells sh.cells).1.fitFrames sh.frames).2.1 }

/-- What the fits of a sheet add to the counts of its order. -/
def fittedCounts (s : State) (sh : Sheet) : Counts :=
  sumCounts ((s.fitCells sh.cells).2.2 ++ ((s.fitCells sh.cells).1.fitFrames sh.frames).2.2)

section
variable {sl : SheetSlot} {sh : Sheet}

theorem fitSheet_some (h : s.sheet sl = some sh) : s.fitSheet sl =
    (((s.fitCells sh.cells).1.fitFrames sh.frames).1.setSheet sl (some (s.fittedSheet sh))).addCounts sl (s.fittedCounts sh) := by
  have hsheet : (((s.fitCells sh.cells).1.fitFrames sh.frames).1).sheet sl = some sh :=
    (sheet_of_control (by simp) sl).trans h
  simp [fitSheet, h, mapSheet, hsheet, fittedSheet, fittedCounts]

theorem fitSheet_sheet (h : s.sheet sl = some sh) : (s.fitSheet sl).sheet sl = some (s.fittedSheet sh) := by
  rw [fitSheet_some h, addCounts, mapResults, sheet_mapQueue, sheet_setSheet, if_pos rfl]

theorem fitSheet_other (h : s.sheet sl = some sh) : (s.fitSheet sl).sheet (otherSlot sl) = s.sheet (otherSlot sl) := by
  rw [fitSheet_some h, addCounts, mapResults, sheet_mapQueue, sheet_setSheet, if_neg (otherSlot_ne sl)]
  exact sheet_of_control (by simp) _

theorem fitSheet_queue (h : s.sheet sl = some sh) : (s.fitSheet sl).control.queue = s.control.queue.map fun e =>
    if e.slot = some sl then { e with results := { e.results with counts := e.results.counts.add (s.fittedCounts sh) } }
    else e := by
  simp [fitSheet_some h, addCounts, mapResults, mapQueue]

theorem fitSheet_orderResults (h : s.sheet sl = some sh) : (s.fitSheet sl).orderResults sl =
    (s.orderResults sl).map fun r => { r with counts := r.counts.add (s.fittedCounts sh) } := by
  rw [fitSheet_some h, addCounts, orderResults_mapResults, if_pos rfl, orderResults_setSheet]
  exact congrArg (Option.map _) (orderResults_of_queue (by simp) sl)

/-- Fits that find no damage log nothing. -/
theorem fitSheet_window (hg : GlyphsGood s) (sl : SheetSlot) : (s.fitSheet sl).window = s.window := by
  cases h : s.sheet sl with
  | none => simp [fitSheet, h]
  | some sh => simp [fitSheet_some h, (fitCells_good hg sh.cells).1, (fitFrames_good hg sh.frames).1]

theorem fittedSheet_good (hg : GlyphsGood s) (sh : Sheet) : s.fittedSheet sh =
    { sh with cells := sh.cells.map s.fittedCell, frames := sh.frames.map s.fittedFrame } := by
  rw [fittedSheet, (fitCells_good hg sh.cells).1, (fitCells_good hg sh.cells).2, (fitFrames_good hg sh.frames).2]

/-- What the fits add to a count is how many cells and banners carry its note newly (R123). -/
theorem fittedCounts_good {f : Counts → Nat} {n : Note} (hf : CountsNote f n) (hg : GlyphsGood s) (sh : Sheet) :
    f (s.fittedCounts sh) = min 65535 (newlyNoted n (sheetNotes sh.cells sh.frames)
      (sheetNotes (s.fittedSheet sh).cells (s.fittedSheet sh).frames)) := by
  rw [fittedCounts, hf.sumCounts, List.map_append, List.sum_append, fitCells_counts hf hg, (fitCells_good hg sh.cells).1,
    fitFrames_counts hf hg, fittedSheet_good hg, sheetNotes, sheetNotes, newlyNoted_append (by simp)]

/-- Fits that find no damage give every cell its caption and every banner its line (R123). -/
theorem fittedSheet_fitted (hg : GlyphsGood s) (sh : Sheet) : SheetFitted s sh (s.fittedSheet sh) := by
  rw [fittedSheet_good hg]
  refine ⟨fun i c c' hc hc' => ?_, fun i b f' hb hf' => ?_, fun i f hf hother => ?_⟩
  · obtain rfl : s.fittedCell c = c' := by simpa [hc] using hc'
    refine ⟨fun he => if_pos he, fun hne => ⟨_, _, (fitCaption_good hg c).2, if_neg hne⟩⟩
  · obtain rfl : s.fittedFrame (.banner b) = f' := by simpa [hb] using hf'
    exact ⟨_, _, (fitBanner_good hg b).2, rfl⟩
  · have hsame : s.fittedFrame f = f := by
      cases f with
      | banner b => exact absurd rfl (hother b)
      | rule _ | grid _ | inset _ => rfl
    simp [hf, hsame]

end

end

end State

end Sys2Proof.Machine
end

section
/-! A sheet's entry to COMPOSING (R123, R135, R149, R167, R173): its turn, what the entry leaves of the sheet, its order and
the Composer, and the consumer that takes the attempt. -/

namespace Sys2Proof.Machine

namespace State

/-! ## The turn to compose (R173) -/

section
variable {s : State} {sl : SheetSlot}

theorem sheetIs_some {sh : Sheet} (h : s.sheet sl = some sh) (f : Sheet → Bool) : s.sheetIs sl f = f sh := by
  simp [sheetIs, h]

/-- The turn of a slot, in terms of the slot and the other one. -/
theorem hasTurn_iff : s.hasTurn sl = true ↔
    (s.sheetIs sl (fun sh => sh.state == .ready &&
      ((sh.ticket.map (·.dest)) != some .press || s.link.state == .closed)) = true ∧
    s.sheetIs sl (fun sh => sh.state == .composing) = false) ∧
    s.sheetIs (otherSlot sl) (fun sh => sh.state == .composing) = false ∧
    s.sheetIs (otherSlot sl) Sheet.holdsBack = false := by
  cases sl <;> simp only [hasTurn, otherSlot, Bool.and_eq_true, Bool.not_eq_true'] <;> tauto

theorem sheetIs_false {f : Sheet → Bool} (h : ∀ o, s.sheet sl = some o → f o = false) : s.sheetIs sl f = false := by
  cases hs : s.sheet sl with
  | none => simp [sheetIs, hs]
  | some o => rw [sheetIs_some hs, h o hs]

/-- A READY sheet that no other holds back has its turn. -/
theorem hasTurn_of {sh : Sheet} {k : Ticket} (h : s.sheet sl = some sh) (hr : sh.state = .ready) (hk : sh.ticket = some k)
    (hlink : k.dest = .press → s.link.state = .closed)
    (ho : ∀ o, s.sheet (otherSlot sl) = some o → o.state ≠ .composing ∧
      (o.first = false ∨ o.state = .closing ∨ o.state = .finished)) : s.hasTurn sl = true := by
  refine hasTurn_iff.2 ⟨⟨?_, ?_⟩, sheetIs_false fun o hs => by simpa using (ho o hs).1, sheetIs_false fun o hs => ?_⟩
  · rw [sheetIs_some h, hr, hk]
    cases hd : k.dest with
    | press => simp [hlink hd]
    | proof => simp [hd]
  · simp [sheetIs_some h, hr]
  · obtain ⟨-, hlater | hclosing | hfinished⟩ := ho o hs
    · simp [Sheet.holdsBack, hlater]
    · simp [Sheet.holdsBack, hclosing]
    · simp [Sheet.holdsBack, hfinished]

/-- A sheet that another in PLANNING, FILLING or READY ranks before has no turn. -/
theorem hasTurn_heldBack {sh : Sheet} (h : s.sheet sl = some sh) (hf : sh.first = true)
    (hr : sh.state = .planning ∨ sh.state = .filling ∨ sh.state = .ready) : s.hasTurn (otherSlot sl) = false := by
  refine Bool.eq_false_iff.2 fun hturn => ?_
  obtain ⟨-, -, hback⟩ := hasTurn_iff.1 hturn
  rw [otherSlot_otherSlot, sheetIs_some h, Sheet.holdsBack, hf] at hback
  rcases hr with hr | hr | hr <;> simp [hr] at hback

theorem turnSlot_of (h : s.hasTurn sl = true) (ho : s.hasTurn (otherSlot sl) = false) : s.turnSlot = some sl := by
  cases sl with
  | a => simp [turnSlot, h]
  | b =>
    rw [show otherSlot .b = .a from rfl] at ho
    simp [turnSlot, h, ho]

/-- A slot without a READY sheet has no turn. -/
theorem hasTurn_ready (h : s.hasTurn sl = true) : ∃ sh, s.sheet sl = some sh ∧ sh.state = .ready ∧
    (sh.ticket.map (·.dest) = some .press → s.link.state = .closed) := by
  obtain ⟨⟨hready, -⟩, -, -⟩ := hasTurn_iff.1 h
  cases hs : s.sheet sl with
  | none => simp [sheetIs, hs] at hready
  | some sh =>
    rw [sheetIs_some hs] at hready
    simp only [Bool.and_eq_true, beq_iff_eq, Bool.or_eq_true, bne_iff_ne] at hready
    exact ⟨sh, rfl, hready.1, fun hp => hready.2.resolve_left fun hne => hne hp⟩

/-- The sheet of the entry's statement has its turn, and the other one has none. -/
theorem turnSlot_eq {sh : Sheet} {k : Ticket} (h : s.sheet sl = some sh) (hr : sh.state = .ready)
    (hrank : sh.first = true ∨ ∀ o, s.sheet (otherSlot sl) = some o → o.state = .closing ∨ o.state = .finished)
    (hk : sh.ticket = some k) (hlink : k.dest = .press → s.link.state = .closed)
    (ho : ∀ o, s.sheet (otherSlot sl) = some o → o.state ≠ .composing ∧
      (o.first = false ∨ o.state = .closing ∨ o.state = .finished)) : s.turnSlot = some sl := by
  refine turnSlot_of (hasTurn_of h hr hk hlink ho) ?_
  rcases hrank with hfirst | hbehind
  · exact hasTurn_heldBack h hfirst (.inr (.inr hr))
  · refine Bool.eq_false_iff.2 fun hturn => ?_
    obtain ⟨o, hs, hready, -⟩ := hasTurn_ready hturn
    rcases hbehind o hs with hst | hst <;> simp [hst] at hready

/-- With every READY sheet held back, or its link not CLOSED, no sheet has its turn. -/
theorem turnSlot_none (h : ∀ sl sh, s.sheet sl = some sh → sh.state = .ready →
      (sh.ticket.map (·.dest) = some .press ∧ s.link.state ≠ .closed) ∨ ∃ o, s.sheet (otherSlot sl) = some o ∧
      (o.state = .composing ∨ (o.first = true ∧ (o.state = .planning ∨ o.state = .filling ∨ o.state = .ready)))) :
    s.turnSlot = none := by
  have hnone (sl : SheetSlot) : s.hasTurn sl = false := by
    refine Bool.eq_false_iff.2 fun hturn => ?_
    obtain ⟨sh, hs, hready, hclosed⟩ := hasTurn_ready hturn
    obtain ⟨hpress, hlink⟩ | ⟨o, ho, hcomposing | ⟨hfirst, hst⟩⟩ := h sl sh hs hready
    · exact hlink (hclosed hpress)
    · obtain ⟨-, hnot, -⟩ := hasTurn_iff.1 hturn
      simp [sheetIs_some ho, hcomposing] at hnot
    · have hback := hasTurn_heldBack ho hfirst hst
      rw [otherSlot_otherSlot, hturn] at hback
      exact absurd hback (by decide)
  simp [turnSlot, hnone]

end

/-! ## The entry (R123, R135, R173) -/

/-- The state in which the Composer has taken the attempt of a sheet and is about to paint band 0. -/
def toComposing (s : State) (sl : SheetSlot) (sh : Sheet) : State :=
  let s1 := (s.fitSheet sl).mapSheet sl fun sh => { sh with state := .composing }
  let s2 := s1.mapResults sl fun r => { r with attemptsUsed := raiseCount r.attemptsUsed 1 }
  s2.setComposer { s2.composer with attempt := some ⟨sl, sh.attempt⟩, nextBand := 0, silenced := [] }

section
variable {s : State} {sl : SheetSlot} {sh : Sheet} {k : Ticket}

theorem enterComposing_proof (h : s.sheet sl = some sh) (hk : k.dest = .proof) :
    s.enterComposing sl k = (s.toComposing sl sh).paintNext.writerTake ⟨sl, sh.attempt⟩ := by
  simp only [enterComposing, toComposing, h, hk, Option.map_some, Option.getD_some]

theorem enterComposing_press (h : s.sheet sl = some sh) (hk : k.dest = .press) :
    s.enterComposing sl k = (s.toComposing sl sh).paintNext.offerPress ⟨sl, sh.attempt⟩ k := by
  simp only [enterComposing, toComposing, h, hk, Option.map_some, Option.getD_some]

theorem toComposing_sheet (h : s.sheet sl = some sh) :
    (s.toComposing sl sh).sheet sl = some { s.fittedSheet sh with state := .composing } := by
  rw [toComposing, sheet_setComposer, mapResults, sheet_mapQueue, sheet_mapSheet, if_pos rfl, fitSheet_sheet h]
  rfl

theorem toComposing_other (h : s.sheet sl = some sh) :
    (s.toComposing sl sh).sheet (otherSlot sl) = s.sheet (otherSlot sl) := by
  rw [toComposing, sheet_setComposer, mapResults, sheet_mapQueue, sheet_mapSheet, if_neg (otherSlot_ne sl),
    fitSheet_other h]

theorem orderResults_setComposer (c : Composer) (other : SheetSlot) :
    (s.setComposer c).orderResults other = s.orderResults other :=
  orderResults_of_queue rfl other

/-- The results of an order whose sheet has entered COMPOSING. -/
def entryResults (s : State) (sh : Sheet) (r : Results) : Results :=
  { r with counts := r.counts.add (s.fittedCounts sh), attemptsUsed := raiseCount r.attemptsUsed 1 }

theorem toComposing_queue (h : s.sheet sl = some sh) : (s.toComposing sl sh).control.queue = s.control.queue.map fun e =>
    if e.slot = some sl then { e with results := s.entryResults sh e.results } else e := by
  have hqueue : (s.toComposing sl sh).control.queue = (s.fitSheet sl).control.queue.map fun e =>
      if e.slot = some sl then { e with results := { e.results with attemptsUsed := raiseCount e.results.attemptsUsed 1 } }
      else e := by
    simp [toComposing, mapResults, mapQueue]
  rw [hqueue, fitSheet_queue h, List.map_map]
  refine List.map_congr_left fun e _ => ?_
  by_cases he : e.slot = some sl <;> simp [he, entryResults]

theorem toComposing_orderResults (h : s.sheet sl = some sh) :
    (s.toComposing sl sh).orderResults sl = (s.orderResults sl).map (s.entryResults sh) := by
  have hresults : (s.toComposing sl sh).orderResults sl = ((s.fitSheet sl).orderResults sl).map fun r =>
      { r with attemptsUsed := raiseCount r.attemptsUsed 1 } := by
    rw [toComposing, orderResults_setComposer, orderResults_mapResults, if_pos rfl, mapSheet, orderResults_setSheet]
  rw [hresults, fitSheet_orderResults h, Option.map_map]
  rfl

@[simp] theorem toComposing_frame (s : State) (sl : SheetSlot) (sh : Sheet) :
    (s.toComposing sl sh).profiles = s.profiles ∧ (s.toComposing sl sh).store = s.store ∧
    (s.toComposing sl sh).port = s.port ∧ (s.toComposing sl sh).planner = s.planner ∧
    (s.toComposing sl sh).out = s.out ∧ (s.toComposing sl sh).link = s.link ∧ (s.toComposing sl sh).writer = s.writer ∧
    (s.toComposing sl sh).window.pressMode = s.window.pressMode ∧
    (s.toComposing sl sh).check.correctable = s.check.correctable ∧
    (s.toComposing sl sh).check.count = s.check.count ∧
    (s.toComposing sl sh).check.poison = s.check.poison ∧ (s.toComposing sl sh).check.standing = s.check.standing ∧
    (s.toComposing sl sh).composer = { s.composer with attempt := some ⟨sl, sh.attempt⟩, nextBand := 0, silenced := [] } := by
  simp [toComposing]

theorem toComposing_ticketOf (h : s.sheet sl = some sh) : (s.toComposing sl sh).ticketOf sl = sh.ticket := by
  simp [ticketOf, toComposing_sheet h, fittedSheet]

theorem toComposing_window (hg : GlyphsGood s) : (s.toComposing sl sh).window = s.window := by
  simp [toComposing, fitSheet_window hg]

end

/-- A Composer whose next band has no EMPTY buffer waits for it (R135, R136). -/
theorem paintNext_waits {s : State} {a : Attempt} {k : Ticket} (ha : s.composer.attempt = some a)
    (hk : s.ticketOf a.slot = some k) (he : (s.composer.buf (bufferFor s.composer.nextBand)).state ≠ .empty) :
    s.paintNext = s.setComposer { s.composer with state := .waiting } := by
  simp [paintNext, ha, hk, he]

end State

/-! ## What the entry leaves -/

theorem GlyphsGood.of_glyphs {s t : State} (h : GlyphsGood s) (hg : t.glyphs = s.glyphs) : GlyphsGood t := by
  simpa [GlyphsGood, State.glyphSetOf, hg] using h

/-- The fits of a sheet speak of the profiles, the glyph sets, the cells and the frames. -/
theorem SheetFitted.congr {s s' : State} {sh x x' : Sheet} (h : SheetFitted s sh x) (hp : s'.profiles = s.profiles)
    (hg : s'.glyphs = s.glyphs) (hc : x'.cells = x.cells) (hf : x'.frames = x.frames) : SheetFitted s' sh x' := by
  have hprofile (n : Fin 16) : s'.profileOf n = s.profileOf n := by rw [State.profileOf, hp, State.profileOf]
  have hset (g : Fin 3) : s'.glyphSetOf g = s.glyphSetOf g := by rw [State.glyphSetOf, hg, State.glyphSetOf]
  constructor <;> simp only [hprofile, hset, hc, hf]
  exacts [h.cells, h.banners, h.others]

/-- An entry to COMPOSING speaks of neither the link nor the Writer. -/
theorem ComposingEntered.withConsumer {s t : State} {sl : SheetSlot} {sh : Sheet} {k : Ticket}
    (h : ComposingEntered s t sl sh k) (l : Link) (w : Writer) :
    ComposingEntered s ((t.setLink l).setWriter w) sl sh k where
  sheet := by simpa using h.sheet
  fits hg sh' hs := h.fits hg sh' (by simpa using hs)
  counts hg sh' r hs hr := h.counts hg sh' r (by simpa using hs) hr
  found hg := (h.found hg).congr rfl rfl rfl fun _ hl _ => hl
  other := by simpa using h.other
  used := h.used
  attempt := h.attempt
  band := h.band
  silenced := h.silenced
  bufY := h.bufY
  paints := h.paints
  waits := h.waits
  profiles := h.profiles
  store := h.store
  port := h.port
  planner := h.planner
  out := h.out

/-- A Composer at band 0 starts to paint it where buffer X is EMPTY, and waits for it otherwise (R135). -/
structure FirstBandBegun (s t : State) (a : Attempt) (k : Ticket) : Prop where
  paints : s.composer.bufX.state = .empty → t.composer.state = .painting ∧ t.composer.bufX = { s.composer.bufX with
    state := .filling, tag := some ⟨a, 0, bandLines k.height 0⟩, poisoned := s.check.poison == .band }
  waits : s.composer.bufX.state ≠ .empty → t.composer.state = .waiting ∧ t.composer.bufX = s.composer.bufX
  bufY : t.composer.bufY = s.composer.bufY
  standing : ∀ l ∈ s.check.standing, (∀ i, l ≠ .band i) → l ∈ t.check.standing

theorem State.paintNext_first {s : State} {a : Attempt} {k : Ticket} (ha : s.composer.attempt = some a)
    (hk : s.ticketOf a.slot = some k) (hb : s.composer.nextBand = 0) : FirstBandBegun s s.paintNext a k := by
  by_cases he : s.composer.bufX.state = .empty
  · have hstart := s.paintNext_started a k ha hk (by rwa [hb])
    rw [hb] at hstart
    refine ⟨fun _ => ⟨hstart.state, hstart.buffer⟩, fun hne => absurd he hne, hstart.other, fun l hl hband => ?_⟩
    rw [hstart.standing]
    exact List.mem_filter.2 ⟨hl, by simpa using hband _⟩
  · rw [paintNext_waits ha hk (by rwa [hb])]
    exact ⟨fun hempty => absurd hempty he, fun _ => ⟨rfl, rfl⟩, rfl, fun _ hl _ => hl⟩

section
variable {s : State} {sl : SheetSlot} {sh : Sheet} {k : Ticket}

/-- A sheet whose first band the Composer has begun has entered COMPOSING. -/
theorem composingEntered_paintNext (h : s.sheet sl = some sh) (hk : sh.ticket = some k) :
    ComposingEntered s ((s.findAgain (s.fittingReads sl)).toComposing sl sh).paintNext sl sh k := by
  set u := s.findAgain (s.fittingReads sl) with hu
  have hcontrol : u.control = s.control := by simp [hu]
  have hprofiles : u.profiles = s.profiles := by simp [hu]
  have hglyphs : u.glyphs = s.glyphs := by simp [hu]
  have husheet : u.sheet sl = some sh := (State.sheet_of_control hcontrol sl).trans h
  set w := u.toComposing sl sh with hw
  have hslots (other : SheetSlot) : w.paintNext.sheet other = w.sheet other := State.sheet_of_control (by simp) other
  have hsheet : w.paintNext.sheet sl = some { u.fittedSheet sh with state := .composing } :=
    (hslots sl).trans (State.toComposing_sheet husheet)
  have hresults : w.paintNext.orderResults sl = (s.orderResults sl).map (u.entryResults sh) := by
    rw [State.orderResults_of_queue (s := w) (by simp), State.toComposing_orderResults husheet,
      State.orderResults_of_queue (congrArg (·.queue) hcontrol)]
  have hcomposer : w.composer = { s.composer with attempt := some ⟨sl, sh.attempt⟩, nextBand := 0, silenced := [] } := by
    simp [hw, hu]
  obtain ⟨hpaints, hwaits, hbufY, hstanding⟩ := State.paintNext_first (s := w) (a := ⟨sl, sh.attempt⟩) (k := k)
    (by simp [hcomposer]) (by rw [State.toComposing_ticketOf husheet, hk]) (by simp [hcomposer])
  have hpoison : w.check.poison = s.check.poison := by simp [hw, hu]
  rw [hcomposer, hpoison] at hpaints
  rw [hcomposer] at hwaits hbufY
  refine
    { sheet := ⟨_, hsheet, rfl, rfl, hk, State.fitCells_length _ _, State.fitFrames_length _ _, fun c hc hne => ?_⟩
      fits := fun hg sh' hs => ?_
      counts := fun hg sh' r hs hr => ?_
      found := fun hg => ?_
      other := ?_
      used := ?_
      attempt := by simp [hcomposer]
      band := by simp [hcomposer]
      silenced := by simp [hcomposer]
      bufY := hbufY
      paints := hpaints
      waits := hwaits
      profiles := by simp [hw, hprofiles]
      store := by simp [hw, hu]
      port := by simp [hw, hu]
      planner := by simp [hw, hu]
      out := by simp [hw, hu] }
  · have hwithin := State.fitCells_within sh.cells u c hc hne
    rwa [State.profileOf, hprofiles] at hwithin
  · obtain rfl := Option.some.inj (hsheet.symm.trans hs)
    exact (State.fittedSheet_fitted (hg.of_glyphs hglyphs) sh).congr hprofiles.symm hglyphs.symm rfl rfl
  · obtain rfl := Option.some.inj (hsheet.symm.trans hs)
    have hcount {f : Counts → Nat} {n : Note} (hf : CountsNote f n) := State.fittedCounts_good hf (hg.of_glyphs hglyphs) sh
    have hadd {f : Counts → Nat} {n : Note} (hf : CountsNote f n) := hf.add r.counts (u.fittedCounts sh)
    refine ⟨u.entryResults sh r, by rw [hresults, hr]; rfl, ?_, ?_⟩
    · have hnew := hcount clippedCaptions_countsNote
      have hsum := hadd clippedCaptions_countsNote
      simp only [State.entryResults, hsum, hnew]
      omega
    · have hnew := hcount substituted_countsNote
      have hsum := hadd substituted_countsNote
      simp only [State.entryResults, hsum, hnew]
      omega
  · have hwindow : w.paintNext.window = u.window := by
      simp [hw, State.toComposing_window (hg.of_glyphs hglyphs)]
    refine (s.findAgain_found (s.fittingReads sl)).congr (by simp [hw, hu]) (by simp [hw, hu])
      (State.hasEvent_of_window hwindow _) fun l hl hband => hstanding l (by simpa [hw, hu] using hl) hband
  · rw [hslots, State.toComposing_other husheet, State.sheet_of_control hcontrol]
  · rw [hresults, Option.map_map]
    rfl

end

/-! ## The consumer (R149, R167) -/

namespace State

section
variable {s : State} {a : Attempt} {k : Ticket}

/-- The Writer as it takes an attempt: at once, or when it clears the one it serves (R167). -/
def writerTaken (w : Writer) (a : Attempt) : Writer :=
  if w.attempt = none then ⟨.waiting, some a, 0, false, false, none⟩ else { w with queued := some a }

theorem writerTake_eq (s : State) (a : Attempt) : s.writerTake a = s.setWriter (writerTaken s.writer a) := by
  cases h : s.writer.attempt <;> simp [writerTake, writerTaken, h]

/-- The link as it takes a PRESS attempt: in AWAIT_READY with the mode latched, its wait timer running where READY is low
under LIVE (R149, R151, R165). -/
def linkTaken (s : State) (a : Attempt) (k : Ticket) : Link :=
  ⟨.awaitReady, some ⟨a, k.sheetId, k.width, k.height, (k.height + 63) / 64, s.window.pressMode⟩, 0, none, false, false,
    none, none, none, none,
    if s.window.pressMode = .loop ∨ s.link.ready = true then none else some (1000 * s.link.config.waitLimit),
    s.link.config, s.link.ready⟩

theorem linkTake_eq (s : State) (a : Attempt) (k : Ticket) : s.linkTake a k = s.setLink (s.linkTaken a k) := by
  rw [linkTake, linkTaken]
  refine congrArg s.setLink ?_
  by_cases h : s.window.pressMode = .loop ∨ s.link.ready = true
  · rw [if_pos h, if_pos (by simpa [Link.readyHigh, Link.closedWith] using h)]
    rfl
  · rw [if_neg h, if_neg (by simpa [Link.readyHigh, Link.closedWith] using h)]
    rfl

theorem openWhenReady_stays {h : LinkHold} (hh : s.link.held = some h) (hf : s.bandFull h.attempt 0 = false) :
    s.openWhenReady = s := by
  unfold openWhenReady
  cases s.link.state <;> simp [hh, hf]

/-- Under LIVE and LOOP the link takes the attempt, and opens no sheet before its band 0 is FULL (R149, R150). -/
theorem offerPress_takes (hm : s.window.pressMode ≠ .off) (hf : s.bandFull a 0 = false) :
    s.offerPress a k = s.setLink (s.linkTaken a k) := by
  have hfull : (s.setLink (s.linkTaken a k)).bandFull a 0 = false := by simpa [bandFull] using hf
  rw [offerPress, if_neg hm, linkTake_eq]
  exact openWhenReady_stays rfl hfull

theorem offerPress_off (hm : s.window.pressMode = .off) :
    s.offerPress a k = (s.endAttempt a).endSheet a.slot .refused .pressOff :=
  if_pos hm

/-- The start of a painting makes no buffer FULL (R135). -/
theorem paintNext_bandFull {b : Nat} (h : s.bandFull a b = false) : s.paintNext.bandFull a b = false := by
  obtain hsame | ⟨-, _, -, hfilling, -⟩ := s.paintNext_buf (bufferFor b)
  · simpa [bandFull, hsame] using h
  · simp [bandFull, hfilling]

/-- The Composer whose own attempt has ended is IDLE (R144). -/
theorem endAttempt_idle (h : s.composer.attempt = some a) :
    (s.endAttempt a).composer.attempt = none ∧ (s.endAttempt a).composer.state = .idle := by
  have hended : (endedComposer s.composer a).attempt = none ∧ (endedComposer s.composer a).state = .idle := by
    simp [endedComposer, h]
  rw [endAttempt_eq, kick_idle _ (.inl (by simpa using hended.1))]
  exact hended

end

/-! ## The command -/

section
variable {s : State} {sl : SheetSlot} {sh : Sheet} {k : Ticket}

theorem exec_sheetEnterComposing (ht : s.turnSlot = some sl) (h : s.sheet sl = some sh) (hk : sh.ticket = some k) :
    exec .sheetEnterComposing s = .next ((s.findAgain (s.fittingReads sl)).enterComposing sl k) := by
  refine congrArg Host.Outcome.next ?_
  simp [ht, ticketOf, h, hk]

/-- A sheet refused at its entry under OFF: its slot is FREE, and its order FINISHED with its attempt counted (R144, R149,
R175, R179). -/
theorem enterComposing_refused (h : s.sheet sl = some sh) (hd : k.dest = .press) (hm : s.window.pressMode = .off)
    (he : sh.ending = none) (hr : sh.report = .none) (hl : s.link.held = none) (hw : s.writerServes sl = false) :
    (s.enterComposing sl k).sheet sl = none ∧ (s.enterComposing sl k).link = s.link ∧
    (s.enterComposing sl k).writer = s.writer ∧ (s.enterComposing sl k).composer.attempt = none ∧
    (s.enterComposing sl k).composer.state = .idle ∧ (s.enterComposing sl k).out = s.out ∧
    (s.enterComposing sl k).control.queue = queueEnded (s.toComposing sl sh).control.queue sl .refused .pressOff := by
  rw [enterComposing_press h hd, offerPress_off (by simpa using hm)]
  set v := (s.toComposing sl sh).paintNext.endAttempt ⟨sl, sh.attempt⟩ with hv
  have hlink : v.link = s.link := by simp [hv]
  have hwriter : v.writer = s.writer := by simp [hv]
  have hsheet : v.sheet sl = some { s.fittedSheet sh with state := .composing } :=
    (sheet_of_control (by simp [hv]) sl).trans (toComposing_sheet h)
  obtain ⟨hqueue, hfree, -, -, -⟩ := v.endSheet_frees sl _ .refused .pressOff hsheet (by simp) he hr
    ((linkHolds_of_link hlink sl).trans (by simp [linkHolds, hl])) ((writerServes_of_writer hwriter sl).trans hw)
  obtain ⟨hattempt, hidle⟩ := endAttempt_idle (s := (s.toComposing sl sh).paintNext) (a := ⟨sl, sh.attempt⟩) (by simp)
  exact ⟨hfree, by simp [hlink], by simp [hwriter], by simpa using hattempt, by simpa using hidle, by simp [hv],
    by rw [hqueue]; simp [hv]⟩

end

end State

/-- Settles O46: by the turn, which the sheet has or no sheet has, and then by the consumer that the attempt goes to. -/
theorem sheetEntersComposing : Obligations.SheetEntersComposing := by
  refine ⟨fun s sl sh k h hr hrank hk hlink ho => ?_, fun s hnone => ?_⟩
  · have hexec := State.exec_sheetEnterComposing (State.turnSlot_eq h hr hrank hk hlink ho) h hk
    have hentered := composingEntered_paintNext h hk
    set u := s.findAgain (s.fittingReads sl) with hu
    have hsheet : u.sheet sl = some sh := (State.sheet_of_control (by simp [hu]) sl).trans h
    refine ⟨fun hd => ⟨_, hexec, ?_⟩, fun hd hm hf => ⟨_, hexec, ?_⟩, fun hd hm he hrep hheld hserves => ⟨_, hexec, ?_⟩⟩
    · rw [State.enterComposing_proof hsheet hd, State.writerTake_eq]
      refine ⟨hentered.withConsumer (u.toComposing sl sh).paintNext.link _, by simp [hu], fun hno => ?_, fun hbusy => ?_⟩
      · simp [State.writerTaken, hu, hno]
      · simp [State.writerTaken, hu, hbusy]
    · have hfull : (u.toComposing sl sh).bandFull ⟨sl, sh.attempt⟩ 0 = false := by
        simpa [State.bandFull, Composer.buf, hu] using hf
      rw [State.enterComposing_press hsheet hd,
        State.offerPress_takes (by simpa [hu] using hm) (State.paintNext_bandFull hfull)]
      exact ⟨hentered.withConsumer (State.linkTaken _ _ _) (u.toComposing sl sh).paintNext.writer, by simp [hu], by simp [State.linkTaken, hu]⟩
    · obtain ⟨hfree, hl, hw, hattempt, hidle, hout, hqueue⟩ := State.enterComposing_refused hsheet hd (by simpa [hu] using hm)
        he hrep (by simpa [hu] using hheld) ((State.writerServes_of_writer (by simp [hu]) sl).trans hserves)
      refine ⟨hfree, by rw [hl]; simp [hu], by rw [hw]; simp [hu], hattempt, hidle, by rw [hout]; simp [hu], ?_⟩
      rw [hqueue, State.toComposing_queue hsheet, queueEnded, List.map_map, List.map_map, show u.control = s.control by simp [hu]]
      refine List.map_congr_left fun e _ => ?_
      by_cases hslot : e.slot = some sl <;> simp [hslot, State.entryResults, raiseCount]
  · refine congrArg Host.Outcome.next ?_
    simp [State.turnSlot_none hnone]

end Sys2Proof.Machine
end

section
/-! Bands sent: what the end of a band send leaves of its buffer, and the message or the send that follows it (R134 to R136,
R153 to R157, R165, R174, R197). -/

namespace Sys2Proof.Machine

/-! ## The two buffers (R133) -/

theorem BufferId.eq_of_ne {i j k : BufferId} (hi : i ≠ k) (hj : j ≠ k) : i = j := by
  cases i <;> cases j <;> cases k <;> simp_all

theorem Composer.setBuf_comm (c : Composer) {i j : BufferId} (h : i ≠ j) (x y : Buffer) :
    (c.setBuf i x).setBuf j y = (c.setBuf j y).setBuf i x :=
  match i, j with
  | .x, .y => rfl
  | .y, .x => rfl
  | .x, .x => absurd rfl h
  | .y, .y => absurd rfl h

@[simp] theorem State.mapBuf_buf (s : State) (i j : BufferId) (f : Buffer → Buffer) :
    (s.mapBuf i f).composer.buf j = if j = i then f (s.composer.buf i) else s.composer.buf j :=
  Composer.buf_setBuf ..

/-- A buffer given back while the other one, not EMPTY, changes its state: the Composer may wait for it, and does not paint
into it (R135). -/
theorem GivenBack.mapOther {s t : State} {i j : BufferId} (h : GivenBack s t i) (hj : j ≠ i) (f : Buffer → Buffer)
    (he : (s.composer.buf j).state ≠ .empty) : GivenBack (s.mapBuf j f) (t.mapBuf j f) i := by
  have hrests (hc : t.composer = s.composer.setBuf i { s.composer.buf i with state := .empty, tag := none }) :
      (t.mapBuf j f).composer = (s.mapBuf j f).composer.setBuf i
        { (s.mapBuf j f).composer.buf i with state := .empty, tag := none } := by
    rw [State.mapBuf_buf, if_neg hj.symm]
    simp only [State.mapBuf, State.setComposer_composer, hc, Composer.buf_setBuf, if_neg hj]
    exact Composer.setBuf_comm _ hj.symm _ _
  refine ⟨fun hs => hrests (h.rests (by simpa using hs)), fun a hs ha hk hb _ => ?_, fun a k hs ha hk hb => ?_⟩
  · simp only [State.mapBuf_frame] at hs ha hb
    refine hrests (h.waits a hs ha hk hb ?_)
    rwa [BufferId.eq_of_ne hb hj]
  · simp only [State.mapBuf_frame] at hs ha hb ⊢
    have hp := h.paints a k hs ha hk hb
    have hother : bufferFor (s.composer.nextBand + 1) = j :=
      BufferId.eq_of_ne (k := i) (by rw [← hb]; exact bufferFor_succ_ne _) hj
    exact {
      state := by simpa using hp.state
      attempt := by simpa using hp.attempt
      band := by simpa using hp.band
      buffer := by rw [hb]; simpa [hj.symm, hb] using hp.buffer
      other := by
        have := hp.other
        rw [hother] at this ⊢
        simp [this]
      poison := hp.poison
      standing := hp.standing
      uncorrectable := hp.uncorrectable }

/-! ## What later moves leave -/

theorem GivenBack.later {s t t' : State} {i : BufferId} (h : GivenBack s t i) (hc : t'.composer = t.composer)
    (hk : t'.check = t.check) : GivenBack s t' i :=
  h.congr rfl (fun _ => rfl) rfl rfl rfl rfl hc hk

theorem FoundAgain.later {s t t' : State} {reads : CheckLoc → Bool} (h : FoundAgain s t reads) (hk : t'.check = t.check)
    (he : t'.hasEvent .integrity = t.hasEvent .integrity) : FoundAgain s t' reads :=
  h.congr (by rw [hk]) (by rw [hk]) he fun l hl _ => by rwa [hk]

/-! ## Messages (R148, R165) -/

theorem State.tell_out (s : State) (h : LinkHold) (m : PressMessage) : (s.tell h m).out =
    { s.out with pressMessages := s.out.pressMessages ++ if h.mode = .live then [m] else [] } := by
  unfold State.tell
  cases h.mode <;> simp [State.tellPress]

/-! ## A sheet made, after work that changes events and the port's count alone -/

/-- The terms of a sheet made speak of the press mode alone of the window, and of the outstanding count alone of the port:
`SheetMade.congr` for a work that may raise an event or end a unit. -/
theorem SheetMade.before {s s' t : State} {sl : SheetSlot} {sh : Sheet} {k : Ticket} (h : SheetMade s t sl sh k)
    (hc : s'.control = s.control) (hpl : s'.planner = s.planner) (hwin : s'.window.pressMode = s.window.pressMode)
    (hw : s'.walker = s.walker) (hs : s'.store = s.store) (hb : s'.builder = s.builder)
    (hp : s.port.outstanding ≤ s'.port.outstanding) : SheetMade s' t sl sh k := by
  have hwalk : WalkerUnblocked s t → WalkerUnblocked s' t := fun x => x.congr (by rw [hw]) (by rw [hw]) rfl rfl
  have hres : s'.orderResults sl = s.orderResults sl := State.orderResults_of_queue (by rw [hc]) sl
  constructor <;> simp only [hc, hres, hpl, hwin]
  case done => exact fun h1 h2 => (h.done h1 h2).imp_right (And.imp_right hwalk)
  case partialRoster => exact fun h1 h2 h3 => (h.partialRoster h1 h2 h3).imp_right (And.imp_right hwalk)
  case next => exact h.next
  case nextRefused =>
    exact fun l r h1 h2 h3 h4 h5 h6 h7 h8 h9 =>
      (h.nextRefused l r h1 h2 h3 h4 h5 h6 h7 h8 h9).imp_right (And.imp_right (And.imp_right hwalk))
  case nextPlanned => exact h.nextPlanned
  case report => exact h.report
  case released => exact fun h1 => (h.released h1).congr hs hb hp rfl rfl rfl

/-! ## The end of a send (R153) -/

namespace State

/-- The state in which a completed send of band `b` leaves its buffer and the link, before what follows it: the band told to
the press, no send in flight, and the buffer given back. -/
def sendEnded (s : State) (h : LinkHold) (b : Nat) (lines : Nat) : State :=
  let told := (s.findAgain fun l => l == .band (bufferFor b)).tell h
    (.band b lines ((s.composer.buf (bufferFor b)).bytes 0 (3 * (h.width * lines))))
  (told.setLink { told.link with sending := none }).giveBack (bufferFor b)

section
variable {s : State} {h : LinkHold} {b : Nat} {tag : BandTag}

theorem exec_bandSendDone (hb : s.link.sending = some b) (hh : s.link.held = some h)
    (hp : (s.composer.buf (bufferFor b)).poisoned = false) (ht : (s.composer.buf (bufferFor b)).tag = some tag) :
    exec .bandSendDone s = .next ((s.sendEnded h b tag.lines).afterSend h b) := by
  refine congrArg Host.Outcome.next ?_
  simp [hb, hh, hp, ht, sendEnded]

theorem exec_bandSendDone_none (h : s.link.sending = none ∨
    ∃ b, s.link.sending = some b ∧ (s.composer.buf (bufferFor b)).poisoned = true) : exec .bandSendDone s = .next s := by
  refine congrArg Host.Outcome.next ?_
  rcases h with h | ⟨b, hb, hp⟩
  · simp [h]
  · cases hh : s.link.held <;> simp [hb, hp]

end

@[simp] theorem sendEnded_frame (s : State) (h : LinkHold) (b lines : Nat) :
    (s.sendEnded h b lines).window.pressMode = s.window.pressMode ∧
    (s.sendEnded h b lines).port = s.port ∧
    (s.sendEnded h b lines).walker = s.walker ∧
    (s.sendEnded h b lines).control = s.control ∧
    (s.sendEnded h b lines).planner = s.planner ∧
    (s.sendEnded h b lines).store = s.store ∧
    (s.sendEnded h b lines).builder = s.builder ∧
    (s.sendEnded h b lines).link = { s.link with sending := none } ∧
    (s.sendEnded h b lines).writer = s.writer := by
  simp [sendEnded]

theorem sendEnded_out (s : State) (h : LinkHold) (b lines : Nat) : (s.sendEnded h b lines).out =
    { s.out with pressMessages := s.out.pressMessages ++ if h.mode = .live then
      [.band b lines ((List.range (3 * (h.width * lines))).map (s.composer.buf (bufferFor b)).byte)] else [] } := by
  simp [sendEnded, tell_out, Buffer.bytes_eq]

theorem sendEnded_given (s : State) (h : LinkHold) (b lines : Nat) :
    GivenBack s (s.sendEnded h b lines) (bufferFor b) :=
  (giveBack_given _ (bufferFor b)).congr (by simp) (fun sl => by unfold ticketOf; rw [sheet_of_control (t := s)]; simp)
    (by simp) (by simp) (by simp) (by simp) rfl rfl

theorem sendEnded_found (s : State) (h : LinkHold) (b lines : Nat) :
    FoundAgain s (s.sendEnded h b lines) (· == .band (bufferFor b)) :=
  (s.findAgain_found _).congr (by simp [sendEnded]) (by simp [sendEnded]) (by simp [sendEnded, hasEvent])
    fun l hl hb => kick_stands _ l (by simpa using hl) hb

/-- With no error standing in the buffer, a send finds none again (R197). -/
theorem sendEnded_window {s : State} {b : Nat} (hn : .band (bufferFor b) ∉ s.check.standing) (h : LinkHold) (lines : Nat) :
    (s.sendEnded h b lines).window = s.window := by
  have hfind := s.findAgain_none (fun l => l == .band (bufferFor b)) fun l hl => by
    rw [beq_eq_false_iff_ne]
    rintro rfl
    exact hn hl
  simp [sendEnded, hfind]

/-! ## What follows a send (R153 to R157) -/

section
variable {s : State} {h : LinkHold} {b : Nat}

theorem afterSend_rests (ha : s.link.abortPending = false) (hb : b + 1 ≠ h.bands) (hd : s.link.due = false) :
    s.afterSend h b = s := by
  simp [afterSend, ha, hb, hd]

theorem afterSend_due (ha : s.link.abortPending = false) (hb : b + 1 ≠ h.bands) (hd : s.link.due = true) :
    s.afterSend h b = s.startSend := by
  simp [afterSend, ha, hb, hd]

theorem afterSend_aborts (ha : s.link.abortPending = true) :
    s.afterSend h b = (s.tell h (.abort h.sheetId)).linkClose.letGo h.attempt.slot := by
  simp [afterSend, ha]

theorem afterSend_closes (ha : s.link.abortPending = false) (hb : b + 1 = h.bands) : s.afterSend h b = s.sendClose h := by
  simp [afterSend, ha, hb]

/-- The link in CLOSING after the last band of a sheet, CLOSE told to the press (R157). -/
def closeTold (s : State) (h : LinkHold) : State :=
  (s.tell h (.close h.sheetId h.bands)).setLink { s.link with
    state := .closing, bandTimer := none, resultTimer := some (1000 * s.link.config.resultLimit) }

@[simp] theorem closeTold_frame (s : State) (h : LinkHold) :
    (s.closeTold h).window = s.window ∧
    (s.closeTold h).port = s.port ∧
    (s.closeTold h).walker = s.walker ∧
    (s.closeTold h).control = s.control ∧
    (s.closeTold h).planner = s.planner ∧
    (s.closeTold h).store = s.store ∧
    (s.closeTold h).builder = s.builder ∧
    (s.closeTold h).composer = s.composer ∧
    (s.closeTold h).link = { s.link with
      state := .closing, bandTimer := none, resultTimer := some (1000 * s.link.config.resultLimit) } ∧
    (s.closeTold h).writer = s.writer ∧
    (s.closeTold h).check = s.check ∧
    (s.closeTold h).out = { s.out with pressMessages :=
      s.out.pressMessages ++ if h.mode = .live then [.close h.sheetId h.bands] else [] } := by
  simp [closeTold, tell_out]

theorem startSend_link (s : State) : s.startSend.link = { s.link with
    sending := some s.link.nextBand, due := false, bandTimer := some s.link.config.bandPeriod
    nextBand := s.link.nextBand + 1 } := by
  simp [startSend]

theorem startSend_composer (s : State) :
    s.startSend.composer = (s.mapBuf (bufferFor s.link.nextBand) fun x => { x with state := .sending }).composer := rfl

theorem sendClose_eq (s : State) (h : LinkHold) :
    s.sendClose h = if h.mode = .loop then (s.closeTold h).printed h else s.closeTold h := by
  simp [sendClose, closeTold]

end

end State

/-- Settles O53: `sendEnded` gives the buffer back, and each case of `afterSend` adds its message, its send or its end. -/
theorem bandSent : Obligations.BandSent := by
  refine ⟨fun s h b tag sent aborted hb hh hp ht hmsg => ?_, fun s hs => State.exec_bandSendDone_none hs⟩
  have hexec := State.exec_bandSendDone hb hh hp ht
  have hgiven := s.sendEnded_given h b tag.lines
  have hfound := s.sendEnded_found h b tag.lines
  have hout := s.sendEnded_out h b tag.lines
  obtain ⟨hmode, hport, hwalker, hcontrol, hplanner, hstore, hbuilder, hlink, hwriter⟩ := s.sendEnded_frame h b tag.lines
  have hwindow := fun hn => State.sendEnded_window (s := s) (b := b) hn h tag.lines
  generalize s.sendEnded h b tag.lines = v at *
  have hsent : v.out = { s.out with pressMessages := s.out.pressMessages ++ sent } := by
    rw [hout]
    obtain ⟨hm, -, rfl⟩ | ⟨hm, rfl, -⟩ := hmsg <;> simp [hm]
  have haborted : aborted = if h.mode = .live then [.abort h.sheetId] else [] := by
    obtain ⟨hm, rfl, -⟩ | ⟨hm, -, rfl⟩ := hmsg <;> simp [hm]
  refine ⟨fun ha hlast hd => ?rests, fun ha hlast hd hnext => ?due, fun ha => ?aborts, fun ha hlast hlive => ?closes,
    fun ha hlast hloop sh k hin hw => ?printed⟩
  case rests =>
    rw [State.afterSend_rests (by rwa [hlink]) hlast (by rwa [hlink])] at hexec
    exact ⟨v, hexec, hlink, hgiven, hsent, hcontrol, hfound, hwindow, hport⟩
  case due =>
    rw [State.afterSend_due (by rwa [hlink]) hlast (by rwa [hlink])] at hexec
    have hv : v.link.nextBand = b + 1 := by rw [hlink, hnext]
    have hcomposer := v.startSend_composer
    rw [hv] at hcomposer
    refine ⟨_, hexec, by rw [State.startSend_link, hlink, hnext], ?_, fun hs => ?_, fun hne => ?_, by simpa using hsent,
      by simpa using hcontrol, hfound.later (by simp) (by simp [State.hasEvent]), by simpa using hport⟩
    · rw [hcomposer, State.mapBuf_buf, if_pos rfl]
    · rw [hcomposer, State.mapBuf_buf, if_neg (bufferFor_succ_ne b).symm, hgiven.rests hs, Composer.buf_setBuf, if_pos rfl]
    · exact (hgiven.mapOther (bufferFor_succ_ne b) (fun x => { x with state := .sending }) hne).later hcomposer (by simp)
  case aborts =>
    rw [State.afterSend_aborts (by rwa [hlink])] at hexec
    exact ⟨_, hexec, by simp [State.linkClose, Link.closedWith, hlink], hgiven.later (by simp) (by simp),
      State.letGo_endedLetGo _ (by simpa using hcontrol) (by simp [hwalker]) (by simp [hwalker]),
      by simp [State.tell_out, hsent, haborted], hfound.later (by simp) (by simp [State.hasEvent])⟩
  case closes =>
    rw [State.afterSend_closes (by rwa [hlink]) hlast, State.sendClose_eq, if_neg (by simp [hlive])] at hexec
    exact ⟨_, hexec, by simp [hlink], hgiven.later (by simp) (by simp), by simp [hout, hlive], by simpa using hcontrol,
      hfound.later (by simp) (by simp [State.hasEvent]), by simpa using hport⟩
  case printed =>
    rw [State.afterSend_closes (by rwa [hlink]) hlast, State.sendClose_eq, if_pos hloop] at hexec
    have hmade := State.printed_made (s := v.closeTold h) (h := h) (hin.congr (by simpa using hcontrol))
      ((State.writerServes_of_writer (by simpa using hwriter) _).trans hw)
    exact ⟨_, hexec, by simp [State.printed, State.linkClose, Link.closedWith, hlink],
      hgiven.later (by simp [State.printed]) (by simp [State.printed]),
      hmade.before (by simp [hcontrol]) (by simp [hplanner]) (by simp [hmode]) (by simp [hwalker]) (by simp [hstore])
        (by simp [hbuilder]) (by simp [hport]),
      by simp [State.printed, hout, hloop], hfound.later (by simp [State.printed]) (by simp [State.printed, State.hasEvent])⟩

end Sys2Proof.Machine
end

section
/-! Bands painted: what a completed painting leaves of its buffer, of the Composer and of the sheet, and what the link makes
of the FULL buffer (R133 to R137, R150, R154, R155, R165, R174, R196, R197). -/

namespace Sys2Proof.Machine

/-! ## The bytes of a painted band (R133, R196) -/

theorem bandPixels_length (k : Ticket) (b : Nat) (ops : List PaintOp) :
    (bandPixels k b ops).length = 3 * (k.width * min 64 (k.height - 64 * b)) :=
  rasterBytes_length ..

/-- A byte of a buffer after the painting of a band: a pixel of it, a zero of its last granule, or what stood there. -/
theorem Buffer.write_bandBytes_byte (x : Buffer) (k : Ticket) (b : Nat) (ops : List PaintOp) (i : Nat) :
    (x.write (bandBytes k b ops)).byte i = if i < (bandPixels k b ops).length then (bandPixels k b ops).getD i 0#8
      else if i < ((bandPixels k b ops).length + 7) / 8 * 8 then 0#8 else x.byte i := by
  rw [Buffer.write_byte, bandBytes, wholeGranules_length, wholeGranules_getD]
  generalize bandPixels k b ops = px
  by_cases h : i < px.length
  · rw [if_pos h, if_pos (by omega)]
  · rw [if_neg h, List.getD_eq_getElem?_getD, List.getElem?_eq_none (by omega), Option.getD_none]

namespace State

/-! ## The painting completes (R136, R174) -/

/-- The band that was painted is FULL in its buffer, and the next band index has risen. -/
def bufferFilled (s : State) (bytes : List Byte) : State :=
  let s1 := s.mapBuf (bufferFor s.composer.nextBand) fun x => { x.write bytes with state := .full }
  s1.setComposer { s1.composer with nextBand := s.composer.nextBand + 1 }

/-- A band has been painted, before its consumer is told: the next band has started, or the last band is reported. -/
def bandFilled (s : State) (a : Attempt) (k : Ticket) (bytes : List Byte) : State :=
  if s.composer.nextBand + 1 = bandCount k.height then (s.bufferFilled bytes).lastBandPainted a
  else (s.bufferFilled bytes).paintNext

theorem bandPainted_eq {s : State} {b : Nat} (hb : s.composer.nextBand = b) (a : Attempt) (k : Ticket)
    (bytes : List Byte) : s.bandPainted a k bytes = (s.bandFilled a k bytes).linkBandFull a b := by
  subst hb
  unfold bandPainted bandFilled bufferFilled
  dsimp only
  split <;> rfl

@[simp] theorem bufferFilled_frame (s : State) (bytes : List Byte) :
    (s.bufferFilled bytes).window = s.window ∧
    (s.bufferFilled bytes).port = s.port ∧
    (s.bufferFilled bytes).control = s.control ∧
    (s.bufferFilled bytes).planner = s.planner ∧
    (s.bufferFilled bytes).store = s.store ∧
    (s.bufferFilled bytes).composer.attempt = s.composer.attempt ∧
    (s.bufferFilled bytes).composer.nextBand = s.composer.nextBand + 1 ∧
    (s.bufferFilled bytes).link = s.link ∧
    (s.bufferFilled bytes).writer = s.writer ∧
    (s.bufferFilled bytes).check = s.check ∧
    (s.bufferFilled bytes).out = s.out := by
  simp [bufferFilled]

theorem bufferFilled_buf (s : State) (bytes : List Byte) (j : BufferId) : (s.bufferFilled bytes).composer.buf j =
    if j = bufferFor s.composer.nextBand then
      { (s.composer.buf (bufferFor s.composer.nextBand)).write bytes with state := .full }
    else s.composer.buf j :=
  (Composer.buf_congr rfl rfl j).trans (mapBuf_buf ..)

@[simp] theorem bandFilled_frame (s : State) (a : Attempt) (k : Ticket) (bytes : List Byte) :
    (s.bandFilled a k bytes).window = s.window ∧
    (s.bandFilled a k bytes).port = s.port ∧
    (s.bandFilled a k bytes).control.queue = s.control.queue ∧
    (s.bandFilled a k bytes).planner = s.planner ∧
    (s.bandFilled a k bytes).store = s.store ∧
    (s.bandFilled a k bytes).link = s.link ∧
    (s.bandFilled a k bytes).writer = s.writer ∧
    (s.bandFilled a k bytes).check.correctable = s.check.correctable ∧
    (s.bandFilled a k bytes).check.count = s.check.count ∧
    (s.bandFilled a k bytes).out = s.out := by
  unfold bandFilled
  split <;> simp

/-- The start of a painting rewrites a band buffer, and no error elsewhere (R197). -/
theorem paintNext_stands (s : State) :
    ∀ l ∈ s.check.standing, (∀ i, l ≠ .band i) → l ∈ s.paintNext.check.standing := by
  intro l hl hb
  unfold paintNext
  split
  · exact hl
  · split
    · exact hl
    · dsimp only
      split
      · split <;> simp [rewritten, mapBuf, hl, hb]
      · exact hl

theorem bandFilled_stands (s : State) (a : Attempt) (k : Ticket) (bytes : List Byte) :
    ∀ l ∈ s.check.standing, (∀ i, l ≠ .band i) → l ∈ (s.bandFilled a k bytes).check.standing := by
  intro l hl hb
  unfold bandFilled
  split
  · simpa using hl
  · exact paintNext_stands _ l (by simpa using hl) hb

end State

/-- What the painting of a band leaves of its buffer, the Composer and the sheet: the band's buffer is FULL with the bytes
written, and after it the Composer is IDLE and the sheet in CLOSING, or the next band is painted or waits. -/
structure BandFilled (c : Composer) (t : State) (a : Attempt) (sh : Sheet) (k : Ticket) (b : Nat) (bytes : List Byte) :
    Prop where
  buffer : t.composer.buf (bufferFor b) = { (c.buf (bufferFor b)).write bytes with state := .full }
  last : b + 1 = bandCount k.height → t.composer.state = .idle ∧ t.composer.attempt = none ∧
    t.sheet a.slot = some { sh with state := .closing } ∧
    t.composer.buf (bufferFor (b + 1)) = c.buf (bufferFor (b + 1))
  attempt : b + 1 ≠ bandCount k.height → t.composer.attempt = some a ∧ t.composer.nextBand = b + 1 ∧ t.sheet a.slot = some sh
  paints : b + 1 ≠ bandCount k.height → (c.buf (bufferFor (b + 1))).state = .empty → t.composer.state = .painting ∧
    (t.composer.buf (bufferFor (b + 1))).state = .filling ∧
    (t.composer.buf (bufferFor (b + 1))).tag = some ⟨a, b + 1, min 64 (k.height - 64 * (b + 1))⟩
  waits : b + 1 ≠ bandCount k.height → (c.buf (bufferFor (b + 1))).state ≠ .empty → t.composer.state = .waiting ∧
    t.composer.buf (bufferFor (b + 1)) = c.buf (bufferFor (b + 1))

section
variable {s : State} {a : Attempt} {sh : Sheet} {k : Ticket} {b : Nat} {bytes : List Byte}

/-- After the last band the Composer is IDLE (R136, R174). -/
theorem bandFilled_last (hsh : s.sheet a.slot = some sh) (hb : s.composer.nextBand = b)
    (hlast : b + 1 = bandCount k.height) : BandFilled s.composer (s.bandFilled a k bytes) a sh k b bytes := by
  subst hb
  have hbuf (j : BufferId) : ((s.bufferFilled bytes).lastBandPainted a).composer.buf j =
      (s.bufferFilled bytes).composer.buf j := Composer.buf_congr (by simp) (by simp) j
  rw [State.bandFilled, if_pos hlast]
  refine ⟨?_, fun _ => ⟨by simp [State.lastBandPainted], by simp [State.lastBandPainted], ?_, ?_⟩,
    fun h => absurd hlast h, fun h => absurd hlast h, fun h => absurd hlast h⟩
  · rw [hbuf, State.bufferFilled_buf, if_pos rfl]
  · rw [State.lastBandPainted, State.sheet_mapSheet, if_pos rfl, State.sheet_setComposer,
      State.sheet_of_control (s := s) (by simp), hsh, Option.map_some]
  · rw [hbuf, State.bufferFilled_buf, if_neg (bufferFor_succ_ne _)]

/-- After any other band the next one is painted, or waits for its buffer (R135, R136). -/
theorem bandFilled_next (ha : s.composer.attempt = some a) (hsh : s.sheet a.slot = some sh) (hk : sh.ticket = some k)
    (hb : s.composer.nextBand = b) (hlast : b + 1 ≠ bandCount k.height) :
    BandFilled s.composer (s.bandFilled a k bytes) a sh k b bytes := by
  subst hb
  have hattempt : (s.bufferFilled bytes).composer.attempt = some a := by simpa using ha
  have hticket : (s.bufferFilled bytes).ticketOf a.slot = some k := by
    rw [State.ticketOf, State.sheet_of_control (s := s) (by simp), hsh, Option.bind_some, hk]
  have hband : (s.bufferFilled bytes).composer.nextBand = s.composer.nextBand + 1 := by simp
  have hfull := (s.bufferFilled_buf bytes (bufferFor s.composer.nextBand)).trans (if_pos rfl)
  have hnext := (s.bufferFilled_buf bytes (bufferFor (s.composer.nextBand + 1))).trans (if_neg (bufferFor_succ_ne _))
  rw [State.bandFilled, if_neg hlast]
  refine ⟨?_, fun h => absurd h hlast,
    fun _ => ⟨by simpa using ha, by simp, (State.sheet_of_control (by simp) _).trans hsh⟩, fun _ he => ?_, fun _ he => ?_⟩
  · obtain h | ⟨h, -⟩ := (s.bufferFilled bytes).paintNext_buf (bufferFor s.composer.nextBand)
    · exact h.trans hfull
    · simp [hfull] at h
  · have hp := (s.bufferFilled bytes).paintNext_started a k hattempt hticket (by simpa [hnext] using he)
    have hbuf := hp.buffer
    rw [hband] at hbuf
    exact ⟨hp.state, by rw [hbuf], by rw [hbuf]⟩
  · rw [State.paintNext_waits hattempt hticket (by simpa [hnext] using he)]
    exact ⟨rfl, (Composer.buf_congr rfl rfl _).trans hnext⟩

theorem bandFilled_spec (ha : s.composer.attempt = some a) (hsh : s.sheet a.slot = some sh) (hk : sh.ticket = some k)
    (hb : s.composer.nextBand = b) : BandFilled s.composer (s.bandFilled a k bytes) a sh k b bytes := by
  by_cases hlast : b + 1 = bandCount k.height
  · exact bandFilled_last hsh hb hlast
  · exact bandFilled_next ha hsh hk hb hlast

end

/-! ## What the link makes of a FULL band (R150, R155, R165) -/

namespace State

section
variable {s : State} {a : Attempt} {b : Nat} {h : LinkHold}

theorem linkBandFull_other (hl : s.link.held.map (·.attempt) ≠ some a) : s.linkBandFull a b = s := by
  unfold linkBandFull
  cases hh : s.link.held with
  | none => rfl
  | some x => simp only [if_pos (show x.attempt ≠ a from fun e => hl (by rw [hh, ← e]; rfl))]

theorem linkBandFull_awaits (hh : s.link.held = some h) (ha : h.attempt = a) (hs : s.link.state = .awaitReady) :
    s.linkBandFull a b = s.openWhenReady := by
  simp [linkBandFull, hh, ha, hs]

/-- A band that is not due, or whose sheet is not open, waits in its buffer. -/
theorem linkBandFull_waits (hs : s.link.state ≠ .awaitReady)
    (hd : ¬(s.link.state = .streaming ∧ s.link.graceTimer ≠ none ∧ s.link.nextBand = b)) : s.linkBandFull a b = s := by
  unfold linkBandFull
  cases s.link.held with
  | none => rfl
  | some x => simp only [if_neg hs, if_neg hd, ite_self]

/-- The state in which the due band is found FULL: the grace timer stopped, and a late band counted (R155). -/
def lateCounted (s : State) (sl : SheetSlot) : State :=
  (s.setLink { s.link with graceTimer := none }).addCounts sl { Counts.zero with lateBands := 1 }

theorem linkBandFull_late (hh : s.link.held = some h) (ha : h.attempt = a) (hs : s.link.state = .streaming)
    (hg : s.link.graceTimer ≠ none) (hb : s.link.nextBand = b) : s.linkBandFull a b =
      if s.link.sending = none then (s.lateCounted a.slot).startSend
      else (s.lateCounted a.slot).setLink { s.link with graceTimer := none, due := true } := by
  simp [linkBandFull, hh, ha, hs, hg, hb, lateCounted]

theorem lateCounted_results {sl : SheetSlot} {r : Results} (hr : s.orderResults sl = some r) :
    ∃ r', (s.lateCounted sl).orderResults sl = some r' ∧ r'.counts.lateBands = min 65535 (r.counts.lateBands + 1) := by
  refine ⟨{ r with counts := r.counts.add { Counts.zero with lateBands := 1 } }, ?_, rfl⟩
  rw [lateCounted, addCounts, orderResults_mapResults, if_pos rfl, orderResults_of_queue (s := s) (by simp), hr]
  rfl

theorem openWhenReady_notReady (hh : s.link.held = some h) (hr : s.link.readyHigh h = false) : s.openWhenReady = s := by
  unfold openWhenReady
  cases s.link.state <;> simp [hh, hr]

theorem openWhenReady_opens (hh : s.link.held = some h) (hs : s.link.state = .awaitReady)
    (hf : s.bandFull h.attempt 0 = true) (hr : s.link.readyHigh h = true) : s.openWhenReady = s.sendOpen h := by
  simp [openWhenReady, hh, hs, hf, hr]

/-- A sheet opened under LIVE waits for the press to accept it (R150). -/
theorem sendOpen_live (hm : h.mode = .live) : s.sendOpen h = (s.tell h (.opened h.sheetId h.width h.height h.bands)).setLink
    { s.link with state := .opening, waitTimer := none, acceptTimer := some s.link.config.acceptLimit } := by
  simp [sendOpen, hm]

/-- A sheet opened under LOOP is accepted at once (R165). -/
theorem sendOpen_loop (hm : h.mode = .loop) : s.sendOpen h = (s.setLink { s.link with
    state := .streaming, waitTimer := none, acceptTimer := none }).startSend := by
  simp [sendOpen, hm, tell, acceptTaken, setLink]

/-- What the link does with the buffers when it is told of a FULL band: it starts to send that band, or leaves them. -/
theorem linkBandFull_composer (hown : ∀ h, s.link.held = some h → h.attempt = a → s.link.state = .awaitReady →
      s.link.nextBand = 0 ∧ (b = 0 ∨ (s.link.ready = false ∧ h.mode = .live))) :
    (s.linkBandFull a b).composer = s.composer ∨
      (s.linkBandFull a b).composer = (s.mapBuf (bufferFor b) fun x => { x with state := .sending }).composer := by
  by_cases hl : s.link.held.map (·.attempt) = some a
  · obtain ⟨h, hh, ha⟩ := Option.map_eq_some_iff.1 hl
    by_cases hs : s.link.state = .awaitReady
    · rw [linkBandFull_awaits hh ha hs]
      obtain ⟨hnext, hready⟩ := hown h hh ha hs
      by_cases hopen : s.bandFull h.attempt 0 = true ∧ s.link.readyHigh h = true
      · obtain ⟨hf, hr⟩ := hopen
        have hb : b = 0 := by
          refine hready.resolve_right ?_
          rintro ⟨hlow, hm⟩
          simp [Link.readyHigh, hlow, hm] at hr
        rw [openWhenReady_opens hh hs hf hr]
        by_cases hm : h.mode = .loop
        · exact .inr (by rw [sendOpen_loop hm, startSend_composer, hb]; simp [mapBuf, hnext])
        · exact .inl (by simp [sendOpen, hm])
      · left
        cases hf : s.bandFull h.attempt 0 with
        | false => rw [openWhenReady_stays hh hf]
        | true => rw [openWhenReady_notReady hh (by simpa [hf] using hopen)]
    · by_cases hd : s.link.state = .streaming ∧ s.link.graceTimer ≠ none ∧ s.link.nextBand = b
      · obtain ⟨hst, hg, hb⟩ := hd
        rw [linkBandFull_late hh ha hst hg hb]
        split
        · exact .inr (by rw [startSend_composer]; simp [mapBuf, lateCounted, hb])
        · exact .inl (by simp [lateCounted])
      · exact .inl (by rw [linkBandFull_waits hs hd])
  · exact .inl (by rw [linkBandFull_other hl])

/-- The band's buffer keeps its pixels and its tag, whether or not its send starts, and the other buffer stays. -/
theorem linkBandFull_buffers (hown : ∀ h, s.link.held = some h → h.attempt = a → s.link.state = .awaitReady →
      s.link.nextBand = 0 ∧ (b = 0 ∨ (s.link.ready = false ∧ h.mode = .live))) :
    (s.linkBandFull a b).composer.buf (bufferFor (b + 1)) = s.composer.buf (bufferFor (b + 1)) ∧
      ∃ st, (s.linkBandFull a b).composer.buf (bufferFor b) = { s.composer.buf (bufferFor b) with state := st } := by
  obtain h | h := linkBandFull_composer hown
  · exact ⟨by rw [h], _, by rw [h]⟩
  · rw [h, mapBuf_buf, mapBuf_buf, if_neg (bufferFor_succ_ne b), if_pos rfl]
    exact ⟨rfl, _, rfl⟩

/-- A band that comes before its turn waits in its buffer: the sheet is not open yet or the press not ready, or no grace
timer runs for the band. -/
theorem linkBandFull_early (hh : s.link.held = some h) (hs : s.link.state = .opening ∨ s.link.state = .closing ∨
      (s.link.state = .streaming ∧ (s.link.graceTimer = none ∨ s.link.nextBand ≠ b)) ∨
      (s.link.state = .awaitReady ∧ s.link.ready = false ∧ h.mode = .live)) : s.linkBandFull h.attempt b = s := by
  obtain hs | hs | ⟨hs, hd⟩ | ⟨hs, hlow, hm⟩ := hs
  · exact linkBandFull_waits (by simp [hs]) (by simp [hs])
  · exact linkBandFull_waits (by simp [hs]) (by simp [hs])
  · exact linkBandFull_waits (by simp [hs]) fun ⟨_, hg, hb⟩ => hd.elim hg fun hn => hn hb
  · rw [linkBandFull_awaits hh rfl hs, openWhenReady_notReady hh (by simp [Link.readyHigh, hlow, hm])]

/-- Band 0 opens the sheet of a press that is ready (R150). -/
theorem linkBandFull_opens (hh : s.link.held = some h) (hs : s.link.state = .awaitReady)
    (hf : s.bandFull h.attempt 0 = true) (hr : s.link.readyHigh h = true) : s.linkBandFull h.attempt b = s.sendOpen h := by
  rw [linkBandFull_awaits hh rfl hs, openWhenReady_opens hh hs hf hr]

/-- What the link makes of a FULL band 0 in AWAIT_READY: it opens the sheet where READY is high, and at once begins to send
under LOOP (R150, R165). -/
theorem linkBandFull_zero (hh : s.link.held = some h) (hs : s.link.state = .awaitReady)
    (hf : s.bandFull h.attempt 0 = true) :
    (h.mode = .live → s.link.ready = true → ((s.linkBandFull h.attempt 0).composer.buf .x).state = .full ∧
      (s.linkBandFull h.attempt 0).link =
        { s.link with state := .opening, waitTimer := none, acceptTimer := some s.link.config.acceptLimit } ∧
      (s.linkBandFull h.attempt 0).out = { s.out with
        pressMessages := s.out.pressMessages ++ [.opened h.sheetId h.width h.height h.bands] }) ∧
    (h.mode = .live → s.link.ready = false → (s.linkBandFull h.attempt 0).link = s.link ∧
      (s.linkBandFull h.attempt 0).out = s.out ∧ ((s.linkBandFull h.attempt 0).composer.buf .x).state = .full) ∧
    (h.mode = .loop → s.link.nextBand = 0 → (s.linkBandFull h.attempt 0).link = { s.link with
        state := .streaming, waitTimer := none, acceptTimer := none, sending := some 0, due := false, nextBand := 1
        bandTimer := some s.link.config.bandPeriod } ∧ (s.linkBandFull h.attempt 0).out = s.out ∧
      ((s.linkBandFull h.attempt 0).composer.buf .x).state = .sending) := by
  have hfull : (s.composer.buf .x).state = .full := by
    simp only [bandFull, Bool.and_eq_true, beq_iff_eq] at hf
    exact hf.1
  refine ⟨fun hm hr => ?_, fun hm hr => ?_, fun hm hn => ?_⟩
  · rw [linkBandFull_opens hh hs hf (by simp [Link.readyHigh, hr]), sendOpen_live hm]
    exact ⟨by simpa using hfull, rfl, by simp [tell_out, hm]⟩
  · rw [linkBandFull_early hh (.inr (.inr (.inr ⟨hs, hr, hm⟩)))]
    exact ⟨rfl, rfl, hfull⟩
  · rw [linkBandFull_opens hh hs hf (by simp [Link.readyHigh, hm]), sendOpen_loop hm]
    refine ⟨by simp [startSend_link, hn], by simp, ?_⟩
    rw [startSend_composer, mapBuf_buf, if_pos (by simp [hn, bufferFor])]

@[simp] theorem lateCounted_frame (s : State) (sl : SheetSlot) :
    (s.lateCounted sl).composer = s.composer ∧
    (s.lateCounted sl).link = { s.link with graceTimer := none } := by
  simp [lateCounted]

/-- The due band counts as a late band, and its send starts now or waits for the send in flight (R155). -/
theorem linkBandFull_due {g : Nat} (hh : s.link.held = some h) (ha : h.attempt = a) (hs : s.link.state = .streaming)
    (hg : s.link.graceTimer = some g) (hb : s.link.nextBand = b) (hf : (s.composer.buf (bufferFor b)).state = .full) :
    (∀ r, s.orderResults a.slot = some r → ∃ r', (s.linkBandFull a b).orderResults a.slot = some r' ∧
      r'.counts.lateBands = min 65535 (r.counts.lateBands + 1)) ∧
    (s.link.sending = none → (s.linkBandFull a b).link = { s.link with
        graceTimer := none, sending := some b, due := false, nextBand := b + 1
        bandTimer := some s.link.config.bandPeriod } ∧
      ((s.linkBandFull a b).composer.buf (bufferFor b)).state = .sending) ∧
    (s.link.sending ≠ none → (s.linkBandFull a b).link = { s.link with graceTimer := none, due := true } ∧
      ((s.linkBandFull a b).composer.buf (bufferFor b)).state = .full) := by
  have e := linkBandFull_late hh ha hs (by simp [hg]) hb
  refine ⟨fun r hr => ?_, fun hn => ?_, fun hn => ?_⟩
  · obtain ⟨r', hr', hlate⟩ := lateCounted_results hr
    refine ⟨r', ?_, hlate⟩
    rw [e, ← hr']
    split <;> exact orderResults_of_queue (by simp) _
  · rw [e, if_pos hn]
    refine ⟨by simp [startSend_link, hb], ?_⟩
    rw [startSend_composer, mapBuf_buf, if_pos (by simp [hb])]
  · rw [e, if_neg hn]
    exact ⟨by simp, by simpa using hf⟩

end

/-! ## The command -/

section
variable {s : State} {a : Attempt} {sh : Sheet} {k : Ticket}

theorem exec_bandPaintDone (hs : s.composer.state = .painting) (ha : s.composer.attempt = some a)
    (hsh : s.sheet a.slot = some sh) (hk : sh.ticket = some k)
    (hf : paintingFails (s.composer.buf (bufferFor s.composer.nextBand)).poisoned s.composer.nextBand
      (s.bandOps sh k s.composer.nextBand) = false) : exec .bandPaintDone s =
    .next ((s.findAgain (s.paintingReads sh k)).bandPainted a k
      (bandBytes k s.composer.nextBand (s.bandOps sh k s.composer.nextBand))) := by
  refine congrArg Host.Outcome.next ?_
  simp [hs, ha, hsh, hk, hf]

/-- A painting that reads a poisoned granule does not complete (R201). -/
theorem exec_bandPaintDone_fails (ha : s.composer.attempt = some a) (hsh : s.sheet a.slot = some sh)
    (hk : sh.ticket = some k) (hf : paintingFails (s.composer.buf (bufferFor s.composer.nextBand)).poisoned
      s.composer.nextBand (s.bandOps sh k s.composer.nextBand) = true) : exec .bandPaintDone s = .next s := by
  refine congrArg Host.Outcome.next ?_
  simp [ha, hsh, hk, hf]

theorem exec_bandPaintDone_none (hs : s.composer.state ≠ .painting) : exec .bandPaintDone s = .next s := by
  refine congrArg Host.Outcome.next ?_
  split
  · rfl
  · split
    · rfl
    · split
      · rfl
      · exact if_neg fun h => hs h.1

end

end State

/-- Settles O47: `bandFilled_spec` gives the buffer, the Composer and the sheet, and `linkBandFull` what the link does by its
state. -/
theorem bandPainted : Obligations.BandPainted := by
  refine ⟨fun s a sh k b hs ha hsh hk hb hown hf => ?_,
    fun s a sh k ha hsh hk hf => State.exec_bandPaintDone_fails ha hsh hk hf, fun s hs => State.exec_bandPaintDone_none hs⟩
  have hexec := State.exec_bandPaintDone hs ha hsh hk (by rwa [hb])
  rw [State.bandPainted_eq (b := b) (by simpa using hb), hb] at hexec
  set bytes := bandBytes k b (s.bandOps sh k b)
  set v := s.findAgain (s.paintingReads sh k) with hv
  have hfilled : BandFilled s.composer (v.bandFilled a k bytes) a sh k b bytes := by
    have := bandFilled_spec (s := v) (b := b) (bytes := bytes) (by simpa [hv] using ha)
      ((State.sheet_of_control (by simp [hv]) _).trans hsh) hk (by simpa [hv] using hb)
    simpa only [hv, State.findAgain_frame] using this
  have hfound : FoundAgain s (v.bandFilled a k bytes) (s.paintingReads sh k) :=
    (s.findAgain_found _).congr (by simp [hv]) (by simp [hv]) (by simp [hv, State.hasEvent]) (v.bandFilled_stands a k bytes)
  obtain ⟨-, hport, hqueue, hplanner, hstore, hlink, hwriter, -, -, hout⟩ := v.bandFilled_frame a k bytes
  simp only [hv, State.findAgain_frame] at hport hqueue hplanner hstore hlink hwriter hout
  have hresults := State.orderResults_of_queue (s := s) hqueue a.slot
  generalize v.bandFilled a k bytes = u at *
  have hfull : (u.composer.buf (bufferFor b)).state = .full := by rw [hfilled.buffer]
  have hstays : u.link = s.link ∧ u.out = s.out ∧ u.control.queue = s.control.queue ∧
    (u.composer.buf (bufferFor b)).state = .full := ⟨hlink, hout, hqueue, hfull⟩
  obtain ⟨hother, st, hbuf⟩ := State.linkBandFull_buffers (s := u) (a := a) (b := b) (by rwa [hlink])
  have hsheet : (u.linkBandFull a b).sheet a.slot = u.sheet a.slot := by cases a.slot <;> simp [State.sheet]
  refine ⟨_, _, hexec, bandPixels_length k b (s.bandOps sh k b), rfl, fun i => ?pixels,
    hfound.later (by simp) (by simp [State.hasEvent]), ?tag, fun hlast => ?last, fun hlast => ?next, fun hl => ?other,
    fun h hh hatt hearly => ?early, fun h l hh hatt haw hzero htag => ?opens, fun h g hh hatt hst hg hnext => ?due,
    by simpa using hstore, by simpa using hwriter, by simpa using hport, by simpa using hplanner⟩
  case pixels =>
    rw [hbuf, hfilled.buffer]
    exact Buffer.write_bandBytes_byte ..
  case tag =>
    rw [hbuf, hfilled.buffer]
    rfl
  case last => simpa [hother, hsheet] using hfilled.last hlast
  case next =>
    obtain ⟨hattempt, hnext, hkept⟩ := hfilled.attempt hlast
    exact ⟨by simpa using hattempt, by simpa using hnext, hsheet.trans hkept,
      fun he => by simpa [hother] using hfilled.paints hlast he, fun he => by simpa [hother] using hfilled.waits hlast he⟩
  case other =>
    rw [State.linkBandFull_other (by rwa [hlink])]
    exact hstays
  case early =>
    subst hatt
    rw [State.linkBandFull_early (h := h) (by rwa [hlink]) ?_]
    · exact hstays
    · rw [hlink]
      exact hearly.imp_right (Or.imp_right (Or.imp_right fun ⟨haw, hb⟩ =>
        ⟨haw, (hown h hh rfl haw).2.resolve_left hb⟩))
  case opens =>
    subst hatt hzero
    have hf : u.bandFull h.attempt 0 = true := by
      simp only [State.bandFull, hfilled.buffer]
      simp [bufferFor, Buffer.write, htag]
    rw [← hlink] at hh haw
    rw [← hlink, ← hout]
    exact State.linkBandFull_zero hh haw hf
  case due =>
    rw [← hlink] at hh hst hg hnext
    rw [← hlink, ← hresults]
    exact State.linkBandFull_due hh hatt hst hg hnext hfull

end Sys2Proof.Machine
end

section
/-! The rows of a band write, and the states that its start and its completions leave (R167 to R170, R197). -/

namespace Sys2Proof.Machine

/-! ## The rows (R168) -/

theorem proofRows_length (k : Ticket) (b lines : Nat) (x : Buffer) : (proofRows k b lines x).length = lines := by
  simp [proofRows]

/-- Rows that lie within the address space stand at their places of the proof. -/
theorem proofRows_eq {k : Ticket} {b lines : Nat} (x : Buffer)
    (h : ∀ r < lines, k.proofAddr.toNat + (64 * b + r) * k.proofPitch < 2 ^ 64) :
    proofRows k b lines x = (List.range lines).map fun r =>
      ⟨k.proofAddr + BitVec.ofNat 64 ((64 * b + r) * k.proofPitch),
        (List.range (3 * k.width)).map fun j => x.byte (r * (3 * k.width) + j)⟩ := by
  refine List.map_congr_left fun r hr => ?_
  rw [serverAddr_inside _ _ (h r (List.mem_range.1 hr)), Buffer.bytes_eq]

namespace State

section
variable {s : State} {a : Attempt} {k : Ticket}

theorem currentRows_eq (ha : s.writer.attempt = some a) (hk : s.ticketOf a.slot = some k) : s.currentRows =
    proofRows k s.writer.nextBand (bandLines k.height s.writer.nextBand)
      (s.composer.buf (bufferFor s.writer.nextBand)) := by
  simp [currentRows, ha, hk]

/-! ## The Writer's next attempt (R167) -/

theorem writerNext_idle (h : s.writer.queued = none) : s.writerNext.writer = ⟨.idle, none, 0, false, false, none⟩ := by
  simp [writerNext, h, Writer.cleared]

theorem writerNext_takes {q : Attempt} (h : s.writer.queued = some q) :
    s.writerNext.writer = ⟨.waiting, some q, 0, false, false, none⟩ := by
  simp [writerNext, h]

theorem writerNext_attempt (s : State) : s.writerNext.writer.attempt = s.writer.queued ∧ s.writerNext.writer.queued = none ∧
    s.writerNext.writer.nextBand = 0 := by
  cases h : s.writer.queued with
  | none => rw [writerNext_idle h]; exact ⟨rfl, rfl, rfl⟩
  | some q => rw [writerNext_takes h]; exact ⟨rfl, rfl, rfl⟩

/-- The Writer serves the slot no longer whose attempt it has cleared, unless an attempt of the slot waits. -/
theorem writerNext_serves {sl : SheetSlot} (h : ∀ q, s.writer.queued = some q → q.slot ≠ sl) :
    s.writerNext.writerServes sl = false := by
  obtain ⟨hattempt, hqueued, -⟩ := s.writerNext_attempt
  rw [Bool.eq_false_iff, Ne, writerServes_iff, hattempt, hqueued]
  rintro ⟨z, hz, hq | hq⟩
  · exact h z hq hz
  · cases hq

/-! ## The end of a band write (R168 to R170) -/

theorem endBandWrite_port (s : State) (ws : List ServerWrite) : (s.endBandWrite ws).port = s.endUnit.port :=
  endUnit_port_congr (by simp)

theorem endBandWrite_writes (s : State) (ws : List ServerWrite) :
    (s.endBandWrite ws).out.serverWrites = s.out.serverWrites ++ ws := by
  simp [endBandWrite, writeServerAll]

end

/-! ## The commands -/

section
variable {s : State} {a : Attempt}

theorem exec_bandWriteStart (ha : s.writer.attempt = some a) (hs : s.writer.state = .waiting)
    (hf : s.bandFull a s.writer.nextBand = true) (hh : s.port.hold = .free) : exec .bandWriteStart s = .next
      (((s.mapBuf (bufferFor s.writer.nextBand) fun x => { x with state := .writing }).setWriter
        { s.writer with state := .writing }).beginUnit) := by
  refine congrArg Host.Outcome.next ?_
  simp [ha, hs, hf, holdFree, hh]

theorem exec_bandWriteStart_held (hh : s.port.hold ≠ .free) : exec .bandWriteStart s = .next s := by
  refine congrArg Host.Outcome.next ?_
  cases s.writer.attempt <;> simp [holdFree, hh]

theorem exec_bandWriteDone (ha : s.writer.attempt = some a) (hs : s.writer.state = .writing)
    (hd : s.writer.damage = false) (he : s.writer.endPending = false)
    (hp : (s.composer.buf (bufferFor s.writer.nextBand)).poisoned = false) :
    exec (.bandWriteDone .current s.currentRows.length) s = .next ((s.endBandWrite s.currentRows).bandWritten a) := by
  refine congrArg Host.Outcome.next ?_
  simp [ha, hs, hd, he, hp]

theorem exec_bandWriteDone_pending (ha : s.writer.attempt = some a) (hs : s.writer.state = .writing)
    (hd : s.writer.damage = false) (he : s.writer.endPending = true)
    (hp : (s.composer.buf (bufferFor s.writer.nextBand)).poisoned = false) :
    exec (.bandWriteDone .current s.currentRows.length) s =
      .next ((s.endBandWrite s.currentRows).writerNext.letGo a.slot) := by
  refine congrArg Host.Outcome.next ?_
  simp [ha, hs, hd, he, hp]

/-- A band write that a damaged read stopped (R169). -/
theorem exec_bandWriteDone_stops {n : Nat} (ha : s.writer.attempt = some a) (hs : s.writer.state = .writing)
    (hd : s.writer.damage = true) (hn : n < s.currentRows.length)
    (hp : (s.composer.buf (bufferFor s.writer.nextBand)).poisoned = true → n = 0) : exec (.bandWriteDone .current n) s =
      .next ((((s.endAttempt a).endBandWrite (s.currentRows.take n)).writerNext.spoil a .damage).letGo a.slot) := by
  have hstop : s.canStop n = true := by
    cases h : (s.composer.buf (bufferFor s.writer.nextBand)).poisoned <;> simp_all [canStop]
  refine congrArg Host.Outcome.next ?_
  simp [ha, hs, hd, hstop]

theorem canFail_of_rowsFailed {rows : List Bool} (h : RowsFailed s rows) : s.canFail rows = true := by
  have hfalse : rows.contains false = true := List.elem_iff.2 h.failed
  unfold canFail
  rw [hfalse, Bool.true_and]
  split
  · exact decide_eq_true (h.damaged ‹_›)
  · exact decide_eq_true h.issued

theorem exec_bandWriteFail {rows : List Bool} (ha : s.writer.attempt = some a) (hs : s.writer.state = .writing)
    (h : RowsFailed s rows) : exec (.bandWriteFail .current rows) s =
      .next ((((s.endAttempt a).endOrder a.slot .memoryFault .proofWrite).endBandWrite
        (rowsReached s.currentRows rows)).writerNext.letGo a.slot) := by
  refine congrArg Host.Outcome.next ?_
  simp [ha, hs, canFail_of_rowsFailed h, h.good]

theorem exec_bandWriteDone_none {n : Nat} (h : s.writer.state ≠ .writing ∨
    ((s.composer.buf (bufferFor s.writer.nextBand)).poisoned = true ∧ (s.writer.damage = false ∨ n ≠ 0))) :
    exec (.bandWriteDone .current n) s = .next s := by
  refine congrArg Host.Outcome.next ?_
  cases s.writer.attempt with
  | none => rfl
  | some a =>
    rcases h with h | ⟨hp, hd | hn⟩
    · simp [h]
    · simp [hp, hd]
    · simp [canStop, hp, hn]

theorem exec_bandWriteFail_none {rows : List Bool} (h : s.writer.state ≠ .writing ∨
    (s.composer.buf (bufferFor s.writer.nextBand)).poisoned = true) : exec (.bandWriteFail .current rows) s = .next s := by
  refine congrArg Host.Outcome.next ?_
  cases s.writer.attempt with
  | none => rfl
  | some a => rcases h with h | h <;> simp [h]

end

end State

end Sys2Proof.Machine
end

section
/-! What the end of a band write leaves when its attempt ends with it: the buffers, the order and the Writer (R144, R169,
R170, R175, R177, R179). -/

namespace Sys2Proof.Machine

/-- The release of holds, after moves that leave the store and the Builder alone and start no unit of the port. -/
theorem HoldsReleased.later {s t t' : State} {sl : SheetSlot} (h : HoldsReleased s t sl) (hs : t'.store = t.store)
    (hb : t'.builder = t.builder) (hd : t'.port.discarded = t.port.discarded)
    (ho : t'.port.outstanding ≤ t.port.outstanding) : HoldsReleased s t' sl := by
  refine ⟨?_, ?_, ?_, ?_, ?_, ?_, ?_, ?_, ?_, ?_, ?_, ho.trans h.outstanding⟩ <;> simp only [hs, hb, hd]
  exacts [h.unheld, h.shared, h.kept, h.emptied, h.lru, h.pool, h.otherPool, h.queue, h.order, h.cut, h.goesOn]

namespace State

/-! ## A buffer given back when its attempt has ended (R144, R170) -/

/-- Whether a painting starts in a buffer that has become EMPTY is a matter of the Composer, the tickets and a pending
poison. -/
theorem giveBack_composer_congr {s t : State} (hc : t.composer = s.composer) (hk : ∀ sl, t.ticketOf sl = s.ticketOf sl)
    (hp : t.check.poison = s.check.poison) (i : BufferId) : (t.giveBack i).composer = (s.giveBack i).composer := by
  have hk' (sl : SheetSlot) : (t.mapBuf i Buffer.emptied).ticketOf sl = (s.mapBuf i Buffer.emptied).ticketOf sl := hk sl
  have hc' : (t.mapBuf i Buffer.emptied).composer = (s.mapBuf i Buffer.emptied).composer := by simp [mapBuf, hc]
  have hp' : (t.mapBuf i Buffer.emptied).check.poison = (s.mapBuf i Buffer.emptied).check.poison := hp
  unfold giveBack
  generalize t.mapBuf i Buffer.emptied = u at *
  generalize s.mapBuf i Buffer.emptied = v at *
  simp only [kick, paintNext, hc', hk', hp']
  split
  · split
    · exact hc'
    · split
      · exact hc'
      · split
        · split <;> simp [mapBuf, rewritten, hc']
        · rfl
  · exact hc'

/-- A Composer that may start to paint either does, or changes nothing. -/
theorem kick_cases (s : State) : s.kick = s ∨ s.kick.composer.state = .painting := by
  by_cases hw : s.composer.state = .waiting
  · by_cases he : (s.composer.buf (bufferFor s.composer.nextBand)).state = .empty
    · unfold kick paintNext
      rw [if_pos hw]
      split
      · exact .inl rfl
      · split
        · exact .inl rfl
        · simp only [he, if_true]
          split <;> exact .inr (by simp)
    · exact .inl (s.kick_waits hw he)
  · exact .inl (s.kick_idle (.inr hw))

/-- A painting that could start in a buffer has started: nothing more does. -/
theorem kick_again (s : State) : s.kick.kick = s.kick := by
  obtain h | h := s.kick_cases
  · rw [h, h]
  · exact s.kick.kick_idle (.inr (by simp [h]))

/-- A buffer after the end of an attempt: it holds no band of the attempt that a further end could empty. -/
theorem endAttempt_fixed (s : State) (a : Attempt) (i : BufferId) :
    ((s.endAttempt a).composer.buf i).endAttempt a = (s.endAttempt a).composer.buf i := by
  rw [endAttempt_eq]
  obtain h | ⟨-, b, hb, -, htag⟩ := (s.setComposer (endedComposer s.composer a)).kick_buf i
  · rw [h, setComposer_composer, endedComposer_buf]
    unfold Buffer.endAttempt
    split <;> simp_all [Buffer.emptied]
  · refine if_neg fun hx => ?_
    rw [setComposer_composer, endedComposer_attempt] at hb
    rw [htag] at hx
    split at hb <;> simp_all

/-- The end of an attempt a second time changes nothing. -/
theorem endAttempt_again (s : State) (a : Attempt) : (s.endAttempt a).endAttempt a = s.endAttempt a := by
  have hattempt : (s.endAttempt a).composer.attempt ≠ some a := by
    rw [endAttempt_attempt]
    split <;> simp_all
  have hended : endedComposer (s.endAttempt a).composer a = (s.endAttempt a).composer := by
    have hx : (s.endAttempt a).composer.bufX.endAttempt a = (s.endAttempt a).composer.bufX := s.endAttempt_fixed a .x
    have hy : (s.endAttempt a).composer.bufY.endAttempt a = (s.endAttempt a).composer.bufY := s.endAttempt_fixed a .y
    rw [endedComposer, if_neg hattempt, hx, hy]
  rw [endAttempt_eq (s.endAttempt a), hended]
  exact kick_again _

theorem endBandWrite_composer (s : State) (ws : List ServerWrite) :
    (s.endBandWrite ws).composer = (s.giveBack (bufferFor s.writer.nextBand)).composer := by
  have := giveBack_composer_congr
    (t := (s.findAgain fun l => l == .band (bufferFor s.writer.nextBand)).writeServerAll ws) (s := s) (by simp)
    (fun sl => by unfold ticketOf; rw [sheet_of_control (s := s)]; simp) (by simp) (bufferFor s.writer.nextBand)
  simpa [endBandWrite] using this

/-- The buffers after a band write that ends with its attempt, the order ended between or not. -/
theorem endBandWrite_buffers {s e : State} {a : Attempt} {b : Nat} (ws : List ServerWrite)
    (hc : e.composer = (s.endAttempt a).composer) (hk : ∀ sl, e.ticketOf sl = (s.endAttempt a).ticketOf sl)
    (hp : e.check.poison = (s.endAttempt a).check.poison) (hb : e.writer.nextBand = b) :
    BuffersEnded s (e.endBandWrite ws) a (some b) := by
  refine (s.endAttempt_giveBack a b).congr rfl ?_
  rw [endBandWrite_composer, hb, giveBack_composer_congr hc hk hp]

/-! ## An order that ends with a band write (R169, R175, R179) -/

section
variable {s : State} {sl : SheetSlot} {sh : Sheet} {o : OrderOutcome} {d : Detail}

/-- An ending that reaches a sheet which the Writer still serves: the sheet waits in FINISHED, its holds released. -/
theorem endSheet_served (h : s.sheet sl = some sh) (hs : sh.state ≠ .finished) (he : sh.ending = none)
    (hw : s.writerServes sl = true) : s.endSheet sl o d =
      (s.mapSheet sl fun sh => { sh with ending := some (o, d), state := .finished }).releaseSheet sl := by
  have hopen : s.sheetIs sl (fun sh => sh.ending.isNone && sh.state != .finished) = true := by simp [sheetIs, h, he, hs]
  have hparts : ((s.mapSheet sl fun sh => { sh with ending := some (o, d), state := .finished }).releaseSheet sl).partsDone
      sl = false := by
    simp [partsDone, (writerServes_of_writer (t := (s.mapSheet sl fun sh =>
      { sh with ending := some (o, d), state := .finished }).releaseSheet sl) (s := s) (by simp) sl).trans hw]
  rw [endSheet, if_pos hopen, freeIfEnded, hparts, Bool.and_false, if_neg Bool.false_ne_true]

theorem endSheet_served_sheet (h : s.sheet sl = some sh) (hs : sh.state ≠ .finished) (he : sh.ending = none)
    (hw : s.writerServes sl = true) : (s.endSheet sl o d).sheet sl =
      some { sh with ending := some (o, d), state := .finished, pendingBuilds := 0 } := by
  rw [endSheet_served h hs he hw, releaseSheet_sheet, if_pos rfl, sheet_mapSheet, if_pos rfl, h]
  rfl

theorem endSheet_served_ticketOf (h : s.sheet sl = some sh) (hs : sh.state ≠ .finished) (he : sh.ending = none)
    (hw : s.writerServes sl = true) (other : SheetSlot) : (s.endSheet sl o d).ticketOf other = s.ticketOf other := by
  by_cases heq : other = sl
  · subst heq
    rw [ticketOf, endSheet_served_sheet h hs he hw, ticketOf, h]
    rfl
  · rw [endSheet_served h hs he hw, ticketOf, releaseSheet_sheet, if_neg heq, sheet_mapSheet, if_neg heq, ticketOf]

/-- The order of a sheet whose attempt the Writer serves ends, and then its band write: with the Writer done, the slot is
FREE and the order FINISHED. -/
theorem endSheet_endBandWrite (h : s.sheet sl = some sh) (hs : sh.state ≠ .finished) (he : sh.ending = none)
    (hr : sh.report = .none) (hw : s.writerServes sl = true) (hl : s.linkHolds sl = false)
    (hq : ∀ q, s.writer.queued = some q → q.slot ≠ sl) (ws : List ServerWrite) :
    let t := ((s.endSheet sl o d).endBandWrite ws).writerNext.letGo sl
    t.sheet sl = none ∧ t.control.queue = queueEnded s.control.queue sl o d ∧ HoldsReleased s t sl ∧
      WalkerUnblocked s t := by
  have hsheet := endSheet_served_sheet (o := o) (d := d) h hs he hw
  have hqueue : (s.endSheet sl o d).control.queue = s.control.queue := by simp [endSheet_served h hs he hw]
  have hwalker : (s.endSheet sl o d).walker = s.walker := by simp [endSheet_served h hs he hw]
  have hreleased : HoldsReleased s (s.endSheet sl o d) sl := by
    rw [endSheet_served h hs he hw]
    exact (releaseSheet_released _ sl).congr (by simp) (by simp) (by simp) rfl rfl rfl
  have hwriter : (s.endSheet sl o d).writer = s.writer := by simp
  have hlink : (s.endSheet sl o d).link = s.link := by simp
  generalize s.endSheet sl o d = e at *
  intro t
  set u := (e.endBandWrite ws).writerNext with hu
  have husheet : u.sheet sl = _ := (sheet_of_control (s := e) (by simp [hu]) sl).trans hsheet
  have hdone : u.partsDone sl = true := u.partsDone_of u sl _ rfl rfl
    ((linkHolds_of_link (by simp [hu, hlink]) sl).trans hl) (writerNext_serves (by simpa [hwriter] using hq)) husheet hr
  have ht : t = u.freeSlot sl := (u.letGo_ended sl _ o d husheet rfl rfl).trans (if_pos hdone)
  obtain ⟨hended, hfree, -⟩ := u.freeSlot_ended sl _ o d husheet rfl
  rw [ht]
  refine ⟨hfree, ?_, hreleased.later (by simp [hu]) (by simp [hu]) (by simp [hu]) ?_,
    (u.freeSlot_walker sl (by simp [husheet])).congr (by simp [hu, hwalker]) (by simp [hu, hwalker]) rfl rfl⟩
  · rw [hended, ← hqueue]
    simp [hu]
  · simp [hu, endBandWrite_port]

end

end State

end Sys2Proof.Machine
end

section
/-! Band writes: their start, their completions, and their ends with the attempt (R134 to R136, R144, R168 to R170, R174, R175,
R177, R197). -/

namespace Sys2Proof.Machine

/-! ## Ends of attempts, and what they leave alone (R144, R170) -/

/-- What a work found again, after moves that log nothing and raise no INTEGRITY (R197). -/
theorem FoundAgain.before {s s' t : State} {reads : CheckLoc → Bool} (h : FoundAgain s t reads) (hk : s'.check = s.check)
    (he : s'.hasEvent .integrity = s.hasEvent .integrity) : FoundAgain s' t reads := by
  refine ⟨?_, ?_, ?_⟩ <;> simp only [hk, he]
  exacts [h.quiet, h.logged, h.stands]

/-- From `s`, attempts have ended at the Composer, the buffers and the Writer alone. -/
structure OnlyAttemptsEnded (s d : State) : Prop where
  control : d.control = s.control
  walker : d.walker = s.walker
  store : d.store = s.store
  builder : d.builder = s.builder
  port : d.port = s.port
  link : d.link = s.link
  out : d.out = s.out
  found : ∀ t reads, FoundAgain d t reads → FoundAgain s t reads

namespace OnlyAttemptsEnded

variable {s d : State}

theorem refl (s : State) : OnlyAttemptsEnded s s := ⟨rfl, rfl, rfl, rfl, rfl, rfl, rfl, fun _ _ h => h⟩

theorem endAttempt (h : OnlyAttemptsEnded s d) (a : Attempt) : OnlyAttemptsEnded s (d.endAttempt a) :=
  ⟨by simpa using h.control, by simpa using h.walker, by simpa using h.store, by simpa using h.builder,
    by simpa using h.port, by simpa using h.link, by simpa using h.out, fun t reads hf => h.found t reads (hf.afterEnd a)⟩

theorem setWriter (h : OnlyAttemptsEnded s d) (w : Writer) : OnlyAttemptsEnded s (d.setWriter w) :=
  ⟨h.control, h.walker, h.store, h.builder, h.port, h.link, h.out, fun t reads hf => h.found t reads (hf.before rfl rfl)⟩

theorem sheet (h : OnlyAttemptsEnded s d) (sl : SheetSlot) : d.sheet sl = s.sheet sl := State.sheet_of_control h.control sl

end OnlyAttemptsEnded

namespace State

/-! ## The ending that a failed band write gives (R169, R170, R179) -/

section
variable {s : State} {sl : SheetSlot} {sh : Sheet} {o : OrderOutcome} {d : Detail}

theorem linkStop_unheld {a : Attempt} (h : s.linkHolds a.slot = false) : s.linkStop a = s := by
  cases hh : s.link.held with
  | none => exact linkStop_idle s a hh
  | some x =>
    refine linkStop_other s a x hh ?_
    rintro rfl
    simp [linkHolds, hh] at h

/-- An ending for the order of a sheet in FINISHED is discarded (R179). -/
theorem endOrder_finished (h : s.sheet sl = some sh) (hs : sh.state = .finished) : s.endOrder sl o d = s := by
  simp [endOrder, h, Sheet.atWork, hs, endSheet, sheetIs]

theorem endOrder_waiting (h : s.sheet sl = some sh) (hs : sh.state = .filling ∨ sh.state = .ready) :
    s.endOrder sl o d = s.endSheet sl o d := by
  rcases hs with hs | hs <;> simp [endOrder, h, Sheet.atWork, hs]

theorem endOrder_inHand {a : Attempt} {k : Ticket} (h : InHand s a sh k) (hl : s.linkHolds a.slot = false) :
    s.endOrder a.slot o d = ((s.endAttempt a).writerStop a).endSheet a.slot o d := by
  have hwork : sh.atWork = true := by rcases h.state with e | e <;> simp [Sheet.atWork, e]
  have ha : sh.attemptIn a.slot = a := by rw [Sheet.attemptIn, h.number]
  have hstop : (s.endAttempt a).linkStop a = s.endAttempt a :=
    linkStop_unheld ((linkHolds_of_link (by simp) _).trans hl)
  simp only [endOrder, h.sheet, hwork, if_true, ha, stopAttempt, hstop]

end

section
variable {s d : State} {sl : SheetSlot} {sh : Sheet} {rows : List Bool}

/-- A failed band write, after moves that write nothing and end no unit. -/
theorem endBandWrite_failed {e : State} (hrows : RowsFailed s rows) (hout : e.out = s.out)
    (hport : e.port.outstanding = s.port.outstanding) (hb : e.writer.nextBand = s.writer.nextBand)
    (hfound : ∀ t reads, FoundAgain e t reads → FoundAgain s t reads) (sl : SheetSlot) :
    BandWriteFailed s ((e.endBandWrite (rowsReached s.currentRows rows)).writerNext.letGo sl) rows where
  writes := by simp [endBandWrite_writes, hout, rowsReached_eq _ _ hrows.issued]
  messages := by simp [hout]
  found := by
    have h := hfound _ _ (e.endBandWrite_found (rowsReached s.currentRows rows))
    rw [hb] at h
    exact h.later (by simp) (hasEvent_of_window (by simp) _)
  outstanding := by simp [endBandWrite_port, hport]

/-- A failed band write that ends its order: the slot is FREE once the Writer is done with the attempt (R169, R175). -/
theorem failedWrite_ends (h : OnlyAttemptsEnded s d) (hrows : RowsFailed s rows) (hsheet : s.sheet sl = some sh)
    (hs : sh.state ≠ .finished) (he : sh.ending = none) (hr : sh.report = .none) (hl : s.linkHolds sl = false)
    (hserves : d.writerServes sl = true) (hb : d.writer.nextBand = s.writer.nextBand)
    (hq : ∀ q, d.writer.queued = some q → q.slot ≠ sl) :
    let t := ((d.endSheet sl .memoryFault .proofWrite).endBandWrite (rowsReached s.currentRows rows)).writerNext.letGo sl
    BandWriteFailed s t rows ∧ t.sheet sl = none ∧
      t.control.queue = queueEnded s.control.queue sl .memoryFault .proofWrite ∧ HoldsReleased s t sl ∧
      WalkerUnblocked s t := by
  intro t
  obtain ⟨hfree, hqueue, hreleased, hwalker⟩ := endSheet_endBandWrite (o := .memoryFault) (d := .proofWrite)
    ((h.sheet sl).trans hsheet) hs he hr hserves ((linkHolds_of_link h.link sl).trans hl) hq
    (rowsReached s.currentRows rows)
  refine ⟨endBandWrite_failed hrows (by simp [h.out]) (by simp [h.port]) (by simp [hb]) (fun u reads hf => ?_) sl,
    hfree, by rw [hqueue, h.control],
    hreleased.congr h.store.symm h.builder.symm (by rw [h.port]) rfl rfl rfl,
    hwalker.congr (by rw [h.walker]) (by rw [h.walker]) rfl rfl⟩
  exact h.found u reads (hf.before (by simp) (hasEvent_of_window (by simp) _).symm)

theorem failedWrite_writer {e : State} (ws : List ServerWrite) :
    ((e.endBandWrite ws).writerNext.letGo sl).writer = e.writerNext.writer := by
  simp [writerNext]

end

/-- The Composer and the buffers after a failed band write whose order's own attempt, that of its second pass, ends too:
the Composer has no attempt, and the buffers of both are EMPTY (R144, R170). -/
theorem endBandWrite_bothEnded {s e : State} {a c : Attempt} {b : Nat} (hne : c ≠ a)
    (hs : s.composer.attempt = none ∨ s.composer.attempt = some c)
    (hc : e.composer = ((s.endAttempt a).endAttempt c).composer) (hb : e.writer.nextBand = b) (ws : List ServerWrite) :
    (e.endBandWrite ws).composer.attempt = none ∧
    (s.composer.attempt ≠ none → (e.endBandWrite ws).composer.state = .idle) ∧
    ∀ i, i = bufferFor b ∨ (s.composer.buf i).tag.map (·.attempt) = some c →
      (s.composer.buf i).state = .filling ∨ (s.composer.buf i).state = .full ∨ i = bufferFor b →
      ((e.endBandWrite ws).composer.buf i).state = .empty ∧ ((e.endBandWrite ws).composer.buf i).tag = none := by
  have hattempt : (s.endAttempt a).composer.attempt = s.composer.attempt := by
    rw [endAttempt_attempt, if_neg]
    rcases hs with hs | hs <;> simp [hs, hne]
  have hnone : e.composer.attempt = none := by
    rw [hc, endAttempt_attempt, hattempt]
    rcases hs with hs | hs <;> simp [hs]
  have hcomposer : (e.endBandWrite ws).composer = (e.mapBuf (bufferFor b) Buffer.emptied).composer := by
    rw [endBandWrite_composer, hb, giveBack, kick_idle _ (.inl (by simpa using hnone))]
  have hfirst := s.endAttempt_buffers a
  have hsecond := (s.endAttempt a).endAttempt_buffers c
  refine ⟨by simpa using hnone, fun hsome => ?_, fun i hi hstate => ?_⟩
  · obtain ⟨-, hidle, -⟩ := hsecond.current (hattempt.trans (hs.resolve_left hsome))
    rw [hcomposer]
    simpa [hc] using hidle
  · rw [hcomposer, mapBuf_buf]
    split
    · exact ⟨rfl, rfl⟩
    · rename_i hib
      have htag := hi.resolve_left hib
      have hbusy : (s.composer.buf i).state = .filling ∨ (s.composer.buf i).state = .full :=
        hstate.imp_right fun h => h.resolve_right hib
      have hkept : (s.endAttempt a).composer.buf i = s.composer.buf i :=
        hfirst.others i hbusy (by simpa [htag] using hne) nofun
      rw [hc, hsecond.emptied i (.inl (by rw [hkept]; exact ⟨htag, hbusy⟩)) (by rw [hattempt]; exact hs)]
      exact ⟨rfl, rfl⟩

/-! ## A completed band write (R168, R174) -/

section
variable {s : State} {a : Attempt} {sh : Sheet} {k : Ticket}

theorem bandWritten_next {b : Nat} (hk : s.ticketOf a.slot = some k) (hb : s.writer.nextBand = b)
    (hlast : b + 1 ≠ bandCount k.height) :
    s.bandWritten a = s.setWriter { s.writer with state := .waiting, nextBand := b + 1 } := by
  subst hb
  simp [bandWritten, hk, hlast]

theorem bandWritten_last (hk : s.ticketOf a.slot = some k) (hlast : s.writer.nextBand + 1 = bandCount k.height) :
    s.bandWritten a = s.writerNext.finishSheet a.slot := by
  simp [bandWritten, hk, hlast]

/-- After the last band the sheet is made, and the Writer goes on to the attempt that waits (R167, R174). -/
theorem endBandWrite_made (hin : InHand s a sh k) (hl : s.linkHolds a.slot = false)
    (hq : ∀ q, s.writer.queued = some q → q.slot ≠ a.slot) (ws : List ServerWrite) :
    SheetMade s ((s.endBandWrite ws).writerNext.finishSheet a.slot) a.slot sh k := by
  have hu : InHand (s.endBandWrite ws).writerNext a sh k := hin.congr (by simp)
  refine (finishSheet_made _ a.slot sh k hu.sheet hu.ticket hu.ending ((linkHolds_of_link (by simp) _).trans hl)
    (writerNext_serves (by simpa using hq))).before (by simp) (by simp) (by simp) (by simp) (by simp) (by simp) ?_
  simp [endBandWrite_port]

/-! ## A band write that ends with its attempt (R169, R170) -/

theorem writerStop_writing (ha : s.writer.attempt = some a) (hq : s.writer.queued ≠ some a)
    (hs : s.writer.state = .writing) : s.writerStop a = s.setWriter { s.writer with endPending := true } := by
  simp [writerStop, ha, hq, hs]

theorem writerStop_queued (hq : s.writer.queued = some a) :
    s.writerStop a = s.setWriter { s.writer with queued := none } := if_pos hq

/-- A spoil reported for an attempt that is not the current one of an open order is discarded (R177). -/
theorem spoil_stale (h : s.sheet a.slot = some sh) (hs : sh.ending ≠ none ∨ sh.attempt ≠ a.number) (cause : Detail) :
    s.spoil a cause = s := by
  refine if_neg ?_
  rcases hs with hs | hs <;> simp [isCurrent, sheetIs, h, hs]

/-- A failed band write of an attempt that ends with its order (R144, R169, R175). -/
theorem failedWrite_attempt {rows : List Bool} {w : Writer} (hrows : RowsFailed s rows) (hsheet : s.sheet a.slot = some sh)
    (hs : sh.state ≠ .finished) (he : sh.ending = none) (hr : sh.report = .none) (hl : s.linkHolds a.slot = false)
    (hw : w.attempt = some a) (hb : w.nextBand = s.writer.nextBand) (hq : ∀ q, w.queued = some q → q.slot ≠ a.slot) :
    let t := ((((s.endAttempt a).setWriter w).endSheet a.slot .memoryFault .proofWrite).endBandWrite
      (rowsReached s.currentRows rows)).writerNext.letGo a.slot
    BandWriteFailed s t rows ∧ t.sheet a.slot = none ∧
      t.control.queue = queueEnded s.control.queue a.slot .memoryFault .proofWrite ∧ HoldsReleased s t a.slot ∧
      WalkerUnblocked s t ∧ BuffersEnded s t a (some s.writer.nextBand) := by
  intro t
  have honly := ((OnlyAttemptsEnded.refl s).endAttempt a).setWriter w
  have hserves : ((s.endAttempt a).setWriter w).writerServes a.slot = true :=
    (writerServes_iff _ _).2 ⟨a, rfl, .inl hw⟩
  obtain ⟨hfailed, hfree, hqueue, hreleased, hwalker⟩ := failedWrite_ends honly hrows hsheet hs he hr hl hserves hb hq
  have hbuffers := endBandWrite_buffers (s := s) (a := a)
    (e := ((s.endAttempt a).setWriter w).endSheet a.slot .memoryFault .proofWrite) (rowsReached s.currentRows rows)
    (by simp) (endSheet_served_ticketOf ((honly.sheet _).trans hsheet) hs he hserves) (by simp) (by simpa using hb)
  exact ⟨hfailed, hfree, hqueue, hreleased, hwalker, hbuffers.congr rfl (by simp [t])⟩

/-- A band write that damage stopped, before its spoil is reported (R169). -/
theorem stoppedWrite_ended (s : State) (a : Attempt) (ws : List ServerWrite) (cause : Detail) :
    let t := (((s.endAttempt a).endBandWrite ws).writerNext.spoil a cause).letGo a.slot
    t.writer = s.writerNext.writer ∧ t.out.serverWrites = s.out.serverWrites ++ ws ∧
      FoundAgain s t (· == .band (bufferFor s.writer.nextBand)) ∧ BuffersEnded s t a (some s.writer.nextBand) ∧
      t.port.outstanding = s.endUnit.port.outstanding := by
  intro t
  have hfound := ((s.endAttempt a).endBandWrite_found ws).afterEnd a
  have hbuffers := endBandWrite_buffers (s := s) (e := s.endAttempt a) (a := a) (b := s.writer.nextBand) ws rfl
    (fun _ => rfl) rfl (by simp)
  have hwriter : (s.endAttempt a).writer = s.writer := by simp
  rw [hwriter] at hfound
  refine ⟨by simp [t, writerNext], by simp [t, endBandWrite_writes], hfound.later (by simp [t]) ?_,
    hbuffers.congr rfl (by simp [t]), by simp [t, endBandWrite_port]⟩
  rw [hasEvent_of_window (letGo_frame ..).2.1, spoil_integrity]
  exact hasEvent_of_window rfl _

end

end State

/-! ## The clauses -/

section
variable {s : State} {a : Attempt} {sh : Sheet} {k : Ticket} {rows : List Bool}

/-- A band write that has completed, its attempt in hand. -/
theorem bandWrite_completes {b : Nat} (ha : s.writer.attempt = some a) (hb : s.writer.nextBand = b)
    (hk : s.ticketOf a.slot = some k)
    (hfit : ∀ r < bandLines k.height b, k.proofAddr.toNat + (64 * b + r) * k.proofPitch < 2 ^ 64) :
    let t := (s.endBandWrite s.currentRows).bandWritten a
    t.out.serverWrites = s.out.serverWrites ++ (List.range (bandLines k.height b)).map (fun r =>
      ⟨k.proofAddr + BitVec.ofNat 64 ((64 * b + r) * k.proofPitch),
        (List.range (3 * k.width)).map fun j => (s.composer.buf (bufferFor b)).byte (r * (3 * k.width) + j)⟩) ∧
    FoundAgain s t (· == .band (bufferFor b)) ∧ t.out.pressMessages = s.out.pressMessages ∧
    t.port.outstanding = s.endUnit.port.outstanding ∧ t.port.hold = s.endUnit.port.hold ∧
    GivenBack s t (bufferFor b) ∧
    (b + 1 ≠ bandCount k.height → t.control = s.control ∧
      t.writer = { s.writer with state := .waiting, nextBand := b + 1 }) ∧
    (b + 1 = bandCount k.height → ∀ sh, InHand s a sh k → s.linkHolds a.slot = false →
      (∀ q, s.writer.queued = some q → q.slot ≠ a.slot) → SheetMade s t a.slot sh k ∧
      t.writer.attempt = s.writer.queued ∧ t.writer.nextBand = 0) := by
  intro t
  subst hb
  have hrows := State.currentRows_eq ha hk
  have hgiven := s.endBandWrite_given s.currentRows
  have hfound := s.endBandWrite_found s.currentRows
  have hticket : (s.endBandWrite s.currentRows).ticketOf a.slot = some k := by
    rw [State.ticketOf, State.sheet_of_control (s := s) (by simp), ← hk, State.ticketOf]
  refine ⟨?_, hfound.later (by simp [t]) (State.hasEvent_of_window (by simp [t]) _), by simp [t],
    by simp [t, State.endBandWrite_port], by simp [t, State.endBandWrite_port], hgiven.later (by simp [t]) (by simp [t]),
    fun hlast => ?_, fun hlast sh hin hl hq => ?_⟩
  · rw [← proofRows_eq _ hfit, ← hrows]
    simp [t, State.endBandWrite_writes]
  · rw [show t = _ from State.bandWritten_next hticket (by simp) hlast]
    exact ⟨by simp, by simp⟩
  · rw [show t = _ from State.bandWritten_last hticket (by simpa using hlast)]
    obtain ⟨hattempt, -, hnext⟩ := (s.endBandWrite s.currentRows).writerNext_attempt
    exact ⟨State.endBandWrite_made hin hl hq _, by simpa using hattempt, by simpa using hnext⟩

/-- A band write that fails with its attempt in hand ends the order (R169). -/
theorem bandWrite_fails (hrows : RowsFailed s rows) (hin : InHand s a sh k) (ha : s.writer.attempt = some a)
    (hs : s.writer.state = .writing) (hq : s.writer.queued = none) (hl : s.linkHolds a.slot = false) :
    ∃ t, exec (.bandWriteFail .current rows) s = .next t ∧ BandWriteFailed s t rows ∧ t.sheet a.slot = none ∧
      t.control.queue = queueEnded s.control.queue a.slot .memoryFault .proofWrite ∧
      t.writer = ⟨.idle, none, 0, false, false, none⟩ ∧ t.composer.attempt ≠ some a ∧
      BuffersEnded s t a (some s.writer.nextBand) ∧ HoldsReleased s t a.slot ∧ WalkerUnblocked s t := by
  have hexec := State.exec_bandWriteFail ha hs hrows
  rw [State.endOrder_inHand (hin.congr (by simp)) ((State.linkHolds_of_link (by simp) _).trans hl),
    State.endAttempt_again, State.writerStop_writing (by simpa using ha) (by simp [hq]) (by simpa using hs)] at hexec
  obtain ⟨hfailed, hfree, hqueue, hreleased, hwalker, hbuffers⟩ :=
    State.failedWrite_attempt (w := { (s.endAttempt a).writer with endPending := true }) hrows hin.sheet hin.not_finished
      hin.ending hin.report hl (by simpa using ha) (by simp) (by simp [hq])
  refine ⟨_, hexec, hfailed, hfree, hqueue, ?_, ?_, hbuffers, hreleased, hwalker⟩
  · rw [State.failedWrite_writer, State.writerNext_idle (by simp [hq])]
  · have hattempt := State.endAttempt_attempt s a
    simp only [State.letGo_frame, State.writerNext_frame, State.endBandWrite_frame, State.endSheet_frame,
      State.setWriter_composer, hattempt]
    split <;> simp_all

/-- A band write that fails with its end pending, its sheet in its second pass before COMPOSING, ends the order (R170). -/
theorem bandWrite_fails_waiting (hrows : RowsFailed s rows) (ha : s.writer.attempt = some a)
    (hs : s.writer.state = .writing) (hsheet : s.sheet a.slot = some sh) (hstate : sh.state = .filling ∨ sh.state = .ready)
    (he : sh.ending = none) (hr : sh.report = .none) (hl : s.linkHolds a.slot = false)
    (hq : ∀ q, s.writer.queued = some q → q.slot ≠ a.slot) :
    ∃ t, exec (.bandWriteFail .current rows) s = .next t ∧ BandWriteFailed s t rows ∧
      t.writer = s.writerNext.writer ∧ BuffersEnded s t a (some s.writer.nextBand) ∧ t.sheet a.slot = none ∧
      t.control.queue = queueEnded s.control.queue a.slot .memoryFault .proofWrite ∧
      HoldsReleased s t a.slot ∧ WalkerUnblocked s t := by
  have hexec := State.exec_bandWriteFail ha hs hrows
  rw [State.endOrder_waiting ((State.sheet_of_control (by simp) _).trans hsheet) hstate] at hexec
  have hnf : sh.state ≠ .finished := by rcases hstate with e | e <;> simp [e]
  obtain ⟨hfailed, hfree, hqueue, hreleased, hwalker, hbuffers⟩ :=
    State.failedWrite_attempt (w := (s.endAttempt a).writer) hrows hsheet hnf he hr hl (by simpa using ha) (by simp)
      (by simpa using hq)
  exact ⟨_, hexec, hfailed, by rw [State.failedWrite_writer]; simp [State.writerNext], hbuffers, hfree, hqueue, hreleased,
    hwalker⟩

/-- A band write that fails with its end pending, its sheet FINISHED, leaves the order its ending (R170, R175). -/
theorem bandWrite_fails_finished (hrows : RowsFailed s rows) (ha : s.writer.attempt = some a)
    (hs : s.writer.state = .writing) (hsheet : s.sheet a.slot = some sh) (hstate : sh.state = .finished) :
    ∃ t, exec (.bandWriteFail .current rows) s = .next t ∧ BandWriteFailed s t rows ∧
      t.writer = s.writerNext.writer ∧ BuffersEnded s t a (some s.writer.nextBand) ∧ EndedLetGo s t a.slot := by
  have hexec := State.exec_bandWriteFail ha hs hrows
  rw [State.endOrder_finished ((State.sheet_of_control (by simp) _).trans hsheet) hstate] at hexec
  have honly := (OnlyAttemptsEnded.refl s).endAttempt a
  have hbuffers := State.endBandWrite_buffers (s := s) (e := s.endAttempt a) (a := a)
    (rowsReached s.currentRows rows) rfl (fun _ => rfl) rfl rfl
  exact ⟨_, hexec, State.endBandWrite_failed hrows honly.out (by simp) (by simp) honly.found _,
    by rw [State.failedWrite_writer]; simp [State.writerNext], by simpa using hbuffers.congr rfl (by simp),
    State.letGo_endedLetGo _ (by simp) (by simp) (by simp)⟩

/-- A band write that fails with its end pending, the sheet's next attempt in hand and waiting for the Writer, ends that
attempt and the order (R144, R170). -/
theorem bandWrite_fails_behind (hrows : RowsFailed s rows) (ha : s.writer.attempt = some a)
    (hs : s.writer.state = .writing) (hin : InHand s ⟨a.slot, sh.attempt⟩ sh k) (hne : sh.attempt ≠ a.number)
    (hl : s.linkHolds a.slot = false) (hq : s.writer.queued = some ⟨a.slot, sh.attempt⟩)
    (hc : s.composer.attempt = none ∨ s.composer.attempt = some ⟨a.slot, sh.attempt⟩) :
    ∃ t, exec (.bandWriteFail .current rows) s = .next t ∧ BandWriteFailed s t rows ∧
      t.writer = ⟨.idle, none, 0, false, false, none⟩ ∧ t.composer.attempt = none ∧
      (s.composer.attempt ≠ none → t.composer.state = .idle) ∧
      (∀ i, i = bufferFor s.writer.nextBand ∨ (s.composer.buf i).tag.map (·.attempt) = some ⟨a.slot, sh.attempt⟩ →
        (s.composer.buf i).state = .filling ∨ (s.composer.buf i).state = .full ∨ i = bufferFor s.writer.nextBand →
        (t.composer.buf i).state = .empty ∧ (t.composer.buf i).tag = none) ∧
      t.sheet a.slot = none ∧ t.control.queue = queueEnded s.control.queue a.slot .memoryFault .proofWrite ∧
      HoldsReleased s t a.slot ∧ WalkerUnblocked s t := by
  have hexec := State.exec_bandWriteFail ha hs hrows
  have hinA : InHand (s.endAttempt a) ⟨a.slot, sh.attempt⟩ sh k := hin.congr (by simp)
  rw [State.endOrder_inHand hinA ((State.linkHolds_of_link (by simp) _).trans hl),
    State.writerStop_queued (by simpa using hq)] at hexec
  set d := ((s.endAttempt a).endAttempt ⟨a.slot, sh.attempt⟩).setWriter
    { ((s.endAttempt a).endAttempt ⟨a.slot, sh.attempt⟩).writer with queued := none } with hd
  have honly : OnlyAttemptsEnded s d := (((OnlyAttemptsEnded.refl s).endAttempt a).endAttempt _).setWriter _
  have hserves : d.writerServes a.slot = true := (State.writerServes_iff _ _).2 ⟨a, rfl, .inl (by simpa [hd] using ha)⟩
  obtain ⟨hfailed, hfree, hqueue, hreleased, hwalker⟩ := State.failedWrite_ends honly hrows hin.sheet hin.not_finished
    hin.ending hin.report hl hserves (by simp [hd]) (by simp [hd])
  obtain ⟨hnone, hidle, hbufs⟩ := State.endBandWrite_bothEnded (s := s) (a := a) (b := s.writer.nextBand)
    (e := d.endSheet a.slot .memoryFault .proofWrite) (fun e => hne (congrArg Attempt.number e)) hc (by simp [hd])
    (by simp [hd]) (rowsReached s.currentRows rows)
  refine ⟨_, hexec, hfailed, ?_, ?_, ?_, ?_, hfree, hqueue, hreleased, hwalker⟩
  · rw [State.failedWrite_writer, State.writerNext_idle (by simp [hd])]
  all_goals simpa only [State.letGo_frame, State.writerNext_frame]

end

/-- Settles O55: a start, a completion by `bandWrite_completes`, and the ends with the attempt, by what the sheet is in. -/
theorem bandWrites : Obligations.BandWrites := by
  refine ⟨fun s a ha hs hf hh => State.exec_bandWriteStart ha hs hf hh, fun s hh => State.exec_bandWriteStart_held hh,
    ?completes, ?ends, ?pending,
    fun s n rows hp => ⟨fun hn => State.exec_bandWriteDone_none (.inr ⟨hp, hn⟩), State.exec_bandWriteFail_none (.inr hp)⟩,
    fun s n rows hs => ⟨State.exec_bandWriteDone_none (.inl hs), State.exec_bandWriteFail_none (.inl hs)⟩⟩
  case completes =>
    intro s a k b n ha hs hd he hb hk hp hn hfit
    subst hn
    have hlen : s.currentRows.length = min 64 (k.height - 64 * b) := by
      rw [State.currentRows_eq ha hk, proofRows_length, hb]
      rfl
    have hexec := State.exec_bandWriteDone ha hs hd he (by rwa [hb])
    rw [hlen] at hexec
    exact ⟨_, hexec, bandWrite_completes ha hb hk hfit⟩
  case ends =>
    intro s a sh k ha hs hin hl hq
    refine ⟨fun rows hrows => bandWrite_fails hrows hin ha hs hq hl, fun rows hd hn hp =>
      ⟨_, State.exec_bandWriteDone_stops ha hs hd hn hp, ?_, ?_⟩⟩
    · have hspoil := ((s.endAttempt a).endBandWrite (s.currentRows.take rows)).writerNext.spoil_spec a sh k .damage
        (hin.congr (by simp))
      exact hspoil.congr (by simp) (by simp) (by simp) (by simp) (by simp [State.endBandWrite_port])
    · obtain ⟨hwriter, hrest⟩ := s.stoppedWrite_ended a (s.currentRows.take rows) .damage
      exact ⟨hwriter.trans (State.writerNext_idle hq), hrest⟩
  case pending =>
    intro s a next ha hs he hnext
    have hwriter : s.writerNext.writer = next := by
      rw [hnext]
      cases hq : s.writer.queued with
      | none => exact State.writerNext_idle hq
      | some q => exact State.writerNext_takes hq
    subst hwriter
    refine ⟨?_, ?_, fun rows sh hrows hsheet => ⟨?_, ?_, ?_⟩⟩
    · intro n hd hn hp
      subst hn
      exact ⟨_, State.exec_bandWriteDone_pending ha hs hd he hp, by simp [State.writerNext],
        by simp [State.endBandWrite_writes],
        (s.endBandWrite_found s.currentRows).later (by simp) (State.hasEvent_of_window (by simp) _),
        (s.endBandWrite_given s.currentRows).later (by simp) (by simp),
        State.letGo_endedLetGo _ (by simp) (by simp) (by simp), by simp [State.endBandWrite_port]⟩
    · intro n sh hd hn hp hsheet hstale
      obtain ⟨hwriter, hwrites, hfound, hbuffers, hport⟩ := s.stoppedWrite_ended a (s.currentRows.take n) .damage
      refine ⟨_, State.exec_bandWriteDone_stops ha hs hd hn hp, hwriter, hwrites, hfound, hbuffers, ?_, hport⟩
      rw [State.spoil_stale ((State.sheet_of_control (by simp) _).trans hsheet) hstale]
      exact State.letGo_endedLetGo _ (by simp) (by simp) (by simp)
    · exact fun hstate _ => bandWrite_fails_finished hrows ha hs hsheet hstate
    · exact fun hstate hend hr hl hq => bandWrite_fails_waiting hrows ha hs hsheet hstate hend hr hl hq
    · exact fun k hin hne hl hq hc => bandWrite_fails_behind hrows ha hs hin hne hl hq hc

end Sys2Proof.Machine
end

section
/-! The Press Link in agreement with its state (sections 8.1 to 8.6): its moves, the values of a PRESS order, and what the
moves of the check log leave in order (R149 to R166, R197 to R201). -/

namespace Sys2Proof.Machine

/-! ## The link's moves -/

/-- The link in agreement with its state, and the press configuration in range. -/
structure Link.Formed (l : Link) : Prop where
  ok : LinkOk l
  config : PressConfigOk l.config

namespace Link.Formed

variable {l : Link}

/-- A link CLOSED with no attempt and no timer (R149, R162). -/
theorem closedWith {c : PressConfig} (hc : PressConfigOk c) (r : Bool) : (Link.closedWith c r).Formed :=
  ⟨by constructor <;> simp [Link.closedWith], hc⟩

/-- Outside STREAMING no band timer and no grace timer runs, no send is in flight, and none is delayed or to be aborted. -/
theorem quiet (h : l.Formed) (hs : l.state ≠ .streaming) : l.bandTimer = none ∧ l.graceTimer = none ∧ l.sending = none ∧
    l.due = false ∧ l.abortPending = false := by
  obtain ⟨⟨-, -, -, -, band, grace, sending, -, due, abort, -⟩, -⟩ := h
  grind

/-- While the band timer runs no grace timer does, and no ABORT waits (R154, R156). -/
theorem quiet_of_bandTimer (h : l.Formed) (hb : l.bandTimer ≠ none) : l.graceTimer = none ∧ l.abortPending = false := by
  obtain ⟨⟨-, -, -, -, -, grace, -, -, -, abort, -⟩, -⟩ := h
  grind

/-- While the grace timer runs no ABORT waits, and no send is delayed (R155, R156). -/
theorem quiet_of_graceTimer (h : l.Formed) (hg : l.graceTimer ≠ none) : l.abortPending = false ∧ l.due = false := by
  obtain ⟨⟨-, -, -, -, -, grace, -, -, -, abort, -⟩, -⟩ := h
  grind

theorem levelled (h : l.Formed) (b : Bool) : Formed { l with ready := b } := by
  obtain ⟨⟨⟩, hc⟩ := h
  exact ⟨by constructor <;> simp_all, hc⟩

theorem configured (h : l.Formed) {c : PressConfig} (hc : PressConfigOk c) : Formed { l with config := c } := by
  obtain ⟨⟨⟩, -⟩ := h
  exact ⟨by constructor <;> simp_all, hc⟩

/-- OPEN is sent in AWAIT_READY, the accept timer running with some limit (R150). -/
theorem opened (h : l.Formed) (hs : l.state = .awaitReady) (n : Nat) :
    Formed { l with state := .opening, waitTimer := none, acceptTimer := some n } := by
  obtain ⟨hb, hg, hn, hd, ha⟩ := h.quiet (by simp [hs])
  obtain ⟨⟨⟩, hc⟩ := h
  exact ⟨by constructor <;> simp_all, hc⟩

/-- ACCEPT is taken in OPENING (R152). -/
theorem accepted (h : l.Formed) (hs : l.state = .opening) :
    Formed { l with state := .streaming, acceptTimer := none } := by
  obtain ⟨hb, hg, hn, hd, ha⟩ := h.quiet (by simp [hs])
  obtain ⟨⟨⟩, hc⟩ := h
  exact ⟨by constructor <;> simp_all, hc⟩

/-- A send starts in STREAMING, the band timer running with the band period (R153). -/
theorem sendStarted (h : l.Formed) (hs : l.state = .streaming) (hg : l.graceTimer = none) (ha : l.abortPending = false) :
    Formed { l with
      sending := some l.nextBand, due := false, bandTimer := some l.config.bandPeriod, nextBand := l.nextBand + 1 } := by
  obtain ⟨⟨⟩, hc⟩ := h
  exact ⟨by constructor <;> simp_all, hc⟩

/-- An attempt ends with a send in flight: ABORT waits for its end (R156, R161). -/
theorem stopping (h : l.Formed) (hn : l.sending ≠ none) :
    Formed { l with abortPending := true, due := false, bandTimer := none, graceTimer := none } := by
  obtain ⟨⟨⟩, hc⟩ := h
  exact ⟨by constructor <;> simp_all, hc⟩

theorem bandTimerStopped (h : l.Formed) : Formed { l with bandTimer := none } := by
  obtain ⟨⟨⟩, hc⟩ := h
  exact ⟨by constructor <;> simp_all, hc⟩

theorem graceTimerStopped (h : l.Formed) : Formed { l with graceTimer := none } := by
  obtain ⟨⟨⟩, hc⟩ := h
  exact ⟨by constructor <;> simp_all, hc⟩

/-- The next band, due while the band timer ran, waits for the send in flight (R155). -/
theorem delayed (h : l.Formed) (hb : l.bandTimer ≠ none) (hn : l.sending ≠ none) {k : LinkHold} (hk : l.held = some k)
    (hlt : l.nextBand < k.bands) : Formed { l with bandTimer := none, due := true } := by
  obtain ⟨⟨⟩, hc⟩ := h
  exact ⟨by constructor <;> simp_all, hc⟩

/-- The next band, due while the band timer ran and not FULL, is waited for (R155). -/
theorem graceStarted (h : l.Formed) (hb : l.bandTimer ≠ none) {k : LinkHold} (hk : l.held = some k)
    (hlt : l.nextBand < k.bands) (n : Nat) : Formed { l with bandTimer := none, graceTimer := some n } := by
  obtain ⟨⟨⟩, hc⟩ := h
  exact ⟨by constructor <;> simp_all, hc⟩

/-- A late band, FULL while a send is in flight, waits for its end (R155). -/
theorem lateDelayed (h : l.Formed) (hg : l.graceTimer ≠ none) (hn : l.sending ≠ none) :
    Formed { l with graceTimer := none, due := true } := by
  obtain ⟨⟨⟩, hc⟩ := h
  exact ⟨by constructor <;> simp_all, hc⟩

/-- A send ends with nothing delayed and no ABORT that waits (R153). -/
theorem sendEnded (h : l.Formed) (hd : l.due = false) (ha : l.abortPending = false) : Formed { l with sending := none } := by
  obtain ⟨⟨⟩, hc⟩ := h
  exact ⟨by constructor <;> simp_all, hc⟩

/-- The last band's send ends: CLOSE is sent, the result timer running with some limit (R157). -/
theorem closing (h : l.Formed) {b : Nat} (hb : l.sending = some b) (ha : l.abortPending = false) {k : LinkHold}
    (hk : l.held = some k) (hl : b + 1 = k.bands) (n : Nat) :
    Formed { l with sending := none, state := .closing, bandTimer := none, resultTimer := some n } := by
  obtain ⟨⟨⟩, hc⟩ := h
  exact ⟨by constructor <;> simp_all, hc⟩

/-- In AWAIT_READY the wait timer runs or not (R151). -/
theorem waiting (h : l.Formed) (hs : l.state = .awaitReady) (n : Option Nat) : Formed { l with waitTimer := n } := by
  obtain ⟨⟨⟩, hc⟩ := h
  exact ⟨by constructor <;> simp_all, hc⟩

theorem waitingStopped (h : l.Formed) : Formed { l with waitTimer := none } := by
  obtain ⟨⟨⟩, hc⟩ := h
  exact ⟨by constructor <;> simp_all, hc⟩

/-- The link takes an attempt (R149). -/
theorem taken {c : PressConfig} (hc : PressConfigOk c) (r : Bool) (k : LinkHold) :
    Formed { Link.closedWith c r with state := .awaitReady, held := some k } :=
  ⟨by constructor <;> simp [Link.closedWith], hc⟩

end Link.Formed

/-- A PRESS order brings its values into range (R166). -/
theorem pressConfig_ok (r : OrderRecord) : PressConfigOk (pressConfig r).1 := by
  rw [pressConfig_config]
  constructor <;> dsimp only <;> omega

/-! ## The check log -/

namespace CheckLogOk

variable {c : Check}

theorem poisoned (h : CheckLogOk c) (p : Poison) : CheckLogOk { c with poison := p } := ⟨h.locked, h.counted, h.standing⟩

theorem rewritten (h : CheckLogOk c) (p : CheckLoc → Bool) : CheckLogOk { c with standing := c.standing.filter p } :=
  ⟨h.locked, h.counted, h.standing.filter _⟩

theorem drawn (h : CheckLogOk c) (n : Nat) : CheckLogOk { c with finds := n } := ⟨h.locked, h.counted, h.standing⟩

theorem cleared (h : CheckLogOk c) :
    CheckLogOk { c with correctable := none, count := 0#8, uncorrectable := none, locked := false } :=
  ⟨by simp, by simp, h.standing⟩

end CheckLogOk

end Sys2Proof.Machine
end

section
/-! What the moves of the part keep of the link, the press configuration, the Proof Writer and the check log: the fits, the
band buffers, the ends of attempts, sends, band writes, damage, orders, and the writes of the register window. -/

namespace Sys2Proof.Machine

/-- The link stays in agreement with its state and the configuration in range; the Writer stays in order; and so does the
check log, each from its own condition. -/
structure OutputKept (s t : State) : Prop where
  link : s.link.Formed → t.link.Formed
  writer : WriterOk s.writer → WriterOk t.writer
  check : CheckLogOk s.check → CheckLogOk t.check

namespace OutputKept

variable {s t u : State}

theorem refl (s : State) : OutputKept s s := ⟨id, id, id⟩

theorem trans (h : OutputKept s t) (h' : OutputKept t u) : OutputKept s u :=
  ⟨h'.link ∘ h.link, h'.writer ∘ h.writer, h'.check ∘ h.check⟩

/-- A move that leaves the link and the Writer alone and keeps the check log in order. -/
theorem of_log (h : t.link = s.link ∧ t.writer = s.writer) (hc : CheckLogOk s.check → CheckLogOk t.check) :
    OutputKept s t :=
  ⟨fun k => by rwa [h.1], fun k => by rwa [h.2], hc⟩

/-- A move that leaves the link, the Writer and the check log alone. -/
theorem of_same (h : t.link = s.link ∧ t.writer = s.writer ∧ t.check = s.check) : OutputKept s t :=
  of_log ⟨h.1, h.2.1⟩ fun k => by rwa [h.2.2]

/-- A move that leaves the link, the Writer and the check log alone, after others. -/
theorem same (h : OutputKept s t) (hu : u.link = t.link ∧ u.writer = t.writer ∧ u.check = t.check) : OutputKept s u :=
  h.trans (of_same hu)

/-- A move of the link alone. -/
theorem of_link (h : t.writer = s.writer ∧ t.check = s.check) (hl : s.link.Formed → t.link.Formed) : OutputKept s t :=
  ⟨hl, fun k => by rwa [h.1], fun k => by rwa [h.2]⟩

/-- A move of the Writer alone. -/
theorem of_writer (h : t.link = s.link ∧ t.check = s.check) (hw : WriterOk s.writer → WriterOk t.writer) : OutputKept s t :=
  ⟨fun k => by rwa [h.1], hw, fun k => by rwa [h.2]⟩

/-! ### Work that leaves the three blocks alone -/

theorem endSheet (h : OutputKept s t) (sl : SheetSlot) (o : OrderOutcome) (d : Detail) :
    OutputKept s (t.endSheet sl o d) := h.same (by simp)

theorem endUnit (h : OutputKept s t) : OutputKept s t.endUnit := h.same (by simp)

theorem writeServerAll (h : OutputKept s t) (ws : List ServerWrite) : OutputKept s (t.writeServerAll ws) := h.same (by simp)

theorem stopIfDrained (h : OutputKept s t) : OutputKept s t.stopIfDrained := h.same (by simp)

theorem setControl (h : OutputKept s t) (c : Control) : OutputKept s (t.setControl c) := h.same (by simp)

theorem finishBarrier (h : OutputKept s t) (r : Results) : OutputKept s (t.finishBarrier r) := h.same (by simp)

theorem afterTake (h : OutputKept s t) : OutputKept s t.afterTake := h.same (by simp)

theorem finishBuild (h : OutputKept s t) (e : BuildEntry) (f : FitRecord) (tile : List Byte) (p : Bool) :
    OutputKept s (t.finishBuild e f tile p) := h.same (by simp)

theorem letGo (h : OutputKept s t) (sl : SheetSlot) : OutputKept s (t.letGo sl) := h.same (by simp)

theorem spoil (h : OutputKept s t) (a : Attempt) (d : Detail) : OutputKept s (t.spoil a d) := h.same (by simp)

theorem finishSheet (h : OutputKept s t) (sl : SheetSlot) : OutputKept s (t.finishSheet sl) := h.same (by simp)

end OutputKept

namespace State

/-! ### The check log -/

theorem rewritten_kept (s : State) (area : CheckLoc → Bool) : OutputKept s (s.rewritten area) :=
  .of_log (by simp) fun h => h.rewritten _

theorem setPoison_kept (s : State) (p : Poison) : OutputKept s (s.setCheck { s.check with poison := p }) :=
  .of_log (by simp) fun h => h.poisoned p

theorem keepStanding_kept (s : State) (loc : CheckLoc) : OutputKept s (s.keepStanding loc) := by
  unfold keepStanding
  split
  · exact .refl s
  · rename_i hn
    exact .of_log (by simp) fun h => ⟨h.locked, h.counted, List.Nodup.append h.standing (by simp) (by simpa using hn)⟩

theorem logUncorrectable_kept (s : State) (loc : CheckLoc) : OutputKept s (s.logUncorrectable loc) := by
  unfold logUncorrectable
  split
  · exact .refl s
  · exact .of_log (by simp) fun h => ⟨by simp, h.counted, h.standing⟩

theorem logCorrectable_kept (s : State) (loc : CheckLoc) : OutputKept s (s.logCorrectable loc) := by
  unfold logCorrectable
  split
  · exact .refl s
  · refine .of_log (by simp) fun h => ⟨h.locked, ?_, h.standing⟩
    have hcount : (if s.check.count = 255#8 then 255#8 else s.check.count + 1#8) ≠ 0#8 := by
      split
      · decide
      · bv_omega
    have hrecord : (if s.check.correctable = none then some loc else s.check.correctable) ≠ none := by
      split <;> simp_all
    simpa using iff_of_false hcount hrecord

theorem logCorrectableTimes_kept (s : State) (loc : CheckLoc) (n : Nat) : OutputKept s (s.logCorrectableTimes loc n) := by
  induction n generalizing s with
  | zero => exact .refl s
  | succ n ih => exact (s.logCorrectable_kept loc).trans (ih _)

theorem findOne_kept (s : State) (loc : CheckLoc) : OutputKept s (s.findOne loc) :=
  .trans (.of_log (by simp) fun h => h.drawn (s.check.finds + 1)) (logCorrectableTimes_kept _ loc _)

theorem findAgain_kept (s : State) (reads : CheckLoc → Bool) : OutputKept s (s.findAgain reads) := by
  unfold findAgain
  generalize s.check.standing.filter reads = ls
  induction ls generalizing s with
  | nil => exact .refl s
  | cons l rest ih => exact (s.findOne_kept l).trans (ih _)

/-! ### Fits -/

theorem readGlyph_kept (s : State) (g : Fin 3) (code : Code) : OutputKept s (s.readGlyph g code).1 := by
  unfold readGlyph
  split
  · exact .refl s
  · split
    · exact (s.logUncorrectable_kept (.glyph g code)).same (by simp)
    · exact .refl s

theorem lookupGlyph_kept (s : State) (g : Fin 3) (code : Code) : OutputKept s (s.lookupGlyph g code).1 := by
  have hown := s.readGlyph_kept g code
  unfold lookupGlyph
  split
  · rename_i hr
    rwa [hr] at hown
  · rename_i s1 hr
    rw [hr] at hown
    have hsub := s1.readGlyph_kept g (s1.glyphSetOf g).substitute
    split <;> rename_i hr' <;> rw [hr'] at hsub <;> exact hown.trans hsub

theorem lookupRun_kept (s : State) (g : Fin 3) (codes : List Code) : OutputKept s (s.lookupRun g codes).1 := by
  induction codes generalizing s with
  | nil => exact .refl s
  | cons c rest ih => exact (s.lookupGlyph_kept g c).trans (ih _)

theorem clipLine_kept (s : State) (g : Fin 3) (gs : List DrawnGlyph) (limit : Nat) :
    OutputKept s (s.clipLine g gs limit).1 := by
  unfold clipLine
  split
  · exact .refl s
  · dsimp only
    split <;> exact s.lookupGlyph_kept g _

theorem fitCaption_kept (s : State) (c : Cell) : OutputKept s (s.fitCaption c).1 := by
  unfold fitCaption
  dsimp only
  split
  · exact .refl s
  · split
    · split
      · exact .trans (.trans (.trans (.trans (lookupRun_kept _ _ _) (lookupRun_kept _ _ _)) (lookupGlyph_kept _ _ _))
          (clipLine_kept _ _ _ _)) (clipLine_kept _ _ _ _)
      · exact .trans (.trans (.trans (lookupRun_kept _ _ _) (lookupRun_kept _ _ _)) (lookupGlyph_kept _ _ _))
          (clipLine_kept _ _ _ _)
    · split
      · exact .trans (.trans (.trans (lookupRun_kept _ _ _) (lookupRun_kept _ _ _)) (clipLine_kept _ _ _ _))
          (clipLine_kept _ _ _ _)
      · exact .trans (.trans (lookupRun_kept _ _ _) (lookupRun_kept _ _ _)) (clipLine_kept _ _ _ _)

theorem fitBanner_kept (s : State) (f : BannerFrame) : OutputKept s (s.fitBanner f).1 := by
  unfold fitBanner
  split
  · exact .refl s
  · exact (s.lookupRun_kept _ _).trans (clipLine_kept _ _ _ _)

theorem fitCells_kept (s : State) (cells : List Cell) : OutputKept s (s.fitCells cells).1 := by
  induction cells generalizing s with
  | nil => exact .refl s
  | cons c rest ih =>
    unfold fitCells
    split
    · exact ih s
    · exact (s.fitCaption_kept c).trans (ih _)

theorem fitFrames_kept (s : State) (frames : List Frame) : OutputKept s (s.fitFrames frames).1 := by
  induction frames generalizing s with
  | nil => exact .refl s
  | cons f rest ih =>
    cases f with
    | banner f => exact (s.fitBanner_kept f).trans (ih _)
    | rule _ => exact ih s
    | grid _ => exact ih s
    | inset _ => exact ih s

theorem fitSheet_kept (s : State) (sl : SheetSlot) : OutputKept s (s.fitSheet sl) := by
  unfold fitSheet
  split
  · exact .refl s
  · rename_i sh _
    exact ((s.fitCells_kept sh.cells).trans (fitFrames_kept _ sh.frames)).same (by simp)

/-! ### The band buffers -/

theorem paintNext_kept (s : State) : OutputKept s s.paintNext := by
  unfold paintNext
  split
  · exact .refl s
  · split
    · exact .refl s
    · dsimp only
      split
      · have hfill (u : State) (h : u.link = s.link ∧ u.writer = s.writer ∧ u.check = s.check) (area : CheckLoc → Bool) :
            OutputKept s (u.rewritten area) := (OutputKept.of_same h).trans (u.rewritten_kept area)
        split
        · exact (hfill _ (by simp) _).trans (setPoison_kept _ _)
        · exact hfill _ (by simp) _
      · exact .of_same (by simp)

theorem kick_kept (s : State) : OutputKept s s.kick := by
  unfold kick
  split
  · exact s.paintNext_kept
  · exact .refl s

theorem giveBack_kept (s : State) (i : BufferId) : OutputKept s (s.giveBack i) :=
  (OutputKept.of_same (by simp)).trans (kick_kept _)

theorem endAttempt_kept (s : State) (a : Attempt) : OutputKept s (s.endAttempt a) :=
  (OutputKept.of_same (by simp)).trans (kick_kept _)

/-! ### The end of an attempt -/

theorem linkClose_kept (s : State) : OutputKept s s.linkClose :=
  .of_link (by simp) fun h => .closedWith h.config _

theorem linkStop_kept (s : State) (a : Attempt) : OutputKept s (s.linkStop a) := by
  unfold linkStop
  split
  · exact .refl s
  · split
    · exact .refl s
    · have htold (h : LinkHold) (m : PressMessage) : OutputKept s (s.tell h m).linkClose :=
        .trans (.of_same (by simp)) (linkClose_kept _)
      split
      · exact .refl s
      · exact s.linkClose_kept
      · exact htold _ _
      · split
        · exact htold _ _
        · rename_i hn
          exact .of_link (by simp) fun h => h.stopping hn
      · exact s.linkClose_kept

theorem writerNext_kept (s : State) : OutputKept s s.writerNext := by
  refine .of_writer (by simp) fun _ => ?_
  unfold writerNext
  split <;> constructor <;> simp [Writer.cleared]

theorem writerStop_kept (s : State) (a : Attempt) : OutputKept s (s.writerStop a) := by
  unfold writerStop
  split
  · exact .of_writer (by simp) fun h => ⟨h.idle, by simp, h.endPending, h.damage⟩
  · split
    · split
      · rename_i hw
        exact .of_writer (by simp) fun h => ⟨h.idle, h.queued, fun _ => hw, h.damage⟩
      · exact s.writerNext_kept
    · exact .refl s

theorem stopAttempt_kept (s : State) (a : Attempt) : OutputKept s (s.stopAttempt a) :=
  ((s.endAttempt_kept a).trans (linkStop_kept _ a)).trans (writerStop_kept _ a)

theorem spoilAttempt_kept (s : State) (a : Attempt) (d : Detail) : OutputKept s (s.spoilAttempt a d) :=
  ((s.stopAttempt_kept a).spoil a d).letGo a.slot

theorem endOrder_kept (s : State) (sl : SheetSlot) (o : OrderOutcome) (d : Detail) : OutputKept s (s.endOrder sl o d) := by
  unfold endOrder
  split
  · exact .refl s
  · split
    · exact (s.stopAttempt_kept _).endSheet _ _ _
    · exact .of_same (by simp)

theorem dropAttempt_kept (s : State) (a : Attempt) : OutputKept s (s.dropAttempt a) := by
  have hend := s.linkClose_kept.trans (endAttempt_kept _ a)
  unfold dropAttempt
  dsimp only
  split
  · exact hend.trans (giveBack_kept _ _)
  · exact hend

/-! ### Abandon and chain faults -/

theorem abandonSheet_kept (s : State) (sl : SheetSlot) : OutputKept s (s.abandonSheet sl) := by
  unfold abandonSheet
  split
  · exact .refl s
  · split
    · exact .refl s
    · split
      · exact .of_same (by simp)
      · exact .of_same (by simp)
      · exact .of_same (by simp)
      · exact (s.stopAttempt_kept _).endSheet _ _ _
      · exact (s.stopAttempt_kept _).endSheet _ _ _
      · exact .of_same (by simp)

theorem abandonOrders_kept (s : State) : OutputKept s s.abandonOrders := by
  have hplanner : OutputKept s s.stopPlanner := .of_same (by simp)
  have hsheets := (hplanner.trans (abandonSheet_kept _ .a)).trans (abandonSheet_kept _ .b)
  exact hsheets.same (by simp [abandonOrders])

theorem engineFaults_kept (s : State) (cause : FaultCause) (addr : Addr) : OutputKept s (s.engineFaults cause addr) := by
  unfold engineFaults
  split
  · exact .trans (.of_same (by simp)) (abandonOrders_kept _)
  · exact .refl s

/-! ### Sends -/

/-- A send starts from STREAMING with no grace timer and no ABORT that waits (R153). -/
theorem startSend_formed {s : State} (h : s.link.Formed) (hs : s.link.state = .streaming) (hg : s.link.graceTimer = none)
    (ha : s.link.abortPending = false) : s.startSend.link.Formed :=
  s.startSend_link ▸ h.sendStarted hs hg ha

theorem acceptTaken_kept (s : State) (hs : s.link.state = .opening) : OutputKept s s.acceptTaken := by
  refine .of_link (by simp) fun hl => ?_
  obtain ⟨-, hg, -, -, ha⟩ := hl.quiet (by simp [hs])
  exact startSend_formed (hl.accepted hs) rfl hg ha

theorem sendOpen_kept (s : State) (h : LinkHold) (hs : s.link.state = .awaitReady) : OutputKept s (s.sendOpen h) := by
  have hopen (u : State) (hu : u.link = s.link ∧ u.writer = s.writer ∧ u.check = s.check) : OutputKept s (u.setLink
      { u.link with state := .opening, waitTimer := none, acceptTimer := some u.link.config.acceptLimit }) :=
    .of_link (by simp [hu]) fun hl => hu.1 ▸ hl.opened hs _
  unfold sendOpen
  dsimp only
  split
  · exact .trans (hopen _ (by simp)) (acceptTaken_kept _ rfl)
  · exact hopen _ (by simp)

theorem openWhenReady_kept (s : State) : OutputKept s s.openWhenReady := by
  unfold openWhenReady
  split
  · rename_i h hs _
    split
    · exact s.sendOpen_kept h hs
    · exact .refl s
  · exact .refl s

theorem linkBandFull_kept (s : State) (a : Attempt) (b : Nat) : OutputKept s (s.linkBandFull a b) := by
  unfold linkBandFull
  split
  · exact .refl s
  · split
    · exact .refl s
    · split
      · exact s.openWhenReady_kept
      · split
        · rename_i hlate
          obtain ⟨hs, hg, -⟩ := hlate
          dsimp only
          split
          · refine .of_link (by simp) fun hl => ?_
            obtain ⟨ha, -⟩ := hl.quiet_of_graceTimer hg
            exact startSend_formed (by simpa using hl.graceTimerStopped) (by simpa using hs) (by simp) (by simpa using ha)
          · rename_i hn
            exact .of_link (by simp) fun hl => by simpa using hl.lateDelayed hg (by simpa using hn)
        · exact .refl s

theorem underrun_kept (s : State) (h : LinkHold) : OutputKept s (s.underrun h) :=
  .trans (.of_link (by simp) fun hl => hl.graceTimerStopped) (spoilAttempt_kept _ _ _)

/-- The next band is due at the expiry of the band timer (R154, R155). -/
theorem bandDue_kept (s : State) (h : LinkHold) (hs : s.link.state = .streaming) (hb : s.link.bandTimer ≠ none)
    (hh : s.link.held = some h) (hlt : s.link.nextBand < h.bands) :
    OutputKept s ((s.setLink { s.link with bandTimer := none }).bandDue h) := by
  have hgrace : OutputKept s ((s.setLink { s.link with bandTimer := none }).setLink { s.link with
      bandTimer := none, graceTimer := some s.link.config.grace }) :=
    .of_link (by simp) fun hl => hl.graceStarted hb hh hlt _
  unfold bandDue
  split
  · split
    · refine .of_link (by simp) fun hl => ?_
      obtain ⟨hg, ha⟩ := hl.quiet_of_bandTimer hb
      exact startSend_formed hl.bandTimerStopped hs hg ha
    · rename_i hn
      exact .of_link (by simp) fun hl => hl.delayed hb hn hh hlt
  · dsimp only
    split
    · exact hgrace.trans (underrun_kept _ h)
    · exact hgrace

theorem sendEnded_log {s : State} (h : LinkHold) (b lines : Nat) (hc : CheckLogOk s.check) :
    CheckLogOk (s.sendEnded h b lines).check := by
  unfold sendEnded
  exact (giveBack_kept _ _).check (by simpa using (s.findAgain_kept _).check hc)

/-- What follows a send leaves the link in agreement with its state (R153 to R157, R165). -/
theorem afterSend_formed {s u : State} {h : LinkHold} {b : Nat} (hl : s.link.Formed) (hb : s.link.sending = some b)
    (hh : s.link.held = some h) (hu : u.link = { s.link with sending := none }) : (u.afterSend h b).link.Formed := by
  have hs : s.link.state = .streaming := hl.ok.sending (by simp [hb])
  have hclosed (c : PressConfig) (hc : c = s.link.config) (r : Bool) : (Link.closedWith c r).Formed :=
    .closedWith (hc ▸ hl.config) r
  unfold afterSend
  split
  · simpa [linkClose] using hclosed _ (by simp [hu]) _
  · rename_i ha
    replace ha : s.link.abortPending = false := by simpa [hu] using ha
    split
    · rename_i hlast
      unfold sendClose
      dsimp only
      split
      · simpa [printed, linkClose] using hclosed _ (by simp [hu]) _
      · simpa [hu] using hl.closing hb ha hh hlast _
    · split
      · rename_i hd
        have hg : s.link.graceTimer = none := by
          by_contra hg
          simp [hu, (hl.quiet_of_graceTimer hg).2] at hd
        rw [startSend_link, hu]
        exact hl.sendStarted hs hg ha
      · rename_i hd
        exact hu ▸ hl.sendEnded (by simpa [hu] using hd) ha

/-! ### The entry to COMPOSING -/

theorem linkTake_kept (s : State) (a : Attempt) (t : Ticket) : OutputKept s (s.linkTake a t) := by
  refine .of_link (by simp) fun hl => ?_
  unfold linkTake
  dsimp only
  split
  · exact .taken hl.config _ _
  · exact (Link.Formed.taken hl.config _ _).waiting rfl _

theorem offerPress_kept (s : State) (a : Attempt) (t : Ticket) : OutputKept s (s.offerPress a t) := by
  unfold offerPress
  split
  · exact (s.endAttempt_kept a).endSheet _ _ _
  · exact (s.linkTake_kept a t).trans (openWhenReady_kept _)

theorem writerTake_kept (s : State) (a : Attempt) : OutputKept s (s.writerTake a) := by
  unfold writerTake
  split
  · exact .of_writer (by simp) fun _ => by constructor <;> simp
  · rename_i ha
    exact .of_writer (by simp) fun h => ⟨h.idle, by simp [ha], h.endPending, h.damage⟩

theorem enterComposing_kept (s : State) (sl : SheetSlot) (t : Ticket) : OutputKept s (s.enterComposing sl t) := by
  have hfit {u : State} (hu : u.link = (s.fitSheet sl).link ∧ u.writer = (s.fitSheet sl).writer ∧
      u.check = (s.fitSheet sl).check) : OutputKept s u.paintNext :=
    ((s.fitSheet_kept sl).same hu).trans (paintNext_kept u)
  unfold enterComposing
  dsimp only
  split
  · exact (hfit (by simp)).trans (offerPress_kept _ _ _)
  · exact (hfit (by simp)).trans (writerTake_kept _ _)

/-! ### Paintings and band writes -/

theorem bandPainted_kept (s : State) (a : Attempt) (t : Ticket) (bytes : List Byte) :
    OutputKept s (s.bandPainted a t bytes) := by
  unfold bandPainted
  dsimp only
  split
  · exact .trans (.of_same (by simp)) (linkBandFull_kept _ _ _)
  · exact .trans (.trans (.of_same (by simp)) (paintNext_kept _)) (linkBandFull_kept _ _ _)

theorem endBandWrite_kept (s : State) (reached : List ServerWrite) : OutputKept s (s.endBandWrite reached) :=
  (((s.findAgain_kept _).writeServerAll reached).trans (giveBack_kept _ _)).endUnit

/-- A band has been written by a Writer with neither an end nor damage pending (R168). -/
theorem bandWritten_kept (s : State) (a : Attempt) (ha : s.writer.attempt = some a) (he : s.writer.endPending = false)
    (hd : s.writer.damage = false) : OutputKept s (s.bandWritten a) := by
  unfold bandWritten
  dsimp only
  split
  · exact s.writerNext_kept.finishSheet _
  · exact .of_writer (by simp) fun h => ⟨by simp [ha], h.queued, by simp [he], by simp [hd]⟩

/-! ### Damage -/

theorem painterFindsDamage_kept (s : State) (loc : CheckLoc) : OutputKept s (s.painterFindsDamage loc) := by
  unfold painterFindsDamage
  split
  · exact .trans (.of_same (by simp)) (spoilAttempt_kept _ _ _)
  · exact .refl s

theorem sendFindsDamage_kept (s : State) (h : LinkHold) (b : Nat) : OutputKept s (s.sendFindsDamage h b) := by
  have hclosed : OutputKept s (s.tell h (.abort h.sheetId)).linkClose := .trans (.of_same (by simp)) (linkClose_kept _)
  exact (((hclosed.trans (endAttempt_kept _ _)).trans (giveBack_kept _ _)).spoil _ _).letGo _

theorem takeDamage_kept (s : State) (loc : CheckLoc) (rd : Reader) (n : Nat)
    (h : rd = .proofWriter → s.writer.state = .writing) : OutputKept s (s.takeDamage loc rd n) := by
  unfold takeDamage
  split
  · exact s.painterFindsDamage_kept loc
  · exact .of_same (by simp)
  · exact .of_same (by simp)
  · split
    · exact s.sendFindsDamage_kept _ _
    · exact .refl s
  · exact .of_writer (by simp) fun k => ⟨k.idle, k.queued, k.endPending, fun _ => h rfl⟩
  · exact .refl s

/-! ### Orders, loads and builds -/

/-- Of the orders PRESS alone changes any of the three blocks: the configuration, brought into range (R166). -/
theorem startOrder_kept (s : State) (r : OrderRecord) (sl : Option SheetSlot) : OutputKept s (s.startOrder r sl) := by
  unfold startOrder
  split
  · split <;> exact .of_same (by simp)
  · exact .of_same (by simp)
  · exact .of_same (by simp)
  · exact .of_same (by simp)
  · exact .of_same (by simp)
  · exact .of_same (by simp)
  · rw [runPress_eq]
    exact .of_link (by simp) fun h => by simpa using h.configured (pressConfig_ok r)
  · exact .of_same (by simp)
  · exact .of_same (by simp)
  · exact .of_same (by simp)

theorem loadGlyphs_kept (s : State) (l : GlyphLoad) (gs : List Glyph) : OutputKept s (s.loadGlyphs l gs) :=
  .finishBarrier (.trans (.of_same (by simp)) (rewritten_kept _ _)) _

theorem receiveGlyphUnit_kept (s : State) (l : GlyphLoad) (bs : List Byte) : OutputKept s (s.receiveGlyphUnit l bs) := by
  have hpoison (p : Prop) [Decidable p] :
      OutputKept s (if p then s.setCheck { s.check with poison := .none } else s) := by
    split
    · exact s.setPoison_kept .none
    · exact .refl s
  unfold receiveGlyphUnit
  dsimp only
  split
  · exact .finishBarrier (hpoison _) _
  · exact .trans (hpoison _) (loadGlyphs_kept _ _ _)
  · exact .setControl (hpoison _) _

theorem writeFirstGranule_kept (s : State) (b : Build) : OutputKept s (s.writeFirstGranule b) := by
  unfold writeFirstGranule
  split
  · dsimp only
    split
    · exact .trans (.of_same (by simp)) (setPoison_kept _ .none)
    · exact .of_same (by simp)
  · exact .of_same (by simp)

theorem receiveSource_kept (s : State) (b : Build) (bs : List Byte) : OutputKept s (s.receiveSource b bs) := by
  unfold receiveSource
  dsimp only
  split
  · exact (s.writeFirstGranule_kept _).endUnit
  · exact s.writeFirstGranule_kept _

/-! ### The register window -/

theorem engineReset_kept (s : State) : OutputKept s s.engineReset where
  link h := .closedWith h.config _
  writer _ := by constructor <;> simp [engineReset, Writer.cleared]
  check h := h.poisoned .none

theorem writeAbandon_kept (s : State) : OutputKept s s.writeAbandon := by
  unfold writeAbandon
  split
  · dsimp only
    split
    · exact .of_same (by simp)
    · exact .stopIfDrained (.trans (.of_same (by simp)) (abandonOrders_kept _))
  · exact .refl s

theorem clearLog_kept (s : State) : OutputKept s s.clearLog := .of_log (by simp) fun h => h.cleared

theorem selectPoison_kept (s : State) (v : Nat) : OutputKept s (s.selectPoison v) := s.setPoison_kept (poisonOf v)

theorem writeControl_kept (s : State) (v : BitVec 32) : OutputKept s (s.writeControl v) := by
  unfold writeControl
  split
  · exact s.engineReset_kept
  · dsimp only
    split
    · exact s.writeAbandon_kept.same (by simp)
    · split <;> exact .of_same (by simp)

theorem writeCheckLog_kept (s : State) (v : BitVec 32) : OutputKept s (s.writeCheckLog v) := by
  unfold writeCheckLog
  dsimp only
  split
  · exact s.clearLog_kept.trans (selectPoison_kept _ _)
  · exact s.selectPoison_kept _

theorem writeHalf_kept (s : State) (i : Nat) (high : Bool) (v : BitVec 32) : OutputKept s (s.writeHalf i high v) := by
  unfold writeHalf
  split
  · exact .of_same (by simp)
  · exact s.writeControl_kept v
  · exact .of_same (by simp)
  · exact .of_same (by simp)
  · exact .of_same (by simp)
  · exact .of_same (by simp [writeHold]; split <;> simp)
  · exact s.writeCheckLog_kept v
  · exact .refl s

theorem writeRegister_kept (s : State) (offset size : Nat) (v : BitVec 64) :
    OutputKept s (s.writeRegister offset size v) := by
  unfold writeRegister
  split
  · unfold writeWhole
    split
    · exact .of_same (by simp)
    · exact .of_same (by simp)
    · exact s.writeHalf_kept _ _ _
  · split
    · exact s.writeHalf_kept _ _ _
    · exact .refl s

end State
end Sys2Proof.Machine
end

section
/-! Every command keeps the link, the press configuration, the Proof Writer and the check log in order (R149 to R170, R197 to
R201). -/

namespace Sys2Proof.Machine

namespace OutputKept

variable {s t : State}

/-- A command that answers a state. -/
theorem of_next {t' : State} (h : Host.Outcome.next t' = (.next t : Out)) (h' : OutputKept s t') : OutputKept s t := by
  injection h with h
  exact h ▸ h'

/-- The commands of the chain, of planning and of the window that leave the link, the Writer and the check log alone. -/
def leavesOutput (c : Instr) : Bool :=
  match c with
  | .scrubEnd | .runStart | .runDrain | .depthWrite _ | .pressModeWrite _ | .sweepPresetWrite _ | .chainHeadWrite _ |
    .wake _ | .eventsWrite _ | .enablesWrite _ | .holdRequest _ _ | .holdRelease _ _ | .sweepExpiry | .recordReadStart |
    .trailerReadStart | .takeStart | .profileBlockReadStart | .profileBlockReadDone _ _ | .glyphUnitStart |
    .ticketReadStart | .ticketReadDone _ _ | .layoutReadStart | .rosterReadStart | .subjectReadStart |
    .subjectReadDone _ _ | .bannerTextReadStart | .bannerTextReadDone _ _ |
    .buildFailure | .reportWriteStart _ | .reportWriteDone _ _ _ | .retireStart | .spentWriteStart |
    .windowTimerExpiry => true
  | _ => false

/-- Every branch of such a command leaves the three blocks as they are. -/
theorem plain {c : Instr} (hc : leavesOutput c = true) (hx : Machine.exec c s = .next t) : OutputKept s t := by
  cases c with
  | scrubEnd => exact of_next hx (of_same (by split <;> simp))
  | runStart => exact of_next hx (of_same (by simp))
  | runDrain => exact of_next hx (of_same (by simp))
  | depthWrite v => exact of_next hx (of_same (by simp))
  | pressModeWrite v => exact of_next hx (of_same (by simp))
  | sweepPresetWrite v => exact of_next hx (of_same (by simp))
  | chainHeadWrite v => exact of_next hx (of_same (by simp))
  | wake v => exact of_next hx (of_same (by simp))
  | eventsWrite v => exact of_next hx (of_same (by simp))
  | enablesWrite v => exact of_next hx (of_same (by simp))
  | holdRequest k p => exact of_next hx (of_same (by simp))
  | holdRelease k p => exact of_next hx (of_same (by simp))
  | sweepExpiry => exact of_next hx (of_same (by split <;> simp))
  | recordReadStart => exact of_next hx (of_same (by (repeat' split) <;> simp))
  | trailerReadStart => exact of_next hx (of_same (by (repeat' split) <;> simp))
  | takeStart => exact of_next hx (of_same (by (repeat' split) <;> simp))
  | profileBlockReadStart => exact of_next hx (of_same (by (repeat' split) <;> simp))
  | profileBlockReadDone u r => exact of_next hx (of_same (by (repeat' split) <;> simp))
  | glyphUnitStart => exact of_next hx (of_same (by (repeat' split) <;> simp))
  | ticketReadStart => exact of_next hx (of_same (by (repeat' split) <;> simp))
  | ticketReadDone u r => exact of_next hx (of_same (by (repeat' split) <;> simp))
  | layoutReadStart => exact of_next hx (of_same (by (repeat' split) <;> simp))
  | rosterReadStart => exact of_next hx (of_same (by (repeat' split) <;> simp))
  | subjectReadStart => exact of_next hx (of_same (by (repeat' split) <;> simp))
  | subjectReadDone u r => exact of_next hx (of_same (by (repeat' split) <;> simp))
  | bannerTextReadStart => exact of_next hx (of_same (by (repeat' split) <;> simp))
  | bannerTextReadDone u r => exact of_next hx (of_same (by (repeat' split) <;> simp))
  | buildFailure => exact of_next hx (of_same (by (repeat' split) <;> simp))
  | reportWriteStart sl => exact of_next hx (of_same (by (repeat' split) <;> simp))
  | reportWriteDone u sl ok => exact of_next hx (of_same (by (repeat' split) <;> simp))
  | retireStart => exact of_next hx (of_same (by (repeat' split) <;> simp))
  | spentWriteStart => exact of_next hx (of_same (by (repeat' split) <;> simp))
  | windowTimerExpiry => exact of_next hx (of_same (by split <;> simp))
  | _ => exact absurd hc Bool.false_ne_true

theorem powerOn (hx : Machine.exec .powerOn s = .next t) : OutputKept s t := by
  injection hx with hx
  subst hx
  exact ⟨fun _ => .closedWith (by constructor <;> decide) _, fun _ => by constructor <;> simp [State.reset, Writer.cleared],
    fun _ => by constructor <;> simp [State.reset]⟩

theorem layoutReadDone {v : UnitOf} {r : ReadResult} (hx : Machine.exec (.layoutReadDone v r) s = .next t) :
    OutputKept s t := by
  refine of_next hx (of_same ?_)
  split
  · simp
  · split
    · simp
    · split
      · simp
      · dsimp only
        (repeat' split) <;> simp
      · simp

theorem rosterReadDone {v : UnitOf} {r : ReadResult} (hx : Machine.exec (.rosterReadDone v r) s = .next t) :
    OutputKept s t := by
  refine of_next hx (of_same ?_)
  split
  · simp
  · split
    · simp
    · split
      · simp
      · dsimp only
        split <;> simp
      · simp

/-! ### The order chain -/

/-- The end of a unit of the chain, with a chain fault where it failed. -/
theorem engineFaults (h : OutputKept s t) (cause : FaultCause) (addr : Addr) : OutputKept s (t.engineFaults cause addr) :=
  h.trans (t.engineFaults_kept cause addr)

theorem recordReadDone {v : UnitOf} {r : ReadResult} (hx : Machine.exec (.recordReadDone v r) s = .next t) :
    OutputKept s t := by
  refine of_next hx ?_
  split
  · exact of_same (by simp)
  · split
    · split
      · exact engineFaults (of_same (by simp)) _ _
      · exact of_same (by (repeat' split) <;> simp)
    · exact refl s

theorem trailerReadDone {v : UnitOf} {r : ReadResult} (hx : Machine.exec (.trailerReadDone v r) s = .next t) :
    OutputKept s t := by
  refine of_next hx ?_
  split
  · exact of_same (by simp)
  · split
    · split
      · exact engineFaults (of_same (by simp)) _ _
      · split
        · split
          · exact of_same (by simp)
          · unfold State.followNext
            split
            · exact of_same (by simp)
            · split
              · exact engineFaults (of_same (by simp)) _ _
              · exact of_same (by simp)
        · exact refl s
    · exact refl s

theorem takenWriteDone {v : UnitOf} {ok : Bool} (hx : Machine.exec (.takenWriteDone v ok) s = .next t) :
    OutputKept s t := by
  refine of_next hx ?_
  split
  · exact of_same (by simp)
  · split
    · split
      · exact of_same (by simp)
      · split
        · exact .afterTake (.trans (of_same (by simp)) (State.startOrder_kept _ _ _))
        · exact engineFaults (of_same (by simp)) _ _
    · exact refl s

theorem resultsWriteDone {v : UnitOf} {ok : Bool} (hx : Machine.exec (.resultsWriteDone v ok) s = .next t) :
    OutputKept s t := by
  refine of_next hx ?_
  split
  · exact of_same (by simp)
  · split
    · split
      · exact of_same (by simp)
      · split
        · exact of_same (by simp)
        · exact engineFaults (of_same (by simp)) _ _
    · exact refl s

theorem doneWriteDone {v : UnitOf} {ok : Bool} (hx : Machine.exec (.doneWriteDone v ok) s = .next t) : OutputKept s t := by
  refine of_next hx ?_
  split
  · exact of_same (by simp)
  · split
    · dsimp only
      split
      · exact of_same (by simp)
      · exact engineFaults (of_same (by simp)) _ _
    · exact refl s

theorem spentWriteDone {v : UnitOf} {ok : Bool} (hx : Machine.exec (.spentWriteDone v ok) s = .next t) :
    OutputKept s t := by
  refine of_next hx ?_
  split
  · exact of_same (by simp)
  · split
    · dsimp only
      split
      · exact of_same (by simp)
      · exact engineFaults (of_same (by simp)) _ _
    · exact refl s

/-! ### Loads and builds -/

theorem glyphUnitDone {v : UnitOf} {r : ReadResult} (hx : Machine.exec (.glyphUnitDone v r) s = .next t) :
    OutputKept s t := by
  refine of_next hx ?_
  split
  · exact of_same (by simp)
  · split
    · split
      · exact refl s
      · split
        · exact of_same (by simp)
        · split
          · exact of_same (by simp)
          · split
            · exact .trans (of_same (by simp)) (State.receiveGlyphUnit_kept _ _ _)
            · exact refl s
    · exact refl s

theorem buildStart (hx : Machine.exec .buildStart s = .next t) : OutputKept s t := by
  refine of_next hx ?_
  split
  · split
    · dsimp only
      split <;> exact .trans (of_same (by simp)) (State.writeFirstGranule_kept _ _)
    · exact refl s
  · exact refl s

theorem sourceReadDone {v : UnitOf} {r : ReadResult} {last : Bool}
    (hx : Machine.exec (.sourceReadDone v r last) s = .next t) : OutputKept s t := by
  refine of_next hx ?_
  split
  · split
    · exact of_same (by simp)
    · exact refl s
  · split
    · exact refl s
    · split
      · exact refl s
      · split
        · split
          · exact of_same (by simp)
          · exact refl s
        · split
          · split <;> exact of_same (by simp)
          · split
            · exact s.receiveSource_kept _ _
            · exact refl s

theorem buildComplete (hx : Machine.exec .buildComplete s = .next t) : OutputKept s t := by
  refine of_next hx ?_
  split
  · split
    · exact .finishBuild (.trans (of_same (by simp)) (State.rewritten_kept _ _)) _ _ _ _
    · exact refl s
  · exact refl s

/-! ### Composing and errors in card memory -/

theorem sheetEnterComposing (hx : Machine.exec .sheetEnterComposing s = .next t) : OutputKept s t := by
  refine of_next hx ?_
  split
  · rename_i sl _
    cases s.ticketOf sl with
    | none => exact refl s
    | some k => exact (s.findAgain_kept _).trans (State.enterComposing_kept _ sl k)
  · exact refl s

theorem bandPaintDone (hx : Machine.exec .bandPaintDone s = .next t) : OutputKept s t := by
  refine of_next hx ?_
  split
  · exact refl s
  · split
    · exact refl s
    · split
      · exact refl s
      · dsimp only
        split
        · exact (s.findAgain_kept _).trans (State.bandPainted_kept _ _ _ _)
        · exact refl s

theorem correctableError {loc : CheckLoc} {rd : Reader} (hx : Machine.exec (.correctableError loc rd) s = .next t) :
    OutputKept s t := by
  refine of_next hx ?_
  split
  · split
    · exact (s.logCorrectable_kept loc).trans (State.keepStanding_kept _ loc)
    · exact s.logCorrectable_kept loc
  · exact refl s

theorem uncorrectableError {loc : CheckLoc} {rd : Reader} {n : Nat}
    (hx : Machine.exec (.uncorrectableError loc rd n) s = .next t) : OutputKept s t := by
  refine of_next hx ?_
  split
  · rename_i hread
    refine (s.logUncorrectable_kept loc).trans (State.takeDamage_kept _ loc rd n fun hrd => ?_)
    subst hrd
    cases loc <;> simp_all [State.canRead]
  · exact refl s

/-! ### The Press Link -/

theorem readyRise (hx : Machine.exec .readyRise s = .next t) : OutputKept s t := by
  have hready : OutputKept s (s.setLink { s.link with ready := true }) := .of_link (by simp) fun h => h.levelled true
  refine of_next hx ?_
  dsimp only
  split
  · split
    · exact .trans (.trans hready (.of_link (by simp) fun h => h.waitingStopped)) (State.openWhenReady_kept _)
    · exact hready
  · exact hready

theorem readyFall (hx : Machine.exec .readyFall s = .next t) : OutputKept s t := by
  have hready : OutputKept s (s.setLink { s.link with ready := false }) := .of_link (by simp) fun h => h.levelled false
  refine of_next hx ?_
  dsimp only
  split
  · rename_i hs _
    split
    · exact .trans hready (.of_link (by simp) fun h => h.waiting hs _)
    · exact hready
  · exact hready

theorem waitTimerExpiry (hx : Machine.exec .waitTimerExpiry s = .next t) : OutputKept s t := by
  refine of_next hx ?_
  split
  · exact .of_link (by simp) fun h => by simpa using h.waitingStopped
  · exact refl s

theorem accept {i : BitVec 32} (hx : Machine.exec (.accept i) s = .next t) : OutputKept s t := by
  refine of_next hx ?_
  split
  · rename_i hs _
    split
    · exact s.acceptTaken_kept hs
    · exact refl s
  · exact refl s

theorem acceptTimerExpiry (hx : Machine.exec .acceptTimerExpiry s = .next t) : OutputKept s t := by
  refine of_next hx ?_
  split
  · split
    · exact .letGo (.endSheet (.trans (of_same (by simp)) (State.dropAttempt_kept _ _)) _ _ _) _
    · exact refl s
  · exact refl s

theorem bandTimerExpiry (hx : Machine.exec .bandTimerExpiry s = .next t) : OutputKept s t := by
  refine of_next hx ?_
  split
  · rename_i h hs hh
    split
    · rename_i hb
      dsimp only
      split
      · rename_i hlt
        exact s.bandDue_kept h hs hb hh hlt
      · exact .of_link (by simp) fun hl => hl.bandTimerStopped
    · exact refl s
  · exact refl s

theorem graceTimerExpiry (hx : Machine.exec .graceTimerExpiry s = .next t) : OutputKept s t := by
  refine of_next hx ?_
  split
  · split
    · exact s.underrun_kept _
    · exact refl s
  · exact refl s

theorem bandSendDone (hx : Machine.exec .bandSendDone s = .next t) : OutputKept s t := by
  refine of_next hx ?_
  split
  · rename_i b h hb hh
    dsimp only
    split
    · exact refl s
    · change OutputKept s ((s.sendEnded h b _).afterSend h b)
      exact ⟨fun hl => State.afterSend_formed hl hb hh (by simp), fun hw => by simpa using hw,
        fun hc => by simpa using State.sendEnded_log h b _ hc⟩
  · exact refl s

theorem result {i : BitVec 32} {code : PressCode} (hx : Machine.exec (.result i code) s = .next t) : OutputKept s t := by
  have rejects (h : LinkHold) : OutputKept s (s.pressRejects h) := ((s.dropAttempt_kept _).endSheet _ _ _).letGo _
  have spoils (h : LinkHold) (d : Detail) : OutputKept s (s.pressSpoils h d) := ((s.dropAttempt_kept _).spoil _ _).letGo _
  refine of_next hx ?_
  split
  · exact refl s
  · split
    · exact refl s
    · split
      · exact rejects _
      · exact rejects _
      · exact rejects _
      · exact spoils _ _
      · exact spoils _ _
      · exact spoils _ _
      · exact spoils _ _
      · exact s.linkClose_kept.finishSheet _
      · exact refl s

theorem resultTimerExpiry (hx : Machine.exec .resultTimerExpiry s = .next t) : OutputKept s t := by
  refine of_next hx ?_
  split
  · split
    · exact ((s.dropAttempt_kept _).endSheet _ _ _).letGo _
    · exact refl s
  · exact refl s

/-! ### The Proof Writer -/

theorem bandWriteStart (hx : Machine.exec .bandWriteStart s = .next t) : OutputKept s t := by
  refine of_next hx ?_
  split
  · exact refl s
  · rename_i a ha
    split
    · exact .of_writer (by simp) fun h => by
        simpa using (⟨by simp [ha], h.queued, by simp, by simp⟩ : WriterOk { s.writer with state := .writing })
    · exact refl s

theorem bandWriteDone {v : UnitOf} {n : Nat} (hx : Machine.exec (.bandWriteDone v n) s = .next t) : OutputKept s t := by
  refine of_next hx ?_
  split
  · exact of_same (by simp)
  · split
    · exact refl s
    · rename_i a ha
      split
      · exact refl s
      · split
        · split
          · exact .letGo (.spoil (.trans (.trans (s.endAttempt_kept a) (State.endBandWrite_kept _ _))
              (State.writerNext_kept _)) _ _) _
          · exact refl s
        · rename_i hd
          split
          · split
            · exact .letGo (.trans (s.endBandWrite_kept _) (State.writerNext_kept _)) _
            · rename_i he
              exact .trans (s.endBandWrite_kept _) (State.bandWritten_kept _ a (by simpa using ha) (by simpa using he)
                (by simpa using hd))
          · exact refl s

theorem bandWriteFail {v : UnitOf} {rows : List Bool} (hx : Machine.exec (.bandWriteFail v rows) s = .next t) :
    OutputKept s t := by
  refine of_next hx ?_
  split
  · exact of_same (by simp)
  · split
    · exact refl s
    · split
      · exact .letGo (.trans (.trans (.trans (s.endAttempt_kept _) (State.endOrder_kept _ _ _ _))
          (State.endBandWrite_kept _ _)) (State.writerNext_kept _)) _
      · exact refl s

/-! ### Every command -/

/-- Every command keeps the link in agreement with its state, the configuration in range, and the Writer and the check log
in order. -/
theorem exec {c : Instr} (hx : Machine.exec c s = .next t) : OutputKept s t := by
  cases c with
  | powerOn => exact powerOn hx
  | functionReset => exact of_next hx s.engineReset_kept
  | reset => exact of_next hx s.engineReset_kept
  | abandon => exact of_next hx s.writeAbandon_kept
  | checkLogClear => exact of_next hx s.clearLog_kept
  | poisonSelect v => exact of_next hx (s.selectPoison_kept _)
  | registerWrite o n v => exact of_next hx (s.writeRegister_kept o n v)
  | recordReadDone v r => exact recordReadDone hx
  | trailerReadDone v r => exact trailerReadDone hx
  | takenWriteDone v ok => exact takenWriteDone hx
  | resultsWriteDone v ok => exact resultsWriteDone hx
  | doneWriteDone v ok => exact doneWriteDone hx
  | spentWriteDone v ok => exact spentWriteDone hx
  | layoutReadDone v r => exact layoutReadDone hx
  | rosterReadDone v r => exact rosterReadDone hx
  | glyphUnitDone v r => exact glyphUnitDone hx
  | buildStart => exact buildStart hx
  | sourceReadDone v r last => exact sourceReadDone hx
  | buildComplete => exact buildComplete hx
  | sheetEnterComposing => exact sheetEnterComposing hx
  | bandPaintDone => exact bandPaintDone hx
  | correctableError loc rd => exact correctableError hx
  | uncorrectableError loc rd n => exact uncorrectableError hx
  | readyRise => exact readyRise hx
  | readyFall => exact readyFall hx
  | waitTimerExpiry => exact waitTimerExpiry hx
  | accept i => exact accept hx
  | acceptTimerExpiry => exact acceptTimerExpiry hx
  | bandTimerExpiry => exact bandTimerExpiry hx
  | graceTimerExpiry => exact graceTimerExpiry hx
  | bandSendDone => exact bandSendDone hx
  | result i code => exact result hx
  | resultTimerExpiry => exact resultTimerExpiry hx
  | bandWriteStart => exact bandWriteStart hx
  | bandWriteDone v n => exact bandWriteDone hx
  | bandWriteFail v rows => exact bandWriteFail hx
  | _ => exact plain rfl hx

/-- A step runs one command on a state that differs in its queue alone. -/
theorem step (hx : Machine.step s = .next t) : OutputKept s t := by
  unfold Machine.step at hx
  split at hx
  · exact of_next hx (refl s)
  · exact .trans (of_same (by simp)) (exec hx)

end OutputKept

/-- Settles O7: every command keeps the link and the configuration, as it keeps the Writer and the log. -/
theorem stepKeepsLink : Obligations.StepKeepsLink := by
  intro s t hlink hconfig hx
  obtain ⟨hlink', hconfig'⟩ := (OutputKept.step hx).link ⟨hlink, hconfig⟩
  exact ⟨hlink', hconfig'⟩

/-- Settles O8: every command keeps the Writer and the check log, each from its own condition. -/
theorem stepKeepsWriterAndLog : Obligations.StepKeepsWriterAndLog :=
  fun _ _ hwriter hcheck hx => ⟨(OutputKept.step hx).writer hwriter, (OutputKept.step hx).check hcheck⟩

end Sys2Proof.Machine
end

section
/-! The fields that the server writes (R5, R164, R200, R201, R210) and the interrupt request (R210). -/

namespace Sys2Proof.Machine

/-! ## The fields -/

namespace State

theorem writeChainHead_stopped {s : State} (v : Addr) (h : s.control.engine = .stopped) :
    s.writeChainHead v = { s with window := { s.window with chainHead := (v >>> 12) <<< 12 } } := if_pos h

theorem writeChainHead_busy {s : State} (v : Addr) (h : s.control.engine ≠ .stopped) : s.writeChainHead v = s := if_neg h

end State

/-- The low twelve bits of an address cleared by the two shifts read 0, and the others stay (R5). -/
theorem alignedAddr_bits (v : Addr) : ((v >>> 12) <<< 12).extractLsb' 0 12 = 0#12 ∧
    ((v >>> 12) <<< 12).extractLsb' 12 52 = v.extractLsb' 12 52 := by
  constructor
  · ext i hi
    simp [hi]
  · ext i hi
    simp
    omega

/-! ## The interrupt request -/

/-- Every flag of EVENTS is that of an event (R203). -/
theorem Event.exists_bit {i : Nat} (h : i < 9) : ∃ e : Event, e.bit = i := by
  have hall : ∀ j : Fin 9, ∃ e ∈ [Event.doneNote, .chainIdle, .sheetSpoiled, .pressStalled, .holdSettled, .integrity,
    .storeLost, .chainFault, .scrubDone], e.bit = j.val := by decide
  obtain ⟨e, -, he⟩ := hall ⟨i, h⟩
  exact ⟨e, he⟩

/-- The request is asserted exactly while a flag is set together with its enable (R210). -/
theorem State.interrupt_iff (s : State) :
    s.interrupt = true ↔ ∃ e : Event, s.hasEvent e = true ∧ s.window.enables.getLsbD e.bit = true := by
  rw [interrupt, bne_iff_ne]
  constructor
  · intro hne
    by_contra hno
    refine hne (BitVec.eq_of_getLsbD_eq fun i hi => ?_)
    obtain ⟨e, rfl⟩ := Event.exists_bit hi
    have hoff := not_and.1 (not_exists.1 hno e)
    rw [hasEvent] at hoff
    rw [BitVec.getLsbD_and, BitVec.getLsbD_zero]
    cases hev : s.window.events.getLsbD e.bit with
    | false => rfl
    | true => simpa using hoff hev
  · rintro ⟨e, hev, hen⟩ hz
    have hbit := congrArg (·.getLsbD e.bit) hz
    simp only [BitVec.getLsbD_and, BitVec.getLsbD_zero] at hbit
    rw [hasEvent] at hev
    simp [hev, hen] at hbit

/-- Settles O18: each write is the state with its field replaced. -/
theorem fieldWrites : Obligations.FieldWrites := by
  refine ⟨fun s => ⟨rfl, rfl, rfl, rfl⟩, fun s v h => ⟨_, congrArg _ (s.writeChainHead_stopped v h), alignedAddr_bits v⟩,
    fun s v h => congrArg _ (s.writeChainHead_busy v h), fun s v => ⟨_, rfl, fun i _ => BitVec.getLsbD_and⟩, fun s v => rfl,
    State.interrupt_iff, fun s => rfl, fun s => ⟨rfl, rfl, rfl, rfl⟩⟩

end Sys2Proof.Machine
end

section
/-! The level of READY and the wait timer (R148, R150, R151, R165). -/

namespace Sys2Proof.Machine

section
variable {s : State} {h : LinkHold}

theorem State.tell_live (hm : h.mode = .live) (m : PressMessage) : s.tell h m = s.tellPress m := by
  simp [State.tell, hm]

/-- The state with READY high and the wait timer stopped (R151). -/
def State.readyRisen (s : State) : State := s.setLink { s.link with ready := true, waitTimer := none }

/-- A rise in AWAIT_READY under LIVE stops the wait timer and opens the sheet when band 0 is FULL (R150, R151). -/
theorem exec_readyRise (hs : s.link.state = .awaitReady) (hh : s.link.held = some h) (hm : h.mode ≠ .loop)
    (hr : s.link.ready = false) : exec .readyRise s = .next s.readyRisen.openWhenReady := by
  refine congrArg Host.Outcome.next ?_
  simp [hs, hh, hm, hr, State.readyRisen, State.setLink]

theorem exec_readyFall (hs : s.link.state = .awaitReady) (hh : s.link.held = some h) (hm : h.mode ≠ .loop)
    (hr : s.link.ready = true) : exec .readyFall s = .next (s.setLink { s.link with
      ready := false, waitTimer := some (1000 * s.link.config.waitLimit) }) := by
  refine congrArg Host.Outcome.next ?_
  simp [hs, hh, hm, hr]
  rfl

/-- In another state, and under LOOP, only the level is kept (R150, R165). -/
theorem exec_ready_elsewhere (hl : s.link.state ≠ .awaitReady ∨ s.link.held.map (·.mode) = some .loop) :
    exec .readyRise s = .next (s.setLink { s.link with ready := true }) ∧
    exec .readyFall s = .next (s.setLink { s.link with ready := false }) := by
  constructor <;> refine congrArg Host.Outcome.next ?_ <;> dsimp only <;> split
  · rename_i h hs hh
    exact if_neg fun hc => hl.elim (fun hn => hn hs) fun hm => hc.2 (by simpa [hh] using hm)
  · rfl
  · rename_i h hs hh
    exact if_neg fun hc => hl.elim (fun hn => hn hs) fun hm => hc.2 (by simpa [hh] using hm)
  · rfl

end

/-- Settles O50: by the state of the link, and in AWAIT_READY by band 0. -/
theorem readyLevel : Obligations.ReadyLevel := by
  refine ⟨fun s h hs hh hm hr => ⟨fun hf => ?_, fun hf => ?_⟩, fun s h hs hh hm hr => ?_, fun s hl => exec_ready_elsewhere hl,
    fun s hs hw => ?_, fun s hl => ?_⟩
  · have hopen := State.openWhenReady_opens (s := s.readyRisen) hh hs hf
      (by simp [Link.readyHigh, State.readyRisen])
    rw [exec_readyRise hs hh (by simp [hm]) hr, hopen, State.sendOpen_live hm, State.tell_live hm]
    rfl
  · rw [exec_readyRise hs hh (by simp [hm]) hr, State.openWhenReady_stays (s := s.readyRisen) hh hf]
    rfl
  · exact exec_readyFall hs hh (by simp [hm]) hr
  · exact congrArg Host.Outcome.next (if_pos ⟨hs, hw⟩)
  · exact congrArg Host.Outcome.next (if_neg fun hc => hl.elim (fun hn => hn hc.1) hc.2)

end Sys2Proof.Machine
end

section
/-! Streaming: ACCEPT, and the next band when it is due (R148, R152 to R156, R165). -/

namespace Sys2Proof.Machine

/-! ## ACCEPT (R148, R152) -/

section
variable {s : State} {h : LinkHold}

theorem exec_accept (hs : s.link.state = .opening) (hh : s.link.held = some h) (hm : h.mode ≠ .loop)
    (ha : s.link.abortPending = false) : exec (.accept h.sheetId) s = .next s.acceptTaken := by
  refine congrArg Host.Outcome.next ?_
  simp [hs, hh, State.takesMessage, hm, ha]

theorem exec_accept_discarded {id : BitVec 32}
    (hd : s.link.state ≠ .opening ∨ ∀ h, s.link.held = some h → h.sheetId ≠ id ∨ h.mode = .loop) :
    exec (.accept id) s = .next s := by
  refine congrArg Host.Outcome.next ?_
  split
  · rename_i h hs hh
    refine if_neg fun ht => ?_
    rcases hd with hd | hd
    · exact hd hs
    · rcases hd h hh with hn | hn <;> simp [State.takesMessage, hn] at ht
  · rfl

/-- A send that starts leaves the other buffer as it is (R153). -/
theorem State.startSend_buffers (s : State) :
    s.startSend.composer.buf (bufferFor s.link.nextBand) =
      { s.composer.buf (bufferFor s.link.nextBand) with state := .sending } ∧
    s.startSend.composer.buf (bufferFor (s.link.nextBand + 1)) = s.composer.buf (bufferFor (s.link.nextBand + 1)) := by
  rw [startSend_composer, mapBuf_buf, mapBuf_buf, if_pos rfl, if_neg (bufferFor_succ_ne _)]
  exact ⟨rfl, rfl⟩

/-! ## The band timer (R154, R155) -/

/-- The state with the band timer stopped at its expiry (R154). -/
def State.bandTimerRun (s : State) : State := s.setLink { s.link with bandTimer := none }

theorem exec_bandTimerExpiry (hs : s.link.state = .streaming) (hh : s.link.held = some h) (hb : s.link.bandTimer ≠ none) :
    exec .bandTimerExpiry s =
      .next (if s.link.nextBand < h.bands then s.bandTimerRun.bandDue h else s.bandTimerRun) := by
  refine congrArg Host.Outcome.next ?_
  simp [hs, hh, hb, State.bandTimerRun]

theorem exec_bandTimerExpiry_none (hn : s.link.state ≠ .streaming ∨ s.link.bandTimer = none) :
    exec .bandTimerExpiry s = .next s := by
  refine congrArg Host.Outcome.next ?_
  split
  · rename_i hs _
    exact if_neg fun hb => hn.elim (fun hn => hn hs) hb
  · rfl

theorem State.bandDue_sends (hf : s.bandFull h.attempt s.link.nextBand = true) (hn : s.link.sending = none) :
    s.bandDue h = s.startSend := by
  simp [bandDue, hf, hn]

theorem State.bandDue_delays (hf : s.bandFull h.attempt s.link.nextBand = true) (hn : s.link.sending ≠ none) :
    s.bandDue h = s.setLink { s.link with due := true } := by
  simp [bandDue, hf, hn]

theorem State.bandDue_waits (hf : s.bandFull h.attempt s.link.nextBand = false) (hg : 0 < s.link.config.grace) :
    s.bandDue h = s.setLink { s.link with graceTimer := some s.link.config.grace } := by
  simp [bandDue, hf, Nat.ne_of_gt hg]

theorem State.bandDue_underruns (hf : s.bandFull h.attempt s.link.nextBand = false) (hg : s.link.config.grace = 0) :
    s.bandDue h = (s.setLink { s.link with graceTimer := some 0 }).underrun h := by
  simp [bandDue, hf, hg]

/-- A grace of 0 ends the attempt at once: it is spoiled, and ends at the link, at the buffers and at the Writer (R155,
R156). -/
theorem State.bandTimerRun_underruns {sh : Sheet} {k : Ticket} (hh : s.link.held = some h) (hin : InHand s h.attempt sh k) :
    let t := (s.bandTimerRun.setLink { s.bandTimerRun.link with graceTimer := some 0 }).underrun h
    Spoiled s t h.attempt sh k .underrun ∧ LinkStopped s t h ∧ BuffersEnded s t h.attempt none ∧
      WriterStopped s t h.attempt := by
  let u := s.setLink { s.link with bandTimer := none, graceTimer := none }
  obtain ⟨hspoil, -, hbuf, hwriter, hlink, hout⟩ := u.spoilAttempt_spec h.attempt sh k .underrun (hin.congr rfl)
  have hstop := (u.endAttempt_linkStopped h hh).congr rfl rfl hlink hout
  exact ⟨hspoil.congr rfl rfl rfl rfl (Nat.le_refl _), ⟨hstop.silent, hstop.aborted, hstop.sending⟩, hbuf.congr rfl rfl,
    hwriter.congr rfl rfl⟩

end

/-- Settles O51: ACCEPT and a FULL band start a send; a band that is not FULL is waited for, or the sheet underruns. -/
theorem streamingGoesOn : Obligations.StreamingGoesOn := by
  refine ⟨fun s h hs hh hm ha => ?_, fun s id hd => exec_accept_discarded hd, fun s h hs hh hb => ?_,
    fun s hn => exec_bandTimerExpiry_none hn⟩
  · obtain ⟨hsent, hother⟩ := (s.setLink { s.link with state := .streaming, acceptTimer := none }).startSend_buffers
    exact ⟨_, exec_accept hs hh hm ha, State.startSend_link _, hsent, hother, rfl, rfl, rfl, rfl⟩
  · rw [exec_bandTimerExpiry hs hh hb]
    refine ⟨fun hlast => ?_, fun hlt hf hn => ?_, fun hlt hf hn => ?_, fun hlt hf hg => ?_, fun hlt hf hg sh k hin => ?_⟩
    · rw [if_neg (Nat.not_lt.2 hlast)]
      rfl
    · rw [if_pos hlt, State.bandDue_sends (s := s.bandTimerRun) hf hn]
      exact ⟨_, rfl, State.startSend_link _, congrArg Buffer.state s.bandTimerRun.startSend_buffers.1, rfl, rfl⟩
    · rw [if_pos hlt, State.bandDue_delays (s := s.bandTimerRun) hf hn]
      rfl
    · rw [if_pos hlt, State.bandDue_waits (s := s.bandTimerRun) hf hg]
      rfl
    · rw [if_pos hlt, State.bandDue_underruns (s := s.bandTimerRun) hf hg]
      exact ⟨_, rfl, State.bandTimerRun_underruns hh hin⟩

end Sys2Proof.Machine
end

section
/-! ABANDON written 1: the state in which the abandon begins, the units that its ends leave at the port, and the paths of the
slots from the write to the state that it leaves (R161, R185 to R187, R207). -/

namespace Sys2Proof.Machine

/-! ## Units left at the port (R67, R107) -/

namespace State

theorem cutCurrent_discarded (s : State) : s.port.discarded ⊆ s.cutCurrent.port.discarded := by
  unfold cutCurrent
  split
  · exact List.Subset.refl _
  · dsimp only
    split
    · exact List.Subset.refl _
    · exact List.subset_append_left _ _

theorem releaseSheet_discarded (s : State) (sl : SheetSlot) : s.port.discarded ⊆ (s.releaseSheet sl).port.discarded := by
  simp only [releaseSheet, mapSheet_frame, setStore_port, setBuilder_port]
  split
  · split
    · exact s.cutCurrent_discarded
    · exact List.Subset.refl _
  · exact List.Subset.refl _

theorem endSheet_discarded (s : State) (sl : SheetSlot) (o : OrderOutcome) (d : Detail) :
    s.port.discarded ⊆ (s.endSheet sl o d).port.discarded := by
  unfold endSheet
  split
  · simpa using (s.mapSheet sl fun sh => { sh with ending := some (o, d), state := .finished }).releaseSheet_discarded sl
  · exact List.Subset.refl _

theorem abandonSheet_discarded (s : State) (sl : SheetSlot) : s.port.discarded ⊆ (s.abandonSheet sl).port.discarded := by
  have ends {u : State} (hu : u.port = s.port) (d : Detail) :
      s.port.discarded ⊆ (u.endSheet sl .abandoned d).port.discarded := hu ▸ u.endSheet_discarded sl .abandoned d
  unfold abandonSheet
  split
  · exact List.Subset.refl _
  · split
    · exact List.Subset.refl _
    · split
      · exact ends (by simp) _
      · exact ends rfl _
      · exact ends rfl _
      · exact ends (by simp) _
      · exact ends (by simp) _
      · simp

theorem letGo_port (s : State) (sl : SheetSlot) (he : SlotHasEnding s sl) : (s.letGo sl).port = s.port := by
  rcases s.letGo_cases sl he with h | h <;> simp [h]

/-- A planning read in flight goes on at the port with its content discarded (R67). -/
theorem stopPlanner_discarded (s : State) (j : PlanJob) (hj : s.planner.job = some j) (hf : j.inFlight = true) :
    j.stage.discarded ∈ s.stopPlanner.port.discarded := by
  simp [stopPlanner, hj, hf, discardUnit]

/-- No end of an abandon takes the planning read from the port again. -/
theorem abandonOrders_discarded (s : State) (j : PlanJob) (hj : s.planner.job = some j) (hf : j.inFlight = true) :
    j.stage.discarded ∈ s.abandonOrders.port.discarded := by
  rw [abandonOrders_eq, letGo_port _ .b s.letGoA_hasEnding, letGo_port _ .a (s.abandonBarrier_hasEnding .a),
    show s.sheetsAbandoned.abandonBarrier.port = s.sheetsAbandoned.port by simp]
  exact abandonSheet_discarded _ .b (abandonSheet_discarded _ .a (s.stopPlanner_discarded j hj hf))

/-! ## The Composer's attempt (R144) -/

/-- The end of a sheet leaves the Composer an attempt that it had, and none in hand of that sheet. -/
theorem abandonSheet_composerAttempt (s : State) (sl : SheetSlot) (z : Attempt)
    (h : (s.abandonSheet sl).composer.attempt = some z) :
    s.composer.attempt = some z ∧ (z.slot = sl → ¬ AttemptInHand s z) := by
  rcases (s.abandonSheet_attempt sl).1 with ⟨a, -, -, only, hc, -⟩ | ⟨absent, hc, -⟩
  · rw [hc, endAttempt_attempt] at h
    split at h
    · cases h
    · rename_i hne
      exact ⟨h, fun hz hi => hne (only z hz hi ▸ h)⟩
  · exact ⟨hc ▸ h, absent z⟩

/-- The Composer works on no attempt that an abandon ends. -/
theorem abandonOrders_composerAttempt (s : State) (z : Attempt) (hz : AttemptInHand s z) :
    s.abandonOrders.composer.attempt ≠ some z := by
  intro h
  have hb : s.sheetsAbandoned.composer.attempt = some z := by simpa [abandonOrders_eq] using h
  obtain ⟨ha, noneB⟩ := (s.stopPlanner.abandonSheet .a).abandonSheet_composerAttempt .b z hb
  obtain ⟨-, noneA⟩ := s.stopPlanner.abandonSheet_composerAttempt .a z ha
  have hp : AttemptInHand s.stopPlanner z := by
    simpa only [AttemptInHand, InHandOf, sheet_of_control (s := s) (t := s.stopPlanner) (by simp)] using hz
  cases hs : z.slot with
  | a => exact noneA hs hp
  | b => exact noneB hs (((s.stopPlanner.abandonSheet_attempt .a).2 z hs).2 hp)

end State

/-! ## What a slot's path and a load's end speak of -/

theorem LeavesSlot.of_slot {sl : SheetSlot} {s t : State} (hs : t.sheet sl = s.sheet sl)
    (hq : t.control.queue = s.control.queue) (hl : t.link = s.link) (ho : t.out = s.out) (hw : t.writer = s.writer) :
    LeavesSlot sl s t where
  sheet := .inl hs
  entries := .of_eq hq
  link := .inl ⟨hl, by rw [ho]⟩
  writer := (State.writerServes_of_writer hw sl).trans

/-- A path goes on from an earlier state, and to a later one, over moves that leave its slot alone. -/
theorem AbandonPath.widen {sl : SheetSlot} {s s' s1 s3 t t' : State} (h : AbandonPath sl s s1 s3 t)
    (hs : LeavesSlot sl s' s) (ht : LeavesSlot sl t t') (hl : t'.link = t.link) (ho : t'.out = t.out)
    (hw : t'.writer = t.writer) : AbandonPath sl s' s1 s3 t' where
  before := hs.trans h.before
  between := h.between
  after := h.after.trans ht
  link := ⟨hl.trans h.link.1, by rw [ho, h.link.2]⟩
  writer := hw.trans h.writer

/-- The end of a running load speaks of the barrier, the retire queue, the profiles and the glyph sets alone. -/
theorem BarrierAbandoned.congr {s s' t t' : State} (h : BarrierAbandoned s t) (hb : s'.control.barrier = s.control.barrier)
    (hq : s'.control.queue = s.control.queue) (hp : s'.profiles = s.profiles) (hg : s'.glyphs = s.glyphs)
    (hb' : t'.control.barrier = t.control.barrier) (hq' : t'.control.queue = t.control.queue)
    (hp' : t'.profiles = t.profiles) (hg' : t'.glyphs = t.glyphs) : BarrierAbandoned s' t' := by
  constructor <;> simp only [hb, hq, hp, hg, hb', hq', hp', hg']
  exacts [h.none, h.profileWaits, h.glyphsWait, h.entry, h.profileReads, h.glyphsRead]

/-! ## The write (R186, R207) -/

namespace State

/-- The state of an abandon before its ends: RUN reads 0, the engine is DRAINING with ABANDON reading 1, and the walker begins
to drain (R20, R186). -/
def abandonBegun (s : State) : State :=
  ((s.setControl { s.control with engine := .draining }).setWindow { s.window with run := false, abandon := true }).drainWalker

/-- ABANDON written 1 in RUNNING, and in DRAINING while it reads 0. -/
theorem writeAbandon_acts (s : State)
    (h : s.control.engine = .running ∨ (s.control.engine = .draining ∧ s.window.abandon = false)) :
    s.writeAbandon = s.abandonBegun.abandonOrders.stopIfDrained := by
  rcases h with h | ⟨h, ha⟩
  · simp [writeAbandon, abandonActs, h]
    rfl
  · simp [writeAbandon, abandonActs, h, ha]
    rfl

theorem writeAbandon_stopped (s : State) (h : s.control.engine = .stopped) :
    s.writeAbandon = s.setWindow { s.window with run := false } := by
  simp [writeAbandon, abandonActs, h]

theorem writeAbandon_ignored (s : State) (h : s.control.engine = .scrubbing ∨ s.control.engine = .faulted ∨
    (s.control.engine = .draining ∧ s.window.abandon = true)) : s.writeAbandon = s := by
  refine if_neg ?_
  rcases h with h | h | ⟨h, ha⟩
  · simp [abandonActs, h]
  · simp [abandonActs, h]
  · simp [abandonActs, h, ha]

theorem abandonBegun_sheet (s : State) (sl : SheetSlot) : s.abandonBegun.sheet sl = s.sheet sl := by
  cases sl <;> rfl

theorem stopIfDrained_sheet (s : State) (sl : SheetSlot) : s.stopIfDrained.sheet sl = s.sheet sl := by
  cases sl <;> simp [sheet]

/-- Each slot's path from the write to the state that it leaves. -/
theorem abandonBegun_path (s : State) (sl : SheetSlot) :
    ∃ s1 s3, AbandonPath sl s s1 s3 s.abandonBegun.abandonOrders.stopIfDrained := by
  obtain ⟨s1, s3, h⟩ := s.abandonBegun.abandonOrders_path sl
  exact ⟨s1, s3, h.widen (.of_slot (s.abandonBegun_sheet sl) rfl rfl rfl rfl)
    (.of_slot (stopIfDrained_sheet _ sl) (by simp) (by simp) (by simp) (by simp)) (by simp) (by simp) (by simp)⟩

/-- The engine drains with ABANDON reading 1, or it has drained already and is STOPPED with it reading 0 (R185, R187). -/
theorem abandonBegun_engine (s t : State) (ht : t = s.abandonBegun.abandonOrders.stopIfDrained) :
    (t.control.engine = .draining ∧ t.window.abandon = true) ∨
      (t.control.engine = .stopped ∧ t.window.abandon = false ∧ t.control.queue = []) := by
  have hw : s.abandonBegun.window = { s.window with run := false, abandon := true } := rfl
  by_cases hd : s.abandonBegun.abandonOrders.drained = true
  · obtain ⟨-, hq, -⟩ := (drained_iff _).1 hd
    rw [ht, stopIfDrained_stops _ hd (by simp [hw])]
    exact .inr ⟨rfl, rfl, hq⟩
  · rw [ht, stopIfDrained_stays _ hd]
    exact .inl ⟨by simp [abandonBegun], by simp [hw]⟩

theorem attemptInHand_of {s : State} {sl : SheetSlot} {sh : Sheet} (h : s.sheet sl = some sh)
    (hs : sh.state = .composing ∨ sh.state = .closing) (he : sh.ending = none) :
    AttemptInHand s ⟨sl, sh.attempt⟩ := ⟨sh, ⟨h, hs, he⟩, rfl⟩

end State

theorem exec_abandon (s : State) : exec .abandon s = .next s.writeAbandon := rfl

/-- Settles O16: the slots and the link by their paths through the abandon's ends, the rest block by block; in the other
states of the engine the write has no end to give. -/
theorem abandonWritten : Obligations.AbandonWritten := by
  refine ⟨fun s he => ?_, fun s he => ?_, fun s he => ?_⟩
  · have path := s.abandonBegun_path
    have engine := s.abandonBegun_engine _ rfl
    have inHand (a : Attempt) : AttemptInHand s.abandonBegun a ↔ AttemptInHand s a := by
      simp only [AttemptInHand, InHandOf, State.abandonBegun_sheet]
    rw [exec_abandon, s.writeAbandon_acts he]
    refine ⟨_, rfl, ?run, ?window, ?planner, ?read, ?sheets, ?ended, ?keeps, ?link, ?linkIdle, ?composer, ?attempts, ?load,
      engine, ?regs⟩
    case run => simp [State.abandonBegun]
    case window => simp [State.abandonBegun, State.drainWalker]
    case planner => simpa using s.abandonBegun.abandonOrders_planner
    case read =>
      intro j hj hf
      simpa using s.abandonBegun.abandonOrders_discarded j hj hf
    case sheets =>
      intro sl
      obtain ⟨s1, s3, hpath⟩ := path sl
      exact hpath.hasEnding
    case ended =>
      intro sl sh hsh hen
      obtain ⟨s1, s3, hpath⟩ := path sl
      exact hpath.ends sh hsh hen
    case keeps =>
      intro sl sh o d hsh hs hen
      obtain ⟨s1, s3, hpath⟩ := path sl
      exact hpath.keeps sh o d hsh hs hen
    case link =>
      intro h sh hk hsh hn hs hen
      obtain ⟨s1, s3, hpath⟩ := path h.attempt.slot
      exact hpath.linkStopped h sh hk rfl hsh hn hs hen
    case linkIdle =>
      intro hk
      obtain ⟨s1, s3, hpath⟩ := path .a
      exact hpath.linkIdle hk
    case composer =>
      intro sl sh hsh hs hen
      simpa using s.abandonBegun.abandonOrders_composerAttempt _ ((inHand _).2 (State.attemptInHand_of hsh hs hen))
    case attempts =>
      exact s.abandonBegun.abandonOrders_attempts.congr rfl rfl (fun a => (inHand a).symm) (by simp) (by simp)
    case load =>
      exact s.abandonBegun.abandonOrders_barrier.congr rfl rfl rfl rfl (by simp) (by simp) (by simp) (by simp)
    case regs => simp [State.abandonBegun]
  · exact congrArg Host.Outcome.next (s.writeAbandon_stopped he)
  · exact congrArg Host.Outcome.next (s.writeAbandon_ignored he)

end Sys2Proof.Machine
end

section
/-! How many entries the retire queue holds (R181): outside takes and retirement every move of the part changes entries in
their place. -/

namespace Sys2Proof.Machine

namespace State

/-! ### Orders and slots -/

@[simp] theorem mapQueue_length (s : State) (f : QueueEntry → QueueEntry) :
    (s.mapQueue f).control.queue.length = s.control.queue.length := List.length_map f

@[simp] theorem mapResults_length (s : State) (sl : SheetSlot) (f : Results → Results) :
    (s.mapResults sl f).control.queue.length = s.control.queue.length := s.mapQueue_length _

@[simp] theorem addCounts_length (s : State) (sl : SheetSlot) (c : Counts) :
    (s.addCounts sl c).control.queue.length = s.control.queue.length := s.mapResults_length sl _

@[simp] theorem freeSlot_length (s : State) (sl : SheetSlot) :
    (s.freeSlot sl).control.queue.length = s.control.queue.length := (s.freeSlot_entries sl).length

@[simp] theorem freeIfEnded_length (s : State) (sl : SheetSlot) :
    (s.freeIfEnded sl).control.queue.length = s.control.queue.length := by
  unfold freeIfEnded
  split
  · simp
  · rfl

@[simp] theorem endSheet_length (s : State) (sl : SheetSlot) (o : OrderOutcome) (d : Detail) :
    (s.endSheet sl o d).control.queue.length = s.control.queue.length := (s.endSheet_entries sl o d).length

@[simp] theorem endOrder_length (s : State) (sl : SheetSlot) (o : OrderOutcome) (d : Detail) :
    (s.endOrder sl o d).control.queue.length = s.control.queue.length := by
  unfold endOrder
  split
  · rfl
  · split <;> simp

@[simp] theorem queueBarrierEnded_length (q : List QueueEntry) (r : Results) :
    (queueBarrierEnded q r).length = q.length := List.length_map _

/-! ### Planning -/

@[simp] theorem planningEnds_length (s : State) (sl : SheetSlot) (o : OrderOutcome) (d : Detail) :
    (s.planningEnds sl o d).control.queue.length = s.control.queue.length := by simp [planningEnds]

@[simp] theorem placeFromRecord_length (s : State) (sl : SheetSlot) (c : CellSeed) (bs : List Byte) :
    (s.placeFromRecord sl c bs).control.queue.length = s.control.queue.length := by
  unfold placeFromRecord
  dsimp only
  split
  · simp
  · split <;> simp

@[simp] theorem planComplete_length (s : State) : s.planComplete.control.queue.length = s.control.queue.length := by
  unfold planComplete
  split
  · rfl
  · simp

@[simp] theorem runPass_length (s : State) (steps : List PlaceStep) :
    (s.runPass steps).control.queue.length = s.control.queue.length := by
  induction steps generalizing s with
  | nil => exact s.planComplete_length
  | cons p rest ih =>
    unfold runPass
    split
    · rfl
    · rename_i j _
      split
      · rfl
      · rename_i sh _
        split
        · rfl
        · rename_i k _
          have hstep : ((s.mapJob fun _ => { j with steps := rest }).placeStep j.slot sh k { j with steps := rest }
              p).1.control.queue = s.control.queue := by simp
          dsimp only
          split <;> rename_i u hu <;> rw [hu] at hstep
          · rw [ih, hstep]
          · rw [hstep]

@[simp] theorem resumePass_length (s : State) : s.resumePass.control.queue.length = s.control.queue.length :=
  s.runPass_length _

@[simp] theorem beginPass_length (s : State) (sl : SheetSlot) (n : Nat) (steps : List PlaceStep) (g : List (Nat × Nat)) :
    (s.beginPass sl n steps g).control.queue.length = s.control.queue.length := by simp [beginPass]

@[simp] theorem beginPlanning_length (s : State) (sl : SheetSlot) :
    (s.beginPlanning sl).control.queue.length = s.control.queue.length := by
  unfold beginPlanning
  split
  · rfl
  · split
    · rfl
    · split <;> simp

@[simp] theorem enterPlanning_length (s : State) (sl : SheetSlot) :
    (s.enterPlanning sl).control.queue.length = s.control.queue.length := by
  unfold enterPlanning
  split
  · simp
  · rfl

@[simp] theorem takeWaiting_length (s : State) : s.takeWaiting.control.queue.length = s.control.queue.length := by
  unfold takeWaiting
  split
  · simp
  · rfl

@[simp] theorem planReadFails_length (s : State) (sl : SheetSlot) :
    (s.planReadFails sl).control.queue.length = s.control.queue.length := by simp [planReadFails]

@[simp] theorem takeTicket_length (s : State) (sl : SheetSlot) (k : Ticket) :
    (s.takeTicket sl k).control.queue.length = s.control.queue.length := by
  unfold takeTicket
  dsimp only
  split
  · simp
  · split <;> simp

@[simp] theorem layoutRead_length (s : State) (j : PlanJob) (k : Ticket) (es : List LayoutEntry) (d c : Nat) :
    (s.layoutRead j k es d c).control.queue.length = s.control.queue.length := by
  unfold layoutRead
  dsimp only
  split
  · simp
  · split <;> simp

/-! ### Slots let go, made and spoiled -/

@[simp] theorem letGo_length (s : State) (sl : SheetSlot) :
    (s.letGo sl).control.queue.length = s.control.queue.length := by
  unfold letGo
  split
  · rfl
  · split
    · split
      · simp
      · split <;> simp
    · rfl

@[simp] theorem finishSheet_length (s : State) (sl : SheetSlot) :
    (s.finishSheet sl).control.queue.length = s.control.queue.length := by
  unfold finishSheet
  split
  · rfl
  · simp

@[simp] theorem deliverFit_length (s : State) (sl : SheetSlot) (ref : TileRef) (f : FitRecord) :
    (s.deliverFit sl ref f).control.queue.length = s.control.queue.length := (s.deliverFit_entries sl ref f).length

@[simp] theorem replaceRef_length (s : State) (sl : SheetSlot) (i : Fin 128) (w : Way) :
    (s.replaceRef sl i w).control.queue.length = s.control.queue.length := (s.replaceRef_entries sl i w).length

/-- Moves made for each item of a list, each of which leaves the queue as long as it was. -/
theorem foldl_length {α : Type} (f : State → α → State)
    (hf : ∀ u x, (f u x).control.queue.length = u.control.queue.length) (xs : List α) (s : State) :
    (xs.foldl f s).control.queue.length = s.control.queue.length := by
  induction xs generalizing s with
  | nil => rfl
  | cons x rest ih => exact (ih _).trans (hf s x)

@[simp] theorem condemn_length (s : State) (i : Fin 128) (w : Way) :
    (s.condemn i w).control.queue.length = s.control.queue.length := by
  unfold condemn
  split
  · rfl
  · dsimp only
    rw [foldl_length _ fun u x => ?_]
    · simp
    · split
      · simp
      · rfl

@[simp] theorem renewRefs_length (s : State) (sl : SheetSlot) :
    (s.renewRefs sl).control.queue.length = s.control.queue.length := by
  unfold renewRefs
  split
  · rfl
  · refine foldl_length _ (fun u x => ?_) _ s
    unfold renewRef
    split <;> split <;> simp

@[simp] theorem secondPass_length (s : State) (sl : SheetSlot) :
    (s.secondPass sl).control.queue.length = s.control.queue.length := by simp [secondPass]

@[simp] theorem spoil_length (s : State) (a : Attempt) (d : Detail) :
    (s.spoil a d).control.queue.length = s.control.queue.length := by
  unfold spoil
  split
  · dsimp only
    split <;> simp
  · rfl

@[simp] theorem spoilAttempt_length (s : State) (a : Attempt) (d : Detail) :
    (s.spoilAttempt a d).control.queue.length = s.control.queue.length := by simp [spoilAttempt]

/-! ### Abandon and chain faults -/

/-- A chain fault leaves the orders in the queue (R24, R188). -/
@[simp] theorem engineFaults_length (s : State) (c : FaultCause) (a : Addr) :
    (s.engineFaults c a).control.queue.length = s.control.queue.length := by
  unfold engineFaults
  split
  · simp [abandonOrders_length]
  · rfl

/-! ### Loads and builds -/

@[simp] theorem loadProfile_length (s : State) (n : Fin 16) (p : Profile) (ms : BitVec 5) :
    (s.loadProfile n p ms).control.queue.length = s.control.queue.length := by simp [loadProfile]

@[simp] theorem loadGlyphs_length (s : State) (l : GlyphLoad) (gs : List Glyph) :
    (s.loadGlyphs l gs).control.queue.length = s.control.queue.length := by simp [loadGlyphs]

@[simp] theorem receiveGlyphUnit_length (s : State) (l : GlyphLoad) (bs : List Byte) :
    (s.receiveGlyphUnit l bs).control.queue.length = s.control.queue.length := by
  have taken (p : Prop) [Decidable p] (c : Check) : (if p then s.setCheck c else s).control = s.control := by
    split <;> simp
  unfold receiveGlyphUnit
  dsimp only
  split <;> simp [taken]

@[simp] theorem finishBuild_length (s : State) (e : BuildEntry) (f : FitRecord) (tile : List Byte) (p : Bool) :
    (s.finishBuild e f tile p).control.queue.length = s.control.queue.length := by
  unfold finishBuild
  dsimp only
  rw [foldl_length _ fun u x => by simp]
  split <;> simp

@[simp] theorem failCells_length (s : State) (sl : SheetSlot) (ref : TileRef) :
    (s.failCells sl ref).control.queue.length = s.control.queue.length := by
  unfold failCells
  split
  · rfl
  · simp

@[simp] theorem failBuild_length (s : State) (e : BuildEntry) :
    (s.failBuild e).control.queue.length = s.control.queue.length := by
  unfold failBuild
  dsimp only
  rw [foldl_length _ fun u x => by simp]
  split <;> simp

/-! ### Composing and the link -/

@[simp] theorem fitSheet_length (s : State) (sl : SheetSlot) :
    (s.fitSheet sl).control.queue.length = s.control.queue.length := by
  unfold fitSheet
  split
  · rfl
  · simp

@[simp] theorem offerPress_length (s : State) (a : Attempt) (k : Ticket) :
    (s.offerPress a k).control.queue.length = s.control.queue.length := by
  unfold offerPress
  split <;> simp

@[simp] theorem enterComposing_length (s : State) (sl : SheetSlot) (k : Ticket) :
    (s.enterComposing sl k).control.queue.length = s.control.queue.length := by
  unfold enterComposing
  dsimp only
  split <;> simp

@[simp] theorem linkBandFull_length (s : State) (a : Attempt) (b : Nat) :
    (s.linkBandFull a b).control.queue.length = s.control.queue.length := by
  unfold linkBandFull
  split
  · rfl
  · split
    · rfl
    · split
      · simp
      · split
        · dsimp only
          split <;> simp
        · rfl

@[simp] theorem bandPainted_length (s : State) (a : Attempt) (k : Ticket) (bs : List Byte) :
    (s.bandPainted a k bs).control.queue.length = s.control.queue.length := by
  unfold bandPainted
  dsimp only
  split <;> simp

@[simp] theorem underrun_length (s : State) (h : LinkHold) :
    (s.underrun h).control.queue.length = s.control.queue.length := by simp [underrun]

@[simp] theorem bandDue_length (s : State) (h : LinkHold) :
    (s.bandDue h).control.queue.length = s.control.queue.length := by
  unfold bandDue
  split
  · split <;> simp
  · dsimp only
    split <;> simp

@[simp] theorem printed_length (s : State) (h : LinkHold) :
    (s.printed h).control.queue.length = s.control.queue.length := by simp [printed]

@[simp] theorem afterSend_length (s : State) (h : LinkHold) (b : Nat) :
    (s.afterSend h b).control.queue.length = s.control.queue.length := by
  unfold afterSend
  split
  · simp
  · split
    · unfold sendClose
      dsimp only
      split <;> simp
    · split <;> simp

@[simp] theorem pressRejects_length (s : State) (h : LinkHold) :
    (s.pressRejects h).control.queue.length = s.control.queue.length := by simp [pressRejects]

@[simp] theorem pressSpoils_length (s : State) (h : LinkHold) (d : Detail) :
    (s.pressSpoils h d).control.queue.length = s.control.queue.length := by simp [pressSpoils]

@[simp] theorem bandWritten_length (s : State) (a : Attempt) :
    (s.bandWritten a).control.queue.length = s.control.queue.length := by
  unfold bandWritten
  dsimp only
  split <;> simp

/-! ### Damage -/

@[simp] theorem damageTile_length (s : State) (loc : CheckLoc) :
    (s.damageTile loc).control.queue.length = s.control.queue.length := by
  unfold damageTile
  split <;> simp

@[simp] theorem takeDamage_length (s : State) (loc : CheckLoc) (rd : Reader) (n : Nat) :
    (s.takeDamage loc rd n).control.queue.length = s.control.queue.length := by
  unfold takeDamage
  split
  · unfold painterFindsDamage
    split <;> simp
  · simp
  · simp
  · split
    · simp [sendFindsDamage]
    · rfl
  · simp
  · rfl

end State
end Sys2Proof.Machine
end

section
/-! The Memory Port's hold and the retire queue over the moves of the part: units that start and end (R189, R192), writes to
HOLD (R191, R194), resets (R195), takes and retirement (R11, R13, R181). -/

namespace Sys2Proof.Machine

/-! ## A take's reservation (R11) -/

namespace Walker

variable {v w : Walker}

theorem reserved_congr (h : v.unit = w.unit) : v.reserved = w.reserved := by simp [reserved, h]

theorem reserved_of_none (h : w.unit = .none) : w.reserved = 0 := by simp [reserved, h]

theorem reserved_of_read (h : w.unit.isRead = true) : w.reserved = 0 := by
  unfold reserved
  split
  · rename_i hu
    simp [hu, WalkerUnit.isRead] at h
  · rfl

theorem reserved_of_take {r : OrderRecord} {sl : Option SheetSlot} (h : w.unit = .taken r sl false) : w.reserved = 1 := by
  simp [reserved, h]

/-- A drain leaves the reservation of a take in flight (R20). -/
theorem reserved_of_discardRead (h : v.unit = w.unit.discardRead) : v.reserved = w.reserved := by
  cases hw : w.unit <;> simp [reserved, h, hw, WalkerUnit.discardRead]

/-- A fault releases the reservation of a take in flight (R24). -/
theorem reserved_of_discardAll (h : v.unit = w.unit.discardAll) : v.reserved = 0 := by
  cases hw : w.unit <;> simp [reserved, h, hw, WalkerUnit.discardAll]

end Walker

/-! ## The hold and the queue -/

/-- The outstanding count and the hold with its window timer. -/
@[simp] def State.holdView (s : State) : Nat × HoldState × Option Nat :=
  (s.port.outstanding, s.port.hold, s.port.windowTimer)

/-- What a unit's end makes of the hold goes by the outstanding count and the hold alone (R192). -/
theorem State.endUnit_holdView {s t : State} (h : t.holdView = s.holdView) : t.endUnit.holdView = s.endUnit.holdView := by
  simp only [State.holdView, Prod.mk.injEq] at h
  obtain ⟨hn, hh, hw⟩ := h
  by_cases hd : s.port.hold = .draining ∧ s.port.outstanding - 1 = 0
  · simp [hn, hh, hd]
  · simp [hn, hh, hw, hd]

/-- The hold stays in order; no unit starts while it is not FREE; and the retire queue stays within its capacity. -/
structure HoldQueueKept (s t : State) : Prop where
  hold : HoldOk s.port → HoldOk t.port
  units : s.port.hold ≠ .free → t.port.outstanding ≤ s.port.outstanding
  queue : QueueOk s → QueueOk t

theorem HoldOk.congr {s t : State} (h : HoldOk s.port) (ht : t.holdView = s.holdView) : HoldOk t.port := by
  simp only [State.holdView, Prod.mk.injEq] at ht
  obtain ⟨hn, hh, hw⟩ := ht
  obtain ⟨timer, draining, held⟩ := h
  exact ⟨by rw [hw, hh]; exact timer, by rw [hn, hh]; exact draining, by rw [hn, hh]; exact held⟩

/-- A unit that ends settles a DRAINING hold whose last unit it is, and leaves any other hold in order (R192). -/
theorem HoldOk.endUnit {s : State} (h : HoldOk s.port) : HoldOk s.endUnit.port := by
  obtain ⟨timer, draining, held⟩ := h
  by_cases hd : s.port.hold = .draining ∧ s.port.outstanding - 1 = 0
  · constructor <;> simp [hd]
  · refine ⟨by simpa [hd] using timer, fun hh => ?_, fun hh => ?_⟩
    · rw [State.endUnit_hold, if_neg hd] at hh
      rw [State.endUnit_outstanding]
      exact Nat.pos_of_ne_zero fun hn => hd ⟨hh, hn⟩
    · rw [State.endUnit_hold, if_neg hd] at hh
      simp [held hh]

theorem QueueOk.of_le {s t : State} (h : QueueOk s)
    (ht : t.control.queue.length + t.walker.reserved ≤ s.control.queue.length + s.walker.reserved) : QueueOk t :=
  Nat.le_trans ht h

namespace HoldQueueKept

variable {s t u : State}

theorem refl (s : State) : HoldQueueKept s s := ⟨id, fun _ => le_rfl, id⟩

/-- A move that starts and ends no unit and leaves the hold as it is. -/
theorem of_kept (hp : t.holdView = s.holdView) (hq : QueueOk s → QueueOk t) : HoldQueueKept s t :=
  ⟨fun h => h.congr hp, fun _ => (congrArg Prod.fst hp).le, hq⟩

/-- A move that ends a unit (R189, R192). -/
theorem of_ended (hp : t.holdView = s.endUnit.holdView) (hq : QueueOk s → QueueOk t) : HoldQueueKept s t :=
  ⟨fun h => h.endUnit.congr hp, fun _ => (congrArg Prod.fst hp).le.trans (by simp), hq⟩

/-- A move that starts a unit, the hold being FREE (R189). -/
theorem of_started (hf : s.port.hold = .free) (hp : t.holdView = s.beginUnit.holdView) (hq : QueueOk s → QueueOk t) :
    HoldQueueKept s t := by
  refine ⟨fun ⟨timer, _, _⟩ => HoldOk.congr (s := s.beginUnit) ?_ hp, fun h => absurd hf h, hq⟩
  constructor <;> simp_all

/-- A queue with as many entries, and a walker with the same unit. -/
theorem queue_of_same (h : t.control.queue.length = s.control.queue.length ∧ t.walker.unit = s.walker.unit) :
    QueueOk s → QueueOk t :=
  fun hq => hq.of_le (by rw [h.1, Walker.reserved_congr h.2])

/-- A move that leaves the hold, the walker's unit and the length of the queue alone. -/
theorem of_same (hp : t.holdView = s.holdView)
    (hq : t.control.queue.length = s.control.queue.length ∧ t.walker.unit = s.walker.unit) : HoldQueueKept s t :=
  of_kept hp (queue_of_same hq)

/-- A unit that ends outside the order chain. -/
theorem of_unitEnded (hp : t.holdView = s.endUnit.holdView)
    (hq : t.control.queue.length = s.control.queue.length ∧ t.walker.unit = s.walker.unit) : HoldQueueKept s t :=
  of_ended hp (queue_of_same hq)

/-- A unit that starts outside the order chain. -/
theorem of_unitStarted (hf : s.holdFree = true) (hp : t.holdView = s.beginUnit.holdView)
    (hq : t.control.queue.length = s.control.queue.length ∧ t.walker.unit = s.walker.unit) : HoldQueueKept s t :=
  of_started (by simpa [State.holdFree] using hf) hp (queue_of_same hq)

/-- A unit of the walker that ends with no entry joined: it reserves nothing any longer (R11). -/
theorem of_walkerEnded (hp : t.holdView = s.endUnit.holdView) (hq : t.control.queue.length = s.control.queue.length)
    (hu : t.walker.unit = .none) : HoldQueueKept s t := by
  refine of_ended hp fun h => h.of_le ?_
  rw [hq, Walker.reserved_of_none hu]
  omega

/-- A command that answers a state. -/
theorem of_next {t' : State} (h : Host.Outcome.next t' = (.next t : Out)) (h' : HoldQueueKept s t') : HoldQueueKept s t := by
  injection h with h
  exact h ▸ h'

end HoldQueueKept

namespace State

/-! ## Discarded units (R25, R189) -/

theorem finishDiscarded_holdKept (s : State) (u : DiscardedUnit) : HoldQueueKept s (s.finishDiscarded u) := by
  unfold finishDiscarded
  split
  · exact .of_unitEnded (endUnit_holdView (by simp)) (by simp)
  · exact .refl s

theorem finishDiscardedBand_holdKept (s : State) (ends : List Bool) : HoldQueueKept s (s.finishDiscardedBand ends) := by
  unfold finishDiscardedBand
  split
  · rename_i ws _
    obtain ⟨hold, units, queue⟩ := finishDiscarded_holdKept (s.writeServerAll (rowsReached ws ends)) (.bandWrite ws)
    exact ⟨fun h => hold (h.congr (by simp)), by simpa using units,
      fun h => queue (HoldQueueKept.queue_of_same (by simp) h)⟩
  · exact .refl s

/-! ## HOLD written, and the window timer (R191, R192, R194) -/

theorem requestHold_holdKept (s : State) (k : BitVec 3) (p : Bool) : HoldQueueKept s (s.requestHold k p) := by
  refine ⟨fun h => ?_, fun _ => by simp, HoldQueueKept.queue_of_same (by simp)⟩
  unfold requestHold
  split
  · rename_i hf
    have timer : s.port.windowTimer = none := by simpa [hf] using h.timer
    dsimp only
    split
    · exact h.congr (by simp)
    · split
      · exact h.congr (by simp)
      · split
        · constructor <;> simp_all
        · exact ⟨by simp, fun _ => by simp; omega, by simp⟩
  · exact h

/-- No timer runs when a hold ends, and units may be in progress (R192, R194). -/
theorem holdOk_free {p : Port} (hf : p.hold = .free) (ht : p.windowTimer = none) : HoldOk p := by
  constructor <;> simp [hf, ht]

theorem releaseHold_holdKept (s : State) (k : BitVec 3) (p : Bool) : HoldQueueKept s (s.releaseHold k p) := by
  refine ⟨fun h => ?_, fun _ => by simp, HoldQueueKept.queue_of_same (by simp)⟩
  unfold releaseHold
  dsimp only
  split
  · exact h.congr (by simp)
  · exact holdOk_free rfl rfl
  · rename_i hh
    exact holdOk_free rfl (by simpa [hh] using h.timer)

theorem writeHold_holdKept (s : State) (v : BitVec 32) : HoldQueueKept s (s.writeHold v) := by
  unfold writeHold
  dsimp only
  split
  · exact s.requestHold_holdKept _ _
  · exact s.releaseHold_holdKept _ _

/-! ## Engine reset (R195, R208) -/

theorem engineReset_holdKept (s : State) : HoldQueueKept s s.engineReset :=
  ⟨fun _ => holdOk_free rfl rfl, fun _ => le_rfl, fun _ => Nat.zero_le _⟩

/-! ## RUN and ABANDON (R20, R185, R186) -/

theorem writeRunZero_holdKept (s : State) : HoldQueueKept s s.writeRunZero := by
  refine .of_kept (by simp) fun h => h.of_le ?_
  have hr : s.writeRunZero.walker.reserved = s.walker.reserved := by
    unfold writeRunZero
    dsimp only
    split
    · exact Walker.reserved_of_discardRead (by simp [drainWalker])
    · rfl
  simp [hr]

theorem writeAbandon_holdKept (s : State) : HoldQueueKept s s.writeAbandon := by
  unfold writeAbandon
  split
  · dsimp only
    split
    · exact .of_same rfl ⟨rfl, rfl⟩
    · refine .of_kept (by simp) fun h => h.of_le ?_
      rw [Walker.reserved_of_discardRead (w := s.walker) (by simp [drainWalker])]
      simp [abandonOrders_length]
  · exact .refl s

/-! ## Whole registers (R203, R204) -/

theorem writeControl_holdKept (s : State) (v : BitVec 32) : HoldQueueKept s (s.writeControl v) := by
  have fields (u : State) (d m : Nat) (p : BitVec 16) (h : HoldQueueKept s u) :
      HoldQueueKept s (((u.writeDepth d).writePressMode m).writeSweepPreset p) :=
    ⟨fun k => (h.hold k).congr (by simp), by simpa using h.units,
      fun k => HoldQueueKept.queue_of_same (by simp) (h.queue k)⟩
  unfold writeControl
  split
  · exact s.engineReset_holdKept
  · dsimp only
    split
    · exact fields _ _ _ _ s.writeAbandon_holdKept
    · split
      · exact .of_same (by simp) (by simp)
      · have hz := writeRunZero_holdKept (((s.writeDepth (v.extractLsb' 4 4).toNat).writePressMode
          (v.extractLsb' 8 2).toNat).writeSweepPreset (v.extractLsb' 16 16))
        exact ⟨fun k => hz.hold (k.congr (by simp)), by simp,
          fun k => hz.queue (HoldQueueKept.queue_of_same (by simp) k)⟩

theorem writeHalf_holdKept (s : State) (i : Nat) (high : Bool) (v : BitVec 32) : HoldQueueKept s (s.writeHalf i high v) := by
  unfold writeHalf
  split
  · exact .of_same (by simp) (by simp)
  · exact s.writeControl_holdKept v
  · exact .of_same (by simp) (by simp)
  · exact .of_same (by simp) (by simp)
  · exact .of_same (by simp) (by simp)
  · exact s.writeHold_holdKept v
  · exact .of_same (by simp [writeCheckLog]; split <;> simp) (by simp [writeCheckLog]; split <;> simp)
  · exact .refl s

theorem writeRegister_holdKept (s : State) (offset size : Nat) (v : BitVec 64) :
    HoldQueueKept s (s.writeRegister offset size v) := by
  unfold writeRegister
  split
  · unfold writeWhole
    split
    · exact .of_same (by simp) (by simp)
    · exact .of_same (by simp) (by simp)
    · exact s.writeHalf_holdKept _ _ _
  · split
    · exact s.writeHalf_holdKept _ _ _
    · exact .refl s

/-! ## Chain faults (R23, R24) -/

/-- A fault takes no reservation. -/
theorem engineFaults_reserved (s : State) (c : FaultCause) (a : Addr) :
    (s.engineFaults c a).walker.reserved ≤ s.walker.reserved := by
  unfold engineFaults
  split
  · rw [Walker.reserved_of_discardAll (w := s.walker) (by simp [faultWalker])]
    exact Nat.zero_le _
  · exact le_rfl

/-- A unit that ends with a chain fault. -/
theorem engineFaults_holdKept {s u : State} (hp : u.holdView = s.endUnit.holdView)
    (hq : u.control.queue.length = s.control.queue.length) (hr : u.walker.reserved ≤ s.walker.reserved) (c : FaultCause)
    (a : Addr) : HoldQueueKept s (u.engineFaults c a) := by
  refine .of_ended (by simpa using hp) fun h => h.of_le ?_
  have := u.engineFaults_reserved c a
  simp only [engineFaults_length, hq]
  omega

/-! ## Orders that join the queue (R11, R12) -/

@[simp] theorem joinQueue_length (s : State) (r : OrderRecord) (fin : Bool) (res : Results) (sl : Option SheetSlot) :
    (s.joinQueue r fin res sl).control.queue.length = s.control.queue.length + 1 := by simp [joinQueue]

@[simp] theorem joinFinished_length (s : State) (r : OrderRecord) (o : OrderOutcome) (d : Detail) (n : Nat) :
    (s.joinFinished r o d n).control.queue.length = s.control.queue.length + 1 := s.joinQueue_length ..

/-- The start of an order adds at most one entry to the queue (R181). -/
theorem startOrder_length_le (s : State) (r : OrderRecord) (slot : Option SheetSlot) :
    (s.startOrder r slot).control.queue.length ≤ s.control.queue.length + 1 := by
  unfold startOrder
  split
  · split
    · unfold startSheet
      dsimp only
      split <;> simp
    · exact Nat.le_succ _
  · unfold startProfile
    split
    · split <;> simp
    · simp
  · unfold startGlyphs
    split
    · split
      · simp
      · split <;> simp
    · simp
  · unfold runPurge
    dsimp only
    split <;> simp
  · simp [runFlush]
  · unfold runStoreMode
    split <;> simp
  · unfold runPress
    dsimp only
    split <;> simp
  · simp [markHead_length]
  · simp
  · simp

/-! ## Retirement (R183) -/

theorem retireHead_length (s : State) (e : QueueEntry) (rest : List QueueEntry) :
    (s.retireHead e rest).control.queue.length = rest.length := by
  have noted (u : State) (p : Prop) [Decidable p] (e : Event) : (if p then u.raise e else u).control = u.control := by
    split <;> simp
  simp [retireHead, markHead_length, noted]

end State
end Sys2Proof.Machine
end

section
/-! Every command keeps the hold in order and the retire queue within its capacity, and none starts a unit while the hold is
not FREE (R11, R13, R181, R189 to R195). -/

namespace Sys2Proof.Machine

namespace HoldQueueKept

variable {s t : State}

/-! ### Commands that end no unit and start none -/

/-- The writes of the window beside HOLD, the sweep timer, composing, errors in card memory, and the Press Link: no unit of
server-memory work is theirs. -/
def leavesPort (c : Instr) : Bool :=
  match c with
  | .scrubEnd | .runStart | .depthWrite _ | .pressModeWrite _ | .sweepPresetWrite _ | .chainHeadWrite _ | .wake _ |
    .eventsWrite _ | .enablesWrite _ | .checkLogClear | .poisonSelect _ | .sweepExpiry | .buildComplete |
    .sheetEnterComposing | .bandPaintDone | .correctableError _ _ | .uncorrectableError _ _ _ | .readyRise | .readyFall |
    .waitTimerExpiry | .accept _ | .acceptTimerExpiry | .bandTimerExpiry | .graceTimerExpiry | .bandSendDone |
    .result _ _ | .resultTimerExpiry => true
  | _ => false

theorem sheetEnterComposing (hx : Machine.exec .sheetEnterComposing s = .next t) : HoldQueueKept s t := by
  refine of_next hx ?_
  split
  · rename_i sl _
    cases s.ticketOf sl with
    | none => exact refl s
    | some k => exact of_same (by simp) (by simp)
  · exact refl s

/-- Each branch of such a command leaves the hold, the walker's unit and the length of the queue alone. -/
theorem plain {c : Instr} (hc : leavesPort c = true) (hx : Machine.exec c s = .next t) : HoldQueueKept s t := by
  have same {t' : State} (h : Host.Outcome.next t' = (.next t : Out)) (h' : t'.holdView = s.holdView ∧
      t'.control.queue.length = s.control.queue.length ∧ t'.walker.unit = s.walker.unit) : HoldQueueKept s t :=
    of_next h (of_same h'.1 h'.2)
  cases c with
  | sheetEnterComposing => exact sheetEnterComposing hx
  | scrubEnd => exact same hx (by split <;> simp)
  | runStart => exact same hx (by simp)
  | depthWrite v => exact same hx (by simp)
  | pressModeWrite v => exact same hx (by simp)
  | sweepPresetWrite v => exact same hx (by simp)
  | chainHeadWrite v => exact same hx (by simp)
  | wake v => exact same hx (by simp)
  | eventsWrite v => exact same hx (by simp)
  | enablesWrite v => exact same hx (by simp)
  | checkLogClear => exact same hx (by simp)
  | poisonSelect v => exact same hx (by simp)
  | sweepExpiry => exact same hx (by split <;> simp)
  | buildComplete => exact same hx (by (repeat' split) <;> simp)
  | bandPaintDone => exact same hx (by dsimp only; (repeat' split) <;> simp)
  | correctableError loc rd => exact same hx (by (repeat' split) <;> simp)
  | uncorrectableError loc rd n => exact same hx (by split <;> simp)
  | readyRise => exact same hx (by dsimp only; (repeat' split) <;> simp)
  | readyFall => exact same hx (by dsimp only; (repeat' split) <;> simp)
  | waitTimerExpiry => exact same hx (by split <;> simp)
  | accept i => exact same hx (by (repeat' split) <;> simp)
  | acceptTimerExpiry => exact same hx (by (repeat' split) <;> simp)
  | bandTimerExpiry => exact same hx (by dsimp only; (repeat' split) <;> simp)
  | graceTimerExpiry => exact same hx (by (repeat' split) <;> simp)
  | bandSendDone => exact same hx (by dsimp only; (repeat' split) <;> simp)
  | result i code => exact same hx (by (repeat' split) <;> simp)
  | resultTimerExpiry => exact same hx (by (repeat' split) <;> simp)
  | _ => exact absurd hc Bool.false_ne_true

theorem windowTimerExpiry (hx : Machine.exec .windowTimerExpiry s = .next t) : HoldQueueKept s t := by
  refine of_next hx ?_
  split
  · exact ⟨fun _ => State.holdOk_free rfl rfl, fun _ => le_rfl, queue_of_same ⟨rfl, rfl⟩⟩
  · exact refl s

theorem powerOn (hx : Machine.exec .powerOn s = .next t) : HoldQueueKept s t := by
  injection hx with hx
  subst hx
  exact ⟨fun _ => State.holdOk_free rfl rfl, fun _ => Nat.zero_le _, fun _ => Nat.zero_le _⟩

/-! ### Starts of units (R21, R189) -/

/-- A read of the chain starts with no unit of the walker in progress (R7, R8). -/
theorem readStarted {u : WalkerUnit} {n : Nat} (hu : s.walker.unit = .none) (hf : s.holdFree = true)
    (hr : u.isRead = true) : HoldQueueKept s (s.setWalker { s.walker with unit := u, readLimit := n }).beginUnit := by
  refine of_started (by simpa [State.holdFree] using hf) (by simp) fun h => h.of_le ?_
  rw [Walker.reserved_of_none hu, Walker.reserved_of_read (by simpa using hr)]
  simp

theorem recordReadStart (hx : Machine.exec .recordReadStart s = .next t) : HoldQueueKept s t := by
  refine of_next hx ?_
  split
  · split
    · rename_i hc
      obtain ⟨-, -, hu, hf⟩ := hc
      exact readStarted hu hf rfl
    · exact refl s
  · exact refl s

theorem trailerReadStart (hx : Machine.exec .trailerReadStart s = .next t) : HoldQueueKept s t := by
  refine of_next hx ?_
  split
  · split
    · rename_i hc
      obtain ⟨-, -, hu, hf⟩ := hc
      exact readStarted hu hf rfl
    · exact refl s
  · exact refl s

/-- A record that can be taken finds room in the queue (R13). -/
theorem room_of_canTakeKind {k : OrderKind} (h : s.canTakeKind k = true) :
    s.control.queue.length + s.walker.reserved < Config.retireCapacity := by
  simp only [State.canTakeKind, Bool.and_eq_true, decide_eq_true_eq] at h
  exact h.1.1

/-- A take starts where one more entry has room, and reserves it (R11, R13). -/
theorem takeStart (hx : Machine.exec .takeStart s = .next t) : HoldQueueKept s t := by
  refine of_next hx ?_
  split
  · rename_i r rest _
    split
    · rename_i hc
      obtain ⟨-, -, hk, hf⟩ := hc
      refine of_started (by simpa [State.holdFree] using hf) (by simp) fun _ => ?_
      have room := room_of_canTakeKind hk
      unfold QueueOk
      rw [Walker.reserved_of_take rfl]
      simp only [State.writeServer_frame, State.beginUnit_frame, State.setWalker_control]
      omega
    · exact refl s
  · exact refl s

theorem planReadStarted {p : Prop} [Decidable p] (hf : p → s.holdFree = true) :
    HoldQueueKept s (if p then s.startPlanRead else s) := by
  split
  · rename_i h
    exact of_unitStarted (hf h) (by simp [State.startPlanRead]) (by simp)
  · exact refl s

/-- The planner waits to start a read only under a FREE hold (R65, R189). -/
theorem holdFree_of_planReadCanStart {kind : PlanStage → Bool} (h : s.planReadCanStart kind = true) :
    s.holdFree = true := by
  unfold State.planReadCanStart at h
  split at h
  · simp only [Bool.and_eq_true] at h
    exact h.2
  · exact absurd h Bool.false_ne_true

theorem ticketReadStart (hx : Machine.exec .ticketReadStart s = .next t) : HoldQueueKept s t := by
  refine of_next hx ?_
  split
  · split
    · split
      · exact refl s
      · split
        · exact of_same (by simp) (by simp)
        · exact planReadStarted id
    · exact refl s
  · exact refl s

theorem profileBlockReadStart (hx : Machine.exec .profileBlockReadStart s = .next t) : HoldQueueKept s t := by
  refine of_next hx ?_
  split
  · split
    · exact of_unitStarted ‹_› (by simp) (by simp)
    · exact refl s
  · exact refl s

theorem glyphUnitStart (hx : Machine.exec .glyphUnitStart s = .next t) : HoldQueueKept s t := by
  refine of_next hx ?_
  split
  · split
    · rename_i hc
      exact of_unitStarted hc.2 (by simp) (by simp)
    · exact refl s
  · exact refl s

/-- A build whose unit starts, and ends at once where it needs no source byte (R87, R103). -/
theorem buildStart (hx : Machine.exec .buildStart s = .next t) : HoldQueueKept s t := by
  refine of_next hx ?_
  split
  · split
    · rename_i hf
      have free : s.port.hold = .free := by simpa [State.holdFree] using hf
      dsimp only
      split
      · exact of_same (by simp [free]) (by simp)
      · exact of_unitStarted hf (by simp) (by simp)
    · exact refl s
  · exact refl s

theorem bandWriteStart (hx : Machine.exec .bandWriteStart s = .next t) : HoldQueueKept s t := by
  refine of_next hx ?_
  split
  · exact refl s
  · split
    · rename_i hc
      exact of_unitStarted hc.2.2 (by simp) (by simp)
    · exact refl s

theorem reportWriteStart {sl : SheetSlot} (hx : Machine.exec (.reportWriteStart sl) s = .next t) :
    HoldQueueKept s t := by
  refine of_next hx ?_
  split
  · exact refl s
  · split
    · exact refl s
    · split
      · rename_i hc
        split
        · exact of_same (by simp) (by simp)
        · exact of_unitStarted hc.2.1 (by simp) (by simp)
      · exact refl s

theorem retireStart (hx : Machine.exec .retireStart s = .next t) : HoldQueueKept s t := by
  refine of_next hx ?_
  split
  · split
    · rename_i hc
      exact of_unitStarted hc.2.2.1 (by simp) (by simp)
    · exact refl s
  · exact refl s

theorem spentWriteStart (hx : Machine.exec .spentWriteStart s = .next t) : HoldQueueKept s t := by
  refine of_next hx ?_
  split
  · split
    · rename_i hc
      exact of_unitStarted hc.2.1 (by simp) (by simp)
    · exact refl s
  · exact refl s

/-! ### Units of the walker that end (R7, R8, R11) -/

/-- A bus error at the end of a unit of the walker (R23, R24). -/
theorem unitFailed (s : State) (c : FaultCause) (a : Addr) : HoldQueueKept s (s.endWalkerUnit.engineFaults c a) :=
  State.engineFaults_holdKept (by simp [State.endWalkerUnit_port]) (by simp) (by simp [Walker.reserved]) c a

theorem recordReadDone {v : UnitOf} {r : ReadResult} (hx : Machine.exec (.recordReadDone v r) s = .next t) :
    HoldQueueKept s t := by
  refine of_next hx ?_
  split
  · exact s.finishDiscarded_holdKept _
  · split
    · split
      · exact unitFailed s _ _
      · split
        · split
          · exact of_walkerEnded (by simp [State.endWalkerUnit_port]) (by simp) (by simp)
          · exact of_walkerEnded (by simp [State.endWalkerUnit_port]) (by simp) (by simp)
        · exact refl s
    · exact refl s

theorem trailerReadDone {v : UnitOf} {r : ReadResult} (hx : Machine.exec (.trailerReadDone v r) s = .next t) :
    HoldQueueKept s t := by
  refine of_next hx ?_
  split
  · exact s.finishDiscarded_holdKept _
  · split
    · split
      · exact unitFailed s _ _
      · split
        · split
          · exact of_walkerEnded (by simp [State.endWalkerUnit_port]) (by simp) (by simp)
          · unfold State.followNext
            split
            · exact of_walkerEnded (by simp [State.endWalkerUnit_port]) (by simp) (by simp)
            · split
              · exact unitFailed s _ _
              · exact of_walkerEnded (by simp [State.endWalkerUnit_port]) (by simp) (by simp)
        · exact refl s
    · exact refl s

/-- The record of a take joins the queue in the place that it reserved (R11, R181). -/
theorem takenWriteDone {v : UnitOf} {ok : Bool} (hx : Machine.exec (.takenWriteDone v ok) s = .next t) :
    HoldQueueKept s t := by
  refine of_next hx ?_
  split
  · exact s.finishDiscarded_holdKept _
  · split
    · rename_i r sl d hu
      split
      · exact of_walkerEnded (by simp [State.endWalkerUnit_port]) (by simp) (by simp)
      · rename_i hd
        split
        · refine of_ended (by simp [State.endWalkerUnit_port]) fun h => h.of_le ?_
          have joined := s.endWalkerUnit.startOrder_length_le r sl
          have free : (s.endWalkerUnit.startOrder r sl).afterTake.walker.reserved = 0 :=
            Walker.reserved_of_none (by simp)
          have held : s.walker.reserved = 1 := Walker.reserved_of_take (by simpa [hd] using hu)
          simp only [State.afterTake_frame, State.endWalkerUnit_frame] at joined ⊢
          omega
        · exact unitFailed s _ _
    · exact refl s

/-! ### Retirement and SPENT writes (R10, R182, R183) -/

theorem resultsWriteDone {v : UnitOf} {ok : Bool} (hx : Machine.exec (.resultsWriteDone v ok) s = .next t) :
    HoldQueueKept s t := by
  refine of_next hx ?_
  split
  · exact s.finishDiscarded_holdKept _
  · split
    · split
      · exact of_unitEnded (State.endUnit_holdView (by simp)) (by simp)
      · split
        · exact of_same (by simp) (by simp)
        · exact State.engineFaults_holdKept (State.endUnit_holdView (by simp)) (by simp) (by simp) _ _
    · exact refl s

/-- The head leaves the queue (R183). -/
theorem doneWriteDone {v : UnitOf} {ok : Bool} (hx : Machine.exec (.doneWriteDone v ok) s = .next t) :
    HoldQueueKept s t := by
  refine of_next hx ?_
  split
  · exact s.finishDiscarded_holdKept _
  · split
    · rename_i e rest _ hq
      dsimp only
      split
      · refine of_ended ?_ fun h => h.of_le ?_
        · rw [← State.endUnit_holdView (s := s) (t := s.setRetire .none) (by simp)]
          simp
        · rw [State.retireHead_length, Walker.reserved_congr (w := s.walker) (by simp), hq]
          simp
      · exact State.engineFaults_holdKept (State.endUnit_holdView (by simp)) (by simp) (by simp) _ _
    · exact refl s

theorem spentWriteDone {v : UnitOf} {ok : Bool} (hx : Machine.exec (.spentWriteDone v ok) s = .next t) :
    HoldQueueKept s t := by
  refine of_next hx ?_
  split
  · exact s.finishDiscarded_holdKept _
  · split
    · dsimp only
      rw [State.setWalker_endUnit]
      split
      · exact of_unitEnded (by simp) (by simp)
      · exact State.engineFaults_holdKept (by simp) (by simp) (by simp [Walker.reserved]) _ _
    · exact refl s

/-! ### Loads -/

theorem profileBlockReadDone {v : UnitOf} {r : ReadResult} (hx : Machine.exec (.profileBlockReadDone v r) s = .next t) :
    HoldQueueKept s t := by
  refine of_next hx ?_
  split
  · exact s.finishDiscarded_holdKept _
  · split
    · split
      · exact of_unitEnded (by simp) (by simp)
      · split
        · exact of_unitEnded (by simp) (by simp)
        · split
          · split <;> exact of_unitEnded (by simp) (by simp)
          · exact refl s
    · exact refl s

theorem glyphUnitDone {v : UnitOf} {r : ReadResult} (hx : Machine.exec (.glyphUnitDone v r) s = .next t) :
    HoldQueueKept s t := by
  refine of_next hx ?_
  split
  · exact s.finishDiscarded_holdKept _
  · split
    · split
      · exact refl s
      · split
        · exact of_unitEnded (by simp) (by simp)
        · split
          · exact of_unitEnded (by simp) (by simp)
          · split
            · exact of_unitEnded (by simp) (by simp)
            · exact refl s
    · exact refl s

/-! ### Planning -/

theorem planReadFailed (s : State) (sl : SheetSlot) : HoldQueueKept s (s.planReadFails sl) :=
  of_unitEnded (by simp [State.planReadFails]) (by simp)

theorem ticketReadDone {v : UnitOf} {r : ReadResult} (hx : Machine.exec (.ticketReadDone v r) s = .next t) :
    HoldQueueKept s t := by
  refine of_next hx ?_
  split
  · exact s.finishDiscarded_holdKept _
  · split
    · exact refl s
    · split
      · exact planReadFailed s _
      · split
        · dsimp only
          split <;> exact of_unitEnded (by simp) (by simp)
        · exact refl s

theorem layoutReadDone {v : UnitOf} {r : ReadResult} (hx : Machine.exec (.layoutReadDone v r) s = .next t) :
    HoldQueueKept s t := by
  refine of_next hx ?_
  split
  · exact s.finishDiscarded_holdKept _
  · split
    · exact refl s
    · split
      · exact planReadFailed s _
      · dsimp only
        split
        · split <;> exact of_unitEnded (by simp) (by simp)
        · exact refl s
      · exact refl s

theorem rosterReadDone {v : UnitOf} {r : ReadResult} (hx : Machine.exec (.rosterReadDone v r) s = .next t) :
    HoldQueueKept s t := by
  refine of_next hx ?_
  split
  · exact s.finishDiscarded_holdKept _
  · split
    · exact refl s
    · split
      · exact planReadFailed s _
      · dsimp only
        split
        · exact of_unitEnded (by simp) (by simp)
        · exact refl s
      · exact refl s

theorem subjectReadDone {v : UnitOf} {r : ReadResult} (hx : Machine.exec (.subjectReadDone v r) s = .next t) :
    HoldQueueKept s t := by
  refine of_next hx ?_
  split
  · exact s.finishDiscarded_holdKept _
  · split
    · exact refl s
    · split
      · exact planReadFailed s _
      · split
        · exact of_unitEnded (by simp) (by simp)
        · exact refl s
      · exact refl s

theorem bannerTextReadDone {v : UnitOf} {r : ReadResult} (hx : Machine.exec (.bannerTextReadDone v r) s = .next t) :
    HoldQueueKept s t := by
  refine of_next hx ?_
  split
  · exact s.finishDiscarded_holdKept _
  · split
    · exact refl s
    · split
      · exact planReadFailed s _
      · split
        · exact of_unitEnded (by simp) (by simp)
        · exact refl s
      · exact refl s

/-! ### Building -/

theorem endBuildUnit_holdKept (s : State) (b : Build) : HoldQueueKept s (s.endBuildUnit b) :=
  of_unitEnded (State.endUnit_holdView (by simp)) (by simp)

theorem sourceReadDone {v : UnitOf} {r : ReadResult} {last : Bool}
    (hx : Machine.exec (.sourceReadDone v r last) s = .next t) : HoldQueueKept s t := by
  refine of_next hx ?_
  split
  · split
    · exact s.finishDiscarded_holdKept _
    · exact refl s
  · split
    · exact refl s
    · split
      · exact refl s
      · split
        · split
          · exact endBuildUnit_holdKept s _
          · exact refl s
        · split
          · split
            · exact endBuildUnit_holdKept s _
            · exact of_same (by simp) (by simp)
          · split
            · unfold State.receiveSource
              dsimp only
              split
              · exact of_unitEnded (State.endUnit_holdView (by simp)) (by simp)
              · exact of_same (by simp) (by simp)
            · exact refl s

theorem buildFailure (hx : Machine.exec .buildFailure s = .next t) : HoldQueueKept s t := by
  refine of_next hx ?_
  split
  · split
    · dsimp only
      split
      · exact of_same (by simp) (by simp)
      · exact of_unitEnded (by simp) (by simp)
    · exact refl s
  · exact refl s

/-! ### The Proof Writer and the cell report -/

theorem bandWriteDone {v : UnitOf} {n : Nat} (hx : Machine.exec (.bandWriteDone v n) s = .next t) :
    HoldQueueKept s t := by
  refine of_next hx ?_
  split
  · exact s.finishDiscardedBand_holdKept _
  · split
    · exact refl s
    · split
      · exact refl s
      · split
        · split
          · exact of_unitEnded (by simp [State.endBandWrite_port]) (by simp)
          · exact refl s
        · split
          · split <;> exact of_unitEnded (by simp [State.endBandWrite_port]) (by simp)
          · exact refl s

theorem bandWriteFail {v : UnitOf} {rows : List Bool} (hx : Machine.exec (.bandWriteFail v rows) s = .next t) :
    HoldQueueKept s t := by
  refine of_next hx ?_
  split
  · exact s.finishDiscardedBand_holdKept _
  · split
    · exact refl s
    · split
      · exact of_unitEnded (by simp [State.endBandWrite_port]) (by simp)
      · exact refl s

theorem reportWriteDone {v : UnitOf} {sl : SheetSlot} {ok : Bool}
    (hx : Machine.exec (.reportWriteDone v sl ok) s = .next t) : HoldQueueKept s t := by
  refine of_next hx ?_
  split
  · exact s.finishDiscarded_holdKept _
  · split
    · dsimp only
      split <;> exact of_unitEnded (by simp) (by simp)
    · exact refl s

/-! ### Every command -/

theorem exec {c : Instr} (hx : Machine.exec c s = .next t) : HoldQueueKept s t := by
  cases c with
  | powerOn => exact powerOn hx
  | functionReset => exact of_next hx s.engineReset_holdKept
  | reset => exact of_next hx s.engineReset_holdKept
  | runDrain => exact of_next hx s.writeRunZero_holdKept
  | abandon => exact of_next hx s.writeAbandon_holdKept
  | holdRequest k p => exact of_next hx (s.requestHold_holdKept k p)
  | holdRelease k p => exact of_next hx (s.releaseHold_holdKept k p)
  | registerWrite o n v => exact of_next hx (s.writeRegister_holdKept o n v)
  | windowTimerExpiry => exact windowTimerExpiry hx
  | recordReadStart => exact recordReadStart hx
  | recordReadDone v r => exact recordReadDone hx
  | trailerReadStart => exact trailerReadStart hx
  | trailerReadDone v r => exact trailerReadDone hx
  | takeStart => exact takeStart hx
  | takenWriteDone v ok => exact takenWriteDone hx
  | retireStart => exact retireStart hx
  | resultsWriteDone v ok => exact resultsWriteDone hx
  | doneWriteDone v ok => exact doneWriteDone hx
  | spentWriteStart => exact spentWriteStart hx
  | spentWriteDone v ok => exact spentWriteDone hx
  | profileBlockReadStart => exact profileBlockReadStart hx
  | profileBlockReadDone v r => exact profileBlockReadDone hx
  | glyphUnitStart => exact glyphUnitStart hx
  | glyphUnitDone v r => exact glyphUnitDone hx
  | ticketReadStart => exact ticketReadStart hx
  | ticketReadDone v r => exact ticketReadDone hx
  | layoutReadStart => exact of_next hx (planReadStarted holdFree_of_planReadCanStart)
  | layoutReadDone v r => exact layoutReadDone hx
  | rosterReadStart => exact of_next hx (planReadStarted holdFree_of_planReadCanStart)
  | rosterReadDone v r => exact rosterReadDone hx
  | subjectReadStart => exact of_next hx (planReadStarted holdFree_of_planReadCanStart)
  | subjectReadDone v r => exact subjectReadDone hx
  | bannerTextReadStart => exact of_next hx (planReadStarted holdFree_of_planReadCanStart)
  | bannerTextReadDone v r => exact bannerTextReadDone hx
  | buildStart => exact buildStart hx
  | sourceReadDone v r last => exact sourceReadDone hx
  | buildFailure => exact buildFailure hx
  | bandWriteStart => exact bandWriteStart hx
  | bandWriteDone v n => exact bandWriteDone hx
  | bandWriteFail v rows => exact bandWriteFail hx
  | reportWriteStart sl => exact reportWriteStart hx
  | reportWriteDone v sl ok => exact reportWriteDone hx
  | _ => exact plain rfl hx

/-- A step runs one command on a state that differs in its queue of commands alone. -/
theorem step (hx : Machine.step s = .next t) : HoldQueueKept s t := by
  unfold Machine.step at hx
  split at hx
  · exact of_next hx (refl s)
  · obtain ⟨hold, units, queue⟩ := exec hx
    exact ⟨hold, units, queue⟩

end HoldQueueKept

/-- Settles O6: every command keeps the hold in order, and a take joins the queue in the place that it reserved. -/
theorem stepKeepsHoldAndQueue : Obligations.StepKeepsHoldAndQueue :=
  fun _ _ hhold hqueue hx => ⟨(HoldQueueKept.step hx).hold hhold, (HoldQueueKept.step hx).queue hqueue⟩

/-- Settles O10: each start of a unit is under a FREE hold, and no other command raises the outstanding count. -/
theorem noUnitStartsUnlessFree : Obligations.NoUnitStartsUnlessFree :=
  fun _ _ _ hx hhold => (HoldQueueKept.exec hx).units hhold

end Sys2Proof.Machine
end

section
/-! The hold: a request and what decides it, and its ends (R189 to R194). -/

namespace Sys2Proof.Machine

/-! ## Requests (R191) -/

theorem Sheet.pressAhead_iff (sh : Sheet) : sh.pressAhead = true ↔ (sh.state = .planning ∨ sh.state = .filling) ∧
    (sh.ticket = none ∨ sh.ticket.map (·.dest) = some .press) := by
  unfold Sheet.pressAhead
  cases sh.ticket <;> simp

/-- A sheet that has left FILLING, or whose ticket names the server, does not count against PRESS_FIRST. -/
theorem Sheet.pressAhead_of_proof {sh : Sheet} (h : (sh.state ≠ .planning ∧ sh.state ≠ .filling) ∨
    sh.ticket.map (·.dest) = some .proof) : sh.pressAhead = false := by
  rw [← Bool.not_eq_true, Sheet.pressAhead_iff]
  rintro ⟨hs, ht⟩
  rcases h with ⟨hp, hf⟩ | h
  · exact hs.elim hp hf
  · rcases ht with ht | ht <;> simp [ht] at h

namespace State

variable {s : State} {k : BitVec 3} {p : Bool}

/-- A press sheet ahead decides a request with PRESS_FIRST (R191). -/
theorem requestHold_pressAhead {sl : SheetSlot} {sh : Sheet} (hf : s.port.hold = .free) (hs : s.sheet sl = some sh)
    (ha : sh.pressAhead = true) : s.requestHold k true = (s.setPort { s.port with
      windowCode := k, pressFirst := true, lastResult := .rejected }).raise .holdSettled := by
  have ahead : s.sheetIs .a Sheet.pressAhead ∨ s.sheetIs .b Sheet.pressAhead := by
    cases sl with
    | a => exact .inl (by rw [sheetIs, hs]; exact ha)
    | b => exact .inr (by rw [sheetIs, hs]; exact ha)
  unfold requestHold
  rw [if_pos hf]
  exact if_pos ⟨rfl, ahead⟩

/-- With no press sheet ahead, the window code and the units in progress decide a request (R191). -/
theorem requestHold_noPress (hf : s.port.hold = .free)
    (ha : p = false ∨ ∀ sl sh, s.sheet sl = some sh → sh.pressAhead = false) :
    s.requestHold k p =
      if k = 0#3 ∧ 0 < s.port.outstanding then
        (s.setPort { s.port with windowCode := k, pressFirst := p, lastResult := .rejected }).raise .holdSettled
      else if s.port.outstanding = 0 then
        (s.setPort { s.port with windowCode := k, pressFirst := p, hold := .held, lastResult := .accepted }).raise
          .holdSettled
      else s.setPort { s.port with
        windowCode := k, pressFirst := p, hold := .draining, windowTimer := some (windowLength k) } := by
  have none_ahead : ¬ (p = true ∧ (s.sheetIs .a Sheet.pressAhead ∨ s.sheetIs .b Sheet.pressAhead)) := by
    have behind (sl : SheetSlot) (h : ∀ sl sh, s.sheet sl = some sh → sh.pressAhead = false) :
        s.sheetIs sl Sheet.pressAhead = false := by
      unfold sheetIs
      split
      · exact h sl _ ‹_›
      · rfl
    rintro ⟨hp, hs⟩
    rcases ha with ha | ha
    · exact Bool.false_ne_true (ha ▸ hp)
    · simp [behind _ ha] at hs
  unfold requestHold
  rw [if_pos hf]
  exact if_neg none_ahead

end State

/-- A port that differs in its discarded units alone. -/
theorem Port.eq_discarding {p q : Port} (h : q.outstanding = p.outstanding ∧ q.hold = p.hold ∧
    q.windowCode = p.windowCode ∧ q.pressFirst = p.pressFirst ∧ q.lastResult = p.lastResult ∧
    q.windowTimer = p.windowTimer) : q = { p with discarded := q.discarded } := by
  cases q
  simp_all

/-- Settles O20: a press sheet ahead decides first, then the window code with the units in progress. -/
theorem holdRequested : Obligations.HoldRequested := by
  refine ⟨fun s k sl sh hf hs hst ht => ?_, fun s k p hf ha => ?_,
    fun s sl => ⟨(s.enterPlanning sl).port.discarded, ?_⟩⟩
  · exact congrArg Host.Outcome.next (State.requestHold_pressAhead hf hs (sh.pressAhead_iff.2 ⟨hst, ht⟩))
  · have decided := State.requestHold_noPress (k := k) hf
      (ha.imp_right fun h sl sh hs => Sheet.pressAhead_of_proof (h sl sh hs))
    refine ⟨fun hk hn => congrArg Host.Outcome.next ?_, fun hn => congrArg Host.Outcome.next ?_,
      fun hk hn => congrArg Host.Outcome.next ?_⟩
    · rw [decided, if_pos ⟨hk, hn⟩]
      rfl
    · rw [decided, if_neg (by omega), if_pos hn]
      rfl
    · rw [decided, if_neg (by simp [hk]), if_neg (by omega)]
      rfl
  · exact Port.eq_discarding (by simp)

/-! ## Ends (R189, R190, R192, R194) -/

namespace State

variable {s : State}

/-- The last unit of a DRAINING hold brings it to HELD (R192). -/
theorem endUnit_settles (hd : s.port.hold = .draining) (hn : s.port.outstanding = 1) : s.endUnit = (s.setPort { s.port with
    outstanding := 0, hold := .held, lastResult := .accepted, windowTimer := none }).raise .holdSettled := by
  unfold endUnit
  dsimp only
  rw [if_pos ⟨hd, by rw [hn]⟩, hn]

theorem releaseHold_draining (k : BitVec 3) (p : Bool) (h : s.port.hold = .draining) : s.releaseHold k p = s.setPort
    { s.port with windowCode := k, pressFirst := p, hold := .free, lastResult := .withdrawn, windowTimer := none } := by
  unfold releaseHold
  rw [h]
  rfl

theorem releaseHold_held (k : BitVec 3) (p : Bool) (h : s.port.hold = .held) :
    s.releaseHold k p = s.setPort { s.port with windowCode := k, pressFirst := p, hold := .free } := by
  unfold releaseHold
  rw [h]
  rfl

theorem releaseHold_free (k : BitVec 3) (p : Bool) (h : s.port.hold = .free) :
    s.releaseHold k p = s.setHoldFields k p := by
  unfold releaseHold
  rw [h]

end State

/-- Settles O21: the releases by the hold's state, the expiry, and the units that end by `endUnit_settles` and
`endUnit_quiet`. -/
theorem holdEnds : Obligations.HoldEnds := by
  refine ⟨by decide, fun s k p h => ?_, fun s k p h => ?_, fun s k p h => ?_, fun s k p h => ?_, fun s h hw => ?_,
    fun s hd hn => ?_, fun s h => s.endUnit_quiet h⟩
  · exact congrArg Host.Outcome.next (if_neg h)
  · exact congrArg Host.Outcome.next (s.releaseHold_draining k p h)
  · exact congrArg Host.Outcome.next (s.releaseHold_held k p h)
  · exact congrArg Host.Outcome.next (s.releaseHold_free k p h)
  · exact congrArg Host.Outcome.next (if_pos ⟨h, hw⟩)
  · exact State.endUnit_settles hd hn

end Sys2Proof.Machine
end

section
/-! Correctable errors: the log, the errors that stand, and the reads that can be in progress at a band buffer (R196, R197,
R199). -/

namespace Sys2Proof.Machine

/-! ## The log (R197) -/

/-- Where a read that finds a correctable error leaves it standing: a merge writes the granule it has read (R196). -/
theorem stands_iff (by_ : Reader) (loc : CheckLoc) :
    stands by_ loc = true ↔ ¬ (by_ = .composer ∧ (loc = .band .x ∨ loc = .band .y)) := by
  cases by_ <;> cases loc <;> simp [stands]
  rename_i i
  cases i <;> simp

namespace State

variable {s : State} {loc : CheckLoc} {by_ : Reader}

/-- The places where a correctable error stands once a read has found one. -/
def standingAfter (s : State) (loc : CheckLoc) (by_ : Reader) : List CheckLoc :=
  if (by_ = .composer ∧ (loc = .band .x ∨ loc = .band .y)) ∨ loc ∈ s.check.standing then s.check.standing
  else s.check.standing ++ [loc]

/-- An unlocked log takes the error: an empty record takes its place, and the count rises up to 255 (R197). -/
theorem logCorrectable_unlocked (loc : CheckLoc) (h : s.check.locked = false) : s.logCorrectable loc =
    (s.setCheck { s.check with
      correctable := some (s.check.correctable.getD loc)
      count := BitVec.ofNat 8 (min 255 (s.check.count.toNat + 1)) }).raise .integrity := by
  have record : (if s.check.correctable = none then some loc else s.check.correctable) =
      some (s.check.correctable.getD loc) := by
    cases s.check.correctable <;> rfl
  have count : (if s.check.count = 255#8 then 255#8 else s.check.count + 1#8) =
      BitVec.ofNat 8 (min 255 (s.check.count.toNat + 1)) := by
    split
    · rename_i hc
      rw [hc]
      rfl
    · bv_omega
  unfold logCorrectable
  rw [if_neg (by simp [h]), record, count]

theorem logCorrectable_locked (loc : CheckLoc) (h : s.check.locked = true) : s.logCorrectable loc = s := if_pos h

/-- The error found is logged, and stands where the read leaves it (R196, R197). -/
theorem exec_correctableError (h : s.canRead loc by_ = true) : exec (.correctableError loc by_) s =
    .next ((s.logCorrectable loc).setCheck { (s.logCorrectable loc).check with standing := s.standingAfter loc by_ }) := by
  have hst : (s.logCorrectable loc).check.standing = s.check.standing := by
    unfold logCorrectable
    split <;> rfl
  have found : exec (.correctableError loc by_) s = .next (if stands by_ loc then (s.logCorrectable loc).keepStanding loc
      else s.logCorrectable loc) := congrArg Host.Outcome.next (if_pos h)
  rw [found, standingAfter]
  congr 1
  by_cases hs : stands by_ loc = true
  · rw [if_pos hs, keepStanding, hst]
    simp only [(stands_iff by_ loc).1 hs, false_or]
    split
    · rw [← hst]
      rfl
    · rfl
  · rw [if_neg hs, if_pos (.inl (not_not.1 (mt (stands_iff by_ loc).2 hs))), ← hst]
    rfl

/-! ## Reads of a band buffer (R196) -/

theorem paintingOf_eq_some {a : Attempt} {sh : Sheet} {k : Ticket} : s.paintingOf = some (a, sh, k) ↔
    s.composer.state = .painting ∧ s.composer.attempt = some a ∧ s.sheet a.slot = some sh ∧ sh.ticket = some k := by
  unfold paintingOf
  split
  · rename_i hp
    split
    · rename_i b hb
      split
      · rename_i x hx
        simp only [hp, hb, Option.map_eq_some_iff, Prod.mk.injEq, Option.some.injEq, true_and]
        constructor
        · rintro ⟨u, hu, rfl, rfl, rfl⟩
          exact ⟨rfl, hx, hu⟩
        · rintro ⟨rfl, hsh, hk⟩
          obtain rfl : x = sh := Option.some.inj (hx.symm.trans hsh)
          exact ⟨k, hk, rfl, rfl, rfl⟩
      · rename_i hx
        simp only [hb, reduceCtorEq, Option.some.injEq, false_iff]
        rintro ⟨-, rfl, hsh, -⟩
        exact absurd (hx.symm.trans hsh) (by simp)
    · rename_i hb
      simp [hb]
  · rename_i hp
    simp [hp]

/-- The painting of a band reads the band's own pixels where some painting covers a pixel (R196). -/
theorem paintsBand_iff (sh : Sheet) (k : Ticket) : s.paintsBand sh k = true ↔
    ∃ op ∈ s.bandOps sh k s.composer.nextBand, ∃ x y, op.covers x y = true := by
  simp [paintsBand, PaintOp.merges_iff]

theorem canRead_composer_band (i : BufferId) : s.canRead (.band i) .composer = true ↔
    s.composer.state = .painting ∧ bufferFor s.composer.nextBand = i ∧
      ∃ a sh k, s.composer.attempt = some a ∧ s.sheet a.slot = some sh ∧ sh.ticket = some k ∧
        ∃ op ∈ s.bandOps sh k s.composer.nextBand, ∃ x y, op.covers x y = true := by
  simp only [canRead]
  constructor
  · intro h
    split at h
    · rename_i a sh k hp
      obtain ⟨hst, ha, hs, hk⟩ := paintingOf_eq_some.1 hp
      simp only [Bool.and_eq_true, beq_iff_eq, paintsBand_iff] at h
      exact ⟨hst, h.2, a, sh, k, ha, hs, hk, h.1⟩
    · exact absurd h Bool.false_ne_true
  · rintro ⟨hst, hb, a, sh, k, ha, hs, hk, hop⟩
    rw [paintingOf_eq_some.2 ⟨hst, ha, hs, hk⟩]
    simp only [Bool.and_eq_true, beq_iff_eq, paintsBand_iff]
    exact ⟨hop, hb⟩

theorem canRead_pressLink_band (i : BufferId) :
    s.canRead (.band i) .pressLink = true ↔ ∃ n, s.link.sending = some n ∧ bufferFor n = i := by
  simp only [canRead]
  cases s.link.sending <;> simp

theorem canRead_proofWriter_band (i : BufferId) : s.canRead (.band i) .proofWriter = true ↔
    s.writer.state = .writing ∧ s.writer.damage = false ∧ bufferFor s.writer.nextBand = i := by
  simp [canRead, and_assoc]

end State

/-- Settles O48: the log by its lock, the places where the error stands by `exec_correctableError`, and the readers of a
band buffer one by one. -/
theorem correctableErrorLogged : Obligations.CorrectableErrorLogged := by
  refine ⟨fun s loc by_ hr hl => ?_, fun s loc by_ hr hl => ?_, fun s loc by_ n hr => ?_, fun s i => ?_⟩
  · rw [State.exec_correctableError hr, State.logCorrectable_unlocked loc hl]
    rfl
  · rw [State.exec_correctableError hr, State.logCorrectable_locked loc hl]
    rfl
  · have nobody : ¬ s.canRead loc by_ = true := by simp [hr]
    exact ⟨congrArg Host.Outcome.next (if_neg nobody), congrArg Host.Outcome.next (if_neg nobody)⟩
  · exact ⟨s.canRead_composer_band i, s.canRead_pressLink_band i, s.canRead_proofWriter_band i⟩

end Sys2Proof.Machine
end

section
/-! The registers and the fault record over the moves of the part: the depth and what it limits, ABANDON and the engine state,
and the cause with its address (R5, R6, R23, R206, R207, R209); and the event flags, which only a write, a reset or power-on
clears (R208, R210, R211). -/

namespace Sys2Proof.Machine

/-! ## The two parts of the register fields -/

/-- The depth in its range, CHAIN_HEAD aligned, and the order window and a record read in flight within the depth (R5, R6). -/
structure LimitsOk (s : State) : Prop where
  depth_pos : 1 ≤ s.window.depth
  depth_le : s.window.depth ≤ Config.maxDepth
  head_aligned : s.window.chainHead.extractLsb' 0 12 = 0#12
  window_le : s.walker.window.length ≤ s.window.depth
  limit_le : s.walker.readLimit ≤ s.window.depth
  limit_pos : ∀ n d, s.walker.unit = .recordRead n d → 1 ≤ s.walker.readLimit

/-- ABANDON reads 1 in DRAINING alone, and a cause with its address is held in FAULTED alone (R207, R209). -/
structure RecordOk (s : State) : Prop where
  abandon : s.window.abandon = true → s.control.engine = .draining
  fault : FaultRecordOk s.control

theorem registersOk_iff {s : State} : RegistersOk s ∧ FaultRecordOk s.control ↔ LimitsOk s ∧ RecordOk s := by
  constructor
  · rintro ⟨⟨pos, le, head, abandon, window, limit, read⟩, fault⟩
    exact ⟨⟨pos, le, head, window, limit, read⟩, ⟨abandon, fault⟩⟩
  · rintro ⟨⟨pos, le, head, window, limit, read⟩, ⟨abandon, fault⟩⟩
    exact ⟨⟨pos, le, head, abandon, window, limit, read⟩, fault⟩

/-- The fields that `LimitsOk` reads. -/
@[simp] def State.limitsView (s : State) : Nat × Addr × List OrderRecord × WalkerUnit × Nat :=
  (s.window.depth, s.window.chainHead, s.walker.window, s.walker.unit, s.walker.readLimit)

/-- The fields that `RecordOk` reads. -/
@[simp] def State.recordView (s : State) : Bool × EngineState × FaultCause × Addr :=
  (s.window.abandon, s.control.engine, s.control.cause, s.control.faultAddr)

theorem RecordOk.congr {s t : State} (h : RecordOk s) (ht : t.recordView = s.recordView) : RecordOk t := by
  simp only [State.recordView, Prod.mk.injEq] at ht
  obtain ⟨ha, he, hc, hf⟩ := ht
  obtain ⟨abandon, cause, address⟩ := h
  exact ⟨by rwa [ha, he], by rwa [hc, he], by rwa [he, hf]⟩

/-- The engine moves between states other than FAULTED: no cause is held before or after (R209). -/
theorem RecordOk.moved {s t : State} (h : RecordOk s) (hs : s.control.engine ≠ .faulted)
    (ht : t.control.engine ≠ .faulted)
    (hr : t.control.cause = s.control.cause ∧ t.control.faultAddr = s.control.faultAddr)
    (ha : t.window.abandon = true → t.control.engine = .draining) : RecordOk t := by
  obtain ⟨-, cause, address⟩ := h
  refine ⟨ha, ⟨?_, fun _ => hr.2.trans (address hs)⟩⟩
  rw [hr.1, iff_false_right ht]
  exact fun hc => hs (cause.1 hc)

/-- Outside DRAINING ABANDON reads 0 (R207). -/
theorem RecordOk.abandon_eq_false {s : State} (h : RecordOk s) (he : s.control.engine ≠ .draining) :
    s.window.abandon = false :=
  Bool.eq_false_iff.2 fun ha => he (h.abandon ha)

/-- The order window gets no longer, and no record read begins. -/
theorem LimitsOk.shrunk {s t : State} (h : LimitsOk s)
    (hf : t.window.depth = s.window.depth ∧ t.window.chainHead = s.window.chainHead ∧
      t.walker.readLimit = s.walker.readLimit)
    (hw : t.walker.window.length ≤ s.walker.window.length)
    (hu : ∀ n d, t.walker.unit = .recordRead n d → ∃ m e, s.walker.unit = .recordRead m e) : LimitsOk t := by
  obtain ⟨hd, hh, hl⟩ := hf
  obtain ⟨pos, le, head, window, limit, read⟩ := h
  refine ⟨by rwa [hd], by rwa [hd], by rwa [hh], by omega, by omega, fun n d hn => ?_⟩
  obtain ⟨m, e, hm⟩ := hu n d hn
  rw [hl]
  exact read m e hm

theorem LimitsOk.congr {s t : State} (h : LimitsOk s) (ht : t.limitsView = s.limitsView) : LimitsOk t := by
  simp only [State.limitsView, Prod.mk.injEq] at ht
  obtain ⟨hd, hh, hw, hu, hl⟩ := ht
  exact h.shrunk ⟨hd, hh, hl⟩ (by rw [hw]) fun n d hn => ⟨n, d, hu ▸ hn⟩

/-- A drain leaves a record read one, with its result to be discarded (R20). -/
theorem WalkerUnit.discardRead_recordRead {u : WalkerUnit} {n : Nat} {d : Bool} (h : u.discardRead = .recordRead n d) :
    ∃ m e, u = .recordRead m e := by
  cases u <;> simp [WalkerUnit.discardRead] at h ⊢

/-- So does a fault (R24). -/
theorem WalkerUnit.discardAll_recordRead {u : WalkerUnit} {n : Nat} {d : Bool} (h : u.discardAll = .recordRead n d) :
    ∃ m e, u = .recordRead m e := by
  cases u <;> simp [WalkerUnit.discardAll] at h ⊢

/-! ## Moves that keep them -/

/-- The register fields and the fault record stay in order. -/
structure RegistersKept (s t : State) : Prop where
  limits : LimitsOk s → LimitsOk t
  record : RecordOk s → RecordOk t

namespace RegistersKept

variable {s t u : State}

theorem refl (s : State) : RegistersKept s s := ⟨id, id⟩

theorem trans (h : RegistersKept s t) (h' : RegistersKept t u) : RegistersKept s u :=
  ⟨h'.limits ∘ h.limits, h'.record ∘ h.record⟩

/-- A move that leaves the fields of both as they are. -/
theorem of_view (h : t.limitsView = s.limitsView ∧ t.recordView = s.recordView) : RegistersKept s t :=
  ⟨(·.congr h.1), (·.congr h.2)⟩

/-- A move of the engine alone. -/
theorem of_engine (hl : t.limitsView = s.limitsView) (hr : RecordOk s → RecordOk t) : RegistersKept s t :=
  ⟨(·.congr hl), hr⟩

/-- A move of the walker alone. -/
theorem of_walker (hl : LimitsOk s → LimitsOk t) (hr : t.recordView = s.recordView) : RegistersKept s t :=
  ⟨hl, (·.congr hr)⟩

/-- A command that answers a state. -/
theorem of_next {t' : State} (h : Host.Outcome.next t' = (.next t : Out)) (h' : RegistersKept s t') :
    RegistersKept s t := by
  injection h with h
  exact h ▸ h'

end RegistersKept

namespace State

/-! ### The engine's moves (R185, R206) -/

theorem startEngine_running (s : State) : s.startEngine.control.engine = .running := by
  unfold startEngine
  dsimp only
  (repeat' split) <;> simp

/-- The engine starts with no fault held and ABANDON reading 0. -/
theorem startEngine_registersKept (s : State) (he : s.control.engine ≠ .faulted) (ha : s.window.abandon = false) :
    RegistersKept s s.startEngine :=
  .of_engine (by simp) fun h => h.moved he (by simp [startEngine_running]) (by simp) (by simp [ha])

theorem engineStops_registersKept (s : State) (he : s.control.engine ≠ .faulted) : RegistersKept s s.engineStops := by
  unfold engineStops
  have stopped : RegistersKept s
      ((s.setControl { s.control with engine := .stopped }).setWindow { s.window with abandon := false }) :=
    .of_engine (by simp) fun h => h.moved he (by simp) (by simp) (by simp)
  dsimp only
  split
  · exact stopped.trans (startEngine_registersKept _ (by simp) (by simp))
  · exact stopped

theorem stopIfDrained_registersKept (s : State) : RegistersKept s s.stopIfDrained := by
  unfold stopIfDrained
  split
  · rename_i hd
    exact s.engineStops_registersKept (by simp [((drained_iff s).1 hd).1])
  · exact .refl s

theorem walkerRests_registersKept (s : State) : RegistersKept s s.walkerRests := by
  unfold walkerRests
  split
  · exact .trans (.of_view (by simp)) (stopIfDrained_registersKept _)
  · exact .refl s

/-- A fault holds its cause and its address, and ABANDON reads 0 (R23, R24). -/
theorem engineFaults_registersKept (s : State) {c : FaultCause} (hc : c ≠ .none) (a : Addr) :
    RegistersKept s (s.engineFaults c a) := by
  unfold engineFaults
  split
  · refine ⟨fun h => h.shrunk (by simp) (by simp [faultWalker]) fun n d hu => ?_, fun _ => ⟨by simp, ?_, by simp⟩⟩
    · exact WalkerUnit.discardAll_recordRead (by simpa [faultWalker] using hu)
    · simpa using hc
  · exact .refl s

/-! ### RUN, ABANDON and RESET (R186, R206 to R208) -/

theorem drainWalker_registersKept (s : State) : RegistersKept s s.drainWalker :=
  .of_walker (fun h => h.shrunk (by simp) (by simp [drainWalker])
    fun _ _ hu => WalkerUnit.discardRead_recordRead (by simpa [drainWalker] using hu)) (by simp)

theorem abandonOrders_registersKept (s : State) : RegistersKept s s.abandonOrders := .of_view (by simp)

theorem writeRunOne_registersKept (s : State) : RegistersKept s s.writeRunOne := by
  unfold writeRunOne
  dsimp only
  split
  · rename_i he
    refine .of_engine (by simp) fun h => ?_
    have ha : s.window.abandon = false := h.abandon_eq_false (by simp [he])
    exact (startEngine_registersKept _ (by simp [he]) (by simpa using ha)).record (h.congr (by simp))
  · exact .of_view (by simp)

theorem writeRunZero_registersKept (s : State) : RegistersKept s s.writeRunZero := by
  unfold writeRunZero
  dsimp only
  split
  · rename_i he
    refine .trans (.trans ?_ (drainWalker_registersKept _)) (stopIfDrained_registersKept _)
    exact .of_engine (by simp) fun h => h.moved (by simp [he]) (by simp) (by simp) (by simp)
  · exact .of_view (by simp)

theorem writeAbandon_registersKept (s : State) : RegistersKept s s.writeAbandon := by
  unfold writeAbandon
  split
  · rename_i ha
    dsimp only
    split
    · exact .of_view (by simp)
    · refine .trans (.trans (.trans ?_ (drainWalker_registersKept _)) (abandonOrders_registersKept _))
        (stopIfDrained_registersKept _)
      have he : s.control.engine ≠ .faulted := fun he => by simp [abandonActs, he] at ha
      exact .of_engine (by simp) fun h => h.moved he (by simp) (by simp) (by simp)
  · exact .refl s

theorem engineReset_registersKept (s : State) : RegistersKept s s.engineReset := by
  refine ⟨fun ⟨pos, le, head, _, _, _⟩ => ⟨pos, le, head, Nat.zero_le _, Nat.zero_le _, ?_⟩, fun _ => ⟨?_, ?_, ?_⟩⟩
  · simp [engineReset, Walker.cleared]
  · simp [engineReset]
  · simp only [engineReset]
    split <;> simp
  · simp [engineReset]

/-! ### The fields of the window -/

/-- A depth that is accepted limits the order window and a record read in flight (R6). -/
theorem writeDepth_registersKept (s : State) (v : Nat) : RegistersKept s (s.writeDepth v) := by
  unfold writeDepth
  split
  · exact .refl s
  · rename_i hv
    simp only [not_or, not_lt] at hv
    refine .of_walker (fun h => ⟨hv.1, hv.2, h.head_aligned, by simp, by simp, fun n d hu => ?_⟩) (by simp)
    exact le_min (h.limit_pos n d hu) hv.1

theorem writePressMode_registersKept (s : State) (v : Nat) : RegistersKept s (s.writePressMode v) := .of_view (by simp)

theorem writeSweepPreset_registersKept (s : State) (v : BitVec 16) : RegistersKept s (s.writeSweepPreset v) :=
  .of_view (by simp)

/-- CHAIN_HEAD is taken with its low twelve bits cleared (R5). -/
theorem writeChainHead_registersKept (s : State) (v : Addr) : RegistersKept s (s.writeChainHead v) := by
  unfold writeChainHead
  split
  · exact .of_walker (fun ⟨pos, le, _, window, limit, read⟩ => ⟨pos, le, (alignedAddr_bits v).1, window, limit, read⟩)
      (by simp)
  · exact .refl s

theorem writeControl_registersKept (s : State) (v : BitVec 32) : RegistersKept s (s.writeControl v) := by
  have fields (u : State) (d m : Nat) (p : BitVec 16) :
      RegistersKept u (((u.writeDepth d).writePressMode m).writeSweepPreset p) :=
    ((u.writeDepth_registersKept d).trans (writePressMode_registersKept _ m)).trans (writeSweepPreset_registersKept _ p)
  unfold writeControl
  split
  · exact s.engineReset_registersKept
  · dsimp only
    split
    · exact s.writeAbandon_registersKept.trans (fields _ _ _ _)
    · split
      · exact (fields s _ _ _).trans (writeRunOne_registersKept _)
      · exact (fields s _ _ _).trans (writeRunZero_registersKept _)

theorem writeHold_registersKept (s : State) (v : BitVec 32) : RegistersKept s (s.writeHold v) := by
  unfold writeHold
  dsimp only
  split <;> exact .of_view (by simp)

theorem writeCheckLog_registersKept (s : State) (v : BitVec 32) : RegistersKept s (s.writeCheckLog v) := by
  unfold writeCheckLog
  dsimp only
  split <;> exact .of_view (by simp)

theorem writeHalf_registersKept (s : State) (i : Nat) (high : Bool) (v : BitVec 32) :
    RegistersKept s (s.writeHalf i high v) := by
  unfold writeHalf
  split
  · exact s.writeChainHead_registersKept _
  · exact s.writeControl_registersKept v
  · exact .of_view (by simp)
  · exact .of_view (by simp)
  · exact .of_view (by simp)
  · exact s.writeHold_registersKept v
  · exact s.writeCheckLog_registersKept v
  · exact .refl s

theorem writeRegister_registersKept (s : State) (offset size : Nat) (v : BitVec 64) :
    RegistersKept s (s.writeRegister offset size v) := by
  unfold writeRegister
  split
  · unfold writeWhole
    split
    · exact s.writeChainHead_registersKept v
    · exact .of_view (by simp)
    · exact s.writeHalf_registersKept _ _ _
  · split
    · exact s.writeHalf_registersKept _ _ _
    · exact .refl s

/-! ### Units of the walker and retirement (R7, R8, R11, R183) -/

/-- A unit of the walker that ends, whatever of the window its work has left. -/
theorem endWalkerUnit_registersKept (s : State) : RegistersKept s s.endWalkerUnit :=
  .of_walker (fun h => h.shrunk (by simp) (by simp) (by simp)) (by simp)

/-- A record read places at most as many records as its limit (R6, R7). -/
theorem placeRecords_registersKept (s : State) (folio : Addr) (slot n : Nat) (bs : List Byte) :
    RegistersKept s (s.placeRecords folio slot n bs) :=
  .of_walker (fun ⟨pos, le, head, _, limit, read⟩ =>
    ⟨pos, le, head, (List.length_take_le _ _).trans limit, limit, read⟩) (by simp)

theorem afterRecords_registersKept (s : State) : RegistersKept s s.afterRecords := .of_view (by simp)

theorem followNext_registersKept (s : State) (folio next : Addr) : RegistersKept s (s.followNext folio next) := by
  unfold followNext
  split
  · exact .of_view (by simp)
  · split
    · exact s.engineFaults_registersKept (by simp) _
    · exact .of_view (by simp)

theorem startOrder_registersKept (s : State) (r : OrderRecord) (sl : Option SheetSlot) :
    RegistersKept s (s.startOrder r sl) := .of_view (by simp)

theorem afterTake_registersKept (s : State) : RegistersKept s s.afterTake := by
  unfold afterTake
  split
  · exact .of_view (by simp)
  · exact s.walkerRests_registersKept

theorem retireHead_registersKept (s : State) (e : QueueEntry) (rest : List QueueEntry) :
    RegistersKept s (s.retireHead e rest) := by
  unfold retireHead
  refine .trans ?_ (stopIfDrained_registersKept _)
  dsimp only
  split <;> exact .of_view (by simp)

/-! ### Power-on (R211) -/

theorem reset_limitsOk : LimitsOk State.reset :=
  ⟨by decide, by decide, by decide, Nat.zero_le _, Nat.zero_le _, by simp [reset, Walker.cleared]⟩

theorem reset_recordOk : RecordOk State.reset := ⟨by decide, by decide, fun _ => rfl⟩

end State
end Sys2Proof.Machine
end

section
/-! Every command keeps the registers and the fault record in order, and every command but a write, a reset and power-on keeps
the event flags that are set (R23, R206 to R211). -/

namespace Sys2Proof.Machine

/-! ## Events (R210) -/

@[simp] theorem EventsKept.refl (w : BitVec 9) : EventsKept w w := fun _ h => h

/-- An event that was set is set still. -/
theorem EventsKept.hasEvent {s t : State} (h : EventsKept s.window.events t.window.events) (e : Event)
    (he : s.hasEvent e = true) : t.hasEvent e = true := h e.bit he

/-! ## Commands outside the order chain -/

/-- The event flags stay set, and ABANDON and the fault record stay as they are. -/
def RecordKept (s t : State) : Prop :=
  EventsKept s.window.events t.window.events ∧ t.window.abandon = s.window.abandon ∧
    t.control.cause = s.control.cause ∧ t.control.faultAddr = s.control.faultAddr

namespace RecordKept

variable {s t : State}

theorem refl (s : State) : RecordKept s s := ⟨.refl _, rfl, rfl, rfl⟩

/-- A command that answers a state. -/
theorem of_next {t' : State} (h : Host.Outcome.next t' = (.next t : Out)) (h' : RecordKept s t') : RecordKept s t := by
  injection h with h
  exact h ▸ h'

/-- Outside the order chain no command clears an event, and none touches the fault record. The commands stand by the
operations through which they can raise one: none; units that end (R192); the check log (R197, R198); the Press Link's
endings of an attempt (R155, R160, R177); and the hold (R192). -/
theorem exec {c : Instr} (hc : outsideChain c = true) (hv : ∀ v, c ≠ .eventsWrite v) (hx : Machine.exec c s = .next t) :
    RecordKept s t := by
  cases c with
  | eventsWrite v => exact absurd rfl (hv v)
  | checkLogClear | poisonSelect => exact of_next hx (by simp [RecordKept])
  | profileBlockReadStart | glyphUnitStart | ticketReadStart | layoutReadStart | rosterReadStart | subjectReadStart |
    bannerTextReadStart | buildComplete | accept | acceptTimerExpiry | resultTimerExpiry | bandWriteStart |
    reportWriteStart | retireStart =>
    exact of_next hx (by (repeat' split) <;> simp [RecordKept])
  | readyRise | readyFall => exact of_next hx (by dsimp only; (repeat' split) <;> simp [RecordKept])
  | profileBlockReadDone | glyphUnitDone | reportWriteDone =>
    exact of_next hx (by (repeat' split) <;> simp [RecordKept, State.finishDiscarded_events, State.endUnit_events])
  | subjectReadDone | bannerTextReadDone =>
    exact of_next hx (by
      (repeat' split) <;>
        simp [RecordKept, State.finishDiscarded_events, State.endUnit_events, State.planReadFails_events])
  | ticketReadDone | layoutReadDone | rosterReadDone =>
    exact of_next hx (by
      dsimp only
      (repeat' split) <;>
        simp [RecordKept, State.finishDiscarded_events, State.endUnit_events, State.planReadFails_events])
  | buildStart | buildFailure =>
    exact of_next hx (by dsimp only; (repeat' split) <;> simp [RecordKept, State.endUnit_events])
  | sourceReadDone =>
    exact of_next hx (by
      (repeat' split) <;>
        simp [RecordKept, State.finishDiscarded_events, State.endBuildUnit_events, State.receiveSource_events])
  | bandWriteDone | bandWriteFail =>
    exact of_next hx (by
      (repeat' split) <;>
        simp [RecordKept, State.finishDiscardedBand_events, State.spoil_events, State.endBandWrite_events])
  | sheetEnterComposing =>
    refine of_next hx ?_
    split
    · cases s.ticketOf _ with
      | none => exact refl s
      | some k => exact ⟨State.enterComposing_events _ _ (State.findAgain_events _ (.refl _)), by simp⟩
    · exact refl s
  | bandPaintDone | bandSendDone =>
    exact of_next hx (by dsimp only; (repeat' split) <;> simp [RecordKept, State.findAgain_events])
  | correctableError | uncorrectableError =>
    exact of_next hx (by
      (repeat' split) <;>
        simp [RecordKept, State.logCorrectable_events, State.logUncorrectable_events, State.takeDamage_events])
  | waitTimerExpiry | windowTimerExpiry =>
    refine of_next hx ?_
    split
    · exact ⟨State.raise_events _ (.refl _), by simp⟩
    · exact refl s
  | bandTimerExpiry =>
    refine of_next hx ?_
    dsimp only
    (repeat' split)
    · exact ⟨State.bandDue_events _ (.refl _), by simp⟩
    all_goals simp [RecordKept]
  | graceTimerExpiry => exact of_next hx (by (repeat' split) <;> simp [RecordKept, State.underrun_events])
  | result => exact of_next hx (by (repeat' split) <;> simp [RecordKept, State.pressSpoils_events])
  | _ => exact absurd hc Bool.false_ne_true

end RecordKept

/-! ## Every command -/

namespace RegistersKept

variable {s t : State}

/-- A command outside the order chain leaves the walker's window and unit, the engine and CHAIN_HEAD and the depth. -/
theorem outside {c : Instr} (hc : outsideChain c = true) (hx : Machine.exec c s = .next t) : RegistersKept s t := by
  have flags : t.window.abandon = s.window.abandon ∧ t.control.cause = s.control.cause ∧
      t.control.faultAddr = s.control.faultAddr := by
    by_cases hv : ∃ v, c = .eventsWrite v
    · obtain ⟨v, rfl⟩ := hv
      injection hx with hx
      subst hx
      simp
    · exact (RecordKept.exec hc (fun v hv' => hv ⟨v, hv'⟩) hx).2
  obtain ⟨walker, engine, fields⟩ := OutsideChain.exec hc hx
  simp only [State.serverFields, ServerFields.mk.injEq] at fields
  refine of_view ⟨?_, by simp [flags, engine]⟩
  rcases walker with hw | ⟨-, -, hw⟩ <;> simp [fields, hw]

/-- A record read starts with the depth as its limit (R6). -/
theorem recordReadStart (hx : Machine.exec .recordReadStart s = .next t) : RegistersKept s t := by
  refine of_next hx ?_
  split
  · split
    · exact of_walker (fun ⟨pos, le, head, window, _, _⟩ => ⟨pos, le, head, window, le_rfl, fun _ _ _ => pos⟩) (by simp)
    · exact refl s
  · exact refl s

theorem trailerReadStart (hx : Machine.exec .trailerReadStart s = .next t) : RegistersKept s t := by
  refine of_next hx ?_
  split
  · split
    · exact of_walker (fun h => h.shrunk (by simp) (by simp) (by simp)) (by simp)
    · exact refl s
  · exact refl s

theorem takeStart (hx : Machine.exec .takeStart s = .next t) : RegistersKept s t := by
  refine of_next hx ?_
  split
  · rename_i r rest hw
    split
    · exact of_walker (fun h => h.shrunk (by simp) (by simp [hw]) (by simp)) (by simp)
    · exact refl s
  · exact refl s

theorem recordReadDone {u : UnitOf} {r : ReadResult} (hx : Machine.exec (.recordReadDone u r) s = .next t) :
    RegistersKept s t := by
  refine of_next hx ?_
  split
  · exact of_view (by simp)
  · split
    · split
      · exact s.endWalkerUnit_registersKept.trans (State.engineFaults_registersKept _ (by simp) _)
      · split
        · split
          · exact s.endWalkerUnit_registersKept.trans (State.walkerRests_registersKept _)
          · exact (s.endWalkerUnit_registersKept.trans (State.placeRecords_registersKept _ _ _ _ _)).trans
              (State.afterRecords_registersKept _)
        · exact refl s
    · exact refl s

theorem trailerReadDone {u : UnitOf} {r : ReadResult} (hx : Machine.exec (.trailerReadDone u r) s = .next t) :
    RegistersKept s t := by
  refine of_next hx ?_
  split
  · exact of_view (by simp)
  · split
    · split
      · exact s.endWalkerUnit_registersKept.trans (State.engineFaults_registersKept _ (by simp) _)
      · split
        · split
          · exact s.endWalkerUnit_registersKept.trans (State.walkerRests_registersKept _)
          · exact s.endWalkerUnit_registersKept.trans (State.followNext_registersKept _ _ _)
        · exact refl s
    · exact refl s

theorem takenWriteDone {u : UnitOf} {ok : Bool} (hx : Machine.exec (.takenWriteDone u ok) s = .next t) :
    RegistersKept s t := by
  refine of_next hx ?_
  split
  · exact of_view (by simp)
  · split
    · split
      · exact s.endWalkerUnit_registersKept
      · split
        · exact (s.endWalkerUnit_registersKept.trans (State.startOrder_registersKept _ _ _)).trans
            (State.afterTake_registersKept _)
        · exact s.endWalkerUnit_registersKept.trans (State.engineFaults_registersKept _ (by simp) _)
    · exact refl s

theorem resultsWriteDone {u : UnitOf} {ok : Bool} (hx : Machine.exec (.resultsWriteDone u ok) s = .next t) :
    RegistersKept s t := by
  refine of_next hx ?_
  split
  · exact of_view (by simp)
  · split
    · split
      · exact of_view (by simp)
      · split
        · exact of_view (by simp)
        · exact (of_view (by simp)).trans (State.engineFaults_registersKept _ (by simp) _)
    · exact refl s

theorem doneWriteDone {u : UnitOf} {ok : Bool} (hx : Machine.exec (.doneWriteDone u ok) s = .next t) :
    RegistersKept s t := by
  refine of_next hx ?_
  split
  · exact of_view (by simp)
  · split
    · have ended : RegistersKept s (s.setRetire .none).endUnit := of_view (by simp)
      dsimp only
      split
      · exact ended.trans (State.retireHead_registersKept _ _ _)
      · exact ended.trans (State.engineFaults_registersKept _ (by simp) _)
    · exact refl s

theorem spentWriteDone {u : UnitOf} {ok : Bool} (hx : Machine.exec (.spentWriteDone u ok) s = .next t) :
    RegistersKept s t := by
  refine of_next hx ?_
  split
  · exact of_view (by simp)
  · split
    · have ended : RegistersKept s (s.setWalker { s.walker with spentInFlight := none }).endUnit := of_view (by simp)
      dsimp only
      split
      · exact ended.trans (State.stopIfDrained_registersKept _)
      · exact ended.trans (State.engineFaults_registersKept _ (by simp) _)
    · exact refl s

/-- Power-on brings every field to its power-on value (R211). -/
theorem powerOn (hx : Machine.exec .powerOn s = .next t) : RegistersKept s t := by
  injection hx with hx
  subst hx
  exact ⟨fun _ => State.reset_limitsOk.congr rfl, fun _ => State.reset_recordOk.congr rfl⟩

theorem scrubEnd (hx : Machine.exec .scrubEnd s = .next t) : RegistersKept s t := by
  refine of_next hx ?_
  split
  · rename_i he
    exact (of_view (by simp)).trans (State.engineStops_registersKept _ (by simp [he]))
  · exact refl s

/-- Every command keeps the register fields and the fault record in order. -/
theorem exec {c : Instr} (hx : Machine.exec c s = .next t) : RegistersKept s t := by
  cases c with
  | powerOn => exact powerOn hx
  | scrubEnd => exact scrubEnd hx
  | functionReset => exact of_next hx s.engineReset_registersKept
  | reset => exact of_next hx s.engineReset_registersKept
  | runStart => exact of_next hx s.writeRunOne_registersKept
  | runDrain => exact of_next hx s.writeRunZero_registersKept
  | abandon => exact of_next hx s.writeAbandon_registersKept
  | depthWrite v => exact of_next hx (s.writeDepth_registersKept _)
  | pressModeWrite v => exact of_next hx (s.writePressMode_registersKept _)
  | sweepPresetWrite v => exact of_next hx (s.writeSweepPreset_registersKept _)
  | chainHeadWrite v => exact of_next hx (s.writeChainHead_registersKept _)
  | wake v => exact of_next hx (of_view (by simp))
  | enablesWrite v => exact of_next hx (of_view (by simp))
  | holdRequest k p => exact of_next hx (of_view (by simp))
  | holdRelease k p => exact of_next hx (of_view (by simp))
  | registerWrite o n v => exact of_next hx (s.writeRegister_registersKept o n v)
  | sweepExpiry => exact of_next hx (of_view (by split <;> simp))
  | recordReadStart => exact recordReadStart hx
  | recordReadDone u r => exact recordReadDone hx
  | trailerReadStart => exact trailerReadStart hx
  | trailerReadDone u r => exact trailerReadDone hx
  | takeStart => exact takeStart hx
  | takenWriteDone u ok => exact takenWriteDone hx
  | resultsWriteDone u ok => exact resultsWriteDone hx
  | doneWriteDone u ok => exact doneWriteDone hx
  | spentWriteStart => exact of_next hx (of_view (by (repeat' split) <;> simp))
  | spentWriteDone u ok => exact spentWriteDone hx
  | _ => exact outside rfl hx

end RegistersKept

/-- Settles O4: every command keeps the limits of the depth and the fault record, and an idle step changes nothing. -/
theorem stepKeepsRegisters : Obligations.StepKeepsRegisters := by
  intro s t hr hf hx
  have kept : RegistersKept s t := by
    unfold step at hx
    split at hx
    · exact .of_next hx (.refl s)
    · exact .trans (.of_view (by simp)) (.exec hx)
  obtain ⟨limits, record⟩ := registersOk_iff.1 ⟨hr, hf⟩
  exact registersOk_iff.2 ⟨kept.limits limits, kept.record record⟩

namespace EventsKept

variable {s t : State}

/-- A command that answers a state. -/
theorem of_next {w : BitVec 9} {t' : State} (h : Host.Outcome.next t' = (.next t : Out))
    (h' : EventsKept w t'.window.events) : EventsKept w t.window.events := by
  injection h with h
  exact h ▸ h'

theorem recordReadDone {u : UnitOf} {r : ReadResult} (hx : Machine.exec (.recordReadDone u r) s = .next t) :
    EventsKept s.window.events t.window.events := by
  refine of_next hx ?_
  split
  · exact State.finishDiscarded_events _ (.refl _)
  · have ended : EventsKept s.window.events s.endWalkerUnit.window.events := State.endWalkerUnit_events (.refl _)
    split
    · split
      · exact State.engineFaults_events _ _ ended
      · split
        · split
          · exact State.walkerRests_events ended
          · exact State.afterRecords_events (by simpa [State.placeRecords] using ended)
        · exact .refl _
    · exact .refl _

theorem trailerReadDone {u : UnitOf} {r : ReadResult} (hx : Machine.exec (.trailerReadDone u r) s = .next t) :
    EventsKept s.window.events t.window.events := by
  refine of_next hx ?_
  split
  · exact State.finishDiscarded_events _ (.refl _)
  · have ended : EventsKept s.window.events s.endWalkerUnit.window.events := State.endWalkerUnit_events (.refl _)
    split
    · split
      · exact State.engineFaults_events _ _ ended
      · split
        · split
          · exact State.walkerRests_events ended
          · exact State.followNext_events _ _ ended
        · exact .refl _
    · exact .refl _

theorem takenWriteDone {u : UnitOf} {ok : Bool} (hx : Machine.exec (.takenWriteDone u ok) s = .next t) :
    EventsKept s.window.events t.window.events := by
  refine of_next hx ?_
  split
  · exact State.finishDiscarded_events _ (.refl _)
  · have ended : EventsKept s.window.events s.endWalkerUnit.window.events := State.endWalkerUnit_events (.refl _)
    split
    · split
      · exact ended
      · split
        · exact State.afterTake_events (by simpa using ended)
        · exact State.engineFaults_events _ _ ended
    · exact .refl _

theorem resultsWriteDone {u : UnitOf} {ok : Bool} (hx : Machine.exec (.resultsWriteDone u ok) s = .next t) :
    EventsKept s.window.events t.window.events := by
  refine of_next hx ?_
  split
  · exact State.finishDiscarded_events _ (.refl _)
  · split
    · split
      · exact State.endUnit_events (by simp)
      · split
        · simp
        · exact State.engineFaults_events _ _ (State.endUnit_events (by simp))
    · exact .refl _

theorem doneWriteDone {u : UnitOf} {ok : Bool} (hx : Machine.exec (.doneWriteDone u ok) s = .next t) :
    EventsKept s.window.events t.window.events := by
  refine of_next hx ?_
  split
  · exact State.finishDiscarded_events _ (.refl _)
  · split
    · dsimp only
      split
      · exact State.retireHead_events _ _ (State.endUnit_events (by simp))
      · exact State.engineFaults_events _ _ (State.endUnit_events (by simp))
    · exact .refl _

theorem spentWriteDone {u : UnitOf} {ok : Bool} (hx : Machine.exec (.spentWriteDone u ok) s = .next t) :
    EventsKept s.window.events t.window.events := by
  refine of_next hx ?_
  split
  · exact State.finishDiscarded_events _ (.refl _)
  · split
    · dsimp only
      split
      · exact State.stopIfDrained_events (State.endUnit_events (by simp))
      · exact State.engineFaults_events _ _ (State.endUnit_events (by simp))
    · exact .refl _

/-- A command of the order chain or of the register window that raises events and clears none. -/
theorem chain {c : Instr} (hc : outsideChain c = false) (hr : ∀ o n v, c ≠ .registerWrite o n v)
    (hp : c ≠ .powerOn) (hf : c ≠ .functionReset) (hs : c ≠ .reset) (hx : Machine.exec c s = .next t) :
    EventsKept s.window.events t.window.events := by
  have start : EventsKept s.window.events s.window.events := refl _
  cases c with
  | powerOn => exact absurd rfl hp
  | functionReset => exact absurd rfl hf
  | reset => exact absurd rfl hs
  | registerWrite o n v => exact absurd rfl (hr o n v)
  | scrubEnd =>
    refine of_next hx ?_
    split
    · exact State.engineStops_events (State.raise_events _ start)
    · exact start
  | runStart => exact of_next hx (State.writeRunOne_events start)
  | runDrain => exact of_next hx (State.writeRunZero_events start)
  | abandon => exact of_next hx (State.writeAbandon_events start)
  | wake v => exact of_next hx (State.wakeUp_events start)
  | holdRequest k p => exact of_next hx (State.requestHold_events _ _ start)
  | depthWrite | pressModeWrite | sweepPresetWrite | chainHeadWrite | enablesWrite | holdRelease =>
    exact of_next hx (by simp)
  | recordReadStart | trailerReadStart | takeStart | spentWriteStart =>
    exact of_next hx (by (repeat' split) <;> simp)
  | sweepExpiry =>
    refine of_next hx ?_
    split
    · exact State.seekFromIdle_events start
    · exact start
  | recordReadDone u r => exact recordReadDone hx
  | trailerReadDone u r => exact trailerReadDone hx
  | takenWriteDone u ok => exact takenWriteDone hx
  | resultsWriteDone u ok => exact resultsWriteDone hx
  | doneWriteDone u ok => exact doneWriteDone hx
  | spentWriteDone u ok => exact spentWriteDone hx
  | _ => exact absurd hc.symm Bool.false_ne_true

end EventsKept

/-- An engine reset keeps STORE_LOST and clears the others (R208). -/
theorem engineReset_keepsStoreLost {s : State} (h : s.hasEvent .storeLost = true) :
    s.engineReset.hasEvent .storeLost = true := by
  have bit : storeLostOnly.getLsbD Event.storeLost.bit = true := by decide
  simpa [State.hasEvent, State.engineReset, bit] using h

/-- Settles O9: no other command clears a flag, and an engine reset leaves STORE_LOST. -/
theorem eventsStaySet : Obligations.EventsStaySet := by
  refine ⟨fun c s t e hx he hv hr hp hf hs => ?_, fun c s t hx he hc => ?_⟩
  · cases hc : outsideChain c with
    | true => exact (RecordKept.exec hc hv hx).1.hasEvent e he
    | false => exact (EventsKept.chain hc hr hp hf hs hx).hasEvent e he
  · rcases hc with rfl | rfl
    all_goals
      injection hx with hx
      exact hx ▸ engineReset_keepsStoreLost he

end Sys2Proof.Machine
end

section
/-! Start-up, engine reset and RUN (R5, R15, R18 to R20, R116, R133, R146, R162, R185, R205, R206, R208, R211). -/

namespace Sys2Proof.Machine

/-! ## Power-on (R205, R211) -/

/-- Settles O3: each block at its power-on value meets its condition. -/
theorem resetIsSafe : Obligations.ResetIsSafe := by
  obtain ⟨registers, fault⟩ := registersOk_iff.2 ⟨State.reset_limitsOk, State.reset_recordOk⟩
  refine ⟨registers, fault, WalkerForm.walkerOk (.stopped (.inr (.inl rfl))), State.holdOk_free rfl rfl, Nat.zero_le _,
    ?_, ?_, ?_, ?_⟩
  · constructor <;> simp [State.reset, Link.closedWith]
  · constructor <;> decide
  · constructor <;> simp [State.reset, Writer.cleared]
  · constructor <;> simp [State.reset]

/-- The word of IDENT, the same in every state (R205). -/
theorem windowWord_ident (s : State) : windowWord s 0 = 0x0881_0001_12D4_4C4D := rfl

/-- Settles O12: the fields of IDENT's word. -/
theorem identReads : Obligations.IdentReads := by
  intro s
  rw [windowWord_ident]
  decide

/-! ## RUN (R19, R20, R185, R206) -/

namespace State

variable {s : State}

/-- RUN read 1 with the cursor and CHAIN_HEAD cleared brings the walker to IDLE (R5). -/
theorem startEngine_cleared (hc : s.walker.cursor = none) (hh : s.window.chainHead = 0#64) :
    s.startEngine = (s.setControl { s.control with engine := .running }).arriveIdle := by
  unfold startEngine
  rw [hc]
  exact if_pos hh

theorem startEngine_cursor {c : Cursor} (hc : s.walker.cursor = some c) :
    s.startEngine = (s.setControl { s.control with engine := .running }).setWalker { s.walker with state := .seeking } := by
  unfold startEngine
  rw [hc]

theorem startEngine_head (hc : s.walker.cursor = none) (hh : s.window.chainHead ≠ 0#64) :
    s.startEngine = (s.setControl { s.control with engine := .running }).setWalker
      { s.walker with state := .seeking, cursor := some ⟨s.window.chainHead, .slot 0⟩ } := by
  unfold startEngine
  rw [hc]
  exact if_neg hh

theorem writeRunOne_stopped (h : s.control.engine = .stopped) :
    s.writeRunOne = (s.setWindow { s.window with run := true }).startEngine := if_pos h

theorem writeRunOne_busy (h : s.control.engine ≠ .stopped) :
    s.writeRunOne = s.setWindow { s.window with run := true } := if_neg h

theorem writeRunZero_idle (h : s.control.engine ≠ .running) :
    s.writeRunZero = s.setWindow { s.window with run := false } := if_neg h

/-- The state in which a drain begins, before it is found complete or not (R20, R206). -/
def drainBegun (s : State) : State :=
  ((s.setWindow { s.window with run := false }).setControl { s.control with engine := .draining }).drainWalker

theorem drainBegun_unit (h : s.walker.unit ≠ .none) : s.drainBegun =
    ((s.setWindow { s.window with run := false }).setControl { s.control with engine := .draining }).setWalker
      { s.walker with
        window := [], cursor := cursorBack s.walker.cursor s.walker.window, sweepRunning := false
        unit := s.walker.unit.discardRead } := by
  simp [drainBegun, drainWalker, h]

/-- A walker with no unit of its own is STOPPED at once (R20). -/
theorem drainBegun_rests (h : s.walker.unit = .none) : s.drainBegun =
    ((s.setWindow { s.window with run := false }).setControl { s.control with engine := .draining }).setWalker
      { s.walker with
        window := [], cursor := cursorBack s.walker.cursor s.walker.window, sweepRunning := false
        state := .stopped } := by
  simp [drainBegun, drainWalker, h, WalkerUnit.discardRead]

theorem writeRunZero_drains {t : State} (he : s.control.engine = .running) (ht : s.drainBegun = t) :
    s.writeRunZero = t.stopIfDrained := ht ▸ if_pos he

/-- With RUN reading 0 the engine stays STOPPED. -/
theorem engineStops_stays (h : s.window.run = false) : s.engineStops =
    (s.setControl { s.control with engine := .stopped }).setWindow { s.window with abandon := false } := by
  unfold engineStops
  rw [h]
  rfl

theorem engineStops_runs (h : s.window.run = true) : s.engineStops =
    ((s.setControl { s.control with engine := .stopped }).setWindow { s.window with abandon := false }).startEngine := by
  unfold engineStops
  rw [h]
  rfl

end State

/-- Settles O15: the cases of the engine state, of the cursor and CHAIN_HEAD, and of what a drain has left to do. -/
theorem runWrites : Obligations.RunWrites := by
  refine ⟨fun s he => ?_, fun s c he hc => ?_, fun s he hc hh => ?_, fun s he hc hh => ?_, fun s he => ?_,
    fun s he hu hs => ?_, fun s he hu hb => ?_, fun s he hu hq hd hf => ?_⟩
  · exact congrArg Host.Outcome.next (State.writeRunOne_busy he)
  · exact congrArg Host.Outcome.next ((State.writeRunOne_stopped he).trans (State.startEngine_cursor hc))
  · exact congrArg Host.Outcome.next ((State.writeRunOne_stopped he).trans (State.startEngine_head hc hh))
  · have hx : s.writeRunOne = ((s.setWindow { s.window with run := true }).setControl
        { s.control with engine := .running }).arriveIdle :=
      (State.writeRunOne_stopped he).trans (State.startEngine_cleared hc hh)
    have entered := State.arriveIdle_entered ((s.setWindow { s.window with run := true }).setControl
        { s.control with engine := .running }) (.inr hc)
    refine ⟨_, congrArg Host.Outcome.next hx, by simp, by simp, entered.state, by simpa using hc, by simp,
      fun _ => entered.congr rfl rfl rfl, by simp, by simp⟩
  · exact congrArg Host.Outcome.next (State.writeRunZero_idle he)
  · refine congrArg Host.Outcome.next ?_
    rw [State.writeRunZero_drains he (State.drainBegun_unit hu), State.stopIfDrained_stays]
    · rfl
    · simp [State.drained_iff, hs]
  · refine congrArg Host.Outcome.next ?_
    rw [State.writeRunZero_drains he (State.drainBegun_rests hu), State.stopIfDrained_stays]
    · rfl
    · rw [State.drained_iff]
      rintro ⟨-, hq, -, hd, hi⟩
      rcases hb with h | h | h <;> contradiction
  · refine congrArg Host.Outcome.next ?_
    rw [State.writeRunZero_drains he (State.drainBegun_rests hu), State.stopIfDrained_stops]
    · rfl
    · simp [State.drained_iff, hq, hd, hf]
    · rfl

/-! ## The scrub (R211) -/

theorem Composer.scrubbed_buf (c : Composer) (i : BufferId) :
    c.scrubbed.buf i = { c.buf i with pixels := [], poisoned := false } := by
  cases i <;> rfl

/-- SCRUB_END in SCRUBBING: the buffers zero, SCRUB_DONE raised, and the engine in STOPPED or RUNNING. -/
theorem State.exec_scrubEnd {s : State} (h : s.control.engine = .scrubbing) :
    exec .scrubEnd s = .next ((s.setComposer s.composer.scrubbed).raise .scrubDone).engineStops :=
  congrArg Host.Outcome.next (if_pos h)

/-- The state after the scrub with the engine in RUNNING, before the walker leaves STOPPED. -/
def State.scrubbedRunning (s : State) : State :=
  { (s.setComposer s.composer.scrubbed).raise .scrubDone with
    control := { s.control with engine := .running }
    window := { ((s.setComposer s.composer.scrubbed).raise .scrubDone).window with abandon := false } }

theorem State.scrubbedRunning_hasEvent {s : State} (e : Event) :
    s.scrubbedRunning.hasEvent e = (s.hasEvent e || Event.scrubDone == e) :=
  State.hasEvent_raise (s.setComposer s.composer.scrubbed) .scrubDone e

/-- Settles O13: power-on by its values, and the scrub's end by RUN. -/
theorem powerOnAndScrub : Obligations.PowerOnAndScrub := by
  refine ⟨fun s => ?_, fun s he hr => ?_, fun x j => rfl, fun s he hr hc hh => ?_, fun s he => ?_⟩
  · refine ⟨_, rfl, rfl, rfl, rfl, rfl, rfl, fun p => ?_, fun g => ?_, fun i => ?_, fun i w => ?_, rfl, rfl, rfl,
      fun j => ?_, rfl, rfl, rfl, rfl, rfl, rfl, rfl, rfl, fun i j => ?_, rfl, rfl, rfl, rfl, rfl⟩
    · simp [State.reset]
    · simp [State.reset]
    · simp [State.reset, TileStore.powerOn, StoreSlot.blank]
    · cases w <;> simp [State.reset, TileStore.powerOn, TileStore.slot, TileSet.way, StoreSlot.blank]
    · simp [State.reset, TileStore.powerOn, ScratchPool.blank, ScratchSlot.blank]
    · cases i <;> exact ⟨rfl, rfl⟩
  · exact (State.exec_scrubEnd he).trans (congrArg Host.Outcome.next (State.engineStops_stays hr))
  · have hx : exec .scrubEnd s = .next s.scrubbedRunning.arriveIdle := by
      rw [State.exec_scrubEnd he, State.engineStops_runs, State.startEngine_cleared]
      exacts [rfl, hc, hh, hr]
    have entered : IdleEntered s.scrubbedRunning s.scrubbedRunning.arriveIdle :=
      State.arriveIdle_entered s.scrubbedRunning (.inr hc)
    refine ⟨_, hx, by simp [State.scrubbedRunning], entered.state, by simp [State.scrubbedRunning],
      by simpa [State.scrubbedRunning] using hc,
      EventsKept.hasEvent (State.arriveIdle_events (.refl _)) _ ((State.scrubbedRunning_hasEvent _).trans (by simp)),
      fun _ => entered.congr rfl rfl ((State.scrubbedRunning_hasEvent _).trans (by simp)).symm,
      by simp [State.scrubbedRunning], by simp [State.scrubbedRunning], fun i => ?_⟩
    have hb : s.scrubbedRunning.arriveIdle.composer.buf i = { s.composer.buf i with pixels := [], poisoned := false } := by
      simp [State.scrubbedRunning, Composer.scrubbed_buf]
    rw [hb]
    exact ⟨rfl, rfl, rfl, fun _ => rfl⟩
  · exact congrArg Host.Outcome.next (if_neg he)

/-! ## Engine reset (R116, R162, R208) -/

theorem StoreSlot.afterReset_slot (t : TileStore) (i : Fin 128) (w : Way) :
    t.afterReset.slot i w = (t.slot i w).afterReset := by
  cases w <;> simp [TileStore.afterReset, TileStore.slot, TileSet.mapWays, TileSet.way]

/-- ABORT under LIVE, where the link was OPENING or STREAMING (R162, R165). -/
theorem State.resetAbort_messages {s : State} {h : LinkHold} (hh : s.link.held = some h)
    (hs : s.link.state = .opening ∨ s.link.state = .streaming) : s.resetAbort.out.pressMessages =
      s.out.pressMessages ++ (if h.mode = .live then [.abort h.sheetId] else []) := by
  unfold State.resetAbort
  rw [hh]
  dsimp only
  rw [if_pos hs, State.tell]
  cases h.mode <;> simp [State.tellPress]

theorem State.resetAbort_silent {s : State} (ho : s.link.state ≠ .opening) (hs : s.link.state ≠ .streaming) :
    s.resetAbort = s := by
  unfold State.resetAbort
  cases s.link.held with
  | none => rfl
  | some h => exact if_neg (by simp [ho, hs])

/-- Settles O14: both commands make the one reset, each block by its rule. -/
theorem engineReset : Obligations.EngineReset := by
  intro s c hc
  refine ⟨s.engineReset, ?_, rfl, rfl, rfl, rfl, rfl, ?_, ?_, rfl, rfl, rfl, rfl, fun i w => ⟨?_, ?_⟩, rfl, rfl, rfl, rfl,
    ?_, fun h hh hs => State.resetAbort_messages hh hs, fun ho hs => ?_, ?_⟩
  · rcases hc with rfl | rfl <;> rfl
  · simp [State.engineReset]
  · simp [State.engineReset]
  · simp [State.engineReset, TileStore.afterReset, TileSet.mapWays]
  · exact StoreSlot.afterReset_slot s.store i w
  · simp [State.engineReset]
  · simp [State.engineReset, State.resetAbort_silent ho hs]
  · simp [State.engineReset]

end Sys2Proof.Machine
end

section
/-! Writes and reads of the register window (R203 to R209): the registers that a write of 4 or 8 bytes reaches, CONTROL's fields
in their order, and the fields that a read shows. -/

namespace Sys2Proof.Machine

/-! ## The low half of a register (R204) -/

/-- A field of the low half is that of the whole. -/
theorem extractLsb'_lowHalf (v : BitVec 64) {i n : Nat} (h : i + n ≤ 32) :
    (v.extractLsb' 0 32).extractLsb' i n = v.extractLsb' i n := BitVec.extractLsb'_extractLsb'_of_le h

/-! ## CONTROL (R206 to R208) -/

namespace State

variable {s : State}

/-- The depth, the press mode and the sweep preset of a write to CONTROL. -/
def writeFields (s : State) (v : BitVec 64) : State :=
  ((s.writeDepth (v.extractLsb' 4 4).toNat).writePressMode (v.extractLsb' 8 2).toNat).writeSweepPreset (v.extractLsb' 16 16)

theorem abandonActs_iff : s.abandonActs = true ↔ s.control.engine = .running ∨ s.control.engine = .stopped ∨
    (s.control.engine = .draining ∧ s.window.abandon = false) := by
  unfold abandonActs
  cases s.control.engine <;> simp

theorem abandonActs_eq_false (h : s.control.engine = .scrubbing ∨ s.control.engine = .faulted ∨
    (s.control.engine = .draining ∧ s.window.abandon = true)) : s.abandonActs = false := by
  unfold abandonActs
  rcases h with h | h | ⟨h, ha⟩
  · rw [h]
  · rw [h]
  · rw [h, ha]
    rfl

/-- RESET discards the other fields; ABANDON with effect comes before them, with RUN taken as 0; and RUN comes after them. -/
theorem writeControl_low (s : State) (v : BitVec 64) : s.writeControl (v.extractLsb' 0 32) =
    if v.getLsbD 2 = true then s.engineReset
    else if (v.getLsbD 1 && s.abandonActs) = true then s.writeAbandon.writeFields v
    else if v.getLsbD 0 = true then (s.writeFields v).writeRunOne else (s.writeFields v).writeRunZero := by
  unfold writeControl writeFields
  simp

theorem writeControl_reset {v : BitVec 64} (h : v.getLsbD 2 = true) :
    s.writeControl (v.extractLsb' 0 32) = s.engineReset := by rw [writeControl_low, if_pos h]

theorem writeControl_abandon {v : BitVec 64} (h2 : v.getLsbD 2 = false) (h1 : v.getLsbD 1 = true)
    (ha : s.abandonActs = true) : s.writeControl (v.extractLsb' 0 32) = s.writeAbandon.writeFields v := by
  rw [writeControl_low, h2, h1, ha]
  rfl

theorem writeControl_run {v : BitVec 64} (h2 : v.getLsbD 2 = false) (h1 : v.getLsbD 1 = false ∨ s.abandonActs = false) :
    s.writeControl (v.extractLsb' 0 32) =
      if v.getLsbD 0 = true then (s.writeFields v).writeRunOne else (s.writeFields v).writeRunZero := by
  have noAbandon : (v.getLsbD 1 && s.abandonActs) = false := Bool.and_eq_false_iff.2 h1
  rw [writeControl_low, h2, noAbandon]
  rfl

/-- RUN written where it neither starts the engine nor begins a drain (R206). -/
theorem writeRun_held (s : State) {r : Bool} (h : (r = true ∧ s.control.engine ≠ .stopped) ∨
    (r = false ∧ s.control.engine ≠ .running)) :
    (if r = true then s.writeRunOne else s.writeRunZero) = s.setWindow { s.window with run := r } := by
  rcases h with ⟨rfl, he⟩ | ⟨rfl, he⟩
  · exact writeRunOne_busy he
  · exact writeRunZero_idle he

theorem writePressMode_code (m : PressMode) : s.writePressMode m.code = s.setWindow { s.window with pressMode := m } := by
  cases m <;> rfl

theorem writeSweepPreset_busy (v : BitVec 16) (h : s.walker.state ≠ .idle) :
    s.writeSweepPreset v = s.setWindow { s.window with sweepPreset := v } := if_neg fun hi => h hi.1

/-- The three fields where none of them acts on the walker but for the limit of a read in flight (R6, R17, R164). -/
theorem writeFields_plain {v : BitVec 64} {m : PressMode} (hi : s.walker.state ≠ .idle)
    (h1 : 1 ≤ (v.extractLsb' 4 4).toNat) (h8 : (v.extractLsb' 4 4).toNat ≤ 8)
    (hw : s.walker.window.length ≤ (v.extractLsb' 4 4).toNat) (hm : (v.extractLsb' 8 2).toNat = m.code) :
    s.writeFields v = (s.setWindow { s.window with
      depth := (v.extractLsb' 4 4).toNat, pressMode := m, sweepPreset := v.extractLsb' 16 16 }).setWalker
        { s.walker with readLimit := min s.walker.readLimit (v.extractLsb' 4 4).toNat } := by
  rw [writeFields, hm, writeDepth_fits s _ h1 h8 hw, writePressMode_code, writeSweepPreset_busy _ (by simpa using hi)]
  rfl

/-! ## Writes by offset (R203, R204) -/

/-- The registers with no field to write (R203). -/
theorem writeHalf_none (s : State) {i : Nat} (high : Bool) (v : BitVec 32) (h : i = 0 ∨ i = 4 ∨ i = 5 ∨ 10 ≤ i) :
    s.writeHalf i high v = s := by
  unfold writeHalf
  split
  case h_8 => rfl
  all_goals omega

/-- The high halves with no field to write (R203). -/
theorem writeHalf_high (s : State) {i : Nat} (v : BitVec 32) (h1 : i ≠ 1) (h3 : i ≠ 3) : s.writeHalf i true v = s := by
  unfold writeHalf
  split
  case h_8 => rfl
  all_goals contradiction

theorem writeWhole_none (s : State) {i : Nat} (v : BitVec 64) (h : i = 0 ∨ i = 4 ∨ i = 5 ∨ 10 ≤ i) :
    s.writeWhole i v = s := by
  unfold writeWhole
  split
  · omega
  · omega
  · exact s.writeHalf_none _ _ h

/-- A write of another size or alignment, or to a part of the window with no field to write (R204). -/
theorem writeRegister_none (s : State) {o n : Nat} (v : BitVec 64) (h : (n ≠ 4 ∧ n ≠ 8) ∨ o % n ≠ 0 ∨ o < 8 ∨
    (0x20 ≤ o ∧ o < 0x30) ∨ 0x50 ≤ o ∨ (n = 4 ∧ (o = 0x14 ∨ o = 0x34 ∨ o = 0x3C ∨ o = 0x44 ∨ o = 0x4C))) :
    s.writeRegister o n v = s := by
  unfold writeRegister
  split
  · rename_i hn
    obtain ⟨rfl, ho⟩ := hn
    exact s.writeWhole_none v (by omega)
  · split
    · rename_i hn
      obtain ⟨rfl, ho⟩ := hn
      rcases h with h | h | h | h | h | ⟨-, rfl | rfl | rfl | rfl | rfl⟩
      · omega
      · omega
      · exact s.writeHalf_none _ _ (by omega)
      · exact s.writeHalf_none _ _ (by omega)
      · exact s.writeHalf_none _ _ (by omega)
      all_goals rfl
    · rfl

/-- A write of 4 bytes to the low half of a register other than CHAIN_HEAD and WAKE acts as one of 8 to the whole. -/
theorem exec_registerWrite_low (s : State) {n i : Nat} (v : BitVec 64) (hn : n = 4 ∨ n = 8) (h1 : i ≠ 1) (h3 : i ≠ 3) :
    exec (.registerWrite (8 * i) n v) s = .next (s.writeHalf i false (v.extractLsb' 0 32)) := by
  refine congrArg Host.Outcome.next ?_
  rcases hn with rfl | rfl
  · simp [writeRegister, Nat.mul_mod_right, show 8 * i % 4 = 0 by omega]
  · simp only [writeRegister, Nat.mul_mod_right, and_self, if_true, Nat.mul_div_cancel_left i (by decide : 0 < 8)]
    unfold writeWhole
    split
    case h_3 => rfl
    all_goals contradiction

theorem writeCheckLog_poison {v : BitVec 64} {p : Poison} (hp : (v.extractLsb' 4 2).toNat = p.code) :
    s.writeCheckLog (v.extractLsb' 0 32) =
      (if v.getLsbD 0 = true then s.clearLog else s).setCheck
        { (if v.getLsbD 0 = true then s.clearLog else s).check with poison := p } := by
  have selected : poisonOf p.code = p := by cases p <;> rfl
  unfold writeCheckLog selectPoison
  simp [hp, selected]

theorem writeHold_low {v : BitVec 64} : s.writeHold (v.extractLsb' 0 32) =
    if v.getLsbD 0 = true then s.requestHold (v.extractLsb' 4 3) (v.getLsbD 8)
    else s.releaseHold (v.extractLsb' 4 3) (v.getLsbD 8) := by
  unfold writeHold
  simp

end State

/-- The bits of an address above its low twelve are kept when those are cleared (R5). -/
theorem alignedAddr_field (a : Addr) {i n : Nat} (h : 12 ≤ i) :
    ((a >>> 12) <<< 12).extractLsb' i n = a.extractLsb' i n := by
  ext j hj
  have above : ¬ i + j < 12 := by omega
  have back : 12 + (i + j - 12) = i + j := by omega
  simpa [above, back] using BitVec.lt_of_getLsbD

/-- The low half replaced: its bits are those written, and the high half stays (R204). -/
theorem withHalf_low (old : Addr) (v : BitVec 32) :
    (withHalf old false v).extractLsb' 12 20 = v.extractLsb' 12 20 ∧
      (withHalf old false v).extractLsb' 32 32 = old.extractLsb' 32 32 := by
  constructor
  · rw [withHalf, if_neg Bool.false_ne_true, BitVec.extractLsb'_append_eq_of_add_le (by decide)]
  · exact BitVec.extractLsb'_append_eq_left

/-- The high half replaced, and the low half as it was (R204). -/
theorem withHalf_high (old : Addr) (v : BitVec 32) :
    (withHalf old true v).extractLsb' 12 20 = old.extractLsb' 12 20 ∧ (withHalf old true v).extractLsb' 32 32 = v := by
  constructor
  · rw [withHalf, if_pos rfl, BitVec.extractLsb'_append_eq_of_add_le (by decide),
      BitVec.extractLsb'_extractLsb'_of_le (by decide)]
  · exact BitVec.extractLsb'_append_eq_left

/-! ## What a read shows (R203, R204) -/

theorem readWindow_byte (s : State) {i j n k : Nat} (hk : k < n) (hj : j + k < 8) :
    u8 (readWindow s (8 * i + j) n) k = windowWord s i / 256 ^ (j + k) % 256 := by
  have hdiv : (8 * i + j + k) / 8 = i := by omega
  have hmod : (8 * i + j + k) % 8 = j + k := by omega
  simp [u8, byteAt, readWindow, windowByte, hk, hdiv, hmod]

/-- Four bytes of a register from one of its halves on (R204). -/
theorem readWindow_half (s : State) {i j n k : Nat} (hk : k + 4 ≤ n) (hj : j + k + 4 ≤ 8) :
    u32 (readWindow s (8 * i + j) n) k = windowWord s i / 256 ^ (j + k) % 2 ^ 32 := by
  simp only [u32, u16]
  rw [readWindow_byte s (by omega) (by omega), readWindow_byte s (by omega) (by omega),
    readWindow_byte s (by omega) (by omega), readWindow_byte s (by omega) (by omega)]
  simp only [← Nat.add_assoc, Nat.pow_add, ← Nat.div_div_eq_div_mul]
  omega

/-! ## The widths of the fields (R203) -/

theorem EngineState.code_lt (e : EngineState) : e.code < 16 := by cases e <;> decide

theorem WalkerState.code_lt (w : WalkerState) : w.code < 16 := by cases w <;> decide

theorem HoldState.code_lt (h : HoldState) : h.code < 16 := by cases h <;> decide

theorem LinkState.code_lt (l : LinkState) : l.code < 16 := by cases l <;> decide

theorem FaultCause.code_lt (c : FaultCause) : c.code < 16 := by cases c <;> decide

theorem PressMode.code_lt (m : PressMode) : m.code < 16 := by cases m <;> decide

theorem HoldResult.code_lt (r : HoldResult) : r.code < 16 := by cases r <;> decide

theorem Poison.code_lt (p : Poison) : p.code < 16 := by cases p <;> decide

theorem bit_lt (b : Bool) : bit b < 2 := by cases b <;> decide

theorem checkArea_lt (l : Option CheckLoc) : checkArea l < 4 := by
  rcases l with _ | ⟨set, way⟩ | ⟨pool, i⟩ | b | ⟨set, code⟩ <;> simp [checkArea]

/-- A location has 24 bits, in every area (R203). -/
theorem checkLocation_lt (l : Option CheckLoc) : checkLocation l < 2 ^ 24 := by
  rcases l with _ | ⟨set, way⟩ | ⟨pool, i⟩ | b | ⟨set, code⟩
  · decide
  · have := set.isLt
    cases way <;> simp only [checkLocation] <;> omega
  · have := i.isLt
    cases pool <;> simp only [checkLocation] <;> omega
  · cases b <;> decide
  · have := set.isLt
    have := code.isLt
    simp only [checkLocation]
    omega

/-- At 0x58 and above no register shows a field (R204). -/
theorem windowWord_above (s : State) {i : Nat} (h : 11 ≤ i) : windowWord s i = 0 := by
  unfold windowWord
  split
  case h_11 => rfl
  all_goals omega

/-! ## The registers one by one (R203, R205, R209) -/

section
variable {s : State}

theorem windowWord_control (hd : s.window.depth ≤ 8) :
    windowWord s 2 < 2 ^ 32 ∧ windowWord s 2 % 2 = bit s.window.run ∧ windowWord s 2 / 2 % 2 = bit s.window.abandon ∧
      windowWord s 2 / 4 % 4 = 0 ∧ windowWord s 2 / 2 ^ 4 % 2 ^ 4 = s.window.depth ∧
      windowWord s 2 / 2 ^ 8 % 2 ^ 8 = s.window.pressMode.code ∧
      windowWord s 2 / 2 ^ 16 = s.window.sweepPreset.toNat := by
  have word : windowWord s 2 = bit s.window.run + 2 * bit s.window.abandon + 16 * s.window.depth +
    256 * s.window.pressMode.code + 65536 * s.window.sweepPreset.toNat := rfl
  have run := bit_lt s.window.run
  have abandon := bit_lt s.window.abandon
  have mode := s.window.pressMode.code_lt
  have preset := s.window.sweepPreset.isLt
  omega

theorem windowWord_status (s : State) :
    windowWord s 4 < 2 ^ 32 ∧ windowWord s 4 % 2 ^ 4 = s.control.engine.code ∧
      windowWord s 4 / 2 ^ 4 % 2 ^ 4 = s.walker.state.code ∧ windowWord s 4 / 2 ^ 8 % 2 ^ 4 = s.port.hold.code ∧
      windowWord s 4 / 2 ^ 12 % 2 ^ 4 = s.link.state.code ∧ windowWord s 4 / 2 ^ 16 = s.control.cause.code := by
  have word : windowWord s 4 = s.control.engine.code + 16 * s.walker.state.code + 256 * s.port.hold.code +
    4096 * s.link.state.code + 65536 * s.control.cause.code := rfl
  have engine := s.control.engine.code_lt
  have walker := s.walker.state.code_lt
  have hold := s.port.hold.code_lt
  have link := s.link.state.code_lt
  have cause := s.control.cause.code_lt
  omega

theorem windowWord_hold (s : State) :
    windowWord s 8 < 2 ^ 32 ∧ windowWord s 8 % 2 ^ 4 = bit (s.port.hold != .free) ∧
      windowWord s 8 / 2 ^ 4 % 2 ^ 4 = s.port.windowCode.toNat ∧
      windowWord s 8 / 2 ^ 8 % 2 ^ 8 = bit s.port.pressFirst ∧ windowWord s 8 / 2 ^ 16 % 2 ^ 4 = s.port.hold.code ∧
      windowWord s 8 / 2 ^ 20 = s.port.lastResult.code := by
  have word : windowWord s 8 = bit (s.port.hold != .free) + 16 * s.port.windowCode.toNat + 256 * bit s.port.pressFirst +
    65536 * s.port.hold.code + 2 ^ 20 * s.port.lastResult.code := rfl
  have request := bit_lt (s.port.hold != .free)
  have code := s.port.windowCode.isLt
  have first := bit_lt s.port.pressFirst
  have hold := s.port.hold.code_lt
  have result := s.port.lastResult.code_lt
  omega

theorem windowWord_checkLog (s : State) :
    windowWord s 9 < 2 ^ 32 ∧ windowWord s 9 % 2 ^ 4 = 2 * bit s.check.locked ∧
      windowWord s 9 / 2 ^ 4 % 2 ^ 4 = s.check.poison.code ∧ windowWord s 9 / 2 ^ 8 = s.check.count.toNat := by
  have word : windowWord s 9 = 2 * bit s.check.locked + 16 * s.check.poison.code + 256 * s.check.count.toNat := rfl
  have locked := bit_lt s.check.locked
  have poison := s.check.poison.code_lt
  have count := s.check.count.isLt
  omega

theorem windowWord_checkRecords (s : State) :
    windowWord s 10 < 2 ^ 64 ∧ windowWord s 10 % 2 ^ 8 = checkArea s.check.correctable ∧
      windowWord s 10 / 2 ^ 8 % 2 ^ 24 = checkLocation s.check.correctable ∧
      windowWord s 10 / 2 ^ 32 % 2 ^ 8 = checkArea s.check.uncorrectable ∧
      windowWord s 10 / 2 ^ 40 = checkLocation s.check.uncorrectable := by
  have word : windowWord s 10 = checkArea s.check.correctable + 256 * checkLocation s.check.correctable +
    2 ^ 32 * checkArea s.check.uncorrectable + 2 ^ 40 * checkLocation s.check.uncorrectable := rfl
  have area := checkArea_lt s.check.correctable
  have place := checkLocation_lt s.check.correctable
  have area' := checkArea_lt s.check.uncorrectable
  have place' := checkLocation_lt s.check.uncorrectable
  omega

/-- The eight bytes of IDENT (R205). -/
theorem readWindow_ident (s : State) :
    readWindow s 0 8 = [0x4D#8, 0x4C#8, 0xD4#8, 0x12#8, 0x01#8, 0x00#8, 0x81#8, 0x08#8] := by
  have bytes : readWindow s 0 8 = (List.range 8).map fun k => BitVec.ofNat 8 (0x0881_0001_12D4_4C4D / 256 ^ k) := by
    refine List.map_congr_left fun k hk => ?_
    have lt : 0 + k < 8 := by simpa using hk
    rw [windowByte, Nat.div_eq_of_lt lt, Nat.mod_eq_of_lt lt, windowWord_ident, Nat.zero_add]
  exact bytes.trans (by decide)

/-- A register has 64 bits. -/
theorem windowWord_lt (hd : s.window.depth ≤ 8) {i : Nat} (hi : i < 12) : windowWord s i < 2 ^ 64 := by
  have low {w : Nat} (h : w < 2 ^ 32) : w < 2 ^ 64 := h.trans (by decide)
  match i, hi with
  | 0, _ => rw [windowWord_ident]; decide
  | 1, _ => exact s.window.chainHead.isLt
  | 2, _ => exact low (windowWord_control hd).1
  | 3, _ => exact low (by decide : 0 < 2 ^ 32)
  | 4, _ => exact low (windowWord_status s).1
  | 5, _ => exact s.control.faultAddr.isLt
  | 6, _ => exact s.window.events.isLt.trans (by decide)
  | 7, _ => exact s.window.enables.isLt.trans (by decide)
  | 8, _ => exact low (windowWord_hold s).1
  | 9, _ => exact low (windowWord_checkLog s).1
  | 10, _ => exact (windowWord_checkRecords s).1
  | 11, _ => exact low (by decide : 0 < 2 ^ 32)

/-- A read shows each register whole and by halves, and each field at its place (R203 to R205, R209). -/
theorem windowReads (s : State) (hd : s.window.depth ≤ 8) : WindowReads s where
  whole i hi := by
    have lt := windowWord_lt hd hi
    have lowHalf := readWindow_half s (i := i) (j := 0) (n := 8) (k := 0) (by decide) (by decide)
    have highHalf := readWindow_half s (i := i) (j := 0) (n := 8) (k := 4) (by decide) (by decide)
    rw [Nat.add_zero] at lowHalf highHalf
    rw [addrAt, lowHalf, highHalf, BitVec.toNat_ofNat]
    omega
  halves i hi := by
    have lt := windowWord_lt hd hi
    have lowHalf := readWindow_half s (i := i) (j := 0) (n := 4) (k := 0) (by decide) (by decide)
    have highHalf := readWindow_half s (i := i) (j := 4) (n := 4) (k := 0) (by decide) (by decide)
    rw [Nat.add_zero] at lowHalf
    rw [lowHalf, highHalf]
    omega
  ident := readWindow_ident s
  chainHead := rfl
  control := (windowWord_control hd).2
  wake := rfl
  status := (windowWord_status s).2
  faultAddr := rfl
  events := rfl
  enables := rfl
  hold := by
    have shown : bit (s.port.hold != .free) = if s.port.hold = .free then 0 else 1 := by
      cases s.port.hold <;> rfl
    rw [← shown]
    exact (windowWord_hold s).2
  checkLog := by
    have shown : 2 * bit s.check.locked = if s.check.locked then 2 else 0 := by cases s.check.locked <;> rfl
    rw [← shown]
    exact (windowWord_checkLog s).2
  checkRecords := (windowWord_checkRecords s).2
  above o n ho := by
    refine List.eq_replicate_iff.2 ⟨by simp [readWindow], fun b hb => ?_⟩
    obtain ⟨k, -, rfl⟩ := List.mem_map.1 hb
    simp [windowByte, windowWord_above s (show 11 ≤ (o + k) / 8 by omega)]

end

/-- Settles O22: CONTROL by the order of its fields, the other registers one by one, and the reads by `windowReads`. -/
theorem registerWritten : Obligations.RegisterWritten := by
  refine ⟨fun s n v hn => ⟨fun h2 => ?_, fun h2 h1 => ?_, fun h2 h1 he => ?_, fun m h2 h1 hr hi hd hd8 hw hm => ?_⟩,
    fun s v he => ?_, fun s v he => ?_, fun s v => ⟨s.wakeUp, rfl, rfl, rfl, rfl⟩, fun s n v hn => ?_,
    fun s o n v h => congrArg Host.Outcome.next (s.writeRegister_none v h), rfl, rfl, rfl, rfl, rfl, rfl, rfl, rfl,
    windowReads⟩
  · have hx := s.exec_registerWrite_low (i := 2) v hn (by decide) (by decide)
    exact ⟨_, hx.trans (congrArg _ (State.writeControl_reset h2)), rfl⟩
  · have hx := s.exec_registerWrite_low (i := 2) v hn (by decide) (by decide)
    have run := State.writeControl_run h2 (h1.imp_right State.abandonActs_eq_false)
    refine ⟨_, _, _, _, rfl, rfl, rfl, ?_, hx.trans (congrArg _ run)⟩
    cases v.getLsbD 0 <;> rfl
  · have hx := s.exec_registerWrite_low (i := 2) v hn (by decide) (by decide)
    exact ⟨_, _, _, _, rfl, rfl, rfl, rfl,
      hx.trans (congrArg _ (State.writeControl_abandon h2 h1 (State.abandonActs_iff.2 he)))⟩
  · have hx := s.exec_registerWrite_low (i := 2) v hn (by decide) (by decide)
    refine hx.trans (congrArg _ ((State.writeControl_run h2 (.inl h1)).trans ?_))
    rw [State.writeFields_plain hi hd hd8 hw hm]
    exact State.writeRun_held _ hr
  · have low := withHalf_low s.window.chainHead (v.extractLsb' 0 32)
    have high := withHalf_high s.window.chainHead (v.extractLsb' 0 32)
    rw [extractLsb'_lowHalf v (by decide)] at low
    refine ⟨_, _, _, congrArg _ (State.writeChainHead_stopped _ he), congrArg _ (State.writeChainHead_stopped _ he),
      congrArg _ (State.writeChainHead_stopped _ he), (alignedAddr_bits v).1, (alignedAddr_bits v).2,
      (alignedAddr_bits _).1, (alignedAddr_field _ (by decide)).trans low.1,
      (alignedAddr_field _ (by decide)).trans low.2, (alignedAddr_bits _).1,
      (alignedAddr_field _ (by decide)).trans high.1, (alignedAddr_field _ (by decide)).trans high.2⟩
  · exact ⟨congrArg _ (State.writeChainHead_busy _ he), congrArg _ (State.writeChainHead_busy _ he),
      congrArg _ (State.writeChainHead_busy _ he)⟩
  · have field := extractLsb'_lowHalf v (i := 0) (n := 9) (by decide)
    refine ⟨?_, ?_, fun h0 => ?_, fun h0 => ?_, fun p hp => ⟨fun h0 => ?_, fun h0 => ?_⟩⟩
    · have hx := s.exec_registerWrite_low (i := 6) v hn (by decide) (by decide)
      exact hx.trans (congrArg (fun e => Host.Outcome.next (s.writeEvents e)) field)
    · have hx := s.exec_registerWrite_low (i := 7) v hn (by decide) (by decide)
      exact hx.trans (congrArg (fun e => Host.Outcome.next (s.writeEnables e)) field)
    · have hx := s.exec_registerWrite_low (i := 8) v hn (by decide) (by decide)
      exact ⟨_, rfl, hx.trans (congrArg _ (State.writeHold_low.trans (if_pos h0)))⟩
    · have hx := s.exec_registerWrite_low (i := 8) v hn (by decide) (by decide)
      exact ⟨_, rfl, hx.trans (congrArg _ (State.writeHold_low.trans (if_neg (Bool.eq_false_iff.1 h0))))⟩
    · have hx := s.exec_registerWrite_low (i := 9) v hn (by decide) (by decide)
      refine hx.trans (congrArg _ ((State.writeCheckLog_poison hp).trans ?_))
      rw [h0]
      rfl
    · have hx := s.exec_registerWrite_low (i := 9) v hn (by decide) (by decide)
      refine hx.trans (congrArg _ ((State.writeCheckLog_poison hp).trans ?_))
      rw [h0]
      rfl

end Sys2Proof.Machine
end

section
/-! The queue of commands: a step runs its front (assumption 2), and no command stops the part or changes what waits
(assumptions 1, 14). Every meaning is made of shared operations, and the frame of each of those keeps the queue. -/

namespace Sys2Proof.Machine

/-! ## The front of the queue -/

theorem step_nil {s : State} (h : s.pending = []) : step s = .next s := by
  rw [step, h]

theorem step_cons {s : State} {c : Instr} {rest : List Instr} (h : s.pending = c :: rest) :
    step s = exec c (s.setPending rest) := by
  rw [step, h]

/-- Settles O1, by the two forms of the queue. -/
theorem stepRunsTheFrontCommand : Obligations.StepRunsTheFrontCommand :=
  ⟨fun _ _ _ h => step_cons h, fun _ h => step_nil h⟩

/-! ## Writes of the register window -/

namespace State

/-- An engine reset answers the state of its ABORT with every block replaced (R208). -/
@[simp] theorem engineReset_pending (s : State) : s.engineReset.pending = s.pending := s.resetAbort_frame.1

@[simp] theorem writeControl_pending (s : State) (v : BitVec 32) : (s.writeControl v).pending = s.pending := by
  unfold writeControl
  split
  · exact s.engineReset_pending
  · dsimp only
    split
    · simp
    · split <;> simp

@[simp] theorem writeHold_pending (s : State) (v : BitVec 32) : (s.writeHold v).pending = s.pending := by
  unfold writeHold
  dsimp only
  split <;> simp

@[simp] theorem writeCheckLog_pending (s : State) (v : BitVec 32) : (s.writeCheckLog v).pending = s.pending := by
  unfold writeCheckLog
  dsimp only
  split <;> simp

@[simp] theorem writeHalf_pending (s : State) (i : Nat) (high : Bool) (v : BitVec 32) :
    (s.writeHalf i high v).pending = s.pending := by
  unfold writeHalf
  split <;> simp

@[simp] theorem writeRegister_pending (s : State) (offset size : Nat) (v : BitVec 64) :
    (s.writeRegister offset size v).pending = s.pending := by
  unfold writeRegister
  split
  · unfold writeWhole
    split <;> simp
  · split <;> simp

end State

/-! ## Every command -/

namespace QueueKept

variable {s t : State}

/-- A command that answers a state with the queue as it was. -/
theorem of_next {t' : State} (h : Host.Outcome.next t' = (.next t : Out)) (h' : t'.pending = s.pending) :
    t.pending = s.pending := by
  injection h with h
  exact h ▸ h'

theorem layoutReadDone {u : UnitOf} {r : ReadResult} (hx : Machine.exec (.layoutReadDone u r) s = .next t) :
    t.pending = s.pending := by
  refine of_next hx ?_
  split
  · simp
  · split
    · rfl
    · split
      · simp
      · dsimp only
        split
        · split <;> simp
        · rfl
      · rfl

theorem rosterReadDone {u : UnitOf} {r : ReadResult} (hx : Machine.exec (.rosterReadDone u r) s = .next t) :
    t.pending = s.pending := by
  refine of_next hx ?_
  split
  · simp
  · split
    · rfl
    · split
      · simp
      · dsimp only
        split <;> simp
      · rfl

theorem buildStart (hx : Machine.exec .buildStart s = .next t) : t.pending = s.pending := by
  refine of_next hx ?_
  split
  · split
    · dsimp only
      split <;> simp
    · rfl
  · rfl

theorem sheetEnterComposing (hx : Machine.exec .sheetEnterComposing s = .next t) : t.pending = s.pending := by
  refine of_next hx ?_
  split
  · cases s.ticketOf _ with
    | none => rfl
    | some k => simp
  · rfl

theorem bandPaintDone (hx : Machine.exec .bandPaintDone s = .next t) : t.pending = s.pending := by
  refine of_next hx ?_
  split
  · rfl
  · split
    · rfl
    · split
      · rfl
      · dsimp only
        split <;> simp

theorem bandSendDone (hx : Machine.exec .bandSendDone s = .next t) : t.pending = s.pending := by
  refine of_next hx ?_
  split
  · dsimp only
    split <;> simp
  · rfl

/-- No command changes the queue: writes of the window by their frames, the start of a unit and a completion in each of
their cases, and a completion of a discarded unit as an end at the Memory Port alone. -/
theorem exec {c : Instr} (hx : Machine.exec c s = .next t) : t.pending = s.pending := by
  cases c with
  | powerOn => exact of_next hx rfl
  | functionReset | reset | runStart | runDrain | abandon | depthWrite | pressModeWrite | sweepPresetWrite | chainHeadWrite
  | wake | eventsWrite | enablesWrite | holdRequest | holdRelease | checkLogClear | poisonSelect | registerWrite =>
    exact of_next hx (by simp)
  | scrubEnd | sweepExpiry | waitTimerExpiry | windowTimerExpiry | layoutReadStart | rosterReadStart | subjectReadStart
  | bannerTextReadStart | uncorrectableError =>
    exact of_next hx (by split <;> simp)
  | recordReadStart | trailerReadStart | takeStart | retireStart | spentWriteStart | profileBlockReadStart | glyphUnitStart
  | ticketReadStart | bandWriteStart | reportWriteStart =>
    exact of_next hx (by (repeat' split) <;> simp)
  | recordReadDone u | trailerReadDone u | takenWriteDone u | resultsWriteDone u | doneWriteDone u | spentWriteDone u
  | profileBlockReadDone u | glyphUnitDone u | ticketReadDone u | subjectReadDone u | bannerTextReadDone u
  | reportWriteDone u =>
    refine of_next hx ?_
    cases u with
    | discarded => exact (s.finishDiscarded_frame _).1
    | current => (repeat' split) <;> simp
  | bandWriteDone u | bandWriteFail u =>
    refine of_next hx ?_
    cases u with
    | discarded => exact (s.finishDiscardedBand_frame _).1
    | current => (repeat' split) <;> simp
  | sourceReadDone | buildComplete | buildFailure | correctableError | readyRise | readyFall | accept | acceptTimerExpiry
  | bandTimerExpiry | graceTimerExpiry | result | resultTimerExpiry =>
    exact of_next hx (by (repeat' split) <;> simp)
  | layoutReadDone => exact layoutReadDone hx
  | rosterReadDone => exact rosterReadDone hx
  | buildStart => exact buildStart hx
  | sheetEnterComposing => exact sheetEnterComposing hx
  | bandPaintDone => exact bandPaintDone hx
  | bandSendDone => exact bandSendDone hx

end QueueKept

/-- No arm of `exec` answers a fault or a refusal: each is `.next` of a state. -/
theorem exec_completes (c : Instr) (s : State) : ∃ t, exec c s = .next t := by
  cases c <;> exact ⟨_, rfl⟩

/-- Settles O2: no command's outcome is other than a next state, and every one keeps the queue. -/
theorem everyCommandCompletes : Obligations.EveryCommandCompletes := by
  intro c s
  obtain ⟨t, hx⟩ := exec_completes c s
  exact ⟨t, hx, QueueKept.exec hx⟩

end Sys2Proof.Machine
end
